-- ==== Sys2Proof/Word.lean ====
section
/-!
DEFINITION. The word types of the device and the sparse store that every indexed piece of state uses.
Registers are 32 bits wide (R5); byte 0 lies at the lowest address and bit 0 is the least significant bit (R3).
-/
namespace Sys2Proof

/-- One byte. -/
abbrev Byte := BitVec 8

/-- One register, descriptor word or tray word (R5, R262). -/
abbrev Word := BitVec 32

/-- A sparse map from an index to a value: the entries rise strictly by index, and an index that is
not listed holds the default of the place where the store is used. `Machine.Store` gives its operations. -/
abbrev Store (α : Type) := List (Nat × α)

end Sys2Proof
end

