-- ==== Sys2Proof/Syntax.lean ====
section
/-!
DEFINITION. The commands the block takes: one constructor of `Instr` for each row of the table of operations and
events, with the operands that the chapter owning the row gives it.
An operand `dt` is the number of time clocks (R31) that pass between the command before and this one: the commands
whose effect depends on the instant carry it (notes/assumptions/2.md).
-/
namespace Sys2Proof

/-- Who makes a change (R438). The chain peer carries its chain address. -/
inductive Origin where
  | power | boot | mgmt | auto | bar0 | tw0
  | domain (d : Fin 16)
  | peer (a : Fin 32)
  deriving DecidableEq, Repr

/-- Who reads or writes registers: each has its own `_HI` latch (R465). `bar2` reads the doorbell page (R255), at the
offset in BAR2. `bar0Part` and `bar2Part` are reads there whose byte enables do not select one whole aligned word (R464,
R255). -/
inductive Accessor where
  | bar0 | bar2 | tw0 | mgmt | bar0Part | bar2Part
  | sdma (c : Fin 8)
  deriving DecidableEq, Repr

/-- What takes an output slot of a course (R61, R267). -/
inductive SlotUnit where
  | wall (w : Fin 256)
  | stats (m : Fin 64)
  | tap (m : Fin 64) (t : Fin 4)
  | recallExport
  deriving DecidableEq, Repr

/-- What arrives as one BAR0 write: a whole aligned word, a write whose byte enables select less (R464), or a poisoned
write (R453). -/
inductive WriteForm where
  | whole | lessThanWord | poisoned
  deriving DecidableEq, Repr

/-- What an on-chip code finds while a slice is served (R451): nothing, a corrected word, an uncorrectable word of
group 1 (in the frame being served on port k), 2 (the line store of a streaming wall) or 3 (an entry of the
translation cache), or of a device-wide structure (group 4: WHERE and INDEX of ERR_FATAL). -/
inductive OnChip where
  | none | corrected
  | path (k : Fin 8)
  | lineStore (w : Fin 256)
  | cache (entry : Nat)
  | fatal (place : Fin 5) (index : BitVec 15)
  deriving DecidableEq, Repr

/-- How a completion to a device request ends (R453). -/
inductive HostStatus where
  | ok | poison | unsupported | abort
  deriving DecidableEq, Repr

/-- A PCIe response code of a page request group (R277). -/
inductive PriCode where
  | success | invalid | failure
  deriving DecidableEq, Repr

/-- Causes of a function reset (R418). -/
inductive FunctionResetKind where
  | flr | hotReset | linkDisable | linkLoss
  deriving DecidableEq, Repr

/-- A write of the doorbell page: the byte offset within the slot, whether it is one whole word (R255), and whether it came
poisoned (R453). -/
structure SlotWord where
  byte : BitVec 10
  whole : Bool := true
  poisoned : Bool := false
  deriving DecidableEq, Repr

/-- Capabilities that configuration space could list (R246): those the manual names as present, then those it names as
absent. -/
inductive PciCapability where
  | express | powerManagement | msix | aer | ats | pri | pasid | ptm
  | msi | sriov | multiFunction | tph | ide | doe | lightweightNotification | resizableBar
  deriving DecidableEq, Repr

/-- What a configuration read asks for (R246, R248), by name: the manual gives no offsets. -/
inductive ConfigItem where
  | deviceId | revisionId | classCode | headerType
  | bar (n : Fin 6)
  | capability (c : PciCapability)
  | maxPayloadSupported | enables | maxPayload | maxRead | msixTableSize
  deriving DecidableEq, Repr

/-- The enables of configuration space that a write sets together, the size codes of Device Control, and the mask of
Corrected Internal Error (R246, R273, R277, R293, R453). -/
structure ConfigEnables where
  ats : Bool := false
  pri : Bool := false
  relaxed : Bool := false
  pasid : Bool := false
  msix : Bool := false
  msixMask : Bool := false
  tags10 : Bool := false
  maxPayload : BitVec 3 := 0
  maxRead : BitVec 3 := 2
  /-- Corrected Internal Error is masked (R453). -/
  correctedMask : Bool := true
  deriving DecidableEq, Repr

/-- One access to configuration space (R422). -/
inductive ConfigAccess where
  | read (i : ConfigItem)
  | write (e : ConfigEnables)
  | writeBar (n : Fin 6) (v : Word)
  deriving DecidableEq, Repr

/-- Which queue a consumer count is written for (R301): a doorbell slot's event queue or the management queue. -/
inductive QueueSel where
  | slot (d : Fin 16) (s : Fin 64)
  | management
  deriving DecidableEq, Repr

/-- gPTP messages that the Reldo instance sends (R321, R322). -/
inductive GptpKind where
  | sync | followUp | pdelayReq | pdelayResp | pdelayRespFollowUp
  deriving DecidableEq, Repr

/-- What the bus did to a controller transfer (R386 to R388): every byte acknowledged, a missing acknowledge, or
arbitration lost at a bit. `data` holds the bytes a read brought. -/
inductive TwBus where
  | done (data : List Byte)
  | addressNack
  | dataNack (acked : Nat)
  | lost (phase byteIndex bit acked : Nat) (data : List Byte) (addressed : Bool)
  deriving DecidableEq, Repr

/-- What hang recovery found (R390): SDA rose after so many pulses, SDA stayed low, or SCL was held low. -/
inductive HangResult where
  | freed (pulses : Fin 9)
  | sdaHeld
  | sclHeld
  deriving DecidableEq, Repr

/-- How the boot ROM judges one image slot (R425): the fields of a header that decodes, and whether each check of the
signed image holds as the flash bytes stand. -/
structure ImageSlot where
  header : List Byte
  body : List Byte
  deriving DecidableEq, Repr

/-- One pair of the set-up section (R430). -/
structure SetupPair where
  offset : Word
  value : Word
  deriving DecidableEq, Repr

/-- What the boot ROM and Reldo meet during one boot (R422 to R430, R367). -/
structure BootInput where
  flashOk : Bool
  slotA : ImageSlot
  slotB : ImageSlot
  /-- Bit n = 1: channel n has a working setting (R366). -/
  trained : BitVec 16
  /-- Whether the fuse changes of R427 verify. -/
  fuseOk : Bool
  /-- Milliseconds from the start of boot to the end of this step. -/
  ms : BitVec 16
  deriving DecidableEq, Repr

/-- The settings of one DRAM lane (R365, R376). -/
structure LaneSetting where
  lane : Fin 80
  rdly : BitVec 6
  wdly : BitVec 6
  deriving DecidableEq, Repr

/-- The commands: one constructor per row of the table of operations and events.
Log entries 1: DESIGN CHOICE, safe; 2: DESIGN CHOICE, unsafe; 92: DESIGN CHOICE, safe. -/
inductive Instr where
  -- time and tick
  | tickEdge
  | timeSourceUpdate (b : Fin 4) (offset : Int) (logInterval : Option Int) (srcErr : Word) (dt : Nat)
  | sourceTimeout (b : Fin 4)
  | tb1FollowSample (dt : Nat)
  | ptmRequest
  | manualSet (b : Fin 4) (o : Origin) (v : Word)
  | snap (o : Origin)
  | timeReadLatch (a : Accessor) (b : Fin 4)
  | edgeTransition (e : Fin 16) (rising : Bool) (samples : Nat) (dt : Nat)
  -- registers
  | readLo (a : Accessor) (off : BitVec 26)
  | rcRead (a : Accessor) (off : BitVec 26)
  | registerWrite (o : Origin) (off : BitVec 26) (v : Word) (form : WriteForm)
  -- the Swixia Link
  | laneEnable (l : Fin 64) (o : Origin) (v : Word)
  | laneDisable (l : Fin 64) (o : Origin) (v : Word)
  | codewordReceived (l : Fin 64) (mode : Fin 4) (symbols : List (BitVec 10)) (dt : Nat)
  | switchTimeout (l : Fin 64)
  | restartWaitEnd (l : Fin 64)
  | downShiftIntervalEnd (l : Fin 64)
  | reneg (l : Fin 64) (o : Origin)
  | fs (l : Fin 64) (k : Fin 8) (count : BitVec 16) (dt : Nat)
  | fe (l : Fin 64) (k : Fin 8) (count : BitVec 16)
  | ls (l : Fin 64) (k : Fin 8) (line : BitVec 16)
  | le (l : Fin 64) (k : Fin 8) (line : BitVec 16)
  | idle (l : Fin 64) (vc : Fin 8) (wc : BitVec 16)
  | pixelPacket (l : Fin 64) (k : Fin 8) (dataType : BitVec 6) (payload : List Byte) (crc : BitVec 16)
  | frameTag (l : Fin 64) (k : Fin 8) (payload : List Byte) (crc : BitVec 16)
  | mbxRsp (l : Fin 64) (k : Fin 8) (payload : List Byte) (crc : BitVec 16)
  | hubStatus (l : Fin 64) (k : Fin 8) (payload : List Byte) (crc : BitVec 16)
  | unknownDataType (l : Fin 64) (k : Fin 8) (dataType : BitVec 6)
  | closeDeadline (l : Fin 64) (k : Fin 8)
  | frameMissing (l : Fin 64) (k : Fin 8)
  | mbxReq (l : Fin 64) (k : Fin 8)
  | mbxTimeout (l : Fin 64) (k : Fin 8)
  -- ingress and mills
  | sliceComplete (m : Fin 64) (ue : OnChip)
  | funnelDeliver (m : Fin 64) (f : Fin 5)
  | deadlineMiss (m : Fin 64) (k : Fin 8)
  -- descriptors
  | nop (r : Fin 1024) (d : BitVec 512)
  | stage (r : Fin 1024) (d : BitVec 512)
  | stageInd (r : Fin 1024) (d : BitVec 512) (words : List Word) (bad : Bool)
  | commit (r : Fin 1024) (d : BitVec 512)
  | admissionRun
  | sensor (r : Fin 1024) (d : BitVec 512) (body : List Byte) (bad : Bool)
  | trayRead (r : Fin 1024) (d : BitVec 512)
  | freeze (r : Fin 1024) (d : BitVec 512)
  | exportStart (r : Fin 1024) (d : BitVec 512)
  | release (r : Fin 1024) (d : BitVec 512)
  | obuf (r : Fin 1024) (d : BitVec 512)
  | data (r : Fin 1024) (d : BitVec 512) (bytes : List Byte) (bad : Bool)
  | eot (r : Fin 1024) (d : BitVec 512)
  -- outputs
  | outputSlot (u : SlotUnit)
  | writeUnit
  | ringSlackDrop (r : Fin 1024)
  | faultDeadlineDrop (r : Fin 1024)
  | streamLineSend (w : Fin 256)
  | remoteLate (w : Fin 256) (e : Fin 64)
  | freezeTickEnd
  -- rings and translation
  | doorbellWrite (d : Fin 16) (slot : Fin 64) (word : SlotWord) (v : Word)
  | ringEnable (r : Fin 1024) (o : Origin) (v : Word)
  | ringDisable (r : Fin 1024) (o : Origin) (v : Word)
  | drainEnd (r : Fin 1024)
  | hostCompletion (r : Fin 1024) (status : HostStatus) (descriptorRead : Bool)
  | completionTimeout (r : Fin 1024)
  | atsCompletion (pv : Bool) (pasid : BitVec 20) (addr : BitVec 64) (size : Nat) (taddr : BitVec 64) (rd wr : Bool)
  | invalidateRequest (tag : Fin 32) (pv : Bool) (pasid : BitVec 20) (addr : BitVec 64) (size : Nat)
  | invalidateCompletion (tag : Fin 32)
  | pageRequestResponse (prg : Fin 512) (code : PriCode)
  | pageRequestTimeout (prg : Fin 512)
  | flush (o : Origin) (v : Word)
  | configRequest (c : ConfigAccess)
  | functionReset (k : FunctionResetKind)
  | d3hotEntry
  | d0Return
  | linkChange (width : BitVec 5) (rate : BitVec 3) (flit up : Bool)
  | consumerCountWrite (q : QueueSel) (o : Origin) (v : Word)
  | mqEnable (o : Origin) (v : Word)
  | mqDisable (o : Origin) (v : Word)
  | coalescingTimeout (q : Fin 17)
  -- Ethernet
  | splitPortUp (s : Fin 8)
  | splitPortDown (s : Fin 8)
  | ethFrameReceived (s : Fin 8) (frame : List Byte) (fcsOk : Bool) (dt : Nat)
  | gptpMessageSend (kind : GptpKind) (body : List Byte) (dt : Nat)
  | pduTransmit (s : Fin 8)
  | streamTruncate (n : Fin 256)
  | gateListChange (s : Fin 8) (o : Origin) (v : Word)
  | gateListTakeEffect (s : Fin 8)
  -- the chain
  | chainLinkChange (x : Fin 2) (locked : Bool)
  | chainCodewordReceived (x : Fin 2) (lane : Fin 2) (symbols : List (BitVec 10)) (dt : Nat)
  | helloSend
  | helloReceived (x : Fin 2) (payload : BitVec 256)
  | helloTimeout (x : Fin 2)
  | inaugSend
  | inaugReceived (x : Fin 2) (hdr : BitVec 128) (payload : BitVec 256)
  | inaugTimeout
  | becomeKeystone
  | epochApply
  | timeSend
  | timeReceived (x : Fin 2) (hdr : BitVec 128) (payload : BitVec 256) (dt : Nat)
  | delayReqSend (dt : Nat)
  | delayReqReceived (x : Fin 2) (dt : Nat)
  | delayRspReceived (x : Fin 2) (payload : BitVec 256) (dt : Nat)
  | framePieceReceived (x : Fin 2) (hdr : BitVec 128) (payload : List Byte)
  | chainRelay (x : Fin 2)
  | alarmReceived (x : Fin 2) (hdr : BitVec 128) (payload : BitVec 128)
  | readinessTimeout
  | chnRsvWrite (x : Fin 2) (o : Origin) (v : Word)
  -- DRAM
  | dramReadData (n : Fin 16) (unit : BitVec 27) (flips : List (BitVec 80))
  | ceSecondEnd (n : Fin 16)
  | patrolScrubRead (n : Fin 16)
  | refresh (n : Fin 16) (bank : Fin 4)
  | temperaturePoll (n : Fin 16) (hot : Bool)
  | alertLow (n : Fin 16)
  | alertHigh (n : Fin 16)
  | replayRetired (n : Fin 16)
  | retrainingSlotStart
  | retrainingSlotEnd (n : Fin 16) (moves : List LaneSetting) (narrow : Bool)
  | recoveryComplete (n : Fin 16) (us : Word)
  | recoveryTimeout (n : Fin 16)
  | retrain (n : Fin 16) (o : Origin)
  | retire (n : Fin 16) (o : Origin)
  | trainingHelperGo (n : Fin 16) (v : Word) (flips : List (BitVec 80))
  -- two-wire ports
  | tw0AddressByte (b : Byte)
  | tw0WriteByte (b : Byte)
  | tw0ReadByte
  | tw0TransactionEnd
  | tw0Wake
  | twGo (n : Fin 4) (h : Fin 2) (o : Origin) (v : Word)
  | transferStart (n : Fin 4) (bus : TwBus)
  | sclTimeout (n : Fin 4)
  | hangRecovery (n : Fin 4) (res : HangResult)
  | targetTransaction (n : Fin 4) (read : Bool) (bytes : List Byte)
  -- service DMA
  | sdmaGo (c : Fin 8) (o : Origin)
  | sdmaStop (c : Fin 8) (o : Origin) (done : Nat)
  | sdmaDone (c : Fin 8)
  | sdmaLanded (c : Fin 8)
  -- power
  | mainRailLoss
  | clkRefLoss
  | mainRailReturn (clocks : Nat)
  | powerOnResetEnd (straps : BitVec 3)
  | coldStart
  | switchToBack
  | switchToMain
  | vkaBackLost
  | vkaBackRegained
  | temperatureSample (readings : List (BitVec 16))
  | trip
  | park (o : Origin) (v : Word)
  | parkExit (o : Origin) (v : Word)
  -- reset, boot and protection
  | perstAssert
  | devrst (o : Origin) (v : Word)
  | watchdogExpiry
  | bootStart (b : BootInput)
  | bootTimeout
  | lock
  | fuseProgram (o : Origin) (v : Word) (verified : Bool)
  | clrFatal (o : Origin) (v : Word)
  -- the mark log
  | markReadSelect (o : Origin) (v : Word)
  | mirrorEnable (o : Origin) (v : Word)
  | mirrorDisable (o : Origin) (v : Word)
  | mirrorWrite
  | mirrorConsumerWrite (o : Origin) (v : Word)
  -- further events
  | holdoverErrbSet (b : Fin 4)
  | keepAliveSupplyLoss
  deriving DecidableEq, Repr

end Sys2Proof
end

