-- ==== Sys2Proof/Config.lean ====
section
/-!
DEFINITION. What the manual leaves open or names without restating: constants without a body, of which nothing can be
proved. Each is a value the manual gives no number for, or a function of a published standard (R1, R425, R426).
-/
namespace Sys2Proof.Config

/-- The 64-bit device identity in the fuses (R426), which is each part's own.
Log entry 15: DESIGN CHOICE, safe. -/
opaque deviceId : BitVec 64

/-- SHA-384 (R425, R426).
Log entry 11: DESIGN CHOICE, safe. -/
opaque sha384 : List Byte → BitVec 384

/-- Whether an ECDSA P-384 signature (r, s: 96 bytes) verifies under a public key for a digest (R425).
Log entry 11: DESIGN CHOICE, safe. -/
opaque ecdsaVerifies : List Byte → List Byte → BitVec 384 → Bool

/-- The voltage in mV of rail r at a time clock (PWR_MON): a measurement of the board.
Log entry 14: DESIGN CHOICE, safe. -/
opaque railMillivolts : Nat → Nat → BitVec 16

/-- A value the manual does not give, by the number of values drawn before it.
Log entry 16: DESIGN CHOICE, safe. -/
opaque freeWord : Nat → BitVec 64

/-- One beat of a training pattern PAT over the 80 lanes, by its place in the run (R365): the manual names the patterns and
gives neither their seeds nor their phase from lane to lane.
Log entry 44: DESIGN CHOICE, safe. -/
opaque trainingBeat : Nat → Nat → BitVec 80

/-- Read and write delay of a lane, and the reference voltage code of a device, as a training leaves them, by the number of the
training (R365, R376).
Log entry 44: DESIGN CHOICE, safe. -/
opaque trainedDelays : Nat → Nat → BitVec 6 × BitVec 6
opaque trainedVref : Nat → Nat → BitVec 7

/-- What differs in a beat as it is received from a DRAM channel whose errors the manual does not give, by the number of
values drawn before the run and the beat's place in it (R365).
Log entry 44: DESIGN CHOICE, safe. -/
opaque freeFlips : Nat → Nat → BitVec 80

end Sys2Proof.Config
end

