-- ==== Sys2Proof/Machine/Arith.lean ====
section
/-!
DEFINITION. The arithmetic of the manual's pseudocode (R14, R15) and its checksums: exact integers, `rnd`, the
saturations, the bytes of little-endian fields (R3), the CRC-16 and header ECC of the packet layer (R95) and the CRC-32
of the chain (R327).
-/
namespace Sys2Proof

/-- The sum of some numbers. -/
def sumOf (ns : List Nat) : Nat := ns.foldl (· + ·) 0

/-- `sat_u(x, n)` (R15). -/
def satU (x : Int) (n : Nat) : Nat :=
  if x < 0 then 0 else if (2 : Int) ^ n - 1 < x then 2 ^ n - 1 else x.toNat

/-- `sat_s(x, n)` (R15). -/
def satS (x : Int) (n : Nat) : Int :=
  if x < -((2 : Int) ^ (n - 1)) then -((2 : Int) ^ (n - 1))
  else if (2 : Int) ^ (n - 1) - 1 < x then (2 : Int) ^ (n - 1) - 1 else x

/-- `x >> k`, an arithmetic shift (R14): division rounding toward negative infinity. -/
def shr (x : Int) (k : Nat) : Int := x.fdiv ((2 : Int) ^ k)

/-- `rnd(x, k)` (R15): halves round toward positive infinity. -/
def rnd (x : Int) (k : Nat) : Int :=
  if k = 0 then x else shr (x + (2 : Int) ^ (k - 1)) k

/-- `/` of the pseudocode: integer division truncating toward zero (R14). -/
def quot (a b : Int) : Int := a.tdiv b

/-- `mean(s, n)` (R159). -/
def mean (s : Int) (n : Nat) : Int :=
  let a := 2 * s + n
  let q := quot a (2 * n)
  if a < 0 && q * 2 * n != a then q - 1 else q

/-- `ceil(a / b)` on naturals. -/
def ceilDiv (a b : Nat) : Nat := (a + b - 1) / b

/-- `a` rounded up to a multiple of `b`. -/
def roundUp (a b : Nat) : Nat := ceilDiv a b * b

/-- A counter that saturates at its all-ones value. -/
def satAdd (v : Word) (n : Nat) : Word := BitVec.ofNat 32 (min (v.toNat + n) 0xFFFFFFFF)

/-- The `n` little-endian bytes of `v` (R3). -/
def leBytes : Nat → Nat → List Byte
  | 0, _ => []
  | n + 1, v => BitVec.ofNat 8 v :: leBytes n (v / 256)

/-- The number that little-endian bytes spell (R3). -/
def ofLe : List Byte → Nat
  | [] => 0
  | b :: bs => b.toNat + 256 * ofLe bs

/-- Byte `i` of a list, 0 beyond its end. -/
def byteAt (bs : List Byte) (i : Nat) : Byte := bs.getD i 0

/-- `n` bytes of a list from `i`, as a number. -/
def leAt (bs : List Byte) (i n : Nat) : Nat := ofLe ((bs.drop i).take n)

/-- A list cut or zero-padded to `n` bytes. -/
def padTo (n : Nat) (bs : List Byte) : List Byte :=
  (bs ++ List.replicate (n - bs.length) 0).take n

/-- Bits `hi` down to `lo` of a register word, as a number. -/
def bitsOf (v : Word) (lo n : Nat) : Nat := v.toNat / 2 ^ lo % 2 ^ n

/-- Whether bit `i` of a register word is 1. -/
def bitOf (v : Word) (i : Nat) : Bool := v.toNat.testBit i

/-- A register word with `n` bits from `lo` on replaced by `x`. -/
def setBits (v : Word) (lo n x : Nat) : Word :=
  BitVec.ofNat 32 (v.toNat - bitsOf v lo n * 2 ^ lo + x % 2 ^ n * 2 ^ lo)

/-- A Bool as a bit. -/
def bit (b : Bool) : Nat := if b then 1 else 0

/-- A u32 read as signed. -/
def sWord (v : Word) : Int := v.toInt

/-- One byte through the reflected CRC of polynomial `p` (bits sent least significant first). -/
def crcByte (p : Nat) (c : Nat) (b : Byte) : Nat :=
  (List.range 8).foldl (fun c _ => if c % 2 = 1 then (c / 2) ^^^ p else c / 2) (c ^^^ b.toNat)

/-- CRC-16 of CSI-2 over a payload: x¹⁶ + x¹² + x⁵ + 1, seed 0xFFFF (R95). -/
def crc16 (bs : List Byte) : BitVec 16 := BitVec.ofNat 16 (bs.foldl (crcByte 0x8408) 0xFFFF)

/-- CRC-32 with the polynomial and bit order of the IEEE 802.3 FCS (R327, R340). -/
def crc32 (bs : List Byte) : BitVec 32 :=
  BitVec.ofNat 32 (bs.foldl (crcByte 0xEDB88320) 0xFFFFFFFF ^^^ 0xFFFFFFFF)

/-- The columns of the 6-bit header ECC: the syndrome of a single error in data bit i, D0 to D25 (R95). The standard
that R95 names gives them (notes/assumptions/9.md).
Log entry 9: PRESUMED, unsafe. -/
def eccColumns : List Nat :=
  [0x07, 0x0B, 0x0D, 0x0E, 0x13, 0x15, 0x16, 0x19, 0x1A, 0x1C, 0x23, 0x25, 0x26, 0x29, 0x2A, 0x2C, 0x31, 0x32,
   0x34, 0x38, 0x1F, 0x2F, 0x37, 0x3B, 0x3D, 0x3E]

/-- The ECC of 26 data bits (R95).
Log entry 9: PRESUMED, unsafe. -/
def eccOf (d : Nat) : Nat :=
  (List.range 26).foldl (fun e i => if d.testBit i then e ^^^ eccColumns.getD i 0 else e) 0

/-- What the header ECC finds. -/
inductive EccResult where
  | clean | corrected (d : Nat) | bad
  deriving DecidableEq, Repr

/-- Judges 26 data bits against a received ECC: one error in the data or in the ECC bits is corrected (R96).
Log entry 9: PRESUMED, unsafe. -/
def eccCheck (d ecc : Nat) : EccResult :=
  let syn := eccOf d ^^^ ecc
  if syn = 0 then .clean
  else match eccColumns.findIdx? (· = syn) with
    | some i => .corrected (d ^^^ 2 ^ i)
    | none => if (List.range 6).any (fun j => syn = 2 ^ j) then .corrected d else .bad

end Sys2Proof
end

