-- ==== Sys2Proof/Machine/RegMap.lean ====
section
/-!
DEFINITION. The register map (R460 to R463): each register's name, its offset and strides in BAR0, the access type of its
fields as masks (R7) and its reset value. A field that no mask names is RO or reserved. "live" marks a register, or
part of one, that is computed from the rest of the state when it is read (`Machine.RegRead`).
-/
namespace Sys2Proof.Machine

/-- The registers, by the manual's names. -/
inductive RegName where
  /-- GLB_ID -/
  | glbId
  /-- GLB_CTRL -/
  | glbCtrl
  /-- GLB_BOOT_STATUS (live) -/
  | glbBootStatus
  /-- GLB_RST_CAUSE (live) -/
  | glbRstCause
  /-- GLB_BOOT_MS (live) -/
  | glbBootMs
  /-- GLB_CAP -/
  | glbCap
  /-- GLB_FUSE_CTL -/
  | glbFuseCtl
  /-- GLB_FUSE_DATA[i] -/
  | glbFuseData
  /-- PROT_LOCK (live) -/
  | protLock
  /-- PROT_RING[r] -/
  | protRing
  /-- PROT_DOM_PASID[d][j] -/
  | protPasid
  /-- PROT_DOM_FLAGS[d] -/
  | protFlags
  /-- PROT_DOM_WIN[d][k] BASE_LO -/
  | protBaseLo
  /-- PROT_DOM_WIN[d][k] BASE_HI -/
  | protBaseHi
  /-- PROT_DOM_WIN[d][k] LIM_LO -/
  | protLimLo
  /-- PROT_DOM_WIN[d][k] LIM_HI -/
  | protLimHi
  /-- PROT_DOM_PORT[d][i] -/
  | protPort
  /-- PROT_DOM_WALL[d][i] -/
  | protWall
  /-- PROT_RWIN[k] BASE -/
  | protRwinBase
  /-- PROT_RWIN[k] LIMIT -/
  | protRwinLimit
  /-- PROT_RWIN[k] GRANT -/
  | protRwinGrant
  /-- word 0xC of a PROT_RWIN entry, reserved -/
  | protRwinRsv
  /-- TIME_CTRL -/
  | timeCtrl
  /-- TIME_HOLD_PPB -/
  | timeHoldPpb
  /-- TIME_CFG[b] -/
  | timeCfg
  /-- TIME_STATUS[b] (live) -/
  | timeStatus
  /-- TIME_RD_SUBNS[b] (live) -/
  | timeRdSubns
  /-- TIME_RD_NS[b] (live) -/
  | timeRdNs
  /-- TIME_RD_SEC_LO[b] (live) -/
  | timeRdSecLo
  /-- TIME_RD_SEC_HI[b] (live) -/
  | timeRdSecHi
  /-- TIME_FREQ[b] (live) -/
  | timeFreq
  /-- TIME_ERR_NS[b] (live) -/
  | timeErrNs
  /-- TIME_BOUND_NS[b] -/
  | timeBoundNs
  /-- TIME_SET_NS[b] -/
  | timeSetNs
  /-- TIME_SET_SEC_LO[b] -/
  | timeSetSecLo
  /-- TIME_SET_SEC_HI[b] -/
  | timeSetSecHi
  /-- TIME_EDGE_CFG[e] -/
  | timeEdgeCfg
  /-- TIME_EDGE_DLY[e] -/
  | timeEdgeDly
  /-- TIME_EDGE_SEQ[e] -/
  | timeEdgeSeq
  /-- TIME_EDGE_MISS[e] -/
  | timeEdgeMiss
  /-- TICK_CFG -/
  | tickCfg
  /-- TICK_PERIOD_NS -/
  | tickPeriodNs
  /-- TICK_PHASE_NS -/
  | tickPhaseNs
  /-- the reserved word of the TICK block -/
  | tickRsv
  /-- TICK_NUM_LO (live) -/
  | tickNumLo
  /-- TICK_NUM_HI (live) -/
  | tickNumHi
  /-- TICK_CYCLE (live) -/
  | tickCycle
  /-- TICK_ADM_STATUS -/
  | tickAdmStatus
  /-- TICK_ADM_LOAD -/
  | tickAdmLoad
  /-- TICK_DL_MISS -/
  | tickDlMiss
  /-- TICK_MILL_LOAD[m] -/
  | tickMillLoad
  /-- TICK_DRAM_LOAD[n] -/
  | tickDramLoad
  /-- SXL_CFG[l] -/
  | sxlCfg
  /-- SXL_CTRL[l] -/
  | sxlCtrl
  /-- SXL_STATUS[l] (live) -/
  | sxlStatus
  /-- SXL_HUB_ID_LO[l] -/
  | sxlHubIdLo
  /-- SXL_HUB_ID_HI[l] -/
  | sxlHubIdHi
  /-- SXL_HUB_INFO[l] -/
  | sxlHubInfo
  /-- SXL_FEC_COR[l] -/
  | sxlFecCor
  /-- SXL_FEC_UNC[l] -/
  | sxlFecUnc
  /-- SXL_HDR_COR[l] -/
  | sxlHdrCor
  /-- SXL_HDR_UNC[l] -/
  | sxlHdrUnc
  /-- SXL_UNEXP[l] -/
  | sxlUnexp
  /-- SXL_MBX_CFG[l] -/
  | sxlMbxCfg
  /-- SXL_PSTAT[l][k] -/
  | sxlPstat
  /-- SXL_PCRC[l][k] -/
  | sxlPcrc
  /-- SXL_PMISS[l][k] -/
  | sxlPmiss
  /-- SXL_PSTRAY[l][k] -/
  | sxlPstray
  /-- SXL_PLATE[l][k] -/
  | sxlPlate
  /-- SXL_PMBXF[l][k] -/
  | sxlPmbxf
  /-- MILL_IN_NOTE[m] -/
  | millInNote
  /-- MILL_IN_NOTE_EN[m] -/
  | millInNoteEn
  /-- MILL_IN_STORE[m] -/
  | millInStore
  /-- MILL_IN_WM[m][k], LEVEL live -/
  | millInWm
  /-- MILL_IN_PEAK[m][k] -/
  | millInPeak
  /-- MILL_IN_OVR[m][k] -/
  | millInOvr
  /-- MILL_IN_XING[m][k] -/
  | millInXing
  /-- MILL_FUN_WM of a tap funnel, LEVEL live -/
  | millFunWm
  /-- MILL_FUN_PEAK of a tap funnel -/
  | millFunPeak
  /-- MILL_FUN_LOSS of a tap funnel -/
  | millFunLoss
  /-- MILL_FUN_XING of a tap funnel -/
  | millFunXing
  /-- MILL_FR_STAT[m][k] -/
  | millFrStat
  /-- MILL_FR_DPC[m][k] -/
  | millFrDpc
  /-- MILL_FR_RESTART[m][k] -/
  | millFrRestart
  /-- MILL_FR_POISON[m][k] -/
  | millFrPoison
  /-- MILL_FR_REF_LO[m][k] (live) -/
  | millFrRefLo
  /-- MILL_FR_REF_HI[m][k] (live) -/
  | millFrRefHi
  /-- MILL_CO_STAT[m][k] -/
  | millCoStat
  /-- MILL_CO_CLIP[m][k] -/
  | millCoClip
  /-- a reserved word of the colour registers -/
  | millCoRsvA
  /-- a reserved word of the colour registers -/
  | millCoRsvB
  /-- MILL_TRAY_CMT[m] (live) -/
  | millTrayCmt
  /-- MILL_TRAY_REFUSE[m] -/
  | millTrayRefuse
  /-- MILL_TRAY_PST[m][k] (live) -/
  | millTrayPst
  /-- MILL_ST_EXP[m][k] -/
  | millStExp
  /-- MILL_ST_LAST[m][k] -/
  | millStLast
  /-- MILL_ST_MISM[m][k] -/
  | millStMism
  /-- MILL_ST_DISC[m][k] -/
  | millStDisc
  /-- MILL_FUN_WM of the statistics funnel, LEVEL live -/
  | millFunWmS
  /-- MILL_FUN_PEAK of the statistics funnel -/
  | millFunPeakS
  /-- MILL_FUN_LOSS of the statistics funnel -/
  | millFunLossS
  /-- MILL_FUN_XING of the statistics funnel -/
  | millFunXingS
  /-- WALL_LAST[w], NSTONE live -/
  | wallLast
  /-- WALL_SUBST[w] -/
  | wallSubst
  /-- WALL_RLATE[w] -/
  | wallRlate
  /-- WALL_POISON[w] -/
  | wallPoison
  /-- WALL_USE (live) -/
  | wallUse
  /-- WALL_STG_LO[w] (live) -/
  | wallStgLo
  /-- WALL_STG_HI[w] (live) -/
  | wallStgHi
  /-- WALL_RCL_SIZE -/
  | wallRclSize
  /-- WALL_RCL_CFG -/
  | wallRclCfg
  /-- WALL_RCL_EXP -/
  | wallRclExp
  /-- WALL_RCL_STATUS (live) -/
  | wallRclStatus
  /-- WALL_RCL_ENTRIES (live) -/
  | wallRclEntries
  /-- WALL_RCL_EFF (live) -/
  | wallRclEff
  /-- WALL_RCL_TF_LO (live) -/
  | wallRclTfLo
  /-- WALL_RCL_TF_HI (live) -/
  | wallRclTfHi
  /-- WALL_RCL_SKIP -/
  | wallRclSkip
  /-- WALL_RCL_IGN -/
  | wallRclIgn
  /-- WALL_RCL_POISON -/
  | wallRclPoison
  /-- WALL_TRAY_STAT[w] (live) -/
  | wallTrayStat
  /-- WALL_TRAY_REFUSE -/
  | wallTrayRefuse
  /-- HOST_RING_CFG[r] -/
  | ringCfg
  /-- HOST_RING_BASE_LO[r] -/
  | ringBaseLo
  /-- HOST_RING_BASE_HI[r] -/
  | ringBaseHi
  /-- HOST_RING_PASID[r] -/
  | ringPasid
  /-- HOST_RING_STATUS[r], CAUSE stored, the rest live -/
  | ringStatus
  /-- HOST_RING_PROD[r] -/
  | ringProd
  /-- HOST_RING_CONS[r] -/
  | ringCons
  /-- HOST_RING_DROP[r] -/
  | ringDrop
  /-- HOST_RING_SEQ[r] -/
  | ringSeq
  /-- HOST_LINK -/
  | hostLink
  /-- HOST_DB_BAD -/
  | hostDbBad
  /-- MSI-X table, word j of vector v -/
  | msixTable
  /-- MSI-X pending bits -/
  | msixPba
  /-- XLAT_CFG -/
  | xlatCfg
  /-- XLAT_STATUS (live) -/
  | xlatStatus
  /-- XLAT_PRQ_TMO -/
  | xlatPrqTmo
  /-- the reserved word of the XLAT block -/
  | xlatRsv
  /-- XLAT_HIT -/
  | xlatHit
  /-- XLAT_MISS -/
  | xlatMiss
  /-- XLAT_FAULT -/
  | xlatFault
  /-- XLAT_FAIL -/
  | xlatFail
  /-- XLAT_INV -/
  | xlatInv
  /-- XLAT_PREEMPT -/
  | xlatPreempt
  /-- XLAT_RING_FB[r] -/
  | xlatRingFb
  /-- XLAT_RING_WAIT[r] (live) -/
  | xlatRingWait
  /-- XLAT_RING_RESUME[r] (live) -/
  | xlatRingResume
  /-- EVT_CFG[q] -/
  | evtCfg
  /-- EVT_MSI[q] -/
  | evtMsi
  /-- EVT_COAL[q] -/
  | evtCoal
  /-- EVT_STATUS[q] (live) -/
  | evtStatus
  /-- EVT_SEQ[q] -/
  | evtSeq
  /-- EVT_LOST[q] -/
  | evtLost
  /-- EVT_MQ_CTL, STATE live -/
  | evtMqCtl
  /-- EVT_MQ_BASE_LO -/
  | evtMqBaseLo
  /-- EVT_MQ_BASE_HI -/
  | evtMqBaseHi
  /-- EVT_MQ_PROD (live) -/
  | evtMqProd
  /-- EVT_MQ_CONS (live) -/
  | evtMqCons
  /-- ETH_CFG[p] -/
  | ethCfg
  /-- ETH_STATUS[p] (live) -/
  | ethStatus
  /-- ETH_PTP_CFG -/
  | ethPtpCfg
  /-- ETH_VSF_ID_LO -/
  | ethVsfIdLo
  /-- ETH_VSF_ID_HI -/
  | ethVsfIdHi
  /-- ETH_MAC_LO[s] -/
  | ethMacLo
  /-- ETH_MAC_HI[s] -/
  | ethMacHi
  /-- ETH_PTP_DLY_TX[s] -/
  | ethPtpDlyTx
  /-- ETH_PTP_DLY_RX[s] -/
  | ethPtpDlyRx
  /-- ETH_CBS[s][q] -/
  | ethCbs
  /-- ETH_GCL_CTL[s] -/
  | ethGclCtl
  /-- ETH_GCL_BASE_NS[s] -/
  | ethGclBaseNs
  /-- ETH_GCL_BASE_SEC_LO[s] -/
  | ethGclBaseSecLo
  /-- ETH_GCL_BASE_SEC_HI[s] -/
  | ethGclBaseSecHi
  /-- ETH_GCL_LEN[s] -/
  | ethGclLen
  /-- ETH_TX_PDU[s] -/
  | ethTxPdu
  /-- ETH_RX_PTP[s] -/
  | ethRxPtp
  /-- ETH_RX_OTHER[s] -/
  | ethRxOther
  /-- ETH_GCL[s][e] -/
  | ethGcl
  /-- ETH_STR_CFG[n] -/
  | ethStrCfg
  /-- ETH_STR_DA_LO[n] -/
  | ethStrDaLo
  /-- ETH_STR_DA_HI[n] -/
  | ethStrDaHi
  /-- ETH_STR_ID_LO[n] -/
  | ethStrIdLo
  /-- ETH_STR_ID_HI[n] -/
  | ethStrIdHi
  /-- ETH_STR_PRES[n] -/
  | ethStrPres
  /-- ETH_STR_SENT[n] -/
  | ethStrSent
  /-- ETH_STR_DROP[n] -/
  | ethStrDrop
  /-- CHN_CFG -/
  | chnCfg
  /-- CHN_STATUS (live) -/
  | chnStatus
  /-- CHN_DEVID_LO (live) -/
  | chnDevidLo
  /-- CHN_DEVID_HI (live) -/
  | chnDevidHi
  /-- CHN_VER_OWN (live) -/
  | chnVerOwn
  /-- CHN_VER_FLOOR (live) -/
  | chnVerFloor
  /-- CHN_VER_AGREED -/
  | chnVerAgreed
  /-- CHN_DIGEST (live) -/
  | chnDigest
  /-- CHN_KDIGEST -/
  | chnKdigest
  /-- CHN_EPOCH (live) -/
  | chnEpoch
  /-- CHN_REMOTE_DISC -/
  | chnRemoteDisc
  /-- CHN_PST[x] (live) -/
  | chnPst
  /-- CHN_DELAY[x] -/
  | chnDelay
  /-- CHN_ASYM[x] -/
  | chnAsym
  /-- CHN_RSV[x] -/
  | chnRsv
  /-- CHN_CRC[x] -/
  | chnCrc
  /-- CHN_RELAY_DROP[x] -/
  | chnRelayDrop
  /-- CHN_TX_DROP[x] -/
  | chnTxDrop
  /-- CHN_SENT[x] -/
  | chnSent
  /-- DRAM_CFG[n] -/
  | dramCfg
  /-- DRAM_CTRL[n] -/
  | dramCtrl
  /-- DRAM_STATUS[n] (live) -/
  | dramStatus
  /-- the reserved word of a DRAM window -/
  | dramRsv
  /-- DRAM_CE[n] -/
  | dramCe
  /-- DRAM_UE[n] -/
  | dramUe
  /-- DRAM_PAR[n] -/
  | dramPar
  /-- DRAM_REPLAY[n] -/
  | dramReplay
  /-- DRAM_RAW_WAIT[n] -/
  | dramRawWait
  /-- DRAM_UE_ADDR[n] -/
  | dramUeAddr
  /-- DRAM_SCRUB_POS[n] -/
  | dramScrubPos
  /-- DRAM_RECOV[n] -/
  | dramRecov
  /-- DRAM_TRN_CTL[n] -/
  | dramTrnCtl
  /-- DRAM_TRN_ADDR[n] -/
  | dramTrnAddr
  /-- DRAM_TRN_LANE[n] -/
  | dramTrnLane
  /-- DRAM_TRN_SET[n] (live) -/
  | dramTrnSet
  /-- DRAM_TRN_ERR[n] -/
  | dramTrnErr
  /-- DRAM_TRN_UPAT[n][j] -/
  | dramTrnUpat
  /-- DRAM_MAP -/
  | dramMap
  /-- DRAM_ACTIVE (live) -/
  | dramActive
  /-- DRAM_SCRUB -/
  | dramScrub
  /-- DRAM_RT -/
  | dramRt
  /-- TWB_T0_STATUS (live) -/
  | twbT0Status
  /-- TWB_T0_WIN -/
  | twbT0Win
  /-- a reserved word of the TWB block -/
  | twbRsv
  /-- TWB_T0_WAKE -/
  | twbT0Wake
  /-- TWB_T0_PART -/
  | twbT0Part
  /-- TWB_T0_PAGE -/
  | twbT0Page
  /-- TWB_T0_REFUSE -/
  | twbT0Refuse
  /-- TWB_C_CFG[n], index n - 1 -/
  | twbCfg
  /-- TWB_C_STATUS[n] (live) -/
  | twbStatus
  /-- TWB_C_ARB[n] -/
  | twbArb
  /-- TWB_C_RECOV[n] -/
  | twbRecov
  /-- TWB_C_XFER[n][h] -/
  | twbXfer
  /-- TWB_C_PTR[n][h] -/
  | twbPtr
  /-- TWB_C_RES[n][h] -/
  | twbRes
  /-- TWB_C_DATA[n][0][i] -/
  | twbData0
  /-- TWB_C_DATA[n][1][i] -/
  | twbData1
  /-- TWB_C_RX[n][i] -/
  | twbRx
  /-- SDMA_SRC_LO[c] -/
  | sdmaSrcLo
  /-- SDMA_SRC_HI[c] -/
  | sdmaSrcHi
  /-- SDMA_DST_LO[c] -/
  | sdmaDstLo
  /-- SDMA_DST_HI[c] -/
  | sdmaDstHi
  /-- SDMA_COUNT[c] -/
  | sdmaCount
  /-- SDMA_CFG[c] -/
  | sdmaCfg
  /-- SDMA_CTRL[c] -/
  | sdmaCtrl
  /-- SDMA_STATUS[c] (live) -/
  | sdmaStatus
  /-- SDMA_BYTES[c] -/
  | sdmaBytes
  /-- SDMA_ERR_LO[c] -/
  | sdmaErrLo
  /-- SDMA_ERR_HI[c] -/
  | sdmaErrHi
  /-- PWR_STATUS (live) -/
  | pwrStatus
  /-- PWR_CTRL -/
  | pwrCtrl
  /-- PWR_THERM_CFG -/
  | pwrThermCfg
  /-- PWR_TJ -/
  | pwrTj
  /-- PWR_TJ_PEAK -/
  | pwrTjPeak
  /-- PWR_SW_BACK -/
  | pwrSwBack
  /-- PWR_SW_MAIN -/
  | pwrSwMain
  /-- PWR_GAPS -/
  | pwrGaps
  /-- PWR_GAP_LAST -/
  | pwrGapLast
  /-- PWR_MON[r] -/
  | pwrMon
  /-- PWR_TS[k] -/
  | pwrTs
  /-- MARK_SEQ (live) -/
  | markSeq
  /-- MARK_HELD (live) -/
  | markHeld
  /-- MARK_CFG -/
  | markCfg
  /-- MARK_RD_SEQ -/
  | markRdSeq
  /-- MARK_RD_DATA[i] (live) -/
  | markRdData
  /-- MARK_MIR_CTL, STATE live -/
  | markMirCtl
  /-- MARK_MIR_BASE_LO -/
  | markMirBaseLo
  /-- MARK_MIR_BASE_HI -/
  | markMirBaseHi
  /-- MARK_MIR_PROD (live) -/
  | markMirProd
  /-- MARK_MIR_CONS (live) -/
  | markMirCons
  /-- MARK_MIR_FROM -/
  | markMirFrom
  /-- MARK_MIR_LOST -/
  | markMirLost
  /-- ERR_STATUS (live) -/
  | errStatus
  /-- ERR_UNMAPPED -/
  | errUnmapped
  /-- ERR_MEM_CE -/
  | errMemCe
  /-- ERR_MEM_UE -/
  | errMemUe
  /-- ERR_FATAL -/
  | errFatal
  /-- ERR_CTRL -/
  | errCtrl
  deriving DecidableEq, Repr

/-- One row of the map: `n1` by `n2` registers, at `base + s1 * i + s2 * j`. -/
structure RegRow where
  base : Nat
  n1 : Nat := 1
  s1 : Nat := 0x4000000
  n2 : Nat := 1
  s2 : Nat := 0x4000000
  rw : Nat := 0
  wo : Nat := 0
  w1s : Nat := 0
  w1c : Nat := 0
  rc : Nat := 0
  bw : Nat := 0
  reset : Nat := 0
  deriving DecidableEq, Repr

/-- The row of each register. -/
def RegName.row : RegName → RegRow
  | .glbId => { base := 0x0000000, reset := 0x00B17064 }
  | .glbCtrl => { base := 0x0000004, wo := 0xFF01 }
  | .glbBootStatus => { base := 0x0000008 }
  | .glbRstCause => { base := 0x000000C }
  | .glbBootMs => { base := 0x0000010 }
  | .glbCap => { base := 0x0000014, reset := 0x01101040 }
  | .glbFuseCtl => { base := 0x0000020, rw := 0x30, wo := 0x1 }
  | .glbFuseData => { base := 0x0000040, n1 := 12, s1 := 4, rw := 0xFFFFFFFF }
  | .protLock => { base := 0x0010000, bw := 0x1 }
  | .protRing => { base := 0x0011000, n1 := 1024, s1 := 4, bw := 0x7FF }
  | .protPasid => { base := 0x0014000, n1 := 16, s1 := 0x100, n2 := 4, s2 := 4, bw := 0x800FFFFF }
  | .protFlags => { base := 0x0014010, n1 := 16, s1 := 0x100, bw := 0x1 }
  | .protBaseLo => { base := 0x0014020, n1 := 16, s1 := 0x100, n2 := 8, s2 := 0x10, bw := 0xFFFFF003 }
  | .protBaseHi => { base := 0x0014024, n1 := 16, s1 := 0x100, n2 := 8, s2 := 0x10, bw := 0xFFFFFFFF }
  | .protLimLo => { base := 0x0014028, n1 := 16, s1 := 0x100, n2 := 8, s2 := 0x10, bw := 0xFFFFF000 }
  | .protLimHi => { base := 0x001402C, n1 := 16, s1 := 0x100, n2 := 8, s2 := 0x10, bw := 0xFFFFFFFF }
  | .protPort => { base := 0x00140A0, n1 := 16, s1 := 0x100, n2 := 16, s2 := 4, bw := 0xFFFFFFFF }
  | .protWall => { base := 0x00140E0, n1 := 16, s1 := 0x100, n2 := 8, s2 := 4, bw := 0xFFFFFFFF }
  | .protRwinBase => { base := 0x0016000, n1 := 16, s1 := 0x10, bw := 0x03FFFFFC }
  | .protRwinLimit => { base := 0x0016004, n1 := 16, s1 := 0x10, bw := 0x03FFFFFC }
  | .protRwinGrant => { base := 0x0016008, n1 := 16, s1 := 0x10, bw := 0x3 }
  | .protRwinRsv => { base := 0x001600C, n1 := 15, s1 := 0x10 }
  | .timeCtrl => { base := 0x0020000, wo := 0x1 }
  | .timeHoldPpb => { base := 0x0020004, rw := 0xFFFFF, reset := 100 }
  | .timeCfg => { base := 0x0020100, n1 := 4, s1 := 0x100, rw := 0x03FFFF77, wo := 0x80, reset := 0x00644360 }
  | .timeStatus => { base := 0x0020104, n1 := 4, s1 := 0x100 }
  | .timeRdSubns => { base := 0x0020108, n1 := 4, s1 := 0x100 }
  | .timeRdNs => { base := 0x002010C, n1 := 4, s1 := 0x100 }
  | .timeRdSecLo => { base := 0x0020110, n1 := 4, s1 := 0x100 }
  | .timeRdSecHi => { base := 0x0020114, n1 := 4, s1 := 0x100 }
  | .timeFreq => { base := 0x0020118, n1 := 4, s1 := 0x100 }
  | .timeErrNs => { base := 0x002011C, n1 := 4, s1 := 0x100 }
  | .timeBoundNs => { base := 0x0020120, n1 := 4, s1 := 0x100, rw := 0xFFFFFFFF, reset := 100 }
  | .timeSetNs => { base := 0x0020124, n1 := 4, s1 := 0x100, rw := 0xFFFFFFFF }
  | .timeSetSecLo => { base := 0x0020128, n1 := 4, s1 := 0x100, rw := 0xFFFFFFFF }
  | .timeSetSecHi => { base := 0x002012C, n1 := 4, s1 := 0x100, rw := 0xFFFFFFFF }
  | .timeEdgeCfg => { base := 0x0021000, n1 := 16, s1 := 0x10, rw := 0xFF77, reset := 0x52 }
  | .timeEdgeDly => { base := 0x0021004, n1 := 16, s1 := 0x10, rw := 0xFFFFFFFF }
  | .timeEdgeSeq => { base := 0x0021008, n1 := 16, s1 := 0x10 }
  | .timeEdgeMiss => { base := 0x002100C, n1 := 16, s1 := 0x10, rc := 0xFFFFFFFF }
  | .tickCfg => { base := 0x0030000, rw := 0xF, reset := 0x1 }
  | .tickPeriodNs => { base := 0x0030004, rw := 0x7FFFFFF, reset := 8333333 }
  | .tickPhaseNs => { base := 0x0030008, rw := 0x7FFFFFF }
  | .tickRsv => { base := 0x003000C }
  | .tickNumLo => { base := 0x0030010 }
  | .tickNumHi => { base := 0x0030014 }
  | .tickCycle => { base := 0x0030018 }
  | .tickAdmStatus => { base := 0x003001C }
  | .tickAdmLoad => { base := 0x0030020 }
  | .tickDlMiss => { base := 0x0030024, rc := 0xFFFFFFFF }
  | .tickMillLoad => { base := 0x0030100, n1 := 64, s1 := 4 }
  | .tickDramLoad => { base := 0x0030200, n1 := 16, s1 := 4 }
  | .sxlCfg => { base := 0x0040000, n1 := 64, s1 := 0x400, rw := 0xFFFF1D, reset := 0x00BC101C }
  | .sxlCtrl => { base := 0x0040004, n1 := 64, s1 := 0x400, wo := 0x1 }
  | .sxlStatus => { base := 0x0040008, n1 := 64, s1 := 0x400 }
  | .sxlHubIdLo => { base := 0x004000C, n1 := 64, s1 := 0x400 }
  | .sxlHubIdHi => { base := 0x0040010, n1 := 64, s1 := 0x400 }
  | .sxlHubInfo => { base := 0x0040014, n1 := 64, s1 := 0x400 }
  | .sxlFecCor => { base := 0x0040018, n1 := 64, s1 := 0x400, rc := 0xFFFFFFFF }
  | .sxlFecUnc => { base := 0x004001C, n1 := 64, s1 := 0x400, rc := 0xFFFFFFFF }
  | .sxlHdrCor => { base := 0x0040020, n1 := 64, s1 := 0x400, rc := 0xFFFFFFFF }
  | .sxlHdrUnc => { base := 0x0040024, n1 := 64, s1 := 0x400, rc := 0xFFFFFFFF }
  | .sxlUnexp => { base := 0x0040028, n1 := 64, s1 := 0x400, rc := 0xFFFFFFFF }
  | .sxlMbxCfg => { base := 0x004002C, n1 := 64, s1 := 0x400, rw := 0x3FFFF, reset := 0x203E8 }
  | .sxlPstat => { base := 0x0040100, n1 := 64, s1 := 0x400, n2 := 8, s2 := 0x20 }
  | .sxlPcrc => { base := 0x0040104, n1 := 64, s1 := 0x400, n2 := 8, s2 := 0x20, rc := 0xFFFFFFFF }
  | .sxlPmiss => { base := 0x0040108, n1 := 64, s1 := 0x400, n2 := 8, s2 := 0x20, rc := 0xFFFFFFFF }
  | .sxlPstray => { base := 0x004010C, n1 := 64, s1 := 0x400, n2 := 8, s2 := 0x20, rc := 0xFFFFFFFF }
  | .sxlPlate => { base := 0x0040110, n1 := 64, s1 := 0x400, n2 := 8, s2 := 0x20, rc := 0xFFFFFFFF }
  | .sxlPmbxf => { base := 0x0040114, n1 := 64, s1 := 0x400, n2 := 8, s2 := 0x20, rc := 0xFFFFFFFF }
  | .millInNote => { base := 0x0100200, n1 := 64, s1 := 0x4000, w1c := 0x1FFF }
  | .millInNoteEn => { base := 0x0100204, n1 := 64, s1 := 0x4000, rw := 0x1FFF, reset := 0x1FFF }
  | .millInStore => { base := 0x0100208, n1 := 64, s1 := 0x4000 }
  | .millInWm => { base := 0x0100240, n1 := 64, s1 := 0x4000, n2 := 8, s2 := 0x10, rw := 0x3F, reset := 3 }
  | .millInPeak => { base := 0x0100244, n1 := 64, s1 := 0x4000, n2 := 8, s2 := 0x10, rc := 0x3F }
  | .millInOvr => { base := 0x0100248, n1 := 64, s1 := 0x4000, n2 := 8, s2 := 0x10, rc := 0xFFFFFFFF }
  | .millInXing => { base := 0x010024C, n1 := 64, s1 := 0x4000, n2 := 8, s2 := 0x10, rc := 0xFFFFFFFF }
  | .millFunWm => { base := 0x01002C0, n1 := 64, s1 := 0x4000, n2 := 4, s2 := 0x10, rw := 0x1FF, reset := 192 }
  | .millFunPeak => { base := 0x01002C4, n1 := 64, s1 := 0x4000, n2 := 4, s2 := 0x10, rc := 0x1FF }
  | .millFunLoss => { base := 0x01002C8, n1 := 64, s1 := 0x4000, n2 := 4, s2 := 0x10, rc := 0xFFFFFFFF }
  | .millFunXing => { base := 0x01002CC, n1 := 64, s1 := 0x4000, n2 := 4, s2 := 0x10, rc := 0xFFFFFFFF }
  | .millFrStat => { base := 0x0100300, n1 := 64, s1 := 0x4000, n2 := 8, s2 := 0x10 }
  | .millFrDpc => { base := 0x0100304, n1 := 64, s1 := 0x4000, n2 := 8, s2 := 0x10, rc := 0xFFFFFFFF }
  | .millFrRestart => { base := 0x0100308, n1 := 64, s1 := 0x4000, n2 := 8, s2 := 0x10, rc := 0xFFFFFFFF }
  | .millFrPoison => { base := 0x010030C, n1 := 64, s1 := 0x4000, n2 := 8, s2 := 0x10, rc := 0xFFFFFFFF }
  | .millFrRefLo => { base := 0x0100380, n1 := 64, s1 := 0x4000, n2 := 8, s2 := 8 }
  | .millFrRefHi => { base := 0x0100384, n1 := 64, s1 := 0x4000, n2 := 8, s2 := 8 }
  | .millCoStat => { base := 0x0100400, n1 := 64, s1 := 0x4000, n2 := 8, s2 := 0x10 }
  | .millCoClip => { base := 0x0100404, n1 := 64, s1 := 0x4000, n2 := 8, s2 := 0x10, rc := 0xFFFFFFFF }
  | .millCoRsvA => { base := 0x0100408, n1 := 64, s1 := 0x4000, n2 := 8, s2 := 0x10 }
  | .millCoRsvB => { base := 0x010040C, n1 := 64, s1 := 0x4000, n2 := 8, s2 := 0x10 }
  | .millTrayCmt => { base := 0x0100500, n1 := 64, s1 := 0x4000 }
  | .millTrayRefuse => { base := 0x0100504, n1 := 64, s1 := 0x4000, rc := 0xFFFFFFFF }
  | .millTrayPst => { base := 0x0100540, n1 := 64, s1 := 0x4000, n2 := 8, s2 := 4 }
  | .millStExp => { base := 0x0100600, n1 := 64, s1 := 0x4000, n2 := 8, s2 := 0x10 }
  | .millStLast => { base := 0x0100604, n1 := 64, s1 := 0x4000, n2 := 8, s2 := 0x10 }
  | .millStMism => { base := 0x0100608, n1 := 64, s1 := 0x4000, n2 := 8, s2 := 0x10, rc := 0xFFFFFFFF }
  | .millStDisc => { base := 0x010060C, n1 := 64, s1 := 0x4000, n2 := 8, s2 := 0x10, rc := 0xFFFFFFFF }
  | .millFunWmS => { base := 0x0100700, n1 := 64, s1 := 0x4000, rw := 0x1FF, reset := 48 }
  | .millFunPeakS => { base := 0x0100704, n1 := 64, s1 := 0x4000, rc := 0x1FF }
  | .millFunLossS => { base := 0x0100708, n1 := 64, s1 := 0x4000, rc := 0xFFFFFFFF }
  | .millFunXingS => { base := 0x010070C, n1 := 64, s1 := 0x4000, rc := 0xFFFFFFFF }
  | .wallLast => { base := 0x0200000, n1 := 256, s1 := 0x10 }
  | .wallSubst => { base := 0x0200004, n1 := 256, s1 := 0x10, rc := 0xFFFFFFFF }
  | .wallRlate => { base := 0x0200008, n1 := 256, s1 := 0x10, rc := 0xFFFFFFFF }
  | .wallPoison => { base := 0x020000C, n1 := 256, s1 := 0x10, rc := 0xFFFFFFFF }
  | .wallUse => { base := 0x0201000 }
  | .wallStgLo => { base := 0x0202000, n1 := 256, s1 := 8 }
  | .wallStgHi => { base := 0x0202004, n1 := 256, s1 := 8 }
  | .wallRclSize => { base := 0x0203000, rw := 0x1FFF }
  | .wallRclCfg => { base := 0x0203004, rw := 0x7FFFFFFF }
  | .wallRclExp => { base := 0x0203008, rw := 0xFFFF }
  | .wallRclStatus => { base := 0x020300C }
  | .wallRclEntries => { base := 0x0203010 }
  | .wallRclEff => { base := 0x0203014 }
  | .wallRclTfLo => { base := 0x0203018 }
  | .wallRclTfHi => { base := 0x020301C }
  | .wallRclSkip => { base := 0x0203020, rc := 0xFFFFFFFF }
  | .wallRclIgn => { base := 0x0203024, rc := 0xFFFFFFFF }
  | .wallRclPoison => { base := 0x0203028, rc := 0xFFFFFFFF }
  | .wallTrayStat => { base := 0x020F000, n1 := 256, s1 := 4 }
  | .wallTrayRefuse => { base := 0x020FFFC, rc := 0xFFFFFFFF }
  | .ringCfg => { base := 0x0300000, n1 := 1024, s1 := 0x20, rw := 0x7FFFD, reset := 0x60 }
  | .ringBaseLo => { base := 0x0300004, n1 := 1024, s1 := 0x20, rw := 0xFFFFF000 }
  | .ringBaseHi => { base := 0x0300008, n1 := 1024, s1 := 0x20, rw := 0xFFFFFFFF }
  | .ringPasid => { base := 0x030000C, n1 := 1024, s1 := 0x20, rw := 0x1FFFFF }
  | .ringStatus => { base := 0x0300010, n1 := 1024, s1 := 0x20 }
  | .ringProd => { base := 0x0300014, n1 := 1024, s1 := 0x20 }
  | .ringCons => { base := 0x0300018, n1 := 1024, s1 := 0x20 }
  | .ringDrop => { base := 0x030001C, n1 := 1024, s1 := 0x20, rc := 0xFFFFFFFF }
  | .ringSeq => { base := 0x0308000, n1 := 1024, s1 := 4 }
  | .hostLink => { base := 0x0309000 }
  | .hostDbBad => { base := 0x0309004, rc := 0xFFFFFFFF }
  | .msixTable => { base := 0x0320000, n1 := 2048, s1 := 16, n2 := 4, s2 := 4, rw := 0xFFFFFFFF }
  | .msixPba => { base := 0x0328000, n1 := 64, s1 := 4 }
  | .xlatCfg => { base := 0x0340000, rw := 0x1, wo := 0x2, reset := 1 }
  | .xlatStatus => { base := 0x0340004 }
  | .xlatPrqTmo => { base := 0x0340008, rw := 0xFFFF, reset := 1000 }
  | .xlatRsv => { base := 0x034000C }
  | .xlatHit => { base := 0x0340010, rc := 0xFFFFFFFF }
  | .xlatMiss => { base := 0x0340014, rc := 0xFFFFFFFF }
  | .xlatFault => { base := 0x0340018, rc := 0xFFFFFFFF }
  | .xlatFail => { base := 0x034001C, rc := 0xFFFFFFFF }
  | .xlatInv => { base := 0x0340020, rc := 0xFFFFFFFF }
  | .xlatPreempt => { base := 0x0340024, rc := 0xFFFFFFFF }
  | .xlatRingFb => { base := 0x0341000, n1 := 1024, s1 := 4, rw := 0x3, reset := 1 }
  | .xlatRingWait => { base := 0x0342000, n1 := 1024, s1 := 8 }
  | .xlatRingResume => { base := 0x0342004, n1 := 1024, s1 := 8 }
  | .evtCfg => { base := 0x0380000, n1 := 17, s1 := 0x20, rw := 0x7FFF, reset := 0xFFF }
  | .evtMsi => { base := 0x0380004, n1 := 17, s1 := 0x20, rw := 0xFF7FFF, reset := 0x13000 }
  | .evtCoal => { base := 0x0380008, n1 := 17, s1 := 0x20, rw := 0xFFFF }
  | .evtStatus => { base := 0x038000C, n1 := 17, s1 := 0x20 }
  | .evtSeq => { base := 0x0380010, n1 := 17, s1 := 0x20 }
  | .evtLost => { base := 0x0380014, n1 := 17, s1 := 0x20, rc := 0xFFFFFFFF }
  | .evtMqCtl => { base := 0x0381000, rw := 0x1FFFFF3F, reset := 0xC }
  | .evtMqBaseLo => { base := 0x0381004, rw := 0xFFFFF000 }
  | .evtMqBaseHi => { base := 0x0381008, rw := 0xFFFFFFFF }
  | .evtMqProd => { base := 0x038100C }
  | .evtMqCons => { base := 0x0381010, rw := 0xFFFFFFFF }
  | .ethCfg => { base := 0x0400000, n1 := 2, s1 := 0x100, rw := 0x7 }
  | .ethStatus => { base := 0x0400004, n1 := 2, s1 := 0x100 }
  | .ethPtpCfg => { base := 0x0400200, rw := 0x7FF }
  | .ethVsfIdLo => { base := 0x0400204, rw := 0xFFFFFFFF }
  | .ethVsfIdHi => { base := 0x0400208, rw := 0xFFFF }
  | .ethMacLo => { base := 0x0401000, n1 := 8, s1 := 0x400, rw := 0xFFFFFFFF }
  | .ethMacHi => { base := 0x0401004, n1 := 8, s1 := 0x400, rw := 0xFFFF }
  | .ethPtpDlyTx => { base := 0x0401008, n1 := 8, s1 := 0x400, rw := 0xFFFFFFFF }
  | .ethPtpDlyRx => { base := 0x040100C, n1 := 8, s1 := 0x400, rw := 0xFFFFFFFF }
  | .ethCbs => { base := 0x0401020, n1 := 8, s1 := 0x400, n2 := 8, s2 := 4, rw := 0xFFFFFFFF }
  | .ethGclCtl => { base := 0x0401040, n1 := 8, s1 := 0x400, rw := 0x1, w1s := 0x2 }
  | .ethGclBaseNs => { base := 0x0401044, n1 := 8, s1 := 0x400, rw := 0xFFFFFFFF }
  | .ethGclBaseSecLo => { base := 0x0401048, n1 := 8, s1 := 0x400, rw := 0xFFFFFFFF }
  | .ethGclBaseSecHi => { base := 0x040104C, n1 := 8, s1 := 0x400, rw := 0xFFFFFFFF }
  | .ethGclLen => { base := 0x0401050, n1 := 8, s1 := 0x400, rw := 0x1FF, reset := 1 }
  | .ethTxPdu => { base := 0x0401060, n1 := 8, s1 := 0x400, rc := 0xFFFFFFFF }
  | .ethRxPtp => { base := 0x0401064, n1 := 8, s1 := 0x400, rc := 0xFFFFFFFF }
  | .ethRxOther => { base := 0x0401068, n1 := 8, s1 := 0x400, rc := 0xFFFFFFFF }
  | .ethGcl => { base := 0x0404000, n1 := 8, s1 := 0x400, n2 := 256, s2 := 4, rw := 0xFFFFFFFF, reset := 0xFFFFFFFF }
  | .ethStrCfg => { base := 0x0408000, n1 := 256, s1 := 0x20, rw := 0x1FFFFF7F, reset := 0x16F00008 }
  | .ethStrDaLo => { base := 0x0408004, n1 := 256, s1 := 0x20, rw := 0xFFFFFFFF }
  | .ethStrDaHi => { base := 0x0408008, n1 := 256, s1 := 0x20, rw := 0xFFFF }
  | .ethStrIdLo => { base := 0x040800C, n1 := 256, s1 := 0x20, rw := 0xFFFFFFFF }
  | .ethStrIdHi => { base := 0x0408010, n1 := 256, s1 := 0x20, rw := 0xFFFFFFFF }
  | .ethStrPres => { base := 0x0408014, n1 := 256, s1 := 0x20, rw := 0xFFFFFFFF }
  | .ethStrSent => { base := 0x0408018, n1 := 256, s1 := 0x20 }
  | .ethStrDrop => { base := 0x040801C, n1 := 256, s1 := 0x20, rc := 0xFFFFFFFF }
  | .chnCfg => { base := 0x0480000, rw := 0xFF77, reset := 0xA30 }
  | .chnStatus => { base := 0x0480004 }
  | .chnDevidLo => { base := 0x0480008 }
  | .chnDevidHi => { base := 0x048000C }
  | .chnVerOwn => { base := 0x0480010 }
  | .chnVerFloor => { base := 0x0480014 }
  | .chnVerAgreed => { base := 0x0480018 }
  | .chnDigest => { base := 0x048001C }
  | .chnKdigest => { base := 0x0480020 }
  | .chnEpoch => { base := 0x0480024 }
  | .chnRemoteDisc => { base := 0x0480028, rc := 0xFFFFFFFF }
  | .chnPst => { base := 0x0480100, n1 := 2, s1 := 0x40 }
  | .chnDelay => { base := 0x0480104, n1 := 2, s1 := 0x40 }
  | .chnAsym => { base := 0x0480108, n1 := 2, s1 := 0x40, rw := 0xFFFFFFFF }
  | .chnRsv => { base := 0x048010C, n1 := 2, s1 := 0x40, rw := 0xFFFFFFFF }
  | .chnCrc => { base := 0x0480110, n1 := 2, s1 := 0x40, rc := 0xFFFFFFFF }
  | .chnRelayDrop => { base := 0x0480114, n1 := 2, s1 := 0x40, rc := 0xFFFFFFFF }
  | .chnTxDrop => { base := 0x0480118, n1 := 2, s1 := 0x40, rc := 0xFFFFFFFF }
  | .chnSent => { base := 0x048011C, n1 := 2, s1 := 0x40 }
  | .dramCfg => { base := 0x0500000, n1 := 16, s1 := 0x4000, rw := 0xFFFF03FF, reset := 0x00640040 }
  | .dramCtrl => { base := 0x0500004, n1 := 16, s1 := 0x4000, wo := 0x3 }
  | .dramStatus => { base := 0x0500008, n1 := 16, s1 := 0x4000 }
  | .dramRsv => { base := 0x050000C, n1 := 16, s1 := 0x4000 }
  | .dramCe => { base := 0x0500010, n1 := 16, s1 := 0x4000, rc := 0xFFFFFFFF }
  | .dramUe => { base := 0x0500014, n1 := 16, s1 := 0x4000, rc := 0xFFFFFFFF }
  | .dramPar => { base := 0x0500018, n1 := 16, s1 := 0x4000, rc := 0xFFFFFFFF }
  | .dramReplay => { base := 0x050001C, n1 := 16, s1 := 0x4000, rc := 0xFFFFFFFF }
  | .dramRawWait => { base := 0x0500020, n1 := 16, s1 := 0x4000, rc := 0xFFFFFFFF }
  | .dramUeAddr => { base := 0x0500024, n1 := 16, s1 := 0x4000 }
  | .dramScrubPos => { base := 0x0500028, n1 := 16, s1 := 0x4000 }
  | .dramRecov => { base := 0x050002C, n1 := 16, s1 := 0x4000, rc := 0xFFFFFFFF }
  | .dramTrnCtl => { base := 0x0500100, n1 := 16, s1 := 0x4000, rw := 0x7FF, wo := 0x1000 }
  | .dramTrnAddr => { base := 0x0500104, n1 := 16, s1 := 0x4000, rw := 0x3FFFFFF }
  | .dramTrnLane => { base := 0x0500108, n1 := 16, s1 := 0x4000, rw := 0x7F }
  | .dramTrnSet => { base := 0x050010C, n1 := 16, s1 := 0x4000, rw := 0x7F3F3F }
  | .dramTrnErr => { base := 0x0500110, n1 := 16, s1 := 0x4000 }
  | .dramTrnUpat => { base := 0x0500114, n1 := 16, s1 := 0x4000, n2 := 3, s2 := 4, rw := 0xFFFFFFFF }
  | .dramMap => { base := 0x0540000, bw := 0x77, reset := 0x40 }
  | .dramActive => { base := 0x0540004 }
  | .dramScrub => { base := 0x0540008, rw := 0x1FF, reset := 0x118 }
  | .dramRt => { base := 0x054000C, rw := 0x3FF1, reset := 0x321 }
  | .twbT0Status => { base := 0x0600000 }
  | .twbT0Win => { base := 0x0600004, bw := 0x3FF8000 }
  | .twbRsv => { base := 0x0600008, n1 := 2, s1 := 4 }
  | .twbT0Wake => { base := 0x0600010, rc := 0xFFFFFFFF }
  | .twbT0Part => { base := 0x0600014, rc := 0xFFFFFFFF }
  | .twbT0Page => { base := 0x0600018, rc := 0xFFFFFFFF }
  | .twbT0Refuse => { base := 0x060001C, rc := 0xFFFFFFFF }
  | .twbCfg => { base := 0x0600100, n1 := 4, s1 := 0x100, rw := 0xFF07FF, reset := 0x190002 }
  | .twbStatus => { base := 0x0600104, n1 := 4, s1 := 0x100 }
  | .twbArb => { base := 0x0600108, n1 := 4, s1 := 0x100, rc := 0xFFFFFFFF }
  | .twbRecov => { base := 0x060010C, n1 := 4, s1 := 0x100, rc := 0xFFFFFFFF }
  | .twbXfer => { base := 0x0600120, n1 := 4, s1 := 0x100, n2 := 2, s2 := 0x40, rw := 0x7FFF, wo := 0x10000 }
  | .twbPtr => { base := 0x0600124, n1 := 4, s1 := 0x100, n2 := 2, s2 := 0x40, rw := 0xFFFF }
  | .twbRes => { base := 0x0600128, n1 := 4, s1 := 0x100, n2 := 2, s2 := 0x40 }
  | .twbData0 => { base := 0x0600130, n1 := 4, s1 := 0x100, n2 := 8, s2 := 4, rw := 0xFFFFFFFF }
  | .twbData1 => { base := 0x0600170, n1 := 4, s1 := 0x100, n2 := 8, s2 := 4, rw := 0xFFFFFFFF }
  | .twbRx => { base := 0x06001C0, n1 := 4, s1 := 0x100, n2 := 8, s2 := 4 }
  | .sdmaSrcLo => { base := 0x0610000, n1 := 8, s1 := 0x40, rw := 0xFFFFFFFF }
  | .sdmaSrcHi => { base := 0x0610004, n1 := 8, s1 := 0x40, rw := 0x3F }
  | .sdmaDstLo => { base := 0x0610008, n1 := 8, s1 := 0x40, rw := 0xFFFFFFFF }
  | .sdmaDstHi => { base := 0x061000C, n1 := 8, s1 := 0x40, rw := 0x3F }
  | .sdmaCount => { base := 0x0610010, n1 := 8, s1 := 0x40, rw := 0xFFFFFFFF }
  | .sdmaCfg => { base := 0x0610014, n1 := 8, s1 := 0x40, rw := 0x1F, reset := 0xA }
  | .sdmaCtrl => { base := 0x0610018, n1 := 8, s1 := 0x40, wo := 0x3 }
  | .sdmaStatus => { base := 0x061001C, n1 := 8, s1 := 0x40 }
  | .sdmaBytes => { base := 0x0610020, n1 := 8, s1 := 0x40 }
  | .sdmaErrLo => { base := 0x0610024, n1 := 8, s1 := 0x40 }
  | .sdmaErrHi => { base := 0x0610028, n1 := 8, s1 := 0x40 }
  | .pwrStatus => { base := 0x0620000 }
  | .pwrCtrl => { base := 0x0620004, rw := 0x1 }
  | .pwrThermCfg => { base := 0x0620008, rw := 0x7F, reset := 100 }
  | .pwrTj => { base := 0x062000C }
  | .pwrTjPeak => { base := 0x0620010, rc := 0xFFFF }
  | .pwrSwBack => { base := 0x0620014, rc := 0xFFFFFFFF }
  | .pwrSwMain => { base := 0x0620018, rc := 0xFFFFFFFF }
  | .pwrGaps => { base := 0x062001C, rc := 0xFFFFFFFF }
  | .pwrGapLast => { base := 0x0620020 }
  | .pwrMon => { base := 0x0620040, n1 := 9, s1 := 4 }
  | .pwrTs => { base := 0x0620080, n1 := 8, s1 := 4 }
  | .markSeq => { base := 0x0630000 }
  | .markHeld => { base := 0x0630004 }
  | .markCfg => { base := 0x0630008, rw := 0xFF, reset := 32 }
  | .markRdSeq => { base := 0x063000C, rw := 0xFFFFFFFF }
  | .markRdData => { base := 0x0630010, n1 := 8, s1 := 4 }
  | .markMirCtl => { base := 0x0630040, rw := 0x1FFFFF3F, reset := 0xC }
  | .markMirBaseLo => { base := 0x0630044, rw := 0xFFFFF000 }
  | .markMirBaseHi => { base := 0x0630048, rw := 0xFFFFFFFF }
  | .markMirProd => { base := 0x063004C }
  | .markMirCons => { base := 0x0630050, rw := 0xFFFFFFFF }
  | .markMirFrom => { base := 0x0630054, rw := 0xFFFFFFFF }
  | .markMirLost => { base := 0x0630058, rc := 0xFFFFFFFF }
  | .errStatus => { base := 0x0640000 }
  | .errUnmapped => { base := 0x0640004, rc := 0xFFFFFFFF }
  | .errMemCe => { base := 0x0640008, rc := 0xFFFFFFFF }
  | .errMemUe => { base := 0x064000C, rc := 0xFFFFFFFF }
  | .errFatal => { base := 0x0640010 }
  | .errCtrl => { base := 0x0640014, wo := 0x1 }

/-- Every register name, in the order of the offsets of its block. -/
def regNamesA : List RegName := [
  .glbId, .glbCtrl, .glbBootStatus, .glbRstCause, .glbBootMs, .glbCap, .glbFuseCtl, .glbFuseData, .protLock,
  .protRing, .protPasid, .protFlags, .protBaseLo, .protBaseHi, .protLimLo, .protLimHi, .protPort, .protWall,
  .protRwinBase, .protRwinLimit, .protRwinGrant, .protRwinRsv, .timeCtrl, .timeHoldPpb, .timeCfg,
  .timeStatus, .timeRdSubns, .timeRdNs, .timeRdSecLo, .timeRdSecHi, .timeFreq, .timeErrNs, .timeBoundNs,
  .timeSetNs, .timeSetSecLo, .timeSetSecHi, .timeEdgeCfg, .timeEdgeDly, .timeEdgeSeq, .timeEdgeMiss,
  .tickCfg, .tickPeriodNs, .tickPhaseNs, .tickRsv, .tickNumLo, .tickNumHi, .tickCycle, .tickAdmStatus,
  .tickAdmLoad, .tickDlMiss, .tickMillLoad, .tickDramLoad, .sxlCfg, .sxlCtrl, .sxlStatus, .sxlHubIdLo,
  .sxlHubIdHi, .sxlHubInfo, .sxlFecCor, .sxlFecUnc, .sxlHdrCor, .sxlHdrUnc, .sxlUnexp, .sxlMbxCfg, .sxlPstat,
  .sxlPcrc, .sxlPmiss, .sxlPstray, .sxlPlate, .sxlPmbxf, .millInNote, .millInNoteEn, .millInStore, .millInWm,
  .millInPeak, .millInOvr, .millInXing, .millFunWm, .millFunPeak, .millFunLoss, .millFunXing, .millFrStat,
  .millFrDpc, .millFrRestart, .millFrPoison, .millFrRefLo, .millFrRefHi, .millCoStat, .millCoClip,
  .millCoRsvA, .millCoRsvB, .millTrayCmt, .millTrayRefuse, .millTrayPst, .millStExp, .millStLast,
  .millStMism, .millStDisc, .millFunWmS, .millFunPeakS, .millFunLossS, .millFunXingS]

/-- The rest of the names, from the WALL block on. -/
def regNamesB : List RegName := [
  .wallLast, .wallSubst, .wallRlate, .wallPoison, .wallUse, .wallStgLo, .wallStgHi, .wallRclSize,
  .wallRclCfg, .wallRclExp, .wallRclStatus, .wallRclEntries, .wallRclEff, .wallRclTfLo, .wallRclTfHi,
  .wallRclSkip, .wallRclIgn, .wallRclPoison, .wallTrayStat, .wallTrayRefuse, .ringCfg, .ringBaseLo,
  .ringBaseHi, .ringPasid, .ringStatus, .ringProd, .ringCons, .ringDrop, .ringSeq, .hostLink, .hostDbBad,
  .msixTable, .msixPba, .xlatCfg, .xlatStatus, .xlatPrqTmo, .xlatRsv, .xlatHit, .xlatMiss, .xlatFault,
  .xlatFail, .xlatInv, .xlatPreempt, .xlatRingFb, .xlatRingWait, .xlatRingResume, .evtCfg, .evtMsi, .evtCoal,
  .evtStatus, .evtSeq, .evtLost, .evtMqCtl, .evtMqBaseLo, .evtMqBaseHi, .evtMqProd, .evtMqCons, .ethCfg,
  .ethStatus, .ethPtpCfg, .ethVsfIdLo, .ethVsfIdHi, .ethMacLo, .ethMacHi, .ethPtpDlyTx, .ethPtpDlyRx,
  .ethCbs, .ethGclCtl, .ethGclBaseNs, .ethGclBaseSecLo, .ethGclBaseSecHi, .ethGclLen, .ethTxPdu, .ethRxPtp,
  .ethRxOther, .ethGcl, .ethStrCfg, .ethStrDaLo, .ethStrDaHi, .ethStrIdLo, .ethStrIdHi, .ethStrPres,
  .ethStrSent, .ethStrDrop, .chnCfg, .chnStatus, .chnDevidLo, .chnDevidHi, .chnVerOwn, .chnVerFloor,
  .chnVerAgreed, .chnDigest, .chnKdigest, .chnEpoch, .chnRemoteDisc, .chnPst, .chnDelay, .chnAsym, .chnRsv,
  .chnCrc, .chnRelayDrop, .chnTxDrop, .chnSent, .dramCfg, .dramCtrl, .dramStatus, .dramRsv, .dramCe, .dramUe,
  .dramPar, .dramReplay, .dramRawWait, .dramUeAddr, .dramScrubPos, .dramRecov, .dramTrnCtl, .dramTrnAddr,
  .dramTrnLane, .dramTrnSet, .dramTrnErr, .dramTrnUpat, .dramMap, .dramActive, .dramScrub, .dramRt,
  .twbT0Status, .twbT0Win, .twbRsv, .twbT0Wake, .twbT0Part, .twbT0Page, .twbT0Refuse, .twbCfg, .twbStatus,
  .twbArb, .twbRecov, .twbXfer, .twbPtr, .twbRes, .twbData0, .twbData1, .twbRx, .sdmaSrcLo, .sdmaSrcHi,
  .sdmaDstLo, .sdmaDstHi, .sdmaCount, .sdmaCfg, .sdmaCtrl, .sdmaStatus, .sdmaBytes, .sdmaErrLo, .sdmaErrHi,
  .pwrStatus, .pwrCtrl, .pwrThermCfg, .pwrTj, .pwrTjPeak, .pwrSwBack, .pwrSwMain, .pwrGaps, .pwrGapLast,
  .pwrMon, .pwrTs, .markSeq, .markHeld, .markCfg, .markRdSeq, .markRdData, .markMirCtl, .markMirBaseLo,
  .markMirBaseHi, .markMirProd, .markMirCons, .markMirFrom, .markMirLost, .errStatus, .errUnmapped,
  .errMemCe, .errMemUe, .errFatal, .errCtrl]

/-- The register's offset in BAR0 (R6). -/
def RegName.off (n : RegName) (i : Nat := 0) (j : Nat := 0) : Nat := n.row.base + n.row.s1 * i + n.row.s2 * j

/-- A register: its name and its instance. -/
structure RegAt where
  name : RegName
  i : Nat
  j : Nat
  deriving DecidableEq, Repr

/-- Whether offset `off` lies in an instance of row `n`. -/
def RegName.hit (n : RegName) (off : Nat) : Option RegAt :=
  let r := n.row
  if off < r.base then none
  else
    let d := off - r.base
    let i := d / r.s1
    let e := d % r.s1
    let j := e / r.s2
    if i < r.n1 && j < r.n2 && e % r.s2 = 0 then some { name := n, i := i, j := j } else none

/-- The register at a BAR0 offset, or none where the offset lies in no register (R461). -/
def locate (off : Nat) : Option RegAt :=
  if off < 0x200000 then regNamesA.findSome? (·.hit off) else regNamesB.findSome? (·.hit off)

/-- The reset value of the stored part of a register (R11): vector q of event queue q, and the mask bit of an MSI-X
entry (notes/assumptions/7.md), depend on the instance.
Log entry 7: PRESUMED, unsafe. -/
def RegAt.reset (r : RegAt) : Word :=
  match r.name with
  | .evtMsi => BitVec.ofNat 32 (r.name.row.reset + r.i)
  | .msixTable => if r.j = 3 then 1 else 0
  | n => BitVec.ofNat 32 n.row.reset

/-- The reset value of the register at an offset. -/
def resetAt (off : Nat) : Word :=
  match locate off with
  | some r => r.reset
  | none => 0

end Sys2Proof.Machine
end

