-- ==== Sys2Proof/Machine/State.lean ====
section
/-!
DEFINITION. The state of the SX7064 as plain data. Every register that software can read lies in `regs`, under its
BAR0 offset (`Machine.RegMap` gives each its name, layout and reset value); the fields beside it hold what the manual
gives the device and no register shows whole: bases, frames, rings, queues, memories, the island.
A `Store` lists only what differs from its default, so the reset state lists nothing.
-/
namespace Sys2Proof.Machine

/-- Why the machine stops. -/
inductive Fault where
  /-- A training-helper run (R365) or a service-DMA access (R392) names DRAM beyond the last address that exists:
  the meaning of TRAINING_HELPER_GO and those of SDMA_DONE, SDMA_STOP and the register writes raise it. Safe: no effect is
  claimed of such an access (log entry 61, DESIGN CHOICE). -/
  | dramPastEnd
  deriving DecidableEq, Repr

/-- Why a command has no meaning. -/
inductive Refusal where
  /-- `exec` answers it for a command whose meaning is not written. Safe. -/
  | notModelled (mnemonic : String)
  /-- The operands are no such command: a list of the wrong length (`Instr.wf` names the commands), or a descriptor whose
  OP makes it another command of the table. Raised by those meanings alone. Safe (log entry 90, DESIGN CHOICE). -/
  | illFormed
  deriving DecidableEq, Repr

/-! ### Time (02) -/

/-- TAG.STATE (R38 to R43). -/
inductive BaseState where
  | free | acquiring | locked | holdover
  deriving DecidableEq, Repr

/-- One time base. `acc` counts units of 2⁻⁴⁰/5 subns, the fractional bits of R31 included.
Log entries 5: DESIGN CHOICE, unsafe; 31: DEDUCED, unsafe. -/
structure TimeBase where
  acc : Nat := 0
  /-- fo, the filtered offset in subns (R493). -/
  fo : Int := 0
  /-- fr, the filtered frequency shown in TIME_FREQ (R493). -/
  fr : Int := 0
  /-- The frequency last filtered while LOCKED (R40). -/
  frLocked : Int := 0
  state : BaseState := .free
  gap : Bool := false
  errb : Bool := true
  epoch : BitVec 4 := 0
  /-- Locked since cold start or the last manual set. -/
  everLocked : Bool := false
  /-- Consecutive updates within the bound (R493). -/
  lockCount : Nat := 0
  /-- ERR_NS when the base last left LOCKED (R40). -/
  errLocked : Nat := 0
  /-- Growth since then, in ppb times time clocks (R40). -/
  growth : Nat := 0
  /-- The source's own error estimate at the last update (R42, R338). -/
  srcErr : Nat := 0
  /-- The clock of the last valid source update (R39, R51). -/
  lastUpdate : Option Nat := none
  /-- The clock from which the source timeout counts: that update, or the reset since (R39). -/
  since : Nat := 0
  /-- The interval over which the slew in force is spread, in ns (R493). -/
  interval : Nat := 125000000
  /-- The read set: held, held by SNAP, its value and its TAG (R49). -/
  rdHeld : Bool := false
  rdSnap : Bool := false
  rdAcc : Nat := 0
  rdTag : BitVec 16 := 0
  deriving DecidableEq, Repr

/-- One capture of an EDGE input (R45 to R48): its stamp, its direction and its number, and whether EVT announces it; then
what gives its place in the order of stamps: its base, that base's EPOCH, and the base's value less the delay, in subns. -/
structure EdgeCapture where
  stamp : BitVec 128
  rising : Bool
  seq : Nat
  evt : Bool
  base : Nat
  epoch : BitVec 4
  key : Int
  deriving DecidableEq, Repr

/-- One EDGE input: the captures not yet delivered, oldest first, and the clock of the last one (R47, R48). -/
structure EdgeIn where
  queue : List EdgeCapture := []
  last : Option Nat := none
  deriving DecidableEq, Repr

/-- The PTM dialogue: TB3 as the last request left and as the last response came (R44). -/
structure PtmStamps where
  request : BitVec 128 := 0
  response : BitVec 128 := 0
  deriving DecidableEq, Repr

/-! ### Commits, trays and admission (03, 08) -/

/-- STATE of a staged tray (R179). -/
inductive TrayState where
  | openTray | pending | armed
  deriving DecidableEq, Repr

/-- One tray: both banks by word index, a word not listed holding its reset value (R177, R182). -/
structure Tray where
  active : Store Word := []
  staged : Store Word := []
  gen : BitVec 16 := 0
  state : TrayState := .openTray
  group : Bool := false
  deriving DecidableEq, Repr

/-- A commit that was read and not refused (R180), waiting for admission or, once accepted, for its common edge. -/
structure CommitRec where
  ring : Nat
  dom : Fin 16
  trays : List Nat
  opTag : BitVec 16
  evt : Bool
  /-- The enable of the ring it came from: a later enable has another number, and gets no completion. -/
  inc : Nat
  /-- Once accepted: edges up to the common edge (R187), and whether it ends the shed state (R73). -/
  edges : Nat := 0
  ends : Bool := false
  /-- A function reset has come between: neither its completion nor its events are written (R421). -/
  mute : Bool := false
  deriving DecidableEq, Repr

/-- A wall tray that waits for its landing edge (R186), counted in edges. -/
structure Landing where
  wall : Nat
  edges : Nat
  owner : CommitRec
  deriving DecidableEq, Repr

/-- One region that admission placed (R496): owner kind 0 reference, 1 staging, 2 relay, 3 recall. -/
structure Region where
  kind : Nat
  owner : Nat
  addr : Nat
  size : Nat
  deriving DecidableEq, Repr

/-- The tick unit (R53, R54, R60).
Log entry 5: DESIGN CHOICE, unsafe. -/
structure TickUnit where
  num : BitVec 64 := 0
  /-- Whether an edge has been taken since reset, and the tick base's ns at the last one. -/
  started : Bool := false
  edgeNs : Nat := 0
  /-- TB1 at the last edge, and the clock of it. -/
  edgeTb1 : Nat := 0
  edgeTag : BitVec 16 := 0
  edgeClock : Nat := 0
  /-- TB0 in whole ns at the last edge (R314). -/
  edgeTb0Ns : Nat := 0
  cycle : Nat := 1
  /-- Commits read and waiting for admission, oldest first (R71). -/
  judging : List CommitRec := []
  /-- Commits accepted and waiting for their common edge (R187). -/
  armed : List CommitRec := []
  landings : List Landing := []
  /-- A change of capacity waits for admission (R73). -/
  capacity : Bool := false
  /-- Split ports whose admin gate list waits for that run (R320). -/
  gateRuns : List Nat := []
  /-- Regions in force, and the placement of the latest accepted run while some of it is not yet in force (R496). -/
  regions : List Region := []
  nextRegions : Option (List Region) := none
  /-- Shed so far, beside the effective recall size: the ports whose TNR is off, the walls disabled (R73). -/
  shed : Bool := false
  shedPorts : List Nat := []
  shedWalls : List Nat := []
  /-- A retirement awaits its remap edge (R370). -/
  remap : Bool := false
  /-- A run without a commit has been accepted, and the next edge takes its placement and its schedule (R370, R496). -/
  placeNow : Bool := false
  /-- The clock of that acceptance: the edge is a later one (R370). -/
  placeClock : Nat := 0
  /-- A change of the tick has been accepted: no course runs up to the first edge under the new values (R55). -/
  halted : Bool := false
  /-- The last output slot of the tick in force, by its place in the order of R61. -/
  slotAt : Option (Nat × Nat × Nat) := none
  /-- Admission has been shedding in the tick in force (R198, R230). -/
  shedSeen : Bool := false
  deriving DecidableEq, Repr

/-! ### Lanes and frames (04, 05, 06) -/

/-- Bring-up of a lane (R90). -/
inductive LaneStep where
  | down | search | waiting
  | switching (target : BitVec 2)
  | up
  deriving DecidableEq, Repr

/-- A packet in progress on a lane (R88): its bytes so far, header included; the tick base in whole ns and the TB1 stamp at
its first symbol (R106); whether its header has been judged (R96, R107); and the tick of the frame whose line it is (R117). -/
structure Part where
  bytes : List Byte
  tickNs : Nat
  stamp : BitVec 128
  judged : Bool := false
  line : Option Nat := none
  deriving DecidableEq, Repr

/-- One lane's receiver (R85 to R92).
Log entry 5: DESIGN CHOICE, unsafe. -/
structure Lane where
  step : LaneStep := .down
  mode : BitVec 2 := 0
  lock : Bool := false
  hubOk : Bool := false
  hubVersion : Byte := 0
  hubMode : BitVec 2 := 0
  /-- Clock of the last valid HUB_STATUS, and its bytes 2 to 5. -/
  hubClock : Option Nat := none
  hubBytes : BitVec 32 := 0
  lastSeq : Option (BitVec 4) := none
  good : Nat := 0
  badRun : Nat := 0
  seqRun : Nat := 0
  scrambler : BitVec 58 := 0
  /-- The packet in progress, or none while the layer waits for the next FIRST (R88). -/
  partialPacket : Option Part := none
  /-- Uncorrectable codewords of the one-second interval (R91). -/
  uncorrectable : Nat := 0
  downs : BitVec 16 := 0
  /-- The lane has not been UP since step 1 (R113). -/
  fresh : Bool := false
  deriving DecidableEq, Repr

/-- One line of a frame's line sequence (R118): a received line, one whose packet is still arriving, or a filled one.
`words` is the size of its slot in words of 32 bytes, under the layout in which it was buffered (R116, R120). -/
inductive LineEntry where
  | got (bytes : List Byte) (words : Nat)
  | part (bytes : List Byte) (words : Nat)
  | filled
  deriving DecidableEq, Repr

/-- What a recorded FRAME_TAG says (R102, R107 row 4). -/
structure TagRec where
  agen : BitVec 16
  agenValid : Bool
  exp : BitVec 32
  gain : BitVec 16
  matching : Bool
  deriving DecidableEq, Repr

/-- The planes of a processed frame: three 16-bit components for YCbCr stones and three for RGB stones (R170, R168). -/
structure Planes where
  y : List (List Nat) := []
  cb : List (List Nat) := []
  cr : List (List Nat) := []
  r : List (List Nat) := []
  g : List (List Nat) := []
  b : List (List Nat) := []
  deriving DecidableEq, Repr

/-- A plane of samples: a list of lines. -/
abbrev Plane := List (List Nat)

/-- What the colour half makes of a frame: the planes for stones and taps, the measured values and the clipped count. -/
structure BackOut where
  planes : Planes := {}
  /-- Measured R, G, B, green plane and luma (R190, R195). -/
  mr : Plane := []
  mg : Plane := []
  mb : Plane := []
  green : Plane := []
  clip : Nat := 0
  deriving DecidableEq, Repr

/-- What the mill makes of a frame's samples: the front status word, the reference bytes to write, the rejected samples,
those that moved and the poisoned blocks, the planes offered at T0 to T2, and the colour half's result. -/
structure FrameWork where
  fstat : Word
  ref : List Byte
  dpc : Nat
  moved : Nat
  poisoned : Nat
  xu : Plane
  t : Plane
  o : Plane
  back : BackOut
  deriving DecidableEq, Repr

/-- What a frame binds at its trigger edge (R185, R58, R59): the banks in force, their generations, the arrival window
and the close deadline in ns of the tick base, the release lag Q, whether the temporal filter runs, and the region that
holds the reference. -/
structure Binding where
  ptray : Store Word := []
  mtray : Store Word := []
  pgen : BitVec 16 := 0
  mgen : BitVec 16 := 0
  lo : Int := 0
  hi : Int := 0
  close : Int := 0
  lag : Nat := 1
  tnr : Bool := false
  ref : Option Region := none
  deriving DecidableEq, Repr

/-- One frame period of a port: its tick, its frame number, what it binds and the generation it requested (R25, R205). -/
structure Period where
  tick : Nat
  number : BitVec 48
  bind : Binding
  reqGen : BitVec 16
  reqNew : Bool
  replay : Bool := false
  /-- A frame has opened for it, or it was declared missing. -/
  opened : Bool := false
  missing : Bool := false
  deriving DecidableEq, Repr

/-- One frame of a port, from the opening (or its period's end without one) to the use of its stones. -/
structure Frame where
  tick : Nat
  number : BitVec 48
  /-- Whether its trigger edge has passed: a frame that opens early is bound there (R185). -/
  bound : Bool := true
  bind : Binding
  /-- The tick base, in whole ns, at a frame start that came before its edge. -/
  early : Int := 0
  stamp : BitVec 128 := 0
  /-- TB1 ERRB at the stamp, or at the end of the window (R198). -/
  unsync : Bool := false
  /-- The hub's frame count, the data field of its FS (R97). -/
  hubCount : BitVec 16 := 0
  tag : Option TagRec := none
  lines : List LineEntry := []
  isOpen : Bool := true
  status : BitVec 8 := 0
  overrun : Bool := false
  cause : Nat := 0
  replay : Bool := false
  missing : Bool := false
  /-- It missed its deadline (R74), and the miss has been counted and reported. -/
  missed : Bool := false
  missTold : Bool := false
  shed : Bool := false
  reqGen : BitVec 16 := 0
  reqNew : Bool := false
  appGen : BitVec 16 := 0
  appSrc : BitVec 2 := 0
  /-- Slices served: whole lines, and slices of the next (R118, R122). -/
  servedLines : Nat := 0
  servedSlices : Nat := 0
  /-- The mill has finished its work on the frame. -/
  processed : Bool := false
  /-- Lines that an uncorrectable on-chip word touched (R451 group 1): the frame is poisoned. -/
  poison : Bool := false
  ueLines : List Nat := []
  fstat : Word := 0
  cstat : Word := 0
  /-- What the mill makes of it, from its close on (R154, R175). -/
  work : Option FrameWork := none
  deriving DecidableEq, Repr

/-- One mailbox request (R104, R203): queued, or sent and waiting. -/
structure MbxReq where
  gen : BitVec 16
  seq : BitVec 8
  bound : Bool
  reply : Bool
  body : List Byte
  rspAddr : BitVec 64
  ring : Nat
  inc : Nat
  opTag : BitVec 16
  /-- Its place among the requests of its port. -/
  order : Nat
  /-- Edges still to pass before a trigger may take it (R203). -/
  wait : Nat
  attempts : Nat := 0
  deriving DecidableEq, Repr

/-- One port of a lane. -/
structure Port where
  frames : List Frame := []
  periods : List Period := []
  /-- Frame number of the next frame period (R25). -/
  nextNumber : BitVec 48 := 0
  /-- Its mill replayed at a function reset: its frames are missing until the port is disabled (R79, R421). -/
  stranded : Bool := false
  /-- Ticks at which a frame period of the port, disabled, would have begun, each with its release tick (R219). -/
  idles : List (Nat × Nat) := []
  seq : BitVec 8 := 0
  queue : List MbxReq := []
  waiting : List MbxReq := []
  requests : Nat := 0
  reqGen : BitVec 16 := 0
  /-- First frame number after the latest enable, and the generation then in force (R207). -/
  enableNumber : BitVec 48 := 0
  enableGen : BitVec 16 := 0
  /-- Restart causes pending, with the frame number from which each applies (R150). -/
  causes : List (Nat × BitVec 48) := []
  deriving DecidableEq, Repr

/-- Slice service of a mill (R124): its port pointer, and the port and the frame, by its tick, whose slice is in service. -/
structure Mill where
  pointer : Fin 8 := 0
  reload : Bool := false
  service : Option (Fin 8) := none
  serviceTick : Nat := 0
  deriving DecidableEq, Repr

/-- One item of an overwrite funnel (R126): its bytes, the number its ring gave it, and the tick it is due. -/
structure FunItem where
  bytes : List Byte
  ring : Nat
  rseq : Word
  due : Nat
  deriving DecidableEq, Repr

/-! ### Walls and the recall store (10, 11) -/

/-- What the header takes from one placed source frame (R224, R229). -/
structure StoneMark where
  entry : Nat
  lstat : BitVec 8 := 0
  fstat : Word := 0
  clip : Nat := 0
  number : BitVec 48 := 0
  port : Nat := 0
  tnr : Bool := false
  flags : BitVec 16 := 0
  remote : Bool := false
  /-- The size of a remote frame (R223). -/
  w : Nat := 0
  h : Nat := 0
  deriving DecidableEq, Repr

/-- Causes of filling, in the bit order of event 0x0501 (R225). -/
inductive FillCause where
  | sourceMissing | deadline | portIdle | remoteLate | remoteMismatch | holdOverflow
  deriving DecidableEq, Repr

/-- A remote frame in arrival (R346): its pieces, and the bytes by offset. -/
structure RemoteIn where
  orig : Nat
  rwall : Nat
  tick : Nat
  bytes : List Byte := []
  nextPiece : Nat := 0
  whole : Bool := false
  deriving DecidableEq, Repr

/-- The wall frame of a tick that has ended, waiting for its output slot: the tray that composes it, its buffer, and what
its entries placed. -/
structure WallDue where
  tick : Nat
  bank : Store Word
  gen : BitVec 16
  addr : Nat
  buf : Bool
  /-- A remap edge has come since it was written (R371). -/
  moved : Bool := false
  marks : List StoneMark
  fills : List (Nat × FillCause)
  /-- Remote entries whose frame is not whole yet. -/
  late : List Nat
  shed : Bool
  unsync : Bool
  /-- TB1 at the edge of the tick, once that edge has passed. -/
  time : BitVec 128
  timed : Bool := true
  deriving DecidableEq, Repr

/-- Bytes that wait until the older wall frame of their buffer has been read (R221): the tick and the entry they belong to,
the stone line, the buffer, and the offset in it. -/
structure HeldRow where
  tick : Nat
  entry : Nat
  line : Nat
  buf : Bool
  off : Nat
  bytes : List Byte
  deriving DecidableEq, Repr

/-- One wall's composition state. -/
structure Wall where
  due : Option WallDue := none
  /-- What the stone cutter and the chain hold back for its buffers, oldest first (R221). -/
  held : List HeldRow := []
  /-- Entries that overflowed their hold, by tick (R221). -/
  overflows : List (Nat × Nat) := []
  remotes : List RemoteIn := []
  /-- Frame in progress of a streaming wall: its tick, the next line, and what is known of its entries (R227). -/
  stream : Option WallDue := none
  streamLine : Nat := 0
  /-- The tick of the last streaming frame begun, and its RSEQ. -/
  streamed : Nat := 0
  streamSeq : Word := 0
  deriving DecidableEq, Repr

/-- STATE of the recall store (11). -/
inductive RecallState where
  | off | recording | frozen | exporting
  deriving DecidableEq, Repr

/-- One entry of the recall store: where it lies and how long it is (R237). -/
structure RecallEntry where
  offset : Nat
  len : Nat
  wall : Nat
  tick : Nat
  /-- Format and size of its image, which give its units of transfer (R279). -/
  fmt : Nat
  w : Nat
  h : Nat
  /-- The export in progress has taken it (R242). -/
  sent : Bool := false
  deriving DecidableEq, Repr

/-- A wall frame that has had its output slot and waits for its place among the entries of its tick (R237). -/
structure RecallFrame where
  wall : Nat
  tick : Nat
  fmt : Nat
  w : Nat
  h : Nat
  bytes : List Byte
  deriving DecidableEq, Repr

/-- A descriptor whose completion comes behind its effect: the ring, the number of its enable, TAG and EVT. -/
structure Waiting where
  ring : Nat
  inc : Nat
  opTag : Nat
  evt : Bool
  deriving DecidableEq, Repr

/-- The recall store (R236 to R244). -/
structure Recall where
  state : RecallState := .off
  pend : Bool := false
  lost : Bool := false
  kind : BitVec 3 := 0
  origin : Origin := .auto
  index : Nat := 0
  tf : BitVec 64 := 0
  entries : List RecallEntry := []
  writeAt : Nat := 0
  /-- Frames of the course in force, by ascending wall index, that wait for a lower wall's (R237). -/
  waiting : List RecallFrame := []
  /-- The effective size where shedding has set one, in units of 16 MiB (R73, R238). -/
  shrunk : Option Nat := none
  /-- Recording restarts, empty, at the next edge (R242, R244). -/
  restart : Bool := false
  exportRing : Nat := 0
  /-- Entries exported whole. -/
  exported : Nat := 0
  /-- The RELEASE descriptors that wait for the entry in progress (R242, R260). -/
  releasing : List Waiting := []
  /-- Export bytes that may still leave in this course (R242). -/
  budget : Nat := 0
  deriving DecidableEq, Repr

/-! ### Rings, translation and events (12, 13, 14) -/

/-- STATE of a ring (R253). -/
inductive RingState where
  | off | run | wait | halt | drain
  deriving DecidableEq, Repr

/-- Why a ring waits (R295). -/
inductive WaitWhy where
  | none | pageRequest | preempted | place
  deriving DecidableEq, Repr

/-- One empty buffer posted by OBUF, or the one being filled (R266). -/
structure OutBuf where
  count : Nat
  addr : Nat
  len : Nat
  opTag : BitVec 16
  evt : Bool
  written : Nat := 0
  /-- A malformed OBUF holds no bytes and completes in its turn with this DETAIL. -/
  bad : Option (BitVec 16) := none
  deriving DecidableEq, Repr

/-- One record offered to an output ring (R267, R268, R279). -/
structure Record where
  bytes : List Byte
  /-- Lengths of its units of transfer, in order. -/
  units : List Nat
  rseq : Word
  oclass : BitVec 2
  slot : Nat
  /-- Order of offering over the whole device (R286). -/
  order : Nat
  deriving DecidableEq, Repr

/-- What waits to be written for a ring once its page is there: a descriptor completion (R257) or a response block. -/
structure PendingWrite where
  addr : Nat
  bytes : List Byte
  relaxed : Bool
  /-- Whether C advances behind it, and the event it announces. -/
  advance : Bool
  /-- Further bytes of its unit of transfer, looked up with it (R279). -/
  ahead : Nat := 0
  event : Option (BitVec 16 × BitVec 64)
  /-- It belongs to a response block, which only a ring in RUN or WAIT writes (R265). -/
  response : Bool := false
  deriving DecidableEq, Repr

/-- One replay record taken from a replay ring (R270). -/
structure ReplayRec where
  port : Nat
  tickOff : Nat
  fsOff : Int
  fsTime : BitVec 128
  bytes : List Byte
  deriving DecidableEq, Repr

/-- A page on which a ring waits (R276, R277): the access, whether it still waits for a place among the outstanding requests,
else the index of its request, and whether that has succeeded and the page is being translated again. -/
structure PageWait where
  page : Nat
  write : Bool
  place : Bool
  prg : Nat := 0
  answered : Bool := false
  deriving DecidableEq, Repr

/-- One ring beyond its registers; 0x400 is the management queue and 0x401 the mirror ring (R297). -/
structure Ring where
  state : RingState := .off
  /-- How many times the ring has been enabled. -/
  inc : Nat := 0
  /-- The pages it waits on, the resume point (R280), and the consecutive faults of each page (R277). -/
  waits : List PageWait := []
  resume : Nat := 0
  faults : List (Nat × Nat) := []
  /-- It is pre-empted (R287). -/
  preempted : Bool := false
  /-- The halt cause that strikes it once what waits to be written is written (R278, R249). -/
  halting : Option Nat := none
  /-- A COMMIT or RELEASE in execution waits for its effect. -/
  busy : Bool := false
  /-- The descriptor that has been read and waits for its indirect data, and the units of them read so far (R279, R291). -/
  fetched : Option (BitVec 512) := none
  unitsRead : Nat := 0
  writes : List PendingWrite := []
  bufs : List OutBuf := []
  /-- Buffers that the front record has filled: they complete with it (R266, R284). -/
  filled : List OutBuf := []
  records : List Record := []
  /-- Bytes of the front record already written, and units done. -/
  done : Nat := 0
  unitsDone : Nat := 0
  /-- Replay (R270): first tick, last TICKOFF, records to apply, ends of ticks. -/
  n0 : Option Nat := none
  lastOff : Nat := 0
  replays : List ReplayRec := []
  eots : List Nat := []
  deriving DecidableEq, Repr

/-- One entry of the translation cache (R272). -/
structure XEntry where
  pv : Bool
  pasid : BitVec 20
  page : Nat
  big : Bool
  target : Nat
  rd : Bool
  wr : Bool
  deriving DecidableEq, Repr

/-- One outstanding page request (R276). -/
structure PageReq where
  prg : Nat
  pv : Bool
  pasid : BitVec 20
  page : Nat
  write : Bool
  rings : List Nat
  deriving DecidableEq, Repr

/-- One invalidation that waits for its completion (R274). -/
structure Invalidation where
  opTag : Nat
  pv : Bool
  pasid : BitVec 20
  addr : Nat
  size : Nat
  deriving DecidableEq, Repr

/-- One event record as raised: type, severity, time and payload (14). `age` counts the later clocks of the same command:
events of one clock are ordered among themselves (R300). -/
structure EventRec where
  type : BitVec 16
  time : BitVec 128
  payload : BitVec 64
  age : Nat := 0
  deriving DecidableEq, Repr

/-- One event queue beyond its registers (R301 to R306). -/
structure EvQueue where
  pd : Word := 0
  ch : Word := 0
  overflow : Bool := false
  lostNow : Nat := 0
  /-- Records taken and not yet written, oldest first: in RUN those whose translation is being looked up, in WAIT the hold. -/
  hold : List (BitVec 256) := []
  sinceMsg : Nat := 0
  timer : Bool := false
  deriving DecidableEq, Repr

/-- What configuration space holds beside the enables of ATS, PRI and Relaxed Ordering (R246, R248): the base address
registers as written, the other enables, the size codes of payloads and read requests (128 × 2ⁿ bytes), and the mask of
Corrected Internal Error (R453).
Log entry 106: PRESUMED, unsafe. -/
structure PciConfig where
  bars : Store Word := []
  pasid : Bool := false
  msix : Bool := false
  msixMask : Bool := false
  tags10 : Bool := false
  maxPayload : BitVec 3 := 0
  maxRead : BitVec 3 := 2
  correctedMask : Bool := true
  deriving DecidableEq, Repr

/-! ### Networks (15, 16) -/

/-- What the RVF fields of an AVTPDU say of the picture (R313): progressive, its size, bits of a component, and RGB or
YCbCr 4:2:2. -/
structure Picture where
  progressive : Bool := true
  width : Nat
  height : Nat
  bits : Nat := 8
  rgb : Bool
  deriving DecidableEq, Repr

/-- One AVTPDU queued on a split port (R313, R314). Its header fields are held, not the bytes IEEE 1722 gives them. -/
structure Pdu where
  stream : Nat
  wall : Nat
  tick : Nat
  vsf : Bool
  /-- avtp_timestamp and tv. -/
  stamp : BitVec 32
  tv : Bool
  line : Nat
  /-- The end-of-frame indication. -/
  last : Bool
  streaming : Bool
  /-- The picture, in an RVF AVTPDU (R313). -/
  picture : Option Picture := none
  /-- The time clock of its queuing (R316). -/
  clock : Nat := 0
  payload : List Byte
  deriving DecidableEq, Repr

/-- The Ethernet and AVTP fields that a sent AVTPDU carries beside `Pdu` (R310, R313, R314): `vlan` holds PCP and VID.
Log entry 12: PRESUMED, unsafe. -/
structure EthHead where
  dst : BitVec 48
  src : BitVec 48
  vlan : Option (BitVec 16)
  streamId : BitVec 64
  vendor : Option (BitVec 48)
  seq : BitVec 8
  deriving DecidableEq, Repr

/-- The credit of one queue's shaper, in 1/1,250,000,000 bit, as it stood at a time clock (R316). -/
structure Credit where
  value : Int := 0
  since : Nat := 0
  deriving DecidableEq, Repr

/-- One split port (R308, R316, R320). -/
structure SplitPort where
  up : Bool := false
  /-- All eight queues, in the order of queuing. -/
  queued : List Pdu := []
  credits : Store Credit := []
  /-- The operational gate list and the TB0 instant in ns at which it took effect. -/
  operational : List Word := []
  cycleBase : Nat := 0
  /-- The origin of the write that set CHANGE; whether admission accepted: 0 not yet, 1 accepted, 2 after shedding; and the
  TB0 instant in ns at which the list then takes effect. -/
  changeOrigin : Origin := .bar0
  changeResult : Nat := 0
  effectAt : Nat := 0
  /-- The stamp of the last Sync sent, for its Follow_Up (R321). -/
  syncStamp : BitVec 128 := 0
  deriving DecidableEq, Repr

/-- One stream: sequence_num, the wall and tick of a streaming wall's frame that is being queued, and the presentation offset
taken as that frame was offered (R311, R314, R317). -/
structure Stream where
  seq : BitVec 8 := 0
  live : Option (Nat × Nat) := none
  pres : Word := 0
  deriving DecidableEq, Repr

/-- A relayed FRAME piece that waits for its edge (R345): its header as it arrived, and the tick of its arrival. -/
structure RelayPiece where
  hdr : BitVec 128
  payload : List Byte
  arrived : Nat
  deriving DecidableEq, Repr

/-- One lane's receiver of a chain port (R88, R325). -/
structure ChainLane where
  lock : Bool := false
  good : Nat := 0
  lastSeq : Option (BitVec 4) := none
  badRun : Nat := 0
  seqRun : Nat := 0
  scrambler : BitVec 58 := 0
  deriving DecidableEq, Repr

/-- One codeword that waits for its turn (R325): SEQ, the payload, empty where it did not decode, FIRST, and the time clock and
TB1 at its first symbol with TB1's rate (R44). -/
structure ChainWord where
  seq : BitVec 4
  bytes : List Byte
  first : Option Nat
  clock : Nat
  acc : Nat
  rate : Nat
  deriving DecidableEq, Repr

/-- One chain port (R325, R326). -/
structure ChainPort where
  linked : Bool := false
  peer : Bool := false
  blocked : Bool := false
  /-- The HELLO last received, and the clock of its receipt (R326). -/
  hello : BitVec 256 := 0
  helloClock : Nat := 0
  lanes : Store ChainLane := []
  /-- Codewords received and not yet in order, and the SEQ due next, which an aligned port has. -/
  skew : List ChainWord := []
  nextSeq : Option (BitVec 4) := none
  /-- The packet in progress, and TB1 in subns at its first symbol (R44). -/
  partialPacket : Option (List Byte × Nat) := none
  /-- DELAY_REQ sent: t1 in subns (R337). -/
  t1 : Option Nat := none
  /-- Pieces to relay out of this port, in arrival order, and the bytes relayed in a tick. -/
  relay : List RelayPiece := []
  relayed : Nat := 0
  relayTick : Nat := 0
  deriving DecidableEq, Repr

/-- What an epoch gives a device (R331, R332). -/
structure EpochRec where
  key : BitVec 64 := 0
  epoch : BitVec 16 := 0
  role : BitVec 2 := 0
  addr : BitVec 5 := 0
  agreed : Word := 0
  nEff : BitVec 64 := 0
  nmem : BitVec 8 := 0
  na : BitVec 8 := 0
  deriving DecidableEq, Repr

/-- The chain function beyond its registers (R329 to R348). -/
structure Chain where
  /-- 0 off, 1 keystone, 2 member, 3 isolated (R329). -/
  role : BitVec 2 := 0
  /-- ROLE at the last reset, as the island holds it (R336; log entry 64, DEDUCED). -/
  heldRole : BitVec 2 := 0
  slot : BitVec 8 := 0
  slotValid : Bool := false
  addr : BitVec 5 := 0
  orient : Bool := false
  side : Bool := false
  icause : BitVec 4 := 0
  vexcl : Bool := false
  /-- CLEVEL last received. -/
  clevel : BitVec 3 := 0
  timed : Bool := false
  /-- The epoch in force. -/
  epoch : BitVec 16 := 0
  nmem : BitVec 8 := 0
  na : BitVec 8 := 0
  /-- Addresses by the tick from which each is in force, newest first (R24). -/
  addrs : List (Nat × BitVec 5) := []
  /-- The newest epoch known, and the tick at whose edge it is to be applied (R332). -/
  told : EpochRec := {}
  applyAt : Option Nat := none
  /-- An INAUG has been taken, the last at a clock (R343); AVER of the last one received (R340). -/
  taken : Bool := false
  takenClock : Nat := 0
  aver : Option Word := none
  /-- KDEVID and EPOCH of INAUGs, with the port on which each arrived first (R334). -/
  seen : List (BitVec 64 × BitVec 16 × Nat) := []
  /-- KDEVIDs of non-ISO INAUGs with the clock of the last of each, and the clock of the last foreign INAUG at a lead. -/
  heard : List (BitVec 64 × Nat) := []
  foreign : Option Nat := none
  /-- What the keystone's epoch was started on (R332). -/
  basis : List Nat := []
  /-- ORIG and TF of alarms acted on (R348). -/
  alarms : List (Nat × Nat) := []
  /-- CLEVEL has stayed below 4 since the epoch, applied at a clock, and event 0x0806 has not been raised (R343). -/
  readyTimer : Bool := false
  epochClock : Nat := 0
  deriving DecidableEq, Repr

/-! ### DRAM (17) -/

/-- STATE of a channel (R375). -/
inductive ChanState where
  | off | service | training | recovery | retired
  deriving DecidableEq, Repr

/-- One channel beyond its registers. -/
structure Channel where
  state : ChanState := .off
  /-- The clock of the last entry to RECOVERY (R369). -/
  recovering : Nat := 0
  att : BitVec 2 := 0
  rcause : BitVec 2 := 0
  xcause : BitVec 2 := 0
  slots : BitVec 16 := 0
  /-- Commands in the retry buffer at the last alert (R364). -/
  retry : BitVec 7 := 0
  /-- 0 no alert, 1 ALERT_n low, 2 reissuing (R364). -/
  alert : BitVec 2 := 0
  /-- In its retraining slot, and whether a RETRAIN or a parity escalation waits for the slot's end (R368, R373, R457). -/
  inSlot : Bool := false
  retrainAfter : Bool := false
  parityAfter : Bool := false
  /-- The DRAM devices report a temperature above 85 °C, which halves the refresh interval (R356). -/
  hot : Bool := false
  /-- Beats corrected in the second in progress (R362). -/
  second : Nat := 0
  /-- The number of the last training, 0 before any; then the read and write delay of each lane, and the reference voltage
  code of each device, where they have been moved since (R376). -/
  training : Nat := 0
  settings : Store (BitVec 6 × BitVec 6) := []
  vrefs : Store (BitVec 7) := []
  /-- Errors by lane in the last helper run, and its first failing beat and burst (R365). -/
  trnErrs : Store (BitVec 16) := []
  trnFirst : Option (BitVec 4 × BitVec 7) := none
  deriving DecidableEq, Repr

/-! ### Local services (18, 19) -/

/-- The TW0 target's transaction (R381 to R385).
Log entry 67: DEDUCED, unsafe. -/
structure Tw0 where
  address : BitVec 3 := 0
  awake : Bool := true
  waking : Bool := false
  pointer : BitVec 16 := 0
  /-- 0 idle, 1 pointer high due, 2 pointer low due, 3 write data, 4 read. -/
  phase : Fin 5 := 0
  high : Byte := 0
  word : List Byte := []
  latch : Option (BitVec 16 × Word) := none
  page : Option (BitVec 11) := none
  nacked : Bool := false
  deriving DecidableEq, Repr

/-- One controller port (R386 to R390). -/
structure TwPort where
  /-- Transfer sets pending, in the order of their GO writes. -/
  pending : List (Fin 2) := []
  busBusy : Bool := false
  target : Bool := false
  hung : Bool := false
  rxLen : Nat := 0
  deriving DecidableEq, Repr

/-- One service DMA channel: running, the origin of its GO, bytes moved, and the bytes after which a STOP ends it. -/
structure SdmaChan where
  stop : Option Nat := none
  busy : Bool := false
  done : Bool := false
  landed : Bool := false
  code : BitVec 4 := 0
  origin : Origin := .bar0
  moved : Nat := 0
  deriving DecidableEq, Repr

/-! ### Power, boot and the mark log (20, 21, 22, 23) -/

/-- PSTATE (R409). -/
inductive PState where
  | keep | reset | boot | run | d3 | park | trip
  deriving DecidableEq, Repr

/-- Supplies and power states. -/
structure Power where
  pstate : PState := .boot
  onBack : Bool := false
  backOk : Bool := false
  mainOk : Bool := false
  warn : Bool := false
  tripped : Bool := false
  /-- The function is in D3hot (R410, R412). -/
  d3hot : Bool := false
  /-- Island switches during the gap, and the clock of its start (R403, R408). -/
  gapSwitches : Nat := 0
  gapClock : Nat := 0
  /-- The return flag, and the ports whose first frame since the return has carried cause 1 (R150, R404). -/
  returned : Bool := false
  returnDone : List Nat := []
  /-- STATE of the recall store when its content was lost in the gap (R244). -/
  gapRecall : Nat := 0
  /-- The keep-alive island has a supply; the next power-on reset follows a cold start; power-on reset is in force (R402). -/
  supplied : Bool := true
  cold : Bool := false
  por : Bool := false
  /-- PERST_N is held asserted. -/
  perst : Bool := false
  tj : BitVec 16 := 0
  /-- The device has been sampled since reset, and PWR_MON shows what was measured (R11). -/
  monitored : Bool := false
  deriving DecidableEq, Repr

/-- The fuses (R426).
Log entry 15: DESIGN CHOICE, safe. -/
structure Fuses where
  keys : Store (BitVec 384) := []
  programmed : BitVec 4 := 0
  revoked : BitVec 4 := 0
  svn : Nat := 0
  deriving DecidableEq, Repr

/-- Boot (R422, R429, R434, R436). -/
structure Boot where
  /-- 0 open, 1 closed, 2 failed. -/
  win : BitVec 2 := 0
  cause : BitVec 3 := 0
  slot : Bool := false
  resA : BitVec 4 := 0
  resB : BitVec 4 := 0
  /-- The image passed, and DRAM is trained: LOCK may be written. -/
  ready : Bool := false
  image : BitVec 8 := 0
  rstCause : BitVec 3 := 5
  rstTrip : Bool := false
  ms : BitVec 16 := 0
  version : Word := 0
  floor : Word := 0
  deriving DecidableEq, Repr

/-- One mark as held (R437). -/
structure Mark where
  time : BitVec 128
  seq : Word
  who : Word
  old : Word
  new : Word
  deriving DecidableEq, Repr

/-- The mirror ring (R446 to R448). -/
structure Mirror where
  pd : Word := 0
  ch : Word := 0
  /-- SEQ of the next mark to mirror. -/
  next : Word := 0
  deriving DecidableEq, Repr

/-! ### What leaves the device -/

/-- Attributes of a request to host memory made for a ring (R249, R272, R290, R293). -/
structure HostAttr where
  relaxed : Bool := false
  noSnoop : Bool := false
  idOrdered : Bool := false
  pasid : Option (BitVec 20) := none
  translated : Bool := false
  deriving DecidableEq, Repr

/-- One thing the device sends or answers, newest first in `State.out`. -/
inductive Emission where
  /-- Data of a register or doorbell read. -/
  | readData (a : Accessor) (off : Nat) (v : Word)
  | bar2Data (d slot word : Nat) (v : Word)
  /-- A back-channel packet on a lane (R94, R98). -/
  | backChannel (lane : Nat) (bytes : List Byte)
  /-- The back-channel of a lane carries K28.5, or falls silent (R90, R112). -/
  | backIdle (lane : Nat) (on : Bool)
  /-- A write to host memory made for a ring (0x400 the management queue, 0x401 the mirror). -/
  | hostWrite (ring addr : Nat) (bytes : List Byte) (attr : HostAttr)
  /-- A read of host memory made for a ring. -/
  | hostRead (ring addr len : Nat) (attr : HostAttr)
  | msix (vector : Nat)
  | translationRequest (pv : Bool) (pasid : BitVec 20) (page : Nat)
  | pageRequest (prg : Nat) (pv : Bool) (pasid : BitVec 20) (page : Nat) (write : Bool)
  | invalidateDone (tag : Nat)
  | configStatus (retry : Bool)
  /-- What a configuration read returns (R246, R248). -/
  | configData (r : ConfigItem) (v : Word)
  /-- A PTM request, with TB3 as it leaves (R44). -/
  | ptmRequest (stamp : BitVec 128)
  | aer (code : Nat)
  | ethPdu (s : Nat) (h : EthHead) (p : Pdu)
  /-- A gPTP message with its Ethernet addresses (R310, R321). -/
  | gptp (s : Nat) (dst src : BitVec 48) (kind : GptpKind) (body : List Byte) (stamp : BitVec 128)
  /-- The receive stamp of a gPTP event message, and whether it is of the domain of the instance of R322 (R321). -/
  | gptpStamp (s : Nat) (domain : Bool) (stamp : BitVec 128)
  | chainPacket (x : Nat) (bytes : List Byte)
  | refresh (n bank : Nat)
  | twAck (ack : Bool)
  | twByte (b : Byte)
  | twTransfer (n : Nat) (bytes : List Byte)
  deriving DecidableEq, Repr

/-! ### The whole machine -/

/-- The state of the block: its own state, what has left it, and the commands that wait.
Log entry 5: DESIGN CHOICE, unsafe. -/
structure State where
  /-- Commands waiting, first in, first out. -/
  pending : List Instr := []
  /-- Time clocks since the island had power (R31). -/
  clock : Nat := 0
  regs : Store Word := []
  latches : List (Accessor × Nat × Word) := []
  tb0 : TimeBase := {}
  tb1 : TimeBase := {}
  tb2 : TimeBase := { errb := false }
  tb3 : TimeBase := {}
  ptm : PtmStamps := {}
  edges : Store EdgeIn := []
  tick : TickUnit := {}
  trays : Store Tray := []
  lanes : Store Lane := []
  ports : Store Port := []
  mills : Store Mill := []
  /-- Back-channel packets that wait for the trigger at the edge, oldest first, each with its lane (R57, R94). -/
  backWait : List (Nat × List Byte) := []
  funnels : Store (List FunItem) := []
  walls : Store Wall := []
  rcl : Recall := {}
  rings : Store Ring := []
  /-- Records offered so far, for the order of R286. -/
  offered : Nat := 0
  /-- The ring whose unit the write engine transfers (R286). -/
  engine : Option Nat := none
  xcache : List XEntry := []
  prqs : List PageReq := []
  /-- Translation Requests sent and not yet completed, with the rings that wait for them. -/
  lookups : List PageReq := []
  invals : List Invalidation := []
  atsOn : Bool := false
  priOn : Bool := false
  relaxedOn : Bool := true
  priStop : Bool := false
  pci : PciConfig := {}
  queues : Store EvQueue := []
  /-- Events held in the island for the management queue, in the order raised (R492). -/
  held : List EventRec := []
  splits : Store SplitPort := []
  streams : Store Stream := []
  /-- logMessageInterval of the last valid Sync (R39). -/
  syncLog : Option Int := none
  chain : Chain := {}
  cports : Store ChainPort := []
  /-- DRAM: data bytes by physical address (channel × 2³³ + L), and the bits of a stored beat that differ from its
  codeword, by beat (R357, R358). -/
  dram : List Host.Cell := []
  upsets : Store (BitVec 80) := []
  chans : Store Channel := []
  /-- The list ACTIVE in force (R351), and the channel last served by a retraining slot (R368). -/
  active : List Nat := []
  lastSlot : Option Nat := none
  reduced : Bool := false
  tw0 : Tw0 := {}
  twPorts : Store TwPort := []
  sdma : Store SdmaChan := []
  power : Power := {}
  fuses : Fuses := {}
  boot : Boot := {}
  /-- The last 4,096 marks, newest first, and the next SEQ (R441). -/
  marks : List Mark := []
  markSeq : Word := 0
  /-- MARK_RD_SEQ has been written (R445). -/
  markSelected : Bool := false
  mirror : Mirror := {}
  /-- The data plane is stopped by a fatal internal error (R452). -/
  fatal : Bool := false
  /-- ERR_STATUS bits 7:0 as last reported (R454). -/
  service : BitVec 8 := 8
  /-- The model's own: the events that the command in execution has raised; empty between commands. -/
  raised : List EventRec := []
  /-- The model's own: how many free values have been drawn (log entry 16, DESIGN CHOICE). -/
  free : Nat := 0
  /-- The model's own: what has left the device, newest first. -/
  out : List Emission := []
  deriving DecidableEq, Repr

/-- The machine at the end of the power-on reset that follows a cold start: the island is empty, every tray and
register holds its reset value and the boot window is open (R34, R402, R419, R436).
Log entry 4: DEDUCED, unsafe. -/
def State.reset : State := {}

end Sys2Proof.Machine
end

