-- ==== Sys2Proof/Machine/Store.lean ====
section
/-!
DEFINITION. The operations over a `Store`: reading, writing in the one canonical form, and removing a range.
The canonical form: indexes rise strictly and no entry equals what an unlisted index reads as, so that equal contents
are equal lists. DRAM (`Host.Cell` lists), registers, trays and every per-unit state use these same operations.
-/
namespace Sys2Proof

/-- What index `k` holds, where an unlisted index holds `d`. -/
def Store.get {α : Type} (d : α) : Store α → Nat → α
  | [], _ => d
  | (j, v) :: m, k => if j = k then v else Store.get d m k

/-- Lists `v` at `k`, in its place. -/
def Store.insert {α : Type} (k : Nat) (v : α) : Store α → Store α
  | [] => [(k, v)]
  | (j, w) :: m =>
    if j = k then (k, v) :: m
    else if k < j then (k, v) :: (j, w) :: m
    else (j, w) :: Store.insert k v m

/-- Unlists `k`. -/
def Store.erase {α : Type} (k : Nat) : Store α → Store α
  | [] => []
  | (j, w) :: m => if j = k then Store.erase k m else (j, w) :: Store.erase k m

/-- Writes `v` at `k`. Writing the default unlists the index, so the form stays canonical. -/
def Store.put {α : Type} [DecidableEq α] (d : α) (m : Store α) (k : Nat) (v : α) : Store α :=
  if v = d then Store.erase k m else Store.insert k v m

/-- Changes what `k` holds by `f`. -/
def Store.modify {α : Type} [DecidableEq α] (d : α) (m : Store α) (k : Nat) (f : α → α) : Store α :=
  Store.put d m k (f (Store.get d m k))

/-- The store with every index of `[lo, hi)` unlisted. -/
def Store.clear {α : Type} (m : Store α) (lo hi : Nat) : Store α :=
  m.filter fun e => e.1 < lo || hi ≤ e.1

/-- Whether indexes rise strictly from `lo` on. -/
def Store.sortedFrom {α : Type} (lo : Nat) : Store α → Bool
  | [] => true
  | (j, _) :: m => decide (lo ≤ j) && Store.sortedFrom (j + 1) m

/-- The canonical form under the default `d`. -/
def Store.wf {α : Type} [DecidableEq α] (d : α) (m : Store α) : Bool :=
  Store.sortedFrom 0 m && m.all fun e => decide (e.2 ≠ d)

/-- Memory is a store of bytes whose unlisted bytes read 0. -/
abbrev Memory := Store Byte

/-- The memory's canonical form. -/
abbrev Memory.wf (m : Memory) : Bool := Store.wf 0 m

/-- One byte of memory.
Log entry 6: DEDUCED, unsafe. -/
def Memory.read (m : Memory) (a : Nat) : Byte := Store.get 0 m a

/-- Writes one byte. -/
def Memory.write (m : Memory) (a : Nat) (b : Byte) : Memory := Store.put 0 m a b

/-- Writes bytes at rising addresses from `a`. -/
def Memory.writeBytes (m : Memory) (a : Nat) : List Byte → Memory
  | [] => m
  | b :: bs => Memory.writeBytes (m.write a b) (a + 1) bs

/-- `n` bytes from `a` on. -/
def Memory.readBytes (m : Memory) (a : Nat) : Nat → List Byte
  | 0 => []
  | n + 1 => m.read a :: Memory.readBytes m (a + 1) n

end Sys2Proof
end

