-- ==== Sys2Proof/Machine/Ops.lean ====
section
/-!
DEFINITION. The operations that every meaning shares: registers and per-unit records, the four time bases and their
stamps (R31 to R40), marks (R437 to R444), raising events (R296), what leaves the device, and the protection set-up's
answers (R249, R250, R432).
-/
namespace Sys2Proof.Machine

/-! ### Registers -/

/-- The stored value of a register. -/
def State.reg (s : State) (n : RegName) (i : Nat := 0) (j : Nat := 0) : Word :=
  Store.get (RegAt.reset ⟨n, i, j⟩) s.regs (n.off i j)

/-- Stores a value in a register. -/
def State.setReg (s : State) (n : RegName) (i j : Nat) (v : Word) : State :=
  { s with regs := Store.put (RegAt.reset ⟨n, i, j⟩) s.regs (n.off i j) v }

/-- A field of a register as a number. -/
def State.field (s : State) (n : RegName) (i j lo w : Nat) : Nat := bitsOf (s.reg n i j) lo w

/-- A one-bit field. -/
def State.flag (s : State) (n : RegName) (i j b : Nat) : Bool := bitOf (s.reg n i j) b

/-- Replaces one field of a register. -/
def State.setField (s : State) (n : RegName) (i j lo w x : Nat) : State :=
  s.setReg n i j (setBits (s.reg n i j) lo w x)

/-- Adds to a counter, which saturates at 0xFFFF_FFFF. -/
def State.bump (s : State) (n : RegName) (i : Nat := 0) (j : Nat := 0) (k : Nat := 1) : State :=
  s.setReg n i j (satAdd (s.reg n i j) k)

/-! ### Records of the units -/

def State.lane (s : State) (l : Nat) : Lane := Store.get {} s.lanes l
def State.setLane (s : State) (l : Nat) (x : Lane) : State := { s with lanes := Store.put {} s.lanes l x }
/-- Port i = 8 × l + k. -/
def State.port (s : State) (i : Nat) : Port := Store.get {} s.ports i
def State.setPort (s : State) (i : Nat) (x : Port) : State := { s with ports := Store.put {} s.ports i x }
def State.mill (s : State) (m : Nat) : Mill := Store.get {} s.mills m
def State.setMill (s : State) (m : Nat) (x : Mill) : State := { s with mills := Store.put {} s.mills m x }
/-- Funnel j = 8 × m + f (05). -/
def State.funnel (s : State) (j : Nat) : List FunItem := Store.get [] s.funnels j
def State.setFunnel (s : State) (j : Nat) (x : List FunItem) : State :=
  { s with funnels := Store.put [] s.funnels j x }
def State.wall (s : State) (w : Nat) : Wall := Store.get {} s.walls w
def State.setWall (s : State) (w : Nat) (x : Wall) : State := { s with walls := Store.put {} s.walls w x }
def State.ring (s : State) (r : Nat) : Ring := Store.get {} s.rings r
def State.setRing (s : State) (r : Nat) (x : Ring) : State := { s with rings := Store.put {} s.rings r x }
def State.queue (s : State) (q : Nat) : EvQueue := Store.get {} s.queues q
def State.setQueue (s : State) (q : Nat) (x : EvQueue) : State := { s with queues := Store.put {} s.queues q x }
def State.tray (s : State) (t : Nat) : Tray := Store.get {} s.trays t
def State.setTray (s : State) (t : Nat) (x : Tray) : State := { s with trays := Store.put {} s.trays t x }
def State.edge (s : State) (e : Nat) : EdgeIn := Store.get {} s.edges e
def State.setEdge (s : State) (e : Nat) (x : EdgeIn) : State := { s with edges := Store.put {} s.edges e x }
def State.split (s : State) (p : Nat) : SplitPort := Store.get {} s.splits p
def State.setSplit (s : State) (p : Nat) (x : SplitPort) : State := { s with splits := Store.put {} s.splits p x }
def State.stream (s : State) (n : Nat) : Stream := Store.get {} s.streams n
def State.setStream (s : State) (n : Nat) (x : Stream) : State := { s with streams := Store.put {} s.streams n x }
def State.cport (s : State) (x : Nat) : ChainPort := Store.get {} s.cports x
def State.setCport (s : State) (x : Nat) (p : ChainPort) : State := { s with cports := Store.put {} s.cports x p }
def State.chan (s : State) (n : Nat) : Channel := Store.get {} s.chans n
def State.setChan (s : State) (n : Nat) (x : Channel) : State := { s with chans := Store.put {} s.chans n x }
def State.twPort (s : State) (n : Nat) : TwPort := Store.get {} s.twPorts n
def State.setTwPort (s : State) (n : Nat) (x : TwPort) : State := { s with twPorts := Store.put {} s.twPorts n x }
def State.sdmaChan (s : State) (c : Nat) : SdmaChan := Store.get {} s.sdma c
def State.setSdma (s : State) (c : Nat) (x : SdmaChan) : State := { s with sdma := Store.put {} s.sdma c x }

/-! ### Time bases -/

/-- Units of `TimeBase.acc` in one subns.
Log entry 31: DEDUCED, unsafe. -/
def subnsUnits : Nat := 5 * 2 ^ 40

/-- Units in one nanosecond. -/
def nsUnits : Nat := 65536 * subnsUnits

/-- What a base gains at each time clock before any correction: 0.8 ns (R31). -/
def nominal : Nat := 262144 * 2 ^ 40

def State.base (s : State) (b : Nat) : TimeBase :=
  match b % 4 with
  | 0 => s.tb0
  | 1 => s.tb1
  | 2 => s.tb2
  | _ => s.tb3

def State.setBase (s : State) (b : Nat) (t : TimeBase) : State :=
  match b % 4 with
  | 0 => { s with tb0 := t }
  | 1 => { s with tb1 := t }
  | 2 => { s with tb2 := t }
  | _ => { s with tb3 := t }

/-- SLEW_MAX as it acts, in ppm (R50). -/
def State.slewMax (s : State) (b : Nat) : Nat := min 1000 (max 1 (s.field .timeCfg b 0 16 10))

/-- The temporary rate that removes fo, clamped (R35, R493). A step that R38 forbids is slewed at this same rate, and a base that
falls back to FREE takes no slew.
Log entries 31: DEDUCED, unsafe; 99: DEDUCED, unsafe. -/
def slewOf (t : TimeBase) (slewMax : Nat) : Int :=
  match t.state with
  | .acquiring | .locked =>
    let lim : Int := 262144 * 2 ^ 40 * slewMax / 1000000
    max (-lim) (min lim (quot (t.fo * 2 ^ 40) t.interval))
  | _ => 0

/-- What base b gains at each time clock, in units (R31, R493). TB2 takes no correction (R35), and a main-rail gap leaves
each base its held adjustment alone (R41).
Log entry 31: DEDUCED, unsafe. -/
def State.rate (s : State) (b : Nat) : Nat :=
  let t := s.base b
  if b = 2 then nominal
  else if s.power.pstate = .keep then (Int.ofNat nominal + 262144 * t.fr).toNat
  else (Int.ofNat nominal + 262144 * t.fr + slewOf t (s.slewMax b)).toNat

/-- One base after n time clocks: its value, and outside LOCKED the growth of its error estimate at `ppb` (R40). A gap
counts as time outside LOCKED (R41, R408). -/
def TimeBase.advance (t : TimeBase) (rate ppb n : Nat) (gap : Bool := false) : TimeBase :=
  { t with acc := t.acc + n * rate, growth := if t.state = .locked && !gap then t.growth else t.growth + n * ppb }

/-- n time clocks pass.
Log entry 2: DESIGN CHOICE, unsafe. -/
def State.elapse (s : State) (n : Nat) : State :=
  let gap : Bool := s.power.pstate = .keep
  let ppb := if gap then 5000 else s.field .timeHoldPpb 0 0 0 20
  { s with
    clock := s.clock + n
    tb0 := s.tb0.advance (s.rate 0) ppb n gap
    tb1 := s.tb1.advance (s.rate 1) ppb n gap
    tb2 := s.tb2.advance (s.rate 2) ppb n gap
    tb3 := s.tb3.advance (s.rate 3) ppb n gap }

/-- The base's value in whole nanoseconds. -/
def TimeBase.ns (t : TimeBase) : Nat := t.acc / nsUnits

/-- The base's value in subns. -/
def TimeBase.subns (t : TimeBase) : Nat := t.acc / subnsUnits

def BaseState.code : BaseState → Nat
  | .free => 0
  | .acquiring => 1
  | .locked => 2
  | .holdover => 3

/-- TAG: bits 15:0 of TIME_STATUS (R32, R51). -/
def TimeBase.tag (t : TimeBase) (b : Nat) : Nat :=
  b + 4 * t.state.code + 16 * bit t.gap + 32 * bit t.errb + 256 * t.epoch.toNat

/-- The time value of a count of subns with a TAG, 16 bytes (R32). -/
def timeValue (sub tag : Nat) : BitVec 128 :=
  let ns := sub / 65536
  BitVec.ofNat 128 (sub % 65536 + 2 ^ 16 * (ns % 1000000000) + 2 ^ 48 * (tag % 65536)
    + 2 ^ 64 * (ns / 1000000000))

/-- The time value of base b now. -/
def State.stamp (s : State) (b : Nat := 1) : BitVec 128 :=
  timeValue (s.base b).subns ((s.base b).tag b)

/-- SEC, NS and SUBNS of a time value, as a count of subns. -/
def stampSubns (v : BitVec 128) : Nat :=
  v.toNat % 2 ^ 16 + 65536 * (v.toNat / 2 ^ 16 % 2 ^ 32 + 1000000000 * (v.toNat / 2 ^ 64))

/-- |fo| rounded up to whole ns (R493). -/
def TimeBase.foNs (t : TimeBase) : Nat := ceilDiv t.fo.natAbs 65536

/-- ERR_NS of a base (R38 table, R40, R42): `src` is what the source adds while LOCKED.
Log entry 30: DEDUCED, unsafe. -/
def TimeBase.errNs (t : TimeBase) (b src : Nat) : Nat :=
  if b = 2 then 0
  else match t.state with
    | .free | .acquiring => 0xFFFFFFFF
    | .locked => min 0xFFFFFFFF (src + t.foNs)
    | .holdover => min 0xFFFFFFFF (t.errLocked + ceilDiv (t.growth * 4) 5000000000)

/-- The base that TB1 follows under R42 when it does not follow the chain, or none.
Log entry 85: DEDUCED, unsafe. -/
def State.followed (s : State) : Option Nat :=
  match s.field .timeCfg 1 0 4 2 with
  | 0 => some 0
  | 2 => some 2
  | 3 => some 3
  | _ => none

/-- ERR_NS of base b as it stands: TB1 adds what its source shows, the base it follows (R42) or the sender of chain time
(R338); the other bases show their own filtered offset alone (R493).
Log entry 30: DEDUCED, unsafe. -/
def State.errNs (s : State) (b : Nat) : Nat :=
  let t := s.base b
  if b ≠ 1 then t.errNs b 0
  else if s.chain.role = 2 then t.errNs 1 t.srcErr
  else match s.followed with
    | some f => t.errNs 1 ((s.base f).errNs f 0)
    | none => t.errNs 1 0

/-! ### What leaves the device, marks and events -/

def State.emit (s : State) (e : Emission) : State := { s with out := e :: s.out }

/-- The origin codes (R438). -/
def originCode : Origin → Nat
  | .power => 0
  | .boot => 1
  | .mgmt => 2
  | .auto => 3
  | .bar0 => 4
  | .tw0 => 5
  | .domain d => 16 + d.val
  | .peer a => 32 + a.val

/-- Keeps the latest 4,096 marks (R441). -/
def keepMarks (ms : List Mark) : List Mark := ms.take 4096

/-- Appends one mark (R437, R441). -/
def State.mark (s : State) (o : Origin) (kind target : Nat) (old new : Word) (refused : Bool := false) : State :=
  { s with
    marks := keepMarks ({ time := s.stamp, seq := s.markSeq, who := BitVec.ofNat 32 (target + kind * 2 ^ 23
      + bit refused * 2 ^ 25 + originCode o * 2 ^ 26), old := old, new := new } :: s.marks)
    markSeq := s.markSeq + 1 }

/-- An action mark (R442). -/
def State.action (s : State) (o : Origin) (code : Nat) (old new : Nat) : State :=
  s.mark o 3 code (BitVec.ofNat 32 old) (BitVec.ofNat 32 new)

/-- A mark of a register write: its offset's bits 22:2 (R437). -/
def State.markReg (s : State) (o : Origin) (off : Nat) (old new : Word) (refused : Bool := false) : State :=
  s.mark o 0 (off / 4 % 2 ^ 21) old new refused

/-- A payload from fields, each of so many bytes, little-endian (R3). -/
def payload (fs : List (Nat × Nat)) : BitVec 64 := BitVec.ofNat 64 (ofLe (fs.flatMap fun f => leBytes f.1 f.2))

/-- Raises an event; it is offered to its queues at the end of the command (`settle`).
Log entry 3: DEDUCED, unsafe. -/
def State.raise (s : State) (type : Nat) (fs : List (Nat × Nat)) (time : Option (BitVec 128) := none) : State :=
  { s with raised := s.raised ++ [{ type := BitVec.ofNat 16 type, time := time.getD s.stamp, payload := payload fs }] }

/-- A later clock of the same command begins: what has been raised comes before what follows (R300). -/
def State.nextClock (s : State) : State := { s with raised := s.raised.map fun e => { e with age := e.age + 1 } }

/-- The TB1 stamp `ahead` clocks from now. -/
def State.stampAhead (s : State) (ahead : Nat) : BitVec 128 :=
  timeValue ((s.tb1.acc + ahead * s.rate 1) / subnsUnits) (s.tb1.tag 1)

/-- What happens `ahead` clocks into a command that spans clocks: events raised then carry TB1 of that clock (R44), and those of
an earlier clock, `last`, come before them (R300). -/
def State.later (s : State) (last ahead : Nat) (f : State → State) : State :=
  let s := f (if last = ahead then s else s.nextClock)
  { s with raised := s.raised.map fun e => if e.age = 0 then { e with time := s.stampAhead ahead } else e }

/-- The marks made since SEQ stood at `seq` show TB1 as the clock leaves it: a step takes effect for every sample of its
clock (R36), and TIME is the same for all marks of one clock (R444). -/
def State.restamp (s : State) (seq : Word) : State :=
  let n := (s.markSeq - seq).toNat
  { s with marks := (s.marks.take n).map (fun m => { m with time := s.stamp }) ++ s.marks.drop n }

/-- Draws a value that the manual leaves open.
Log entries 16: DESIGN CHOICE, safe; 57: DEDUCED, safe. -/
def State.draw (s : State) : BitVec 64 × State := (Config.freeWord s.free, { s with free := s.free + 1 })

/-! ### Addresses and names -/

/-- The chain address in force at a tick; 0 for a device that is standalone or isolated (R24). -/
def State.devAt (s : State) (tick : Nat) : Nat :=
  match s.chain.addrs.find? (·.1 ≤ tick) with
  | some e => e.2.toNat
  | none => 0

/-- N, the tick number (R54). -/
def State.now (s : State) : Nat := s.tick.num.toNat

/-- The port address of port i = 8 × m + k at a tick (R22). -/
def State.portAddrAt (s : State) (i tick : Nat) : Nat := s.devAt tick * 2048 + i * 4

/-- The port address of port i now. -/
def State.portAddr (s : State) (i : Nat) : Nat := s.portAddrAt i s.now

/-! ### The protection set-up -/

/-- The domain a ring is bound to (R249). -/
def State.ringDomain (s : State) (r : Nat) : Option Nat :=
  let v := s.reg .protRing r
  if bitOf v 10 then some (bitsOf v 0 4) else none

/-- The ring bound to slot `slot` of domain d, whatever its state.
Log entry 41: DEDUCED, unsafe. -/
def State.slotRings (s : State) (d slot : Nat) : List Nat :=
  s.regs.filterMap fun e =>
    if RegName.protRing.off ≤ e.1 && e.1 < RegName.protRing.off 1024 && bitOf e.2 10 && bitsOf e.2 0 4 = d
      && bitsOf e.2 4 6 = slot then some ((e.1 - RegName.protRing.off) / 4)
    else none

/-- Whether domain d has freeze permission (R250). -/
def State.domFreeze (s : State) (d : Nat) : Bool := s.flag .protFlags d 0 0

/-- Whether domain d may touch port i (R250). -/
def State.domPort (s : State) (d i : Nat) : Bool := s.flag .protPort d (i / 32) (i % 32)

/-- Whether domain d may touch wall w. -/
def State.domWall (s : State) (d w : Nat) : Bool := s.flag .protWall d (w / 32) (w % 32)

/-- Whether PASID p is one of domain d's (R254). -/
def State.domPasid (s : State) (d p : Nat) : Bool :=
  (List.range 4).any fun j => s.flag .protPasid d j 31 && s.field .protPasid d j 0 20 = p

/-- Whether domain d may touch a tray: every port of its mill for a mill tray (R250). -/
def State.domTray (s : State) (d t : Nat) : Bool :=
  if t < 512 then s.domPort d t
  else if t < 576 then (List.range 8).all fun k => s.domPort d (8 * (t - 512) + k)
  else s.domWall d (t - 576)

/-- Whether the bytes of [addr, addr + len) lie in one enabled window of domain d (R432). -/
def State.inWindow (s : State) (d addr len : Nat) (write : Bool) : Bool :=
  (List.range 8).any fun k =>
    let lo := s.reg .protBaseLo d k
    let base := bitsOf lo 12 20 * 4096 + (s.reg .protBaseHi d k).toNat * 2 ^ 32
    let lim := bitsOf (s.reg .protLimLo d k) 12 20 * 4096 + (s.reg .protLimHi d k).toNat * 2 ^ 32
    bitOf lo 0 && (!write || bitOf lo 1) && base ≤ addr && addr + len ≤ lim + 4096

/-! ### What runs -/

/-- Mills, links, Ethernet and chain are stopped or powered down: after a fatal internal error (R452), and in every power
state but RUN and D3 (R409, R416).
Log entries 55: DEDUCED, unsafe; 66: DEDUCED, unsafe. -/
def State.dark (s : State) : Bool := s.fatal || (s.power.pstate ≠ .run && s.power.pstate ≠ .d3)

/-- DRAM is in self-refresh: in PARK and in TRIP (R411, R416). -/
def State.selfRefresh (s : State) : Bool := s.power.pstate = .park || s.power.pstate = .trip

/-- Every frame that is open or still in work has run while admission was shedding (R198). -/
def State.markShed (s : State) : State :=
  { s with ports := s.ports.map fun e =>
      (e.1, { e.2 with frames := e.2.frames.map fun f => if f.processed then f else { f with shed := true } }) }

/-- The effective size of the recall store, in units of 16 MiB (R238). -/
def State.recallSize (s : State) : Nat :=
  let n := s.field .wallRclSize 0 0 0 13
  match s.rcl.shrunk with
  | some k => min k n
  | none => n

/-! ### Service flags -/

/-- ERR_STATUS bits 7:0 (R454, R459, R372). -/
def State.serviceNow (s : State) : BitVec 8 :=
  BitVec.ofNat 8 (bit (s.tick.shed || s.reduced) + 2 * bit s.reduced + 4 * bit (s.chain.role = 3)
    + 8 * bit s.tb1.errb + 16 * bit s.power.tripped)

/-- Channels in RETIRED. -/
def State.retired (s : State) : Nat := ((List.range 16).filter fun n => (s.chan n).state = .retired).length

end Sys2Proof.Machine
end

