-- ==== Sys2Proof/Machine/ChainOps.lean ====
section
/-!
DEFINITION. What the chain's packets hold (R327, R328), the device's levels (R342) and the positions along the chain
(R335): shared by the recall store, the walls and the chain's own commands.
-/
namespace Sys2Proof.Machine

/-- Bytes of a 128-bit or wider number, little-endian. -/
def bytesOf {w : Nat} (n : Nat) (v : BitVec w) : List Byte := leBytes n v.toNat

/-- ORIG of packets that this device sends: its chain address, or 0xFF when it has none (R327). -/
def State.orig (s : State) : Nat := if s.chain.role = 1 || s.chain.role = 2 then s.chain.addr.toNat else 0xFF

/-- One chain packet: header, payload and CRC-32 (R327). -/
def chainBytes (type hop orig flags tick : Nat) (body : List Byte) : List Byte :=
  let p := [BitVec.ofNat 8 type, BitVec.ofNat 8 hop, BitVec.ofNat 8 orig, BitVec.ofNat 8 flags]
    ++ leBytes 4 body.length ++ leBytes 8 tick ++ body
  p ++ bytesOf 4 (crc32 p)

/-- Sends one chain packet on port x. A fatal internal error stops chain output (R452). -/
def State.sendChain (s : State) (x type hop orig flags tick : Nat) (body : List Byte) : State :=
  if s.dark then s else s.emit (.chainPacket x (chainBytes type hop orig flags tick body))

/-- LEVEL of the device (R342). -/
def State.level (s : State) : Nat :=
  if !(s.cport 0).linked && !(s.cport 1).linked then 0
  else if s.chain.role ≠ 1 && s.chain.role ≠ 2 then 1
  else if !s.chain.timed then 2
  else if !s.flag .chnCfg 0 0 2 then 3 else 4

/-- DLEVEL of the HELLO last received on a port, 7 where none counts (R328, R334). -/
def ChainPort.dlevel (p : ChainPort) : Nat := if p.peer && !p.blocked then p.hello.toNat / 2 ^ 72 % 256 else 7

/-- Whether the device is the keystone, or has started the epoch with which it becomes it (R329, R332). -/
def State.isKey (s : State) : Bool := s.chain.role = 1 || (s.chain.applyAt.isSome && s.chain.told.role = 1)

/-- CLEVEL: the keystone's own (R342), or the level last received. -/
def State.clevel (s : State) : Nat :=
  if s.isKey then min s.level (min (s.cport 0).dlevel (s.cport 1).dlevel) else s.chain.clevel.toNat

/-- CLEVEL has reached 4: the wait for readiness is over (R343). -/
def State.noteReady (s : State) : State :=
  if s.clevel = 4 then { s with chain := { s.chain with readyTimer := false } } else s

/-- TB1 counts as timed once it has been LOCKED with ERRB = 0 since the role was taken (R342). -/
def State.noteTimed (s : State) : State :=
  if (s.chain.role = 1 || s.chain.role = 2) && s.tb1.state = .locked && !s.tb1.errb then
    { s with chain := { s.chain with timed := true } }.noteReady
  else s

/-- The position of a device on the chain (R335), from its address and NA. -/
def position (addr na : Nat) : Int := if addr ≤ na then addr else -((addr : Int) - na)

/-- The hop count between this device and address a (R335). -/
def State.hops (s : State) (a : Nat) : Nat :=
  (position a s.chain.na.toNat - position s.chain.addr.toNat s.chain.na.toNat).natAbs

end Sys2Proof.Machine
end

