-- ==== Sys2Proof/Machine/Host.lean ====
section
/-!
DEFINITION. Access to host memory: the translation cache and its lookups (R272 to R274), faults and page requests (R276
to R280), window checks (R249), halts (R253) and the writes a ring makes, in order (R257, R293, R294). Ring 0x400 is the
management queue and ring 0x401 the mirror ring (R297).
-/
namespace Sys2Proof.Machine

/-- The management queue and the mirror ring, as payloads name them. -/
def mqRing : Nat := 0x400
def mirrorRing : Nat := 0x401

/-- KIND of a ring: 0 command, 1 output, 2 replay, 3 event queue (R271). -/
def State.kind (s : State) (r : Nat) : Nat := if r < 1024 then s.field .ringCfg r 0 2 2 else 3

/-- LOG2S of a ring. -/
def State.log2s (s : State) (r : Nat) : Nat :=
  if r < 1024 then s.field .ringCfg r 0 4 5
  else if r = mqRing then s.field .evtMqCtl 0 0 1 5 else s.field .markMirCtl 0 0 1 5

/-- BASE of a ring. -/
def State.ringBase (s : State) (r : Nat) : Nat :=
  if r < 1024 then (s.reg .ringBaseLo r).toNat + (s.reg .ringBaseHi r).toNat * 2 ^ 32
  else if r = mqRing then (s.reg .evtMqBaseLo).toNat + (s.reg .evtMqBaseHi).toNat * 2 ^ 32
  else (s.reg .markMirBaseLo).toNat + (s.reg .markMirBaseHi).toNat * 2 ^ 32

/-- PV and PASID of a ring's requests. -/
def State.ringPasid (s : State) (r : Nat) : Bool × BitVec 20 :=
  let f := fun (v : Word) (lo pv : Nat) => (bitOf v pv, if bitOf v pv then BitVec.ofNat 20 (bitsOf v lo 20) else 0)
  if r < 1024 then f (s.reg .ringPasid r) 0 20
  else if r = mqRing then f (s.reg .evtMqCtl) 8 28 else f (s.reg .markMirCtl) 8 28

/-- C and P of a ring (R252). -/
def State.cons (s : State) (r : Nat) : Word := s.reg .ringCons r
def State.prod (s : State) (r : Nat) : Word := s.reg .ringProd r

/-- The address of the descriptor with count n (R252). -/
def State.entryAddr (s : State) (r : Nat) (n : Word) : Nat :=
  s.ringBase r + 64 * (n.toNat % 2 ^ s.log2s r)

/-! ### The translation cache -/

/-- Whether an entry holds the page under the key (R272). -/
def XEntry.holds (e : XEntry) (pv : Bool) (pasid : BitVec 20) (page : Nat) : Bool :=
  e.pv = pv && e.pasid = pasid && (if e.big then e.page / 512 = page / 512 else e.page = page)

/-- The set an entry lies in: page address bits 21:12, or bits 30:21 of a 2 MiB entry (R272). -/
def XEntry.set (e : XEntry) : Nat := if e.big then e.page / 512 % 1024 else e.page % 1024

/-- Puts an entry in the cache as the most recently used of its set; of a full set the least recently used leaves. -/
def cacheInsert (c : List XEntry) (e : XEntry) : List XEntry :=
  let same := c.filter fun x => x.set = e.set
  let c' := if same.length < 8 then c
    else match same.getLast? with
      | some old => c.erase old
      | none => c
  e :: c'

/-- Whether the device may issue PCIe requests: not in D3hot (R410), not after a fatal internal error (R452).
Log entry 45: DEDUCED, unsafe. -/
def State.busUp (s : State) : Bool := !s.power.d3hot && !s.fatal

/-- One lookup: the translated page, or none with a Translation Request outstanding. An entry without the permission the
access needs is no hit. -/
def State.lookup (s : State) (r page : Nat) (write : Bool) : Option Nat × State :=
  if !s.atsOn then (some page, s)
  else
    let k := s.ringPasid r
    match s.xcache.find? fun e => e.holds k.1 k.2 page && (if write then e.wr else e.rd) with
    | some e =>
      (some (if e.big then e.target + page % 512 else e.target),
        { s with xcache := e :: s.xcache.erase e }.bump .xlatHit)
    | none =>
      match s.lookups.find? fun q => q.pv = k.1 && q.pasid = k.2 && q.page = page && q.write = write with
      | some q =>
        (none, { s with lookups := s.lookups.map fun x => if x = q && !x.rings.contains r
          then { x with rings := x.rings ++ [r] } else x })
      | none =>
        (none, { s with lookups := s.lookups ++ [PageReq.mk 0 k.1 k.2 page write [r]] }.emit (.translationRequest k.1 k.2 page))

/-- Looks up every page of a unit before its first request (R279). -/
def State.lookupAll (s : State) (r : Nat) (write : Bool) : List Nat → Option (List Nat) × State
  | [] => (some [], s)
  | p :: ps =>
    let (t, s) := s.lookup r p write
    let (ts, s) := s.lookupAll r write ps
    (match t, ts with
      | some a, some as => some (a :: as)
      | _, _ => none, s)

/-- Whether a unit can be issued. -/
inductive Ready where
  | go (pages : List Nat)
  | wait
  | outside
  deriving DecidableEq, Repr

/-- The pages that [addr, addr + len) touches. -/
def pagesOf (addr len : Nat) : List Nat :=
  if len = 0 then [] else (List.range ((addr + len - 1) / 4096 - addr / 4096 + 1)).map (· + addr / 4096)

/-- The checks before a unit's first request: the domain's windows (R249), then its translations (R279). -/
def State.prepare (s : State) (r addr len : Nat) (write : Bool) : Ready × State :=
  let allowed := if r < 1024 then match s.ringDomain r with
      | some d => s.inWindow d addr len write
      | none => false
    else true
  if !s.busUp then (.wait, s)
  else if !allowed then (.outside, s)
  else match s.lookupAll r write (pagesOf addr len) with
    | (some ps, s) => (.go ps, s)
    | (none, s) => (.wait, s)

/-- The attributes of a ring's requests: No Snoop and ID-Based Ordering are 0 (R290), Relaxed Ordering only where Device Control
lets it (R293), and the ring's PASID (R249). -/
def State.hostAttr (s : State) (r : Nat) (relaxed : Bool) : HostAttr :=
  let k := s.ringPasid r
  { relaxed := relaxed && s.relaxedOn, pasid := if k.1 then some k.2 else none, translated := s.atsOn }

/-- Issues a write of bytes at `addr`, page by page, at the translated addresses (R272, R293). -/
def State.issue (s : State) (r addr : Nat) (bytes : List Byte) (relaxed : Bool) : List Nat → State
  | [] => s
  | p :: ps =>
    let n := 4096 - addr % 4096
    (s.emit (.hostWrite r (p * 4096 + addr % 4096) (bytes.take n) (s.hostAttr r relaxed))).issue r (addr + n)
      (bytes.drop n) relaxed ps

/-- The Max Read Request Size in bytes (R246).
Log entry 106: PRESUMED, unsafe. -/
def State.maxRead (s : State) : Nat := 128 * 2 ^ min 5 s.pci.maxRead.toNat

/-- Issues the reads of n bytes within one page, none longer than the Max Read Request Size (R246). -/
def State.readRun (s : State) (r addr : Nat) : Nat → Nat → State
  | 0, _ => s
  | _ + 1, 0 => s
  | f + 1, n + 1 =>
    let k := min s.maxRead (n + 1)
    (s.emit (.hostRead r addr k (s.hostAttr r false))).readRun r (addr + k) f (n + 1 - k)

/-- Issues a read of `len` bytes at `addr`, page by page, at the translated addresses (R272, R290). -/
def State.issueRead (s : State) (r addr len : Nat) : List Nat → State
  | [] => s
  | p :: ps =>
    let n := min len (4096 - addr % 4096)
    (s.readRun r (p * 4096 + addr % 4096) n n).issueRead r (addr + n) (len - n) ps

/-! ### What a ring waits on -/

/-- WHY (R295): a page request, a place for one, or pre-emption alone. -/
def Ring.why (x : Ring) : WaitWhy :=
  if x.waits.any fun w => !w.place then .pageRequest
  else if !x.waits.isEmpty then .place else if x.preempted then .preempted else .none

/-- PRG (R295): the page request group index on which it waits. -/
def Ring.prg (x : Ring) : Nat := ((x.waits.find? fun w => !w.place).map (·.prg)).getD 0

/-- Whether a ring may write what waits for it: in RUN, in DRAIN, and while it waits for pre-emption alone, once no page is
missing. -/
def Ring.mayWrite (x : Ring) : Bool :=
  x.waits.isEmpty && (x.state = .run || x.state = .drain || (x.state = .wait && x.preempted))

/-- The unit that a ring's front record writes next: its length. -/
def Ring.nextUnit (x : Ring) : Option Nat :=
  match x.records with
  | [] => none
  | y :: _ => y.units[x.unitsDone]?

/-- The pieces of host memory that n bytes fill from the ring's buffers on. -/
def piecesOf : List OutBuf → Nat → List (Nat × Nat)
  | _, 0 => []
  | [], _ + 1 => []
  | b :: bs, n + 1 =>
    if b.bad.isSome then piecesOf bs (n + 1)
    else
      let k := min (b.len - b.written) (n + 1)
      (b.addr + b.written, k) :: piecesOf bs (n + 1 - k)

/-- Whether the unit that the front record writes next touches a page: what a translation failure there strikes (R278). -/
def Ring.touches (x : Ring) (page : Nat) : Bool :=
  x.writes.isEmpty && (piecesOf x.bufs (x.nextUnit.getD 0)).any fun p => (pagesOf p.1 p.2).contains page

/-- The address of the indirect data of a descriptor, by its opcode (R260, R264, R269). -/
def indirectAddr (d : BitVec 512) : Nat :=
  let at0 := match d.toNat % 256 with
    | 0x03 => 8
    | 0x05 => 24
    | _ => 32
  d.toNat / 2 ^ (8 * at0) % 2 ^ 64

/-- Where the resume point of a ring lies as a page faults (R280): byte 56 of a descriptor for its completion, the offset within
its indirect data or its record, and 0 for an entry or a block of its own.
Log entry 48: DEDUCED, unsafe. -/
def State.resumePoint (s : State) (r page : Nat) (write : Bool) : Nat :=
  let x := s.ring r
  match x.writes, x.fetched with
  | w :: _, _ => if w.advance then 56 else 0
  | [], some d => page * 4096 - indirectAddr d
  | [], none => if write && s.kind r = 1 then x.done else 0

/-! ### Halts, drops and the end of an export -/

/-- A record is dropped under R267: counted, its RSEQ left unused, event 0x0602.
Log entries 42: DEDUCED, unsafe; 46: DEDUCED, unsafe. -/
def State.dropRecord (s : State) (r : Nat) (x : Record) : State :=
  (if r < 1024 then s.bump .ringDrop r else s).raise 0x0602 [(2, r), (4, x.rseq.toNat), (1, x.oclass.toNat), (1, 0)]

/-- The queue that a ring serves, if it is an event queue (R297). -/
def State.queueOf (s : State) (r : Nat) : Option Nat :=
  if r = mqRing then some 16 else if r < 1024 && s.kind r = 3 then s.ringDomain r else none

/-- Whether a record is one of a queue's own, which take no number (R303). -/
def ownBytes (b : BitVec 256) : Bool := b.toNat % 65536 = 0x0620 || b.toNat % 65536 = 0x0621

/-- The records that a queue holds are lost; those of events are counted (R303 to R305). -/
def State.dropHold (s : State) (r : Nat) : State :=
  match s.queueOf r with
  | none => s
  | some q =>
    let n := ((s.queue q).hold.filter fun b => !ownBytes b).length
    if (s.queue q).hold.isEmpty then s
    else (s.bump .evtLost q 0 n).setQueue q { s.queue q with hold := [], lostNow := (s.queue q).lostNow + n }

/-- The output records of a ring that leaves RUN and WAIT are abandoned and dropped, and its buffers receive no completion
(R253, R266, R267). -/
def State.abandonRecords (s : State) (r : Nat) : State :=
  let x := s.ring r
  let s := x.records.foldl (fun s y => s.dropRecord r y) s
  s.setRing r { s.ring r with records := [], done := 0, unitsDone := 0, bufs := [], filled := [] }

/-- The front record of a ring goes, and its buffers are empty again: what D3hot (R410) and the loss of the recall store's content
(R244) do to a record in progress.
Log entry 45: DEDUCED, unsafe. -/
def Ring.emptyBufs (x : Ring) : Ring :=
  { x with done := 0, unitsDone := 0, filled := [], bufs := (x.filled ++ x.bufs).map fun b => { b with written := 0 } }

/-- A ring alone halts (R253): HALT with event 0x0603, or the cause and the event alone in DRAIN. The mirror ring raises event
0x0C11 (R447). -/
def State.haltRing (s : State) (r cause : Nat) : State :=
  let x := s.ring r
  let y : Ring := { x with waits := [], preempted := false, writes := [], busy := false, fetched := none, unitsRead := 0
                           halting := none }
  if r = mirrorRing then
    (s.setRing r (if x.state = .drain then { inc := x.inc } else { y with state := .halt })).raise 0x0C11 [(1, cause), (7, 0)]
  else
    let s := if r < 1024 then s.setField .ringStatus r 0 8 4 cause else s
    let s := s.dropHold r
    let s := if x.state = .drain then s.setRing r (if r = mqRing then { inc := x.inc } else y) else (s.setRing r { y with state := .halt }).abandonRecords r
    let c := if r < 1024 then if s.kind r = 3 then 0 else (s.cons r).toNat else 0
    s.raise 0x0603 [(2, r), (1, cause), (1, 0), (4, c)]

/-! ### Writes of a ring, in order -/

/-- The event that a completion announces: 0x0601 carries the low bits of C after it (12). -/
def completionEvent (e : BitVec 16 × BitVec 64) (c : Word) : BitVec 64 :=
  if e.1 = 0x0601 then BitVec.ofNat 64 (e.2.toNat % 2 ^ 48 + c.toNat % 2 ^ 16 * 2 ^ 48) else e.2

/-- Writes what waits for a ring, in order, until one cannot be issued; then C advances behind a completion (R257,
R294) and its event is raised. A halt that has waited for it follows; `halt` is how the ring halts. -/
def State.flushWith (halt : State → Nat → State) (s : State) (r : Nat) : List PendingWrite → State
  | [] =>
    let x := s.ring r
    let s := s.setRing r { x with writes := [] }
    match x.halting with
    | some c => halt s c
    | none => s
  | w :: ws =>
    match s.prepare r w.addr (w.bytes.length + w.ahead) true with
    | (.wait, s) => s.setRing r { s.ring r with writes := w :: ws }
    | (.outside, s) => halt s 2
    | (.go ps, s) =>
      let s := s.issue r w.addr w.bytes w.relaxed (ps.take (pagesOf w.addr w.bytes.length).length)
      let s := if w.advance then s.setReg .ringCons r 0 (s.cons r + 1) else s
      let s := match w.event with
        | some e => { s with raised := s.raised ++ [({ type := e.1, time := s.stamp, payload := completionEvent e (s.cons r) } : EventRec)] }
        | none => s
      s.flushWith halt r ws

/-- The bytes 63:56 of a completion (R257). -/
def completionBytes (status detail result : Nat) : List Byte :=
  [BitVec.ofNat 8 status, 1] ++ leBytes 2 detail ++ leBytes 4 result

/-- The write that completes the entry of count n, and the event that it announces (R257, R258). -/
def State.completionOf (s : State) (r : Nat) (n : Word) (op tag : Nat) (evt : Bool) (status detail result : Nat) :
    PendingWrite :=
  { addr := s.entryAddr r n + 56
    bytes := completionBytes status detail result
    relaxed := false
    advance := true
    event := if evt then some (0x0601, payload [(2, r), (2, tag), (1, status), (1, op)]) else none }

/-! ### The end of an export (R242) -/

/-- The frozen content is discarded, and recording restarts, empty, at the next tick edge (R242). -/
def State.release (s : State) : State :=
  { s with rcl := { s.rcl with pend := false, lost := false, entries := [], writeAt := 0, exported := 0, restart := true } }

/-- The RELEASE descriptors that have waited complete: the release has been applied (R260). -/
def State.releasesDone (s : State) : State :=
  s.rcl.releasing.foldl (fun s c =>
    let x := s.ring c.ring
    if x.inc = c.inc && x.busy then
      let w := s.completionOf c.ring (s.cons c.ring) 9 c.opTag c.evt 0 0 0
      let s := s.setRing c.ring { x with busy := false, writes := x.writes ++ [w] }
      if x.mayWrite then s.flushWith (fun s n => s.haltRing c.ring n) c.ring (x.writes ++ [w]) else s
    else s) { s with rcl := { s.rcl with releasing := [] } }

/-- The recall store leaves EXPORTING because its ring is lost (R242): a release that has waited is applied.
Log entries 45: DEDUCED, unsafe; 47: DEDUCED, unsafe. -/
def State.exportLost (s : State) (r : Nat) : State :=
  if s.rcl.state = .exporting && s.rcl.exportRing = r then
    let s := { s with rcl := { s.rcl with state := .frozen, exported := 0, budget := 0 } }.raise 0x0512
      [(4, s.rcl.exported), (1, 3), (3, 0)]
    if s.rcl.releasing.isEmpty then s else s.release.releasesDone
  else s

/-- A ring leaves RUN and WAIT: its output records are abandoned (R253, R267), and an export on it ends. -/
def State.abandon (s : State) (r : Nat) : State := (s.abandonRecords r).exportLost r

/-- A halt cause strikes a ring (R253). -/
def State.halt (s : State) (r cause : Nat) : State := (s.haltRing r cause).exportLost r

/-- Writes what waits for a ring, in order. -/
def State.flushWrites (s : State) (r : Nat) (ws : List PendingWrite) : State := s.flushWith (fun s c => s.halt r c) r ws

/-! ### Faults and page requests -/

/-- Drops the front record of a ring under R284: every buffer it wrote into completes with FAULT, behind what is already
written; a malformed buffer among them in its turn.
Log entry 47: DEDUCED, unsafe. -/
def State.faultDrop (s : State) (r cause : Nat) : State :=
  let x := s.ring r
  match x.records with
  | [] => s
  | y :: ys =>
    let hit := x.filled ++ x.bufs.filter fun b => b.written ≠ 0
    let fin := hit.map fun b : OutBuf => match b.bad with
      | some off => s.completionOf r (BitVec.ofNat 32 b.count) 0x20 b.opTag.toNat b.evt 1 off.toNat 0
      | none => s.completionOf r (BitVec.ofNat 32 b.count) 0x20 b.opTag.toNat b.evt 7 cause b.written
    let s := s.setRing r { x with records := ys, done := 0, unitsDone := 0, filled := []
                                  bufs := x.bufs.filter (·.written = 0), writes := x.writes ++ fin }
    (s.bump .ringDrop r).raise 0x0611 [(2, r), (4, y.rseq.toNat), (1, y.oclass.toNat), (1, cause)]

/-- The front record is dropped, its buffers complete, and the ring, if `halt` says so, halts behind them.
Log entry 47: DEDUCED, unsafe. -/
def State.faultFinish (s : State) (r cause : Nat) (halt : Option Nat := none) : State :=
  let s := s.faultDrop r cause
  let x := s.ring r
  let s := s.setRing r { x with waits := [], preempted := false, halting := halt
                                state := if x.state = .wait then .run else x.state }
  s.flushWrites r x.writes

/-- A translation failure (R277, R278): on an output ring it drops the record that it strikes, and the ring then halts.
Log entry 47: DEDUCED, unsafe. -/
def State.transFail (s : State) (r page : Nat) (write : Bool) (cause : Nat) : State :=
  let s := (s.bump .xlatFail).raise 0x0612 [(2, r), (1, cause), (1, 0), (4, page % 2 ^ 32)]
  if r < 1024 && s.kind r = 1 && write && (s.ring r).touches page then s.faultFinish r 2 (some 4) else s.halt r 4

/-- The lowest free page request group index (R276).
Log entry 48: DEDUCED, unsafe. -/
def State.freePrg (s : State) : Nat :=
  ((List.range 512).find? fun i => s.prqs.all (·.prg ≠ i)).getD 0

/-- A ring waits for a page, its n-th fault in a row there: WAIT, unless it drains (R280, R289).
Log entry 48: DEDUCED, unsafe. -/
def State.waitFor (s : State) (r n : Nat) (w : PageWait) : State :=
  let x := s.ring r
  s.setRing r { x with state := if x.state = .run then .wait else x.state
                       waits := (x.waits.filter fun v => !(v.page = w.page && v.write = w.write)) ++ [w]
                       faults := (w.page, n) :: x.faults.filter (·.1 ≠ w.page)
                       resume := s.resumePoint r w.page w.write }

/-- A page request for ring r, its n-th fault in a row on the page: it shares one, waits for a place or issues one
(R276).
Log entry 48: DEDUCED, unsafe. -/
def State.requestPage (s : State) (r page : Nat) (write : Bool) (n : Nat) : State :=
  let k := s.ringPasid r
  match s.prqs.find? fun q => q.pv = k.1 && q.pasid = k.2 && q.page = page with
  | some q =>
    let share : List PageReq := s.prqs.map fun y =>
      if y = q && !y.rings.contains r then { y with rings := y.rings ++ [r] } else y
    { s with prqs := share }.waitFor r n { page := page, write := write, place := false, prg := q.prg }
  | none =>
    if 512 ≤ s.prqs.length then s.waitFor r n { page := page, write := write, place := true }
    else
      let g := s.freePrg
      let s := { s with prqs := s.prqs ++ [PageReq.mk g k.1 k.2 page write [r]] }
      let s := (s.emit (.pageRequest g k.1 k.2 page write)).waitFor r n
        { page := page, write := write, place := false, prg := g }
      if s.flag .xlatCfg 0 0 0 then
        s.raise 0x0610 [(2, r), (3, k.2.toNat + bit write * 2 ^ 23), (3, page % 2 ^ 24)]
      else s

/-- Faults in a row of a ring on a page. -/
def Ring.faultRun (x : Ring) (page : Nat) : Nat := ((x.faults.find? fun f => f.1 = page).map (·.2)).getD 0

/-- Whether a request for the page stands for ring r: a fault behind it is no further one in the row (R284). -/
def State.asked (s : State) (r page : Nat) : Bool :=
  let k := s.ringPasid r
  s.prqs.any fun q => q.pv = k.1 && q.pasid = k.2 && q.page = page && q.rings.contains r

/-- A fault of ring r on a page (R276, R277).
Log entry 48: DEDUCED, unsafe. -/
def State.fault (s : State) (r page : Nat) (write : Bool) : State :=
  let s := s.bump .xlatFault
  let n := (s.ring r).faultRun page + bit (!s.asked r page)
  if !s.priOn || s.priStop then s.transFail r page write 5
  else if 3 ≤ n then s.transFail r page write 1
  else s.requestPage r page write n

/-! ### Completions -/

/-- Tries to write what waits for a ring. -/
def State.drainWrites (s : State) (r : Nat) : State :=
  let x := s.ring r
  if x.mayWrite then s.flushWrites r x.writes else s

/-- A descriptor's completion joins what its ring writes (R257, R258). -/
def State.complete (s : State) (r : Nat) (op tag : Nat) (evt : Bool) (status detail result : Nat)
    (first : List PendingWrite := []) : State :=
  let x := s.ring r
  (s.setRing r { x with busy := false
                        writes := x.writes ++ first ++ [s.completionOf r (s.cons r) op tag evt status detail result] }).drainWrites r

end Sys2Proof.Machine
end

