-- ==== Sys2Proof/Machine/Events.lean ====
section
/-!
DEFINITION. Event queues (14): severities and routes, taking an event, overflow, the hold, MSI-X messages, and `settle`,
with which every meaning ends: it reports a changed service flag (R454), offers the events raised, in the order of R300,
and orders the marks of the command (R444).
-/
namespace Sys2Proof.Machine

/-- SEV of each type (R296). -/
def severity (type : Nat) : Nat :=
  match type with
  | 0x0101 | 0x0110 | 0x0320 | 0x0401 | 0x0512 | 0x0601 | 0x0605 | 0x0610 | 0x0A04 => 0
  | 0x0104 | 0x0120 | 0x0121 | 0x0201 | 0x0230 | 0x0310 | 0x0330 | 0x0510 | 0x0511 | 0x0514 | 0x0701 | 0x0720
  | 0x0801 | 0x0803 | 0x0921 | 0x0A02 | 0x0A06 | 0x0B02 | 0x0B21 | 0x0B30 | 0x0C01 => 1
  | 0x0103 | 0x0105 | 0x0202 | 0x0220 | 0x0321 | 0x0503 | 0x0513 | 0x0603 | 0x0612 | 0x0702 | 0x0802 | 0x0804
  | 0x0902 | 0x0910 | 0x0920 | 0x0A03 | 0x0B10 | 0x0C11 | 0x0C20 => 3
  | 0x0613 | 0x0930 | 0x0931 | 0x0B22 => 4
  | _ => 2

/-- Bytes lo to lo + n - 1 of a payload. -/
def EventRec.pay (e : EventRec) (lo n : Nat) : Nat := e.payload.toNat / 2 ^ (8 * lo) % 2 ^ (8 * n)

/-- The route of a type: what its payload names (R298). -/
inductive Route where
  | ring (r : Nat) (domain : Nat)
  | port (i : Nat)
  | mill (m : Nat)
  | wall (w : Nat)
  | freeze
  | none
  deriving DecidableEq, Repr

/-- The port index in a port address (R22). -/
def portOf (pa : Nat) : Nat := pa / 4 % 512

/-- Where an event goes besides the management queue (R298). -/
def EventRec.route (e : EventRec) : Route :=
  match e.type.toNat with
  | 0x0101 | 0x0401 | 0x0601 | 0x0602 | 0x0603 | 0x0605 | 0x0610 | 0x0611 | 0x0612 => .ring (e.pay 0 2) 16
  | 0x0604 => .ring (e.pay 0 2) (e.pay 2 1)
  | 0x0102 => .ring (e.pay 6 2) 16
  | 0x0402 | 0x0403 => .ring (e.pay 4 2) 16
  | 0x0103 | 0x0210 | 0x0211 | 0x0212 | 0x0220 | 0x0221 | 0x0311 | 0x0320 | 0x0321 | 0x0330 | 0x0331 =>
    .port (portOf (e.pay 0 2))
  | 0x0105 => if e.pay 0 1 = 2 then .port (portOf (e.pay 1 2)) else if e.pay 0 1 = 3 then .wall (e.pay 1 2) else .none
  | 0x0201 | 0x0202 | 0x0203 | 0x0230 | 0x0310 | 0x0312 => .mill (e.pay 0 1)
  | 0x0501 | 0x0503 => .wall (e.pay 0 1)
  | 0x0504 => .wall (e.pay 3 1)
  | 0x0510 | 0x0511 | 0x0512 | 0x0513 | 0x0514 => .freeze
  | _ => .none

/-- The place of an event among those of one clock (R300): its type, then the first unit that its payload names. R278
puts 0x0612 before 0x0603. -/
def EventRec.key (e : EventRec) : Nat × Nat :=
  (if e.type = 0x0612 then 2 * 0x0603 - 1 else 2 * e.type.toNat,
   match e.route with
   | .ring r _ => r
   | .port _ => if e.type = 0x0105 then e.pay 1 2 else e.pay 0 2
   | .mill m => m
   | .wall w => w
   | _ => e.pay 0 1)

/-- Inserts behind what comes before it or is equal. -/
def insertBy {α : Type} (le : α → α → Bool) (x : α) : List α → List α
  | [] => [x]
  | y :: ys => if le y x then y :: insertBy le x ys else x :: y :: ys

/-- A stable sort. -/
def sortBy {α : Type} (le : α → α → Bool) (xs : List α) : List α := xs.foldl (fun acc x => insertBy le x acc) []

/-- The order of R300: the earlier clock first, then the key. -/
def eventLe (a b : EventRec) : Bool :=
  b.age < a.age || (a.age = b.age && (a.key.1 < b.key.1 || (a.key.1 = b.key.1 && a.key.2 ≤ b.key.2)))

/-! ### One queue -/

/-- The ring that is domain d's event queue: bound to d, of KIND event queue, enabled (R297). -/
def State.domainQueue (s : State) (d : Nat) : Option Nat :=
  (s.rings.find? fun e => e.1 < 1024 && e.2.state ≠ .off && s.kind e.1 = 3 && s.ringDomain e.1 = some d).map (·.1)

/-- The ring of queue q: 16 is the management queue. -/
def State.queueRing (s : State) (q : Nat) : Option Nat := if q = 16 then some mqRing else s.domainQueue q

/-- Sends MSI-X vector v, or sets its pending bit while the vector is masked (R306).
Log entry 8: PRESUMED, unsafe. -/
def State.sendMsix (s : State) (v : Nat) : State :=
  if s.flag .msixTable v 3 0 then
    s.setReg .msixPba (v / 32) 0 (s.reg .msixPba (v / 32) ||| BitVec.ofNat 32 (2 ^ (v % 32)))
  else s.emit (.msix v)

/-- Signalling behind a record just written (R306). -/
def State.signal (s : State) (q sev : Nat) : State :=
  let x := s.queue q
  let n := x.sinceMsg + 1
  let imm := s.field .evtMsi q 0 12 3
  if s.flag .evtMsi q 0 11 && ((imm < 5 && imm ≤ sev) || max 1 (s.field .evtMsi q 0 16 8) ≤ n) then
    (s.setQueue q { x with sinceMsg := 0, timer := false }).sendMsix (s.field .evtMsi q 0 0 11)
  else s.setQueue q { x with sinceMsg := n, timer := true }

/-- The 32 bytes of a record, PHASE still 0 (14). -/
def eventBytes (e : EventRec) (q : Nat) (seq : Word) : BitVec 256 :=
  BitVec.ofNat 256 (e.type.toNat + severity e.type.toNat * 2 ^ 16 + q * 2 ^ 24 + seq.toNat * 2 ^ 32
    + e.time.toNat * 2 ^ 64 + e.payload.toNat * 2 ^ 192)

/-- SEV of a record's bytes. -/
def recordSev (b : BitVec 256) : Nat := b.toNat / 2 ^ 16 % 8

/-- Free entries F of a queue (R301). -/
def State.queueFree (s : State) (q r : Nat) : Nat :=
  let x := s.queue q
  2 ^ s.log2s r - (x.pd - x.ch).toNat

/-- Whether the ring of a queue writes: in RUN, and in DRAIN what it took before (R304, R307). -/
def State.queueWrites (s : State) (r : Nat) : Bool :=
  (s.ring r).state = .run || ((s.ring r).state = .drain && (s.ring r).waits.isEmpty)

/-- A record joins those that wait for their page (R305), or for a translation that is being looked up (R275). -/
def State.holdRecord (s : State) (q : Nat) (b : BitVec 256) : State :=
  s.setQueue q { s.queue q with hold := (s.queue q).hold ++ [b] }

/-- Writes one record at count Pd with its PHASE (R302), if its page can be written now; false where it cannot. -/
def State.writeRecord (s : State) (q r : Nat) (b : BitVec 256) : Bool × State :=
  let x := s.queue q
  let n := x.pd.toNat
  let l := s.log2s r
  let addr := s.ringBase r + 32 * (n % 2 ^ l)
  match s.prepare r addr 32 true with
  | (.wait, s) => (false, s)
  | (.outside, s) => (false, s.haltRing r 2)
  | (.go ps, s) =>
    let phase := if n / 2 ^ l % 2 = 0 then 1 else 0
    let s := s.issue r addr (leBytes 32 (b.toNat + phase * 2 ^ 19)) false ps
    (true, (s.setQueue q { s.queue q with pd := x.pd + 1 }).signal q (recordSev b))

/-- A record goes out, or behind those that wait. -/
def State.putRecord (s : State) (q r : Nat) (b : BitVec 256) : State :=
  if (s.ring r).state ≠ .run || !(s.queue q).hold.isEmpty then s.holdRecord q b
  else
    let (done, t) := s.writeRecord q r b
    if done || (t.ring r).state = .halt then t else t.holdRecord q b

/-- Room for a record: while the queue waits, the free places of its hold of 32; else F, less the entries of the records that
only wait for a translation, so that a cold cache loses nothing (R275, R303, R305). -/
def State.room (s : State) (q r : Nat) : Nat :=
  if (s.ring r).state ≠ .run then 32 - (s.queue q).hold.length else s.queueFree q r - (s.queue q).hold.length

/-- Pd behind the records that have been taken for it (R275). -/
def State.pdBehind (s : State) (q r : Nat) : Word :=
  (s.queue q).pd + (if (s.ring r).state ≠ .run then 0 else BitVec.ofNat 32 (s.queue q).hold.length)

/-- One lost event (R303). -/
def State.lose (s : State) (q : Nat) : State :=
  let s := s.bump .evtLost q
  s.setQueue q { s.queue q with lostNow := (s.queue q).lostNow + 1 }

/-- The queue's own record of type 0x0620 or 0x0621 (R303). -/
def State.ownRecord (s : State) (q type : Nat) (seq : Word) (fs : List (Nat × Nat)) : BitVec 256 :=
  eventBytes { type := BitVec.ofNat 16 type, time := s.stamp, payload := payload fs } q seq

/-- A queue takes one event, or does not (R299, R303, R304, R410). -/
def State.take (s : State) (q : Nat) (e : EventRec) : State :=
  match s.queueRing q with
  | none => s
  | some r =>
    let x := s.queue q
    let blk := e.type.toNat / 256 - 1
    if (s.ring r).state = .off || !s.flag .evtCfg q 0 blk || severity e.type.toNat < s.field .evtCfg q 0 12 3 then s
    else
      let seq := s.reg .evtSeq q
      let s := s.setReg .evtSeq q 0 (seq + 1)
      if (s.ring r).state = .halt || (s.ring r).state = .drain || s.power.d3hot || x.overflow then s.lose q
      else if 2 ≤ s.room q r then s.putRecord q r (eventBytes e q seq)
      else
        let s := s.setQueue q { s.queue q with overflow := true, lostNow := 0 }
        let s := if s.room q r = 1 then
            s.putRecord q r (s.ownRecord q 0x0620 seq [(4, (s.pdBehind q r).toNat), (4, 0)])
          else s
        s.lose q

/-- Leaves OVERFLOW in the first clock with two places (R303). -/
def State.endOverflow (s : State) (q r : Nat) : State :=
  let x := s.queue q
  if x.overflow && 2 ≤ s.room q r && (s.ring r).state ≠ .halt && (s.ring r).state ≠ .drain then
    let s := s.setQueue q { x with overflow := false, lostNow := 0 }
    s.putRecord q r (s.ownRecord q 0x0621 (s.reg .evtSeq q) [(4, x.lostNow), (4, (s.pdBehind q r).toNat)])
  else s

/-- A record 0x0621 as it is written: Pd before it, and the events lost since, among them those of the hold. -/
def endRecord (b : BitVec 256) (pd : Word) (more : Nat) : BitVec 256 :=
  BitVec.ofNat 256 (b.toNat % 2 ^ 192 + (b.toNat / 2 ^ 192 % 2 ^ 32 + more) % 2 ^ 32 * 2 ^ 192 + pd.toNat * 2 ^ 224)

/-- Whether a queue was in OVERFLOW before the first of the records that it holds: so it was if the first of its own among them
ends one. -/
def heldOverflow (bs : List (BitVec 256)) : Bool := match bs.find? ownBytes with
  | some b => b.toNat % 65536 = 0x0621
  | none => false

/-- What becomes of a held record on resume (R303, R305): written, with its bytes, lost, or, being one of the queue's own
without an entry left, nothing. -/
inductive HeldFate where
  | write (b : BitVec 256) (overflow : Bool)
  | lost (begin : Option (BitVec 256))
  | nothing (overflow : Bool)
  deriving DecidableEq, Repr

/-- R303 for a held record against the queue itself. -/
def State.heldFate (s : State) (q r : Nat) (b : BitVec 256) : HeldFate :=
  let x := s.queue q
  let free := s.queueFree q r
  let ty := b.toNat % 65536
  if ty = 0x0620 then if x.overflow || free = 0 then .nothing true else .write b true
  else if ty = 0x0621 then
    if !x.overflow then .nothing false else if 2 ≤ free then .write (endRecord b x.pd x.lostNow) false else .nothing true
  else if x.overflow then .lost none
  else if 2 ≤ free then .write b false
  else .lost (if free = 1 then
    some (s.ownRecord q 0x0620 (BitVec.ofNat 32 (b.toNat / 2 ^ 32)) [(4, x.pd.toNat), (4, 0)]) else none)

/-- Writes held records in order; answers those that still wait for their page. -/
def State.writeHeld (s : State) (q r : Nat) : List (BitVec 256) → List (BitVec 256) × State
  | [] => ([], s)
  | b :: bs =>
    match s.heldFate q r b with
    | .write c o =>
      let (done, t) := s.writeRecord q r c
      let t := t.setQueue q { t.queue q with lostNow := 0 }
      if done then (t.setQueue q { t.queue q with overflow := o }).writeHeld q r bs else (c :: bs, t)
    | .lost none => (s.lose q).writeHeld q r bs
    | .lost (some c) =>
      let (done, t) := s.writeRecord q r c
      if done then ((t.setQueue q { t.queue q with overflow := true, lostNow := 0 }).lose q).writeHeld q r bs
      else (b :: bs, t)
    | .nothing o => (s.setQueue q { s.queue q with overflow := o }).writeHeld q r bs

/-- A queue goes on: its held records are written in order, each subject to R303 against the queue itself (R305), before any
new record. -/
def State.drainHold (s : State) (q r : Nat) : State :=
  let x := s.queue q
  if x.hold.isEmpty then s.endOverflow q r
  else
    let s := s.setQueue q { x with hold := [], overflow := heldOverflow x.hold, lostNow := 0 }
    let (left, s) := s.writeHeld q r x.hold
    let y := s.queue q
    if (s.ring r).state = .halt then (left.filter fun b => !ownBytes b).foldl (fun s _ => s.lose q) s
    else if left.isEmpty then
      (s.setQueue q { y with overflow := y.overflow || x.overflow
                             lostNow := y.lostNow + (if x.overflow then x.lostNow else 0) }).endOverflow q r
    else s.setQueue q { y with hold := left, overflow := x.overflow, lostNow := x.lostNow }

/-- The management queue is OFF once its record in progress is written (R307). -/
def State.mqDrained (s : State) (r : Nat) : State :=
  if r = mqRing && (s.ring r).state = .drain && (s.queue 16).hold.isEmpty then
    s.setRing r { inc := (s.ring r).inc }
  else s

/-- A queue goes on. -/
def State.resumeQueue (s : State) (q : Nat) : State :=
  match s.queueRing q with
  | some r => if s.queueWrites r then (s.drainHold q r).mqDrained r else s
  | none => s

/-! ### Offering -/

/-- The domains that an event is offered to (R298, R305). -/
def State.domainsOf (s : State) (e : EventRec) : List Nat :=
  match e.route with
  | .ring r d =>
    if 1024 ≤ r then (if r = 0xFFFF && d < 16 then [d] else [])
    else match s.ringDomain r with
      | some d => if e.type = 0x0603 && s.kind r = 3 then [] else [d]
      | none => []
  | .port i => (List.range 16).filter fun d => s.domPort d i
  | .mill m => (List.range 16).filter fun d => (List.range 8).any fun k => s.domPort d (8 * m + k)
  | .wall w => (List.range 16).filter fun d => s.domWall d w
  | .freeze => (List.range 16).filter fun d => s.domFreeze d
  | .none => []

/-- Offers one event to its queues (R298). The events of R492 wait for the management queue while it is OFF. -/
def State.offer (s : State) (e : EventRec) : State :=
  if (e.type = 0x0B10 || e.type = 0x0C01) && (s.ring mqRing).state = .off then
    { s with held := s.held.filter (·.type ≠ e.type) ++ [{ e with age := 0 }] }
  else (s.domainsOf e ++ [16]).foldl (fun s q => s.take q e) s

/-- Offers what is raised, and what that raises, in rounds.
Log entry 3: DEDUCED, unsafe. -/
def State.deliver : Nat → State → State
  | 0, s => { s with raised := [] }
  | n + 1, s =>
    match s.raised with
    | [] => s
    | es => State.deliver n ((sortBy eventLe es).foldl State.offer { s with raised := [] })

/-- The origin code of a mark. -/
def Mark.origin (m : Mark) : Nat := m.who.toNat / 2 ^ 26

/-- Gives marks their numbers again, from `seq` on, oldest first. -/
def renumber (seq : Word) : List Mark → List Mark
  | [] => []
  | m :: ms => { m with seq := seq } :: renumber (seq + 1) ms

/-- Puts the marks of one command in ascending ORIGIN, those of one origin in the order they came (R444).
Log entry 3: DEDUCED, unsafe. -/
def orderMarks (s0 s : State) : List Mark :=
  let n := (s.markSeq - s0.markSeq).toNat
  let new := (s.marks.take n).reverse
  (renumber s0.markSeq (sortBy (fun a b => decide (a.origin ≤ b.origin)) new)).reverse ++ s.marks.drop n

/-- Reports a change of the service flags (R454).
Log entry 3: DEDUCED, unsafe. -/
def State.reportService (s : State) : State :=
  let v := s.serviceNow
  if v = s.service then s
  else { s.raise 0x0C21 [(1, v.toNat), (1, s.service.toNat), (6, 0)] with service := v }

/-- A clock ends within a command: its events are offered under the masks and routes as they stand (R300, R307). -/
def State.endClock (s : State) : State := State.deliver 64 s.reportService

/-- The end of every command, `s0` being the state before it: service flags reported, events offered, and the marks of the
command in order, of which the log holds the latest 4,096 (R441). No command touches the queue of those that wait. -/
def settle (s0 s : State) : State :=
  let t := s.endClock
  { t with marks := keepMarks (orderMarks s0 t), pending := s0.pending }

/-- A meaning: the effect, then `settle`. -/
def effect (f : State → State) (s : State) : Host.Outcome State Fault Refusal := .next (settle s (f s))

end Sys2Proof.Machine
end

