-- ==== Sys2Proof/Machine/DramMem.lean ====
section
/-!
DEFINITION. DRAM as the units that use it see it: the address split over channels (R351), the 80/64 code (R357 to R359),
poison (R360, R361) and what a retired channel answers (R370). A physical address is channel × 2³³ + L.
-/
namespace Sys2Proof.Machine

/-! ### The code -/

/-- Multiplication by α modulo x⁷ + x³ + 1. -/
def bchX (a : Nat) : Nat := if 64 ≤ a then (2 * a - 128) ^^^ 9 else 2 * a

/-- αʲ. -/
def bchExp : Nat → Nat
  | 0 => 1
  | n + 1 => bchX (bchExp n)

/-- The j below 127 with αʲ = x, or none for 0. -/
def bchLog (x : Nat) : Option Nat := (List.range 127).find? fun j => bchExp j = x

/-- Multiplication in GF(2⁷). -/
def bchMul (a b : Nat) : Nat :=
  match bchLog a, bchLog b with
  | some i, some j => bchExp ((i + j) % 127)
  | _, _ => 0

/-- Remainder of a polynomial of degree below n + 15 modulo g(x) = 0xC599. -/
def bchMod : Nat → Nat → Nat
  | 0, p => p
  | n + 1, p => bchMod n (if p.testBit (n + 15) then p ^^^ (0xC599 * 2 ^ n) else p)

/-- Parity of a number's low n bits. -/
def parity (n x : Nat) : Bool := (List.range n).foldl (fun p i => p != x.testBit i) false

/-- Address parity a of a beat: bits 32:3 of its channel-local address (R358). -/
def addrParity (l : Nat) : Bool := parity 30 (l / 8)

/-- The codeword of a beat: check bits, data bits and the address check bit (R358). -/
def bchEncode (data : BitVec 64) (l : Nat) : BitVec 80 :=
  let m := data.toNat + bit (addrParity l) * 2 ^ 64
  BitVec.ofNat 80 (m * 2 ^ 15 + bchMod 65 (m * 2 ^ 15))

/-- What a beat decodes as. -/
inductive BeatResult where
  | clean | ce (n : Nat) | ue | address
  deriving DecidableEq, Repr

/-- The data bits of a codeword. -/
def beatData (r : BitVec 80) : BitVec 64 := BitVec.ofNat 64 (r.toNat / 2 ^ 15)

/-- S₁ or S₃: the sum of α^(k·i) over the set bits i. -/
def bchSyn (k : Nat) (r : BitVec 80) : Nat :=
  (List.range 80).foldl (fun a i => if r.toNat.testBit i then a ^^^ bchExp (k * i % 127) else a) 0

/-- Decodes one received beat of channel-local address l (R359). -/
def bchDecode (r : BitVec 80) (l : Nat) : BeatResult × BitVec 80 :=
  let s1 := bchSyn 1 r
  let s3 := bchSyn 3 r
  let cube := bchMul s1 (bchMul s1 s1)
  let par := parity 80 r.toNat
  let flip := fun (x : BitVec 80) (i : Nat) => x ^^^ BitVec.ofNat 80 (2 ^ i)
  let judge := fun (res : BeatResult) (x : BitVec 80) =>
    if x.toNat.testBit 79 = addrParity l then (res, x) else (.address, x)
  if s1 = 0 && s3 = 0 && !par then judge .clean r
  else if par && s1 ≠ 0 && s3 = cube then
    match bchLog s1 with
    | some j => if j ≤ 79 then judge (.ce 1) (flip r j) else (.ue, r)
    | none => (.ue, r)
  else if !par && s1 ≠ 0 && s3 ≠ cube then
    let q := match bchLog (s3 ^^^ cube), bchLog s1 with
      | some a, some b => bchExp ((a + 127 - b) % 127)
      | _, _ => 0
    let roots := (List.range 80).filter fun j =>
      let x := bchExp j
      bchMul x x ^^^ bchMul s1 x ^^^ q = 0
    match roots with
    | [i, j] => judge (.ce 2) (flip (flip r i) j)
    | _ => (.ue, r)
  else (.ue, r)

/-- The check bits that a poison marker inverts (R360). -/
def poisonMask : BitVec 80 := 7

/-- Whether a received beat carries the marker's syndrome (R360). -/
def isMarker (r : BitVec 80) : Bool :=
  bchSyn 1 r = (1 ^^^ bchExp 1 ^^^ bchExp 2) && bchSyn 3 r = (1 ^^^ bchExp 3 ^^^ bchExp 6) && parity 80 r.toNat

/-! ### Addresses -/

/-- Channel and channel-local address of a DRAM address (R351), or none with no active channel. -/
def State.dramSplit (s : State) (a : Nat) : Option (Nat × Nat) :=
  let g := if s.flag .dramMap 0 0 2 then 4096 else 256
  let n := s.active.length
  if n = 0 then none
  else
    let u := a / g
    some (s.active.getD (u % n) 0, u / n * g + a % g)

/-- Bytes of DRAM that the address space holds (R351). -/
def State.dramSize (s : State) : Nat := s.active.length * 2 ^ 33

/-- The physical address of a channel-local one. -/
def phys (ch l : Nat) : Nat := ch * 2 ^ 33 + l

/-- Where a beat of a channel lies in its DRAM devices. -/
structure DramCell where
  row : Nat
  group : Nat
  bank : Nat
  column : Nat
  deriving DecidableEq, Repr

/-- Row, bank group, bank and column C[9:0] of a channel-local address, in the order of DRAM_MAP.ORDER (R352). -/
def State.dramCell (s : State) (l : Nat) : DramCell :=
  let bits := fun k n => l / 2 ^ k % 2 ^ n
  let at4 := fun c => bits c 6 * 16 + bits 3 4
  let row := bits 17 16
  match s.field .dramMap 0 0 0 2 with
  | 0 => ⟨row, bits 15 2, bits 13 2, at4 7⟩
  | 1 => ⟨row, bits 7 2, bits 9 2, at4 11⟩
  | 2 => ⟨row, bits 7 2, bits 15 2, at4 9⟩
  | _ => ⟨row, bits 15 2 ^^^ row / 4 % 4, bits 13 2 ^^^ row % 4, at4 7⟩

/-! ### One unit -/

/-- The eight received beats of the unit at a physical address: stored codewords with their upset bits.
Log entry 6: DEDUCED, unsafe. -/
def State.unitBeats (s : State) (p : Nat) : List (BitVec 80) :=
  (List.range 8).map fun b =>
    let q := p + 8 * b
    bchEncode (BitVec.ofNat 64 (ofLe (Memory.readBytes s.dram q 8))) (q % 2 ^ 33) ^^^ Store.get 0 s.upsets (q / 8)

/-- The bytes of received beats. -/
def beatBytes (bs : List (BitVec 80)) : List Byte := bs.flatMap fun r => leBytes 8 (beatData r).toNat

/-- Whether any beat of the unit is stored with upset bits. -/
def State.unitUpset (s : State) (p : Nat) : Bool :=
  (List.range 8).any fun b => Store.get 0 s.upsets (p / 8 + b) ≠ 0

/-- Sets the upset bits of a unit's beats. -/
def State.setUpsets (s : State) (p : Nat) (m : List (BitVec 80)) : State :=
  { s with upsets := (List.range 8).foldl (fun u b => Store.put 0 u (p / 8 + b) (m.getD b 0)) s.upsets }

/-- What a read of received beats comes to (R359 to R361): the bytes delivered, whether the unit is poisoned, and the
write-back or the poison marker, done. `src`: 1 demand, 2 scrub, 3 helper. -/
def State.decodeUnit (s : State) (ch l src : Nat) (beats : List (BitVec 80)) : (List Byte × Bool) × State :=
  let p := phys ch l
  if beats.all isMarker then ((beatBytes beats, true), s)
  else
    let rs := beats.mapIdx fun b r => bchDecode r (l + 8 * b)
    let bad := rs.any fun r => r.1 = .ue || r.1 = .address
    let ces := (rs.filter fun r => match r.1 with
      | .ce _ => true
      | _ => false).length
    let s := if ces = 0 then s else s.bump .dramCe ch 0 ces
    let s := if ces = 0 then s else s.setChan ch { s.chan ch with second := (s.chan ch).second + ces }
    if bad then
      let bytes := beatBytes beats
      let s := { s with dram := Memory.writeBytes s.dram p bytes }.setUpsets p (List.replicate 8 poisonMask)
      let s := (s.bump .dramUe ch).setReg .dramUeAddr ch 0 (BitVec.ofNat 32 (l / 64 + 2 ^ 31))
      let ae := rs.any fun r => r.1 = .address
      let s := s.raise 0x0902 [(1, ch), (1, src), (4, l / 64), (1, bit ae), (1, 0)]
      ((bytes, true), s)
    else
      let bytes := beatBytes (rs.map (·.2))
      ((bytes, false),
        if ces = 0 then s
        else { s with dram := Memory.writeBytes s.dram p bytes }.setUpsets p (List.replicate 8 0))

/-- One demand read of the 64-byte unit at channel-local address l. A retired channel returns poison (R370). -/
def State.readUnit (s : State) (ch l src : Nat) : (List Byte × Bool) × State :=
  if (s.chan ch).state = .retired then ((List.replicate 64 0, true), s)
  else if s.unitUpset (phys ch l) then s.decodeUnit ch l src (s.unitBeats (phys ch l))
  else ((Memory.readBytes s.dram (phys ch l) 64, false), s)

/-- Reads units from DRAM address a (a multiple of 64) on: their bytes, and the addresses of those poisoned. -/
def State.readUnits (s : State) (a : Nat) : Nat → (List Byte × List Nat) × State
  | 0 => (([], []), s)
  | n + 1 =>
    let (u, s) := match s.dramSplit a with
      | some (ch, l) => s.readUnit ch l 1
      | none => ((List.replicate 64 0, true), s)
    let (r, s) := s.readUnits (a + 64) n
    ((u.1 ++ r.1, if u.2 then a :: r.2 else r.2), s)

/-- Reads len bytes from DRAM address a, with the 64-byte units that came poisoned. -/
def State.readDram (s : State) (a len : Nat) : (List Byte × List Nat) × State :=
  let lo := a / 64 * 64
  let (r, s) := s.readUnits lo ((a + len + 63) / 64 - a / 64)
  (((r.1.drop (a - lo)).take len, r.2), s)

/-- Writes bytes within one unit: the whole unit is encoded anew, which ends its poison (R360). A retired channel
discards them (R370). -/
def State.writeUnit (s : State) (a : Nat) (bs : List Byte) : State :=
  match s.dramSplit a with
  | none => s
  | some (ch, l) =>
    if (s.chan ch).state = .retired then s
    else
      let p := phys ch l
      let s := { s with dram := Memory.writeBytes s.dram p bs }
      if s.unitUpset (p / 64 * 64) then s.setUpsets (p / 64 * 64) (List.replicate 8 0) else s

/-- Writes bytes unit by unit; `n` bounds the number of units. -/
def State.writeUnits (s : State) (a : Nat) (bs : List Byte) : Nat → State
  | 0 => s
  | n + 1 =>
    if bs.isEmpty then s
    else
      let k := 64 - a % 64
      (s.writeUnit a (bs.take k)).writeUnits (a + k) (bs.drop k) n

/-- Writes bytes from DRAM address a on. -/
def State.writeDram (s : State) (a : Nat) (bs : List Byte) : State := s.writeUnits a bs (bs.length / 64 + 2)

/-- The region in force of an owner (R496): its address and size. -/
def State.region (s : State) (kind owner : Nat) : Option Region :=
  s.tick.regions.find? fun r => r.kind = kind && r.owner = owner

end Sys2Proof.Machine
end

