-- ==== Sys2Proof/Machine/RecallOps.lean ====
section
/-!
DEFINITION. The recall store's triggers, release and loss of content (R240 to R244).
-/
namespace Sys2Proof.Machine

def RecallState.code : RecallState → Nat
  | .off => 0
  | .recording => 1
  | .frozen => 2
  | .exporting => 3

/-- A trigger that is ignored (R240). -/
def State.triggerIgnored (s : State) (kind index : Nat) : State :=
  (s.bump .wallRclIgn).raise 0x0514 [(1, kind), (1, index), (1, s.rcl.state.code), (5, 0)]

/-- An ALARM on both PEER ports, from level 2 onward (R348). -/
def State.sendAlarm (s : State) (kind index tf : Nat) : State :=
  if s.level < 2 then s
  else (List.range 2).foldl (fun s x =>
    if (s.cport x).peer && !(s.cport x).blocked then
      s.sendChain x 7 0 s.orig 0 s.now (leBytes 8 tf ++ [BitVec.ofNat 8 kind, BitVec.ofNat 8 index] ++ leBytes 6 0)
    else s) s

/-- OLD of the mark of an accepted trigger (R442). R241 has the mark of a late alarm carry LATE, and no rule says where:
bits 31:8 are free there.
Log entry 97: DESIGN CHOICE, safe. -/
def State.triggerOld (s : State) (kind index : Nat) (late : Bool) : Nat × State :=
  if late then
    let (v, s) := s.draw
    (kind + v.toNat % 2 ^ 24 * 256, s)
  else (kind + (if kind = 1 then index * 256 else 0), s)

/-- A trigger of the recall store: kind 1 EDGE, 2 command, 3 chain alarm, with the T_f that an alarm carries. Answers
whether it was accepted (R240, R241).
Log entry 97: DESIGN CHOICE, safe. -/
def State.trigger (s : State) (kind index : Nat) (o : Origin) (alarmTf : Option Nat) : Bool × State :=
  if s.rcl.state ≠ .recording || s.rcl.pend then (false, s.triggerIgnored kind index)
  else
    let late := match alarmTf with
      | some t => decide (t ≤ s.now)
      | none => false
    let tf := match alarmTf with
      | some t => if late then s.now else t
      | none => s.now + 1 + s.field .wallRclCfg 0 0 16 12
    let s := { s with rcl := { s.rcl with pend := true, kind := BitVec.ofNat 3 kind, origin := o,
                                                index := index, tf := BitVec.ofNat 64 tf } }
    let (old, s) := s.triggerOld kind index late
    let s := s.action o 11 old (tf % 2 ^ 32)
    let s := s.raise 0x0510 [(1, kind), (1, index), (1, bit late), (5, tf)]
    (true, if kind ≠ 3 && s.flag .wallRclCfg 0 0 29 then s.sendAlarm kind (if kind = 1 then index else 0) tf else s)

/-- The end of an export (R242): cause 1 complete, 2 released. -/
def State.exportEnd (s : State) (cause : Nat) : State :=
  s.raise 0x0512 [(4, s.rcl.exported), (1, cause), (3, 0)]

/-- The export in progress ends at once (R244): its entry goes from its ring, whose buffers are empty again, and releases that
have waited are applied. The manual gives the end of an export no cause code here: a free value.
Log entries 25: DESIGN CHOICE, safe; 45: DEDUCED, unsafe. -/
def State.exportStop (s : State) : State :=
  if s.rcl.state ≠ .exporting then s
  else
    let (v, s) := s.draw
    let r := s.rcl.exportRing
    let x := s.ring r
    let gone := { x.emptyBufs with records := x.records.filter (·.oclass ≠ 3), preempted := false
                                   waits := if x.writes.isEmpty then [] else x.waits
                                   state := if x.state = .wait && x.writes.isEmpty then .run else x.state }
    let s := if x.records.any (·.oclass = 3) then s.setRing r gone else s
    let s := { s with engine := if s.engine = some r then none else s.engine
                      rcl := { s.rcl with state := .frozen, budget := 0 } }
    s.exportEnd (v.toNat % 256)

/-- The store's content is lost (R244, R456): cause 1 channel retired, 2 main-rail gap, 3 a new address. In OFF the entries that it
still holds are lost alike. -/
def State.contentLost (s : State) (cause : Nat) : State :=
  let before := s.rcl.state
  if before = .off && s.rcl.entries.isEmpty then s
  else
    let pend := s.rcl.pend
    let kind := s.rcl.kind.toNat
    let index := s.rcl.index
    let s := s.exportStop
    let s := { s with rcl := { s.rcl with pend := false, lost := true, entries := [], writeAt := 0, exported := 0
                                          restart := decide (before ≠ RecallState.off) } }.releasesDone
    let s := if pend then s.triggerIgnored kind (if kind = 2 then 0 else index) else s
    s.raise 0x0513 [(1, cause), (1, before.code), (6, 0)]

end Sys2Proof.Machine
end

