-- ==== Sys2Proof/Machine/Time.lean ====
section
/-!
DEFINITION. The time bases (02): the servo, the states, manual sets, the read sets, TB1's follow samples and the EDGE
inputs, and the meanings of the commands that act on them.
-/
namespace Sys2Proof.Machine

/-- Whether any port is enabled in its active tray (word 0 of a port tray, R262). -/
def State.anyPortEnabled (s : State) : Bool :=
  s.trays.any fun e => e.1 < 512 && Store.get 0 e.2.active 0 ≠ 0

/-- Whether base b drives the tick and a port is enabled (R38).
Log entry 33: DEDUCED, unsafe. -/
def State.tickHeld (s : State) (b : Nat) : Bool := s.field .tickCfg 0 0 0 2 = b && s.anyPortEnabled

/-- An event of base b, carrying the base's own value (R43). -/
def State.baseEvent (s : State) (b type : Nat) : State :=
  s.raise type [(1, b), (1, 0), (2, (s.base b).tag b), (4, 0)] (some (s.stamp b))

/-- ERRB as it should be (R42, R51 and the state table). -/
def State.errbNow (s : State) (b : Nat) : Bool :=
  match (s.base b).state with
  | .free | .acquiring => b ≠ 2
  | _ => (s.reg .timeBoundNs b).toNat < s.errNs b

/-- Brings ERRB of base b up to date; a change raises event 0x0122 (R43). -/
def State.checkErrb (s : State) (b : Nat) : State :=
  let e := s.errbNow b
  if e = (s.base b).errb then s
  else ((s.setBase b { s.base b with errb := e }).baseEvent b 0x0122)

/-- Brings ERRB of base b, and of TB1 which may follow it, up to date. -/
def State.checkBases (s : State) (b : Nat) : State := ((s.checkErrb b).checkErrb 1).noteTimed

/-- A base that enters a state: LOCKED ends its gap (R41), HOLDOVER takes the frequency last filtered while LOCKED, and the
growth of its error counts from the end of LOCKED (R40). -/
def TimeBase.enter (t : TimeBase) (st : BaseState) : TimeBase :=
  let growth := if t.state = .locked && st ≠ .locked then 0 else t.growth
  match st with
  | .locked => { t with state := st, everLocked := true, gap := false }
  | .holdover => { t with state := st, fr := t.frLocked, growth := growth }
  | _ => { t with state := st, growth := growth }

/-- A step: the value is replaced at this clock, with a new EPOCH and no offset left (R36, R493). -/
def TimeBase.stepTo (t : TimeBase) (acc : Nat) : TimeBase :=
  { t with acc := acc, fo := 0, epoch := t.epoch + 1, lockCount := 0 }

/-- Base b becomes t at one time clock, stepped by `step` or not: ERRB follows, and the events of R43 and the mark of a step
all show the base as the clock leaves it. -/
def State.rebase (s : State) (b : Nat) (t : TimeBase) (step : Option Origin := none) : State :=
  let old := s.base b
  let s := s.setBase b t
  let e := s.errbNow b
  let s := s.setBase b { t with errb := e }
  let s := if old.state = t.state then s else s.baseEvent b 0x0120
  let s := match step with
    | some o => (s.baseEvent b 0x0121).action o 10 b t.epoch.toNat
    | none => s
  let s := if old.errb = e then s else s.baseEvent b 0x0122
  s.checkBases b

/-- A base as its source leaves it: a timeout, SRC written 0, or FOLLOW none (R39, R42 and the state table); `err` is ERR_NS as
it stands. -/
def TimeBase.lost (t : TimeBase) (err : Nat) : TimeBase :=
  match t.state with
  | .locked => { t with errLocked := err, frLocked := t.fr, lockCount := 0 }.enter .holdover
  | .acquiring => { t with lockCount := 0 }.enter (if t.everLocked then .holdover else .free)
  | _ => t

/-- The source is gone. -/
def State.baseLost (s : State) (b : Nat) : State := s.rebase b ((s.base b).lost (s.errNs b))

/-- The update interval of base b in ns (R39). -/
def State.updateInterval (s : State) (b : Nat) : Nat :=
  if b = 0 then match s.syncLog with
    | none => 125000000
    | some l => if l < 0 then max 1 (1000000000 / 2 ^ l.natAbs) else 1000000000 * 2 ^ l.toNat
  else if b = 1 then
    if s.chain.role = 2 then 2 ^ s.field .chnCfg 0 0 4 3 * 125000 else 1000000
  else 2 ^ min 10 (s.field .timeCfg b 0 12 4) * 1000000

/-- Whether an update with offset o steps the base (R37, R38). -/
def State.steps (s : State) (b : Nat) (o : Int) : Bool :=
  ((s.base b).state = .free || (s.flag .timeCfg b 0 6 && (65536 * 1000000 : Int) < o.natAbs)) && !s.tickHeld b

/-- A base behind a valid source update at a clock: out of FREE and HOLDOVER it is ACQUIRING, and its count begins (R493). -/
def TimeBase.updated (t : TimeBase) (clock iv srcErr : Nat) : TimeBase :=
  let t := { t with srcErr := srcErr, lastUpdate := some clock, since := clock, interval := iv }
  if t.state = .free || t.state = .holdover then { t with lockCount := 0 }.enter .acquiring else t

/-- The filter of one update that does not step, with measured offset o (R493). -/
def TimeBase.filter (t : TimeBase) (o : Int) (iv slewMax : Nat) : TimeBase :=
  let fo := t.fo + rnd (o - t.fo) 2
  { t with fo := fo
           fr := if fo.natAbs * 1000000 ≤ slewMax * 262144 * iv then satS (t.fr + rnd (quot (fo * 16777216) iv) 4) 32 else t.fr }

/-- The count of updates within the bound, LOCKED at the eighth, and the frequency that HOLDOVER would take (R40, R493). -/
def TimeBase.judged (t : TimeBase) (bound : Nat) : TimeBase :=
  let t := { t with lockCount := if t.foNs ≤ bound then t.lockCount + 1 else 0 }
  let t := if t.state = .acquiring && 8 ≤ t.lockCount then t.enter .locked else t
  if t.state = .locked then { t with frLocked := t.fr } else t

/-- One valid source update with measured offset o in subns (R493). -/
def State.servo (s : State) (b : Nat) (o : Int) (srcErr : Nat) : State :=
  let iv := s.updateInterval b
  let t := (s.base b).updated s.clock iv srcErr
  if s.steps b o then s.rebase b (t.stepTo (Int.ofNat t.acc + o * subnsUnits).toNat) (some .mgmt)
  else s.rebase b ((t.filter o iv (s.slewMax b)).judged (s.reg .timeBoundNs b).toNat)

/-- SRC of a base's own source (R50). -/
def ownSrc : Nat → Nat
  | 0 => 1
  | 1 => 2
  | 3 => 3
  | _ => 0

/-- Whether base b has a source selected and takes updates from it (R39, R42): TB1 takes chain updates as a member only. -/
def State.takesUpdates (s : State) (b : Nat) : Bool :=
  b ≠ 2 && s.field .timeCfg b 0 0 3 = ownSrc b && (b ≠ 1 || s.chain.role = 2)

/-- TIME_SOURCE_UPDATE (R493): `offset` is the source's time minus the base's, in subns. One of TB3 is the response of a PTM
dialogue, whose receipt TB3 stamps (R44). `srcErr` tells on TB1 alone (R338). -/
def execTimeSourceUpdate (b : Fin 4) (offset : Int) (logInterval : Option Int) (srcErr : Word) (dt : Nat) (s : State) :
    Host.Outcome State Fault Refusal :=
  effect (fun s =>
    let s := s.elapse dt
    if s.takesUpdates b then
      let s := if b = 0 then match logInterval with
          | some l => { s with syncLog := some l }
          | none => s
        else s
      let s := if b = 3 then { s with ptm := { s.ptm with response := s.stamp 3 } } else s
      s.servo b offset srcErr.toNat
    else s) s

/-- Whether TB1 follows a base (R42). -/
def State.follows (s : State) : Option Nat :=
  if s.field .timeCfg 1 0 0 3 = 2 && s.chain.role ≠ 2 then s.followed else none

/-- Whether base b has a source (R39, R42): TB1 has none where it is to follow no base. -/
def State.hasSource (s : State) (b : Nat) : Bool :=
  s.field .timeCfg b 0 0 3 ≠ 0 && (b ≠ 1 || s.chain.role = 2 || s.followed.isSome)

/-- TMO update intervals have passed without a valid update, TMO acting as 2 at least (R39, R50). -/
def State.timedOut (s : State) (b : Nat) : Bool :=
  decide (max 2 (s.field .timeCfg b 0 8 4) * s.updateInterval b * 5 ≤ (s.clock - (s.base b).since) * 4)

/-- SOURCE_TIMEOUT (R39): TMO update intervals without a valid update are over. TB1 does not time out while it follows a
base. -/
def execSourceTimeout (b : Fin 4) (s : State) : Host.Outcome State Fault Refusal :=
  effect (fun s =>
    if b = 2 || (b = 1 && s.follows.isSome) || !s.timedOut b then s else s.baseLost b) s

/-- TB1_FOLLOW_SAMPLE (R42): TB1 and the base it follows are sampled at one time clock. -/
def execTb1FollowSample (dt : Nat) (s : State) : Host.Outcome State Fault Refusal :=
  effect (fun s =>
    let s := s.elapse dt
    match s.follows with
    | some f => s.servo 1 ((s.base f).subns - (s.tb1.subns : Int)) 0
    | none => s) s

/-- PTM_REQUEST (R39): the device asks for host time while TB3 takes it from PTM, and stamps the request in TB3 (R44). -/
def execPtmRequest (s : State) : Host.Outcome State Fault Refusal :=
  effect (fun s => if s.field .timeCfg 3 0 0 3 = 3 && s.busUp then
    { s with ptm := { s.ptm with request := s.stamp 3 } }.emit (.ptmRequest (s.stamp 3)) else s) s

/-- HOLDOVER_ERRB_SET (R40): the error estimate in HOLDOVER has grown beyond the bound. -/
def execHoldoverErrbSet (b : Fin 4) (s : State) : Host.Outcome State Fault Refusal :=
  effect (fun s => if (s.base b).state = .holdover then s.checkBases b else s) s

/-- A manual set takes the value in TIME_SET (R37); the base goes to FREE. -/
def State.manualSet (s : State) (b : Nat) (org : Origin) : State :=
  let sec := (s.reg .timeSetSecLo b).toNat + (s.reg .timeSetSecHi b).toNat * 2 ^ 32
  let ns := (s.reg .timeSetNs b).toNat + sec * 1000000000
  s.rebase b ({ (s.base b).stepTo (ns * nsUnits) with everLocked := false }.enter .free) (some org)

/-! ### Read sets (R49) -/

/-- Latches the read set of base b. -/
def State.latchSet (s : State) (b : Nat) (snap : Bool) : State :=
  let t := s.base b
  s.setBase b { t with rdHeld := true, rdSnap := snap, rdAcc := t.acc, rdTag := BitVec.ofNat 16 (t.tag b) }

/-- TIME_CTRL.SNAP: all four sets at one time clock, held sets too.
Log entry 99: DEDUCED, unsafe. -/
def State.snap (s : State) : State := (List.range 4).foldl (fun s b => s.latchSet b true) s

/-- A read of TIME_RD_SUBNS latches, unless a snapshot is held. -/
def State.readSubns (s : State) (b : Nat) : State := if (s.base b).rdSnap then s else s.latchSet b false

/-- The read set's SUBNS, NS and SEC: the values latched last; 0 before any latch (R11). -/
def TimeBase.rdSub (t : TimeBase) : Nat := t.rdAcc / subnsUnits

/-- UPD_AGE in ms (R51). -/
def State.updAge (s : State) (b : Nat) : Nat :=
  if !s.hasSource b then 0xFFFF
  else match (s.base b).lastUpdate with
    | some c => min 0xFFFF ((s.clock - c) / 1250000)
    | none => 0xFFFF

/-- TIME_STATUS[b] (R49, R51). -/
def State.timeStatus (s : State) (b : Nat) : Word :=
  let t := s.base b
  BitVec.ofNat 32 ((if t.rdHeld then t.rdTag.toNat else t.tag b) + s.updAge b * 65536)

/-! ### EDGE capture (R45 to R48) -/

/-- The delay from the ball to the capture latch of input e, in subns: 4.00 ns and the board delay (R45). -/
def State.edgeDelay (s : State) (e : Nat) : Nat := 4 * 65536 + (s.reg .timeEdgeDly e).toNat

/-- The compensated stamp of an EDGE input whose latch takes the transition now (R45): the delay is taken from the value within
the second, with a borrow from the 64-bit seconds. -/
def State.edgeStamp (s : State) (e : Nat) : BitVec 128 :=
  let b := s.field .timeEdgeCfg e 0 4 2
  let d := s.edgeDelay e
  let sub := (s.base b).subns
  let sec := sub / 65536 / 1000000000 % 2 ^ 64
  let x := sub % (65536 * 1000000000)
  let (sec, x) := if x < d then ((sec + 2 ^ 64 - 1) % 2 ^ 64, x + 65536 * 1000000000) else (sec, x)
  timeValue (sec * (65536 * 1000000000) + (x - d)) ((s.base b).tag b)

/-- What an input captures now (R45, R47). -/
def State.edgeCapture (s : State) (e : Nat) (rising : Bool) (seq : Nat) : EdgeCapture :=
  let b := s.field .timeEdgeCfg e 0 4 2
  { stamp := s.edgeStamp e, rising := rising, seq := seq, evt := s.flag .timeEdgeCfg e 0 6, base := b
    epoch := (s.base b).epoch, key := (s.base b).subns - (s.edgeDelay e : Int) }

/-- Whether no capture that is still to come can stand before this one of input e (R48): another enabled input of the same base
and EPOCH could still bring an earlier stamp, or the same stamp under a lower index.
Log entry 99: DEDUCED, unsafe. -/
def State.captureDue (s : State) (e : Nat) (c : EdgeCapture) : Bool :=
  (s.base c.base).epoch ≠ c.epoch || (List.range 16).all fun i =>
    let h := (s.base c.base).subns - (s.edgeDelay i : Int)
    i = e || !s.flag .timeEdgeCfg i 0 0 || s.field .timeEdgeCfg i 0 4 2 ≠ c.base || c.key < h || (c.key = h && e < i)

/-- Delivers one capture (R48). -/
def State.deliverCapture (s : State) (e : Nat) (c : EdgeCapture) : State :=
  if c.evt then (s.nextClock).raise 0x0110 [(1, e), (1, bit c.rising), (2, c.seq), (4, 0)] (some c.stamp) else s

/-- Delivers the captures whose turn has come, in order of stamp, equal stamps in ascending input index (R48).
Log entry 99: DEDUCED, unsafe. -/
def State.deliverCaptures (s : State) : State :=
  let due := (List.range 16).flatMap fun e => ((s.edge e).queue.takeWhile (s.captureDue e)).map fun c => (e, c)
  let keep := fun (s : State) (e : Nat) =>
    let x := s.edge e
    s.setEdge e { x with queue := x.queue.drop (due.filter (·.1 = e)).length }
  let s := (List.range 16).foldl keep s
  (sortBy (fun a b => decide (a.2.key ≤ b.2.key)) due).foldl (fun s x => s.deliverCapture x.1 x.2) s

/-- An accepted transition of an enabled direction (R47, R240).
Log entry 30: DEDUCED, unsafe. -/
def State.edgeAccepted (s : State) (e : Nat) (rising : Bool) : State :=
  let seq := ((s.reg .timeEdgeSeq e).toNat + 1) % 65536
  let s := s.setReg .timeEdgeSeq e 0 (BitVec.ofNat 32 seq)
  let x := s.edge e
  let near := match x.last with
    | some c => decide (4 * (s.clock - c) ≤ 16 * 5)
    | none => false
  let s := if near || 16 ≤ x.queue.length then
      let s := s.bump .timeEdgeMiss e
      if s.flag .timeEdgeCfg e 0 6 then
        s.raise 0x0111 [(1, e), (1, bit rising), (2, seq), (4, 0)] (some (s.edgeStamp e)) else s
    else s.setEdge e { queue := x.queue ++ [s.edgeCapture e rising seq], last := some s.clock }
  if s.flag .wallRclCfg 0 0 e then (s.trigger 1 e .auto none).2 else s

/-- EDGE_TRANSITION (R45, R46): `dt` clocks on the capture latch takes a crossing of the input's threshold, 4 ns behind the
crossing at the ball; the input is then sampled at the new level on `samples` consecutive time clocks.
Log entry 99: DEDUCED, unsafe. -/
def execEdgeTransition (e : Fin 16) (rising : Bool) (samples dt : Nat) (s : State) :
    Host.Outcome State Fault Refusal :=
  effect (fun s =>
    let s := (s.elapse dt).deliverCaptures
    let powered := s.power.pstate ≠ .keep && s.power.pstate ≠ .reset
    let enabled := s.flag .timeEdgeCfg e 0 0 && (if rising then s.flag .timeEdgeCfg e 0 1 else s.flag .timeEdgeCfg e 0 2)
    if powered && enabled && s.field .timeEdgeCfg e 0 8 8 ≤ samples then (s.edgeAccepted e rising).deliverCaptures else s) s

end Sys2Proof.Machine
end

