-- ==== Sys2Proof/Machine/Trays.lean ====
section
/-!
DEFINITION. Trays (08, R262): their numbers, word layout, reset values, the two banks and the swap with its marks.
Tray number: 8 × m + k for a port, 512 + m for a mill, 576 + w for a wall (R437).
-/
namespace Sys2Proof.Machine

/-- A bank: the words that differ from their reset values. -/
abbrev Bank := Store Word

inductive TrayKind where
  | port | mill | wall
  deriving DecidableEq, Repr

/-- The kind of a tray by its number. -/
def trayKind (t : Nat) : TrayKind := if t < 512 then .port else if t < 576 then .mill else .wall

/-- Words of a tray image (R262). -/
def TrayKind.size : TrayKind → Nat
  | .port => 6039
  | .mill => 30
  | .wall => 1170

/-- The tray number a tray identifier names, or none for an identifier that R177 rejects. -/
def trayOfId (id : Nat) : Option Nat :=
  match id / 16384 with
  | 0 => if id < 512 then some id else none
  | 1 => if id % 16384 < 64 then some (512 + id % 16384) else none
  | 2 => if id % 16384 < 256 then some (576 + id % 16384) else none
  | _ => none

/-- The tray identifier of a tray number (R177). -/
def trayId (t : Nat) : Nat :=
  match trayKind t with
  | .port => t
  | .mill => 0x4000 + (t - 512)
  | .wall => 0x8000 + (t - 576)

/-! ### Port tray words (R262) -/

namespace PW
def en := 0
def frameTicks := 1
def framePhase := 2
def latNs := 3
def readoutNs := 4
def dt := 5
def w := 6
def h := 7
def lines := 8
def cfa := 9
def linEn := 10
def lin := 11
def ped := 268
def linGain := 272
def noise := 273
def dpcEn := 306
def dpcK := 307
def defectN := 308
def defect := 309
def snrEn := 1333
def snrK := 1334
def cw := 1335
def swt := 1336
def tnrEn := 1368
def tnrK := 1369
def mot := 1370
def cutIdx := 1386
def cutFrac := 1387
def lscEn := 1388
def lscLx := 1389
def lscLy := 1390
def lscGx := 1391
def lscGy := 1392
def lscG := 1393
def dmT := 5749
def irk := 5750
def wb := 5753
def m := 5756
def off := 5765
def tone := 5768
def yccMat := 6025
def yccRange := 6026
def statEn := 6027
def statParts := 6028
def x0 := 6029
def y0 := 6030
def zw := 6031
def zh := 6032
def zx := 6033
def zy := 6034
def statSat := 6035
def histSrc := 6036
def flkSh := 6037
def expLat := 6038
end PW

/-! ### Mill tray words -/

namespace MW
def statRing := 0
def tapEn := 1
def tapPort := 5
def tx0 := 9
def ty0 := 13
def tw := 17
def th := 21
def tapPlane := 25
def tapRing := 26
end MW

/-! ### Wall tray words; an entry e starts at `entry + 14 * e` -/

namespace WW
def en := 0
def fmt := 1
def ww := 2
def wh := 3
def prio := 4
def stream := 5
def ring := 6
def eth := 7
def chn := 8
def rclEn := 9
def bg := 10
def loss := 13
def wf := 16
def wph := 17
def coef := 18
def entry := 274
end WW

/-- Reset value of a port tray word (R56, R107, R116, R155, R176, R210, R262). -/
def portReset (i : Nat) : Word :=
  let n : Nat :=
    if i < 9 then
      match i with
      | 1 => 1
      | 4 => 1000
      | 5 => 0x2C
      | 6 | 7 => 8
      | 8 => 4
      | _ => 0
    else if i < PW.ped then if i < PW.lin then 0 else min (4096 * (i - PW.lin)) 1048575
    else if i < PW.snrEn then if i = PW.linGain then 0x1000 else if i = PW.dpcK then 0x40 else 0
    else if i < PW.lscG then
      if PW.swt ≤ i && i < PW.tnrEn then 255 - 8 * (i - PW.swt)
      else if PW.mot ≤ i && i < PW.cutIdx then 255 - 17 * (i - PW.mot)
      else
        match i with
        | 1334 => 0x10
        | 1335 => 64
        | 1369 => 0x20
        | 1386 => 12
        | 1387 => 128
        | 1389 | 1390 => 8
        | 1391 | 1392 => 33
        | _ => 0
    else if i < PW.dmT then 0x1000
    else if PW.tone ≤ i && i < PW.yccMat then min (256 * (i - PW.tone)) 65535
    else
      match i with
      | 5749 => 0x0C
      | 5753 | 5754 | 5755 | 5756 | 5760 | 5764 => 0x1000
      | 6026 => 1
      | 6028 => 7
      | 6031 | 6032 => 2
      | 6033 | 6034 => 1
      | 6035 => 1040384
      | 6037 => 3
      | 6038 => 2
      | _ => 0
  BitVec.ofNat 32 n

/-- Reset value of a mill tray word (R210, R234). -/
def millReset (i : Nat) : Word :=
  if MW.tw ≤ i && i < MW.th then 32 else if MW.th ≤ i && i < MW.tapPlane then 1 else 0

/-- Reset value of a wall tray word (R214, R234). -/
def wallReset (i : Nat) : Word :=
  if i < WW.coef then
    match i with
    | 2 | 3 => 2
    | 10 => 4096
    | 11 | 12 | 14 => 32768
    | 13 => 20480
    | 15 => 52224
    | 16 => 1
    | _ => 0
  else if i < WW.entry then
    let j := i - WW.coef
    let ph := j / 8 % 8
    match j % 8 with
    | 3 => BitVec.ofNat 32 (16384 - 2048 * ph)
    | 4 => BitVec.ofNat 32 (2048 * ph)
    | _ => 0
  else
    let j := (i - WW.entry) % 14
    if 6 ≤ j && j ≤ 9 then 2 else 0

/-- Reset value of word i of tray t. -/
def trayReset (t i : Nat) : Word :=
  match trayKind t with
  | .port => portReset i
  | .mill => millReset i
  | .wall => wallReset i

/-- A word of a port, mill or wall bank as a number. -/
def pGet (b : Bank) (i : Nat) : Nat := (Store.get (portReset i) b i).toNat
def mGet (b : Bank) (i : Nat) : Nat := (Store.get (millReset i) b i).toNat
def wGet (b : Bank) (i : Nat) : Nat := (Store.get (wallReset i) b i).toNat

/-- A signed word of a bank (R261). -/
def pInt (b : Bank) (i : Nat) : Int := (Store.get (portReset i) b i).toInt
def wInt (b : Bank) (i : Nat) : Int := (Store.get (wallReset i) b i).toInt

/-- Field f of entry e of a wall bank. -/
def eGet (b : Bank) (e f : Nat) : Nat := wGet b (WW.entry + 14 * e + f)

/-- The active banks. -/
def State.pBank (s : State) (i : Nat) : Bank := (s.tray i).active
def State.mBank (s : State) (m : Nat) : Bank := (s.tray (512 + m)).active
def State.wBank (s : State) (w : Nat) : Bank := (s.tray (576 + w)).active

/-- EN of a port or wall in force; a wall that shedding disabled counts as disabled (R225). -/
def State.portEn (s : State) (i : Nat) : Bool := pGet (s.pBank i) PW.en ≠ 0

/-- The enabled ports, ascending. -/
def State.enabledPorts (s : State) : List Nat :=
  (s.trays.filter fun e => decide (e.1 < 512) && pGet e.2.active PW.en ≠ 0).map (·.1)
def State.wallEn (s : State) (w : Nat) : Bool := wGet (s.wBank w) WW.en ≠ 0 && !s.tick.shedWalls.contains w

/-- Writes words from index i on into a bank. -/
def bankWrite (t i : Nat) : List Word → Bank → Bank
  | [], b => b
  | w :: ws, b => bankWrite t (i + 1) ws (Store.put (trayReset t i) b i w)

/-- Reads n words of a bank from i on. -/
def bankRead (t i n : Nat) (b : Bank) : List Word :=
  (List.range n).map fun j => Store.get (trayReset t (i + j)) b (i + j)

/-- The words that differ between two banks, in ascending word order, with the old and the new value; `fuel` is the
sum of their lengths. -/
def bankDiff (t : Nat) : Nat → Bank → Bank → List (Nat × Word × Word)
  | 0, _, _ => []
  | _ + 1, [], [] => []
  | n + 1, (i, v) :: a, [] => (i, v, trayReset t i) :: bankDiff t n a []
  | n + 1, [], (j, w) :: b => (j, trayReset t j, w) :: bankDiff t n [] b
  | n + 1, (i, v) :: a, (j, w) :: b =>
    if i < j then (i, v, trayReset t i) :: bankDiff t n a ((j, w) :: b)
    else if j < i then (j, trayReset t j, w) :: bankDiff t n ((i, v) :: a) b
    else if v = w then bankDiff t n a b
    else (i, v, w) :: bankDiff t n a b

/-- The swap of one tray (R182) with its marks (R440). -/
def State.swapTray (s : State) (t : Nat) (o : Origin) : State :=
  let x := s.tray t
  let d := bankDiff t (x.active.length + x.staged.length) x.active x.staged
  let s := s.setTray t { x with active := x.staged, gen := x.gen + 1, state := .openTray, group := false }
  let s := s.mark o 2 (t * 8192) (BitVec.ofNat 32 (x.gen.toNat + min d.length 0xFFFF * 65536))
    (BitVec.ofNat 32 (x.gen + 1).toNat)
  (d.take (s.field .markCfg 0 0 0 8)).foldl (fun s e => s.mark o 1 (t * 8192 + e.1) e.2.1 e.2.2) s

/-- The tray status layout (R189). -/
def State.trayStatus (s : State) (t : Nat) : Word :=
  let x := s.tray t
  let c := match x.state with
    | .openTray => 0
    | .pending => 1
    | .armed => 2
  BitVec.ofNat 32 (x.gen.toNat + c * 65536 + bit x.group * 2 ^ 18)

/-- The refusal counter of a tray (R181). -/
def State.countTrayRefuse (s : State) (t : Nat) : State :=
  match trayKind t with
  | .port => s.bump .millTrayRefuse (t / 8)
  | .mill => s.bump .millTrayRefuse (t - 512)
  | .wall => s.bump .wallTrayRefuse

/-- A write of words into the staged bank, or its refusal (R179, R181): answers whether it was written. -/
def State.stageWords (s : State) (r d t i : Nat) (ws : List Word) : Bool × State :=
  let x := s.tray t
  let o : Origin := .domain (Fin.ofNat 16 d)
  if x.state = .openTray then (true, s.setTray t { x with staged := bankWrite t i ws x.staged })
  else
    let s := (s.mark o 1 (t * 8192 + i) (Store.get (trayReset t i) x.staged i) (ws.headD 0) true).countTrayRefuse t
    (false, s.raise 0x0402 [(2, trayId t), (1, if x.state = .pending then 1 else 2), (1, 0), (2, r), (2, 0)])

end Sys2Proof.Machine
end

