-- ==== Sys2Proof/Machine/MillFront.lean ====
section
/-!
DEFINITION. The front half of a mill (06) as functions of a port tray and its samples: packing and unpacking, classes,
linearisation, the noise model, the spatial stages, the reference code, the temporal blend and lens shading. A plane is a
list of lines.
-/
namespace Sys2Proof.Machine

/-- The sample at (x, y). -/
def Plane.px (p : Plane) (x y : Nat) : Nat := (List.getD p y []).getD x 0

/-- A plane computed position by position. -/
def gridOf (w h : Nat) (f : Nat → Nat → Nat) : Plane :=
  (List.range h).map fun y => (List.range w).map fun x => f x y

/-- Sum of a function over the positions of a plane. -/
def gridSum (w h : Nat) (f : Nat → Nat → Nat) : Nat :=
  (List.range h).foldl (fun a y => (List.range w).foldl (fun a x => a + f x y) a) 0

/-! ### Packing (R107, R122, R137) -/

/-- Pixels and bytes of a packing group, and bits of a sample, of a pixel data type. -/
def packing (dt : Nat) : Option (Nat × Nat × Nat) :=
  match dt with
  | 0x2A => some (1, 1, 8)
  | 0x2B => some (4, 5, 10)
  | 0x2C => some (2, 3, 12)
  | 0x2D => some (4, 7, 14)
  | 0x2E => some (1, 2, 16)
  | 0x1E => some (2, 4, 8)
  | 0x1F => some (2, 5, 10)
  | _ => none

def isYuv (dt : Nat) : Bool := dt = 0x1E || dt = 0x1F

/-- The group of a data type; RAW8 stands where a tray holds no pixel data type, which admission refuses. -/
def groupOf (dt : Nat) : Nat × Nat × Nat := (packing dt).getD (1, 1, 8)

/-- DT_d, W and H of a port tray. -/
def trayDt (b : Bank) : Nat := pGet b PW.dt
def trayW (b : Bank) : Nat := pGet b PW.w
def trayH (b : Bank) : Nat := pGet b PW.h

/-- The declared line bytes (R107). -/
def lineBytes (b : Bank) : Nat :=
  let (g, n, _) := groupOf (trayDt b)
  ceilDiv (trayW b) g * n

/-- Slices of a line (R122). -/
def slicesOf (b : Bank) : Nat := ceilDiv (trayW b) 256

/-- Words of `m` bytes that a unit of n bytes occupies: no word holds bytes of two units (R115). -/
def wordsOf (m n : Nat) : Nat := ceilDiv n m

/-- Read-side word j of a unit: its bytes, padded with 0x00, and its tag VALID (R115). -/
def readWord (m : Nat) (unit : List Byte) (j : Nat) : List Byte × Nat :=
  let bs := (unit.drop (j * m)).take m
  (padTo m bs, bs.length)

/-- The words of 32 bytes of a line slot (R116). -/
def slotWords (b : Bank) : Nat := wordsOf 32 (lineBytes b)

/-- The pixels of slice s of a line: the first, and the one behind the last (R122). -/
def slicePixels (b : Bank) (s : Nat) : Nat × Nat := (256 * s, min (256 * s + 256) (trayW b))

/-- The bytes of slice s of a line: the first, and the one behind the last (R122). -/
def sliceBytes (b : Bank) (s : Nat) : Nat × Nat :=
  let (g, n, _) := groupOf (trayDt b)
  (256 * s / g * n, min (256 * (s + 1) / g * n) (lineBytes b))

/-- Byte j of a filled line: samples 0, or Y 0 with Cb and Cr at half scale (R107). -/
def fillByte (dt j : Nat) : Byte :=
  if dt = 0x1E then (if j % 2 = 0 then 0x80 else 0)
  else if dt = 0x1F then (if j % 5 = 0 || j % 5 = 2 then 0x80 else 0)
  else 0

/-- A line filled out to, or cut at, n bytes (row 7 of R107). -/
def fitLine (dt n : Nat) (bs : List Byte) : List Byte :=
  (bs ++ (List.range (n - bs.length)).map fun k => fillByte dt (bs.length + k)).take n

/-- The samples of one packing group (R137): four of a YUV422 group, in the order Cb, Y0, Cr, Y1. -/
def unpackGroup (dt : Nat) (g : List Byte) : List Nat :=
  let b := fun i => (byteAt g i).toNat
  match dt with
  | 0x2B | 0x1F => (List.range 4).map fun p => b p * 4 + b 4 / 4 ^ p % 4
  | 0x2C => (List.range 2).map fun p => b p * 16 + b 2 / 16 ^ p % 16
  | 0x2D => (List.range 4).map fun p => b p * 64 + (b 4 + b 5 * 256 + b 6 * 65536) / 64 ^ p % 64
  | 0x2E => [b 0 + b 1 * 256]
  | 0x1E => (List.range 4).map b
  | _ => [b 0]

/-- The samples of n groups of a line. -/
def unpackGroups (dt size : Nat) : Nat → List Byte → List Nat
  | 0, _ => []
  | n + 1, bs => unpackGroup dt (bs.take size) ++ unpackGroups dt size n (bs.drop size)

/-- The samples of a line: those at columns W and beyond are dropped (R137). -/
def unpackLine (b : Bank) (e : LineEntry) : List Nat :=
  let dt := trayDt b
  let (g, n, _) := groupOf dt
  let bytes := match e with
    | .got bs _ | .part bs _ => fitLine dt (lineBytes b) bs
    | .filled => fitLine dt (lineBytes b) []
  (unpackGroups dt n (ceilDiv (trayW b) g) bytes).take (if isYuv dt then 2 * trayW b else trayW b)

/-! ### Classes (R136) -/

def cfaKind (b : Bank) : Nat := pGet b PW.cfa / 128 % 2
def cfaPx (b : Bank) : Nat := pGet b PW.cfa % 4
def cfaPy (b : Bank) : Nat := pGet b PW.cfa / 4 % 4

/-- The period of the pattern. -/
def cfaPeriod (b : Bank) : Nat := if cfaKind b = 0 then 2 else 4

/-- The 4×4 base pattern. -/
def basePat4 : List Nat := [3, 1, 0, 1, 1, 2, 1, 2, 0, 1, 3, 1, 1, 2, 1, 2]

/-- The class of a position, which may lie outside the frame. -/
def classAt (b : Bank) (x y : Int) : Nat :=
  let n := cfaPeriod b
  let c := ((x + cfaPx b) % n).toNat
  let r := ((y + cfaPy b) % n).toNat
  if n = 2 then 2 * r + c else basePat4.getD (4 * r + c) 0

/-! ### Linearisation and noise (R138, R139) -/

/-- Linear interpolation in a table of the tray. -/
def interp (b : Bank) (base i f k : Nat) : Int :=
  let a : Int := pGet b (base + i)
  let c : Int := pGet b (base + i + 1)
  a + rnd ((c - a) * f) k

def linearise (b : Bank) (cls xu : Nat) : Nat :=
  let bits := (groupOf (trayDt b)).2.2
  let x := xu * 2 ^ (16 - bits)
  let y : Int := if pGet b PW.linEn = 1 then interp b PW.lin (x / 256) (x % 256) 8 else x * 16
  let z := max (y - pGet b (PW.ped + cls)) 0
  satU (rnd (z * pGet b PW.linGain) 12) 20

/-- σ(v). -/
def sigma (b : Bank) (v : Nat) : Nat := satU (interp b PW.noise (v / 32768) (v / 128 % 256) 8) 16

/-- A scaled noise threshold. -/
def scaled (b : Bank) (v k : Nat) : Nat := satU (rnd (sigma b v * k) 4) 20

/-! ### The spatial stages (R140 to R143) -/

/-- The eight candidate offsets, in order. -/
def offsets8 : List (Int × Int) := [(-2, -2), (0, -2), (2, -2), (-2, 0), (2, 0), (-2, 2), (0, 2), (2, 2)]

/-- A coordinate outside the frame mirrored (2×2), or replaced at the period (4×4). -/
def borderAt (b : Bank) (c : Int) (n : Nat) : Nat :=
  let m : Int := n
  let r := if cfaKind b = 0 then if c < 0 then -c else if m - 1 < c then 2 * (m - 1) - c else c
    else if c < 0 then c + 4 else if m - 1 < c then c - 4 else c
  r.toNat

/-- The neighbours of a position: unreplaced positions of its class, in order. -/
def neighbours (b : Bank) (x y : Nat) : List (Int × Int) :=
  (offsets8.map fun o => ((x : Int) + o.1, (y : Int) + o.2)).filter fun p => classAt b p.1 p.2 = classAt b x y

/-- The value of a plane at a neighbour's border position. -/
def neighbourAt (b : Bank) (p : Plane) (q : Int × Int) : Nat :=
  p.px (borderAt b q.1 (trayW b)) (borderAt b q.2 (trayH b))

/-- The listed defects that lie in the frame. -/
def defectList (b : Bank) : List (Nat × Nat) :=
  ((List.range (pGet b PW.defectN)).map fun i =>
    let e := pGet b (PW.defect + i)
    (e % 8192, e / 65536 % 8192)).filter fun p => p.1 < trayW b && p.2 < trayH b

/-- Static defect replacement (R141). -/
def staticDefect (b : Bank) (l : Plane) (ds : List (Nat × Nat)) (x y : Nat) : Nat :=
  if ds.contains (x, y) then
    let ns := (neighbours b x y).filter fun q => !(ds.any fun d => (d.1 : Int) = q.1 && (d.2 : Int) = q.2)
    let sum := (ns.map (neighbourAt b l)).foldl (· + ·) 0
    if ns.isEmpty then l.px x y else (sum + ns.length / 2) / ns.length
  else l.px x y

/-- Outlier rejection (R142): the value, and whether it was rejected. -/
def outlier (b : Bank) (p : Plane) (x y : Nat) : Nat × Bool :=
  let c := p.px x y
  let ns := (neighbours b x y).map (neighbourAt b p)
  let mx := ns.foldl max 0
  let mn := ns.foldl min (2 ^ 20)
  let th := scaled b c (pGet b PW.dpcK)
  if mx + th < c then (mx, true) else if c + th < mn then (mn, true) else (c, false)

/-- Spatial smoothing (R143) of a centre against the values after static replacement. -/
def smooth (b : Bank) (p : Plane) (c x y : Nat) : Nat :=
  let ss := max (scaled b c (pGet b PW.snrK)) 1
  let cw := pGet b PW.cw
  let (num, den) := (neighbours b x y).foldl (fun (a : Nat × Nat) q =>
    let v := neighbourAt b p q
    let d := if v < c then c - v else v - c
    let w := pGet b (PW.swt + min (d * 8 / ss) 31)
    (a.1 + w * v, a.2 + w)) (cw * c, cw)
  (num + den / 2) / den

/-! ### The reference code (R146, R147) -/

/-- SHIFT of a block that spans hi − lo. -/
def blockShift (span : Nat) : Nat → Nat → Nat
  | 0, s => s
  | n + 1, s => if 255 < rnd span s then blockShift span n (s + 1) else s

/-- The 20 bytes of a block. -/
def encodeBlock (t : List Nat) (depth : Nat) : List Byte :=
  let lo := t.foldl min (2 ^ 20)
  let hi := t.foldl max 0
  let s := blockShift (hi - lo) 13 0
  leBytes 4 (depth + s * 4 + lo * 64) ++ t.map fun v => BitVec.ofNat 8 (rnd (v - lo : Nat) s).toNat

/-- The samples and the depth of a block. -/
def decodeBlock (bs : List Byte) : List Nat × Nat :=
  let h := leAt bs 0 4
  let s := min (h / 4 % 16) 13
  ((List.range 16).map fun i => satU ((h / 64 % 2 ^ 20 + (byteAt bs (4 + i)).toNat * 2 ^ s : Nat)) 20, h % 4)

/-- The columns of the blocks of line y, in order (R144): by class, then by column. -/
def lineBlocks (b : Bank) (y : Nat) : List (List Nat) :=
  (List.range 4).flatMap fun c =>
    let cols := (List.range (trayW b)).filter fun (x : Nat) => classAt b x y = c
    (List.range (cols.length / 16)).map fun k => (cols.drop (16 * k)).take 16

/-! ### The temporal blend (R148, R149) -/

/-- WD. -/
def weightDepth (d : Nat) : Nat :=
  match d with
  | 0 => 0
  | 1 => 128
  | 2 => 171
  | _ => 192

/-- The blend of one sample: its value t and its motion index m. -/
def blend (b : Bank) (sp r d : Nat) : Nat × Nat :=
  let st := max (scaled b sp (pGet b PW.tnrK)) 1
  let diff := if sp < r then r - sp else sp - r
  let m := min (diff * 8 / st) 15
  let a := (rnd (weightDepth d * (pGet b (PW.mot + m) + 1) : Nat) 8).toNat
  (satU (rnd ((256 - a) * sp + a * r : Nat) 8) 20, m)

/-- What the temporal filter makes of one frame. -/
structure TnrOut where
  /-- The blocks' samples, written back in place. -/
  plane : Plane := []
  /-- The new reference, line after line. -/
  bytes : List Byte := []
  minDepth : Nat := 3
  moved : Nat := 0
  poisoned : Nat := 0
  deriving DecidableEq, Repr

/-- One block: its columns, its 20 stored bytes, and whether they came poisoned. -/
def tnrBlock (b : Bank) (restart : Bool) (line : List Nat) (cols : List Nat) (stored : List Byte) (bad : Bool)
    (a : List Nat × TnrOut) : List Nat × TnrOut :=
  let (r, dep) := decodeBlock stored
  let d := if restart || bad then 0 else dep
  let res := cols.mapIdx fun i x => (x, blend b (line.getD x 0) (r.getD i 0) d)
  let moved := (res.filter fun e => 1 ≤ d && pGet b PW.cutIdx ≤ e.2.2).length
  let enc := encodeBlock (res.map (·.2.1)) (if bad && !restart then 0 else min (d + 1) 3)
  (res.foldl (fun l e => l.set e.1 e.2.1) a.1,
    { a.2 with bytes := a.2.bytes ++ enc, minDepth := min a.2.minDepth d, moved := a.2.moved + moved,
               poisoned := a.2.poisoned + bit (bad && !restart) })

/-- The whole frame: the stored reference, the byte offsets poisoned in it, and the spatial result. -/
def tnrFrame (b : Bank) (restart : Bool) (sp : Plane) (stored : List Byte) (bad : Nat → Bool) : TnrOut :=
  let stride := trayW b * 5 / 4
  (List.range (trayH b)).foldl (fun o y =>
    let line := List.getD sp y []
    let (l, o) := ((lineBlocks b y).mapIdx fun k c => (k, c)).foldl (fun a e =>
      let off := y * stride + 20 * e.1
      tnrBlock b restart line e.2 ((stored.drop off).take 20)
        (bad off || bad (off + 19)) a) (line, o)
    { o with plane := o.plane ++ [l] }) {}

/-- A reference whose blocks in the lines named carry DEPTH 0 (R451). -/
def zeroDepth (b : Bank) (lines : List Nat) (ref : List Byte) : List Byte :=
  let stride := trayW b * 5 / 4
  ref.mapIdx fun i x => if i % stride % 20 = 0 && lines.contains (i / stride) then x &&& 0xFC else x

/-! ### Lens shading (R153) -/

def lens (b : Bank) (t x y : Nat) : Nat :=
  if pGet b PW.lscEn = 0 then t
  else
    let lx := pGet b PW.lscLx
    let ly := pGet b PW.lscLy
    let gx := x / 2 ^ lx
    let gy := y / 2 ^ ly
    let fx := x % 2 ^ lx
    let fy := y % 2 ^ ly
    let g := fun i j => pGet b (PW.lscG + (classAt b x y * 33 + j) * 33 + i)
    let top := g gx gy * (2 ^ lx - fx) + g (gx + 1) gy * fx
    let bot := g gx (gy + 1) * (2 ^ lx - fx) + g (gx + 1) (gy + 1) * fx
    let gain := (rnd (top * (2 ^ ly - fy) + bot * fy : Nat) (lx + ly)).toNat
    satU (rnd (t * gain : Nat) 12) 20

/-! ### The front half of a raw frame -/

/-- The spatial result of a frame and its outlier rejections. -/
structure Spatial where
  xu : Plane
  sp : Plane
  dpc : Nat
  deriving DecidableEq, Repr

/-- Stages 1 to 5. -/
def spatial (b : Bank) (lines : List LineEntry) : Spatial :=
  let w := trayW b
  let h := trayH b
  let xu : Plane := lines.map (unpackLine b)
  let l := gridOf w h fun x y => linearise b (classAt b x y) (xu.px x y)
  if pGet b PW.dpcEn = 0 then
    { xu := xu, sp := if pGet b PW.snrEn = 0 then l else gridOf w h fun x y => smooth b l (l.px x y) x y, dpc := 0 }
  else
    let ds := defectList b
    let st := gridOf w h fun x y => staticDefect b l ds x y
    let c2 := gridOf w h fun x y => (outlier b st x y).1
    { xu := xu
      sp := if pGet b PW.snrEn = 0 then c2 else gridOf w h fun x y => smooth b st (c2.px x y) x y
      dpc := min 0xFFFFFF (gridSum w h fun x y => bit (outlier b st x y).2) }

end Sys2Proof.Machine
end

