-- ==== Sys2Proof/Machine/MillBack.lean ====
section
/-!
DEFINITION. The colour half of a mill (07) as functions of a port tray and the hand-over plane: mosaic interpolation,
infrared removal, white balance, matrix, tone curve and conversion, the YCbCr input point, and output formatting.
-/
namespace Sys2Proof.Machine

/-- A border position replaced at the pattern's period (R158). -/
def repAt (n : Nat) (c : Int) (size : Nat) : Nat :=
  (if c < 0 then c + n else if (size : Int) - 1 < c then c - n else c).toNat

/-- v(dx, dy) of a plane around (x, y) (R158). -/
def around (b : Bank) (p : Plane) (x y : Nat) (dx dy : Int) : Int :=
  p.px (repAt (cfaPeriod b) (x + dx) (trayW b)) (repAt (cfaPeriod b) (y + dy) (trayH b))

def absI (x : Int) : Int := x.natAbs

/-- The green plane at one position (R160, R162). -/
def greenAt (b : Bank) (p : Plane) (x y : Nat) : Nat :=
  let v := around b p x y
  let c := v 0 0
  let cls := classAt b x y
  let t : Int := pGet b PW.dmT
  if cfaKind b = 0 then
    if cls = 1 || cls = 2 then c.toNat
    else
      let gh := (absI (v (-1) 0 - v 1 0) + absI (2 * c - v (-2) 0 - v 2 0)) % 2 ^ 21
      let gv := (absI (v 0 (-1) - v 0 1) + absI (2 * c - v 0 (-2) - v 0 2)) % 2 ^ 21
      let eh := 2 * (v (-1) 0 + v 1 0) + 2 * c - v (-2) 0 - v 2 0
      let ev := 2 * (v 0 (-1) + v 0 1) + 2 * c - v 0 (-2) - v 0 2
      if 16 * gh < t * gv then satU (rnd eh 2) 20
      else if 16 * gv < t * gh then satU (rnd ev 2) 20
      else satU (rnd (eh + ev) 3) 20
  else if cls = 1 then c.toNat
  else
    let gh := absI (v (-1) 0 - v 1 0)
    let gv := absI (v 0 (-1) - v 0 1)
    if 16 * gh < t * gv then (rnd (v (-1) 0 + v 1 0) 1).toNat
    else if 16 * gv < t * gh then (rnd (v 0 (-1) + v 0 1) 1).toNat
    else (rnd (v (-1) 0 + v 1 0 + v 0 (-1) + v 0 1) 2).toNat

/-- Red, green and blue of a 2×2 position (R161). -/
def rgb2 (b : Bank) (p g : Plane) (x y : Nat) : Int × Int × Int :=
  let c : Int := p.px x y
  let gg : Int := g.px x y
  let d := fun dx dy => around b p x y dx dy - around b g x y dx dy
  let diag := rnd (d (-1) (-1) + d 1 (-1) + d (-1) 1 + d 1 1) 2
  let hor := rnd (d (-1) 0 + d 1 0) 1
  let ver := rnd (d 0 (-1) + d 0 1) 1
  let s := fun z => (satU z 20 : Int)
  match classAt b x y with
  | 0 => (c, gg, s (gg + diag))
  | 1 => (s (c + hor), c, s (c + ver))
  | 2 => (s (c + ver), c, s (c + hor))
  | _ => (s (gg + diag), gg, c)

/-- Offsets with both parts at most r. -/
def offsetsIn (r : Nat) : List (Int × Int) :=
  (List.range (2 * r + 1)).flatMap fun (j : Nat) => (List.range (2 * r + 1)).map fun (i : Nat) => ((i : Int) - r, (j : Int) - r)

/-- The positions of one class among offsets. -/
def ofClass (b : Bank) (x y k r : Nat) : List (Int × Int) :=
  (offsetsIn r).filter fun o => classAt b (x + o.1) (y + o.2) = k

/-- Red, green, blue and infrared of a 4×4 position (R163). -/
def rgb4 (b : Bank) (p g : Plane) (x y : Nat) : Int × Int × Int × Int :=
  let c : Int := p.px x y
  let gg : Int := g.px x y
  let cls := classAt b x y
  let colour := fun k =>
    let os := ofClass b x y k 2
    if cls = k then c
    else (satU (gg + mean ((os.map fun o => around b p x y o.1 o.2 - around b g x y o.1 o.2).foldl (· + ·) 0)
      os.length) 20 : Int)
  let irs := ofClass b x y 2 1
  let ir := if cls = 2 then c
    else mean ((irs.map fun o => around b p x y o.1 o.2).foldl (· + ·) 0) irs.length
  (colour 0, gg, colour 3, ir)

/-- One pixel behind stage 2: R, G, B, and whether a component was clipped there. -/
def stage2 (b : Bank) (p g : Plane) (x y : Nat) : (Int × Int × Int) × Bool :=
  if cfaKind b = 0 then (rgb2 b p g x y, false)
  else
    let (r, gg, bl, ir) := rgb4 b p g x y
    let cut := fun (z : Int) (k : Nat) => z - rnd (ir * pGet b (PW.irk + k)) 12
    let v := (cut r 0, cut gg 1, cut bl 2)
    let s := fun z => (satU z 20 : Int)
    ((s v.1, s v.2.1, s v.2.2), s v.1 ≠ v.1 || s v.2.1 ≠ v.2.1 || s v.2.2 ≠ v.2.2)

/-- White balance and matrix (R166, R167): the pixel and whether a component was clipped. -/
def balance (b : Bank) (v : Int × Int × Int) : (Nat × Nat × Nat) × Bool :=
  let wb := fun (z : Int) (k : Nat) => rnd (z * pGet b (PW.wb + k)) 12
  let a := (wb v.1 0, wb v.2.1 1, wb v.2.2 2)
  let s := fun z => (satU z 20 : Int)
  let q := (s a.1, s a.2.1, s a.2.2)
  let row := fun i => rnd (pInt b (PW.m + 3 * i) * q.1 + pInt b (PW.m + 3 * i + 1) * q.2.1
    + pInt b (PW.m + 3 * i + 2) * q.2.2) 12 + pInt b (PW.off + i)
  let m := (row 0, row 1, row 2)
  ((satU m.1 20, satU m.2.1 20, satU m.2.2 20),
    q.1 ≠ a.1 || q.2.1 ≠ a.2.1 || q.2.2 ≠ a.2.2 || s m.1 ≠ m.1 || s m.2.1 ≠ m.2.1 || s m.2.2 ≠ m.2.2)

/-- The tone curve (R168). -/
def toneOf (b : Bank) (c : Nat) : Nat := satU (interp b PW.tone (c / 4096) (c % 4096) 12) 16

/-- One row of the conversion matrices (R169). -/
def yccRow (mat row : Nat) : Int × Int × Int :=
  match mat, row with
  | 0, 0 => (3483, 11718, 1183)
  | 0, 1 => (-1877, -6315, 8192)
  | 0, _ => (8192, -7441, -751)
  | _, 0 => (4304, 11108, 972)
  | _, 1 => (-2288, -5904, 8192)
  | _, _ => (8192, -7533, -659)

/-- Y, Cb and Cr of a pixel (R170). -/
def yccOf (b : Bank) (r g bl : Nat) : Nat × Nat × Nat :=
  let full := fun k o =>
    let (x, y, z) := yccRow (pGet b PW.yccMat) k
    satU (rnd (x * r + y * g + z * bl) 14 + o) 16
  let (y, cb, cr) := (full 0 0, full 1 32768, full 2 32768)
  if pGet b PW.yccRange = 0 then (y, cb, cr)
  else
    let c := fun (v : Nat) => (32768 + rnd (((v : Int) - 32768) * 57344) 16).toNat
    ((4096 + rnd (y * 56064 : Nat) 16).toNat, c cb, c cr)

/-- The colour half of a raw frame, from the hand-over plane (R156).
Log entry 94: DEDUCED, safe. -/
def colourHalf (b : Bank) (o : Plane) : BackOut :=
  let w := trayW b
  let h := trayH b
  let g := gridOf w h fun x y => greenAt b o x y
  let s2 := (List.range h).map fun y => (List.range w).map fun x => stage2 b o g x y
  let bal := s2.map fun l => l.map fun e => balance b e.1
  let rgb := bal.map fun l => l.map fun e => (toneOf b e.1.1, toneOf b e.1.2.1, toneOf b e.1.2.2)
  let ycc := rgb.map fun l => l.map fun e => yccOf b e.1 e.2.1 e.2.2
  let clips := (s2.zip bal).map fun l => ((l.1.zip l.2).filter fun e => e.1.2 || e.2.2).length
  { planes := { y := ycc.map fun l => l.map (·.1)
                cb := ycc.map fun l => l.map (·.2.1)
                cr := ycc.map fun l => l.map (·.2.2)
                r := rgb.map fun l => l.map (·.1)
                g := rgb.map fun l => l.map (·.2.1)
                b := rgb.map fun l => l.map (·.2.2) }
    mr := s2.map fun l => l.map fun e => e.1.1.toNat
    mg := s2.map fun l => l.map fun e => e.1.2.1.toNat
    mb := s2.map fun l => l.map fun e => e.1.2.2.toNat
    green := g
    clip := min 0xFFFFFF (clips.foldl (· + ·) 0) }

/-- The YCbCr input point (R172), from the samples of each line; luma stands for green in the measures (R195). -/
def yuvInput (b : Bank) (xu : Plane) : BackOut :=
  let w := trayW b
  let sh := 2 ^ (16 - (groupOf (trayDt b)).2.2)
  let chroma := fun (l : List Nat) (off : Nat) (x : Nat) =>
    let i := x / 2
    let c := fun k => l.getD (4 * k + off) 0 * sh
    if x % 2 = 0 then c i else (rnd (c i + c (if 2 * i + 2 < w then i + 1 else i) : Nat) 1).toNat
  let luma := fun (l : List Nat) (x : Nat) => l.getD (4 * (x / 2) + 1 + 2 * (x % 2)) 0 * sh
  let mk := fun (f : List Nat → Nat → Nat) => xu.map fun l => (List.range w).map (f l)
  let y := mk luma
  let cb := mk fun l x => chroma l 0 x
  let cr := mk fun l x => chroma l 2 x
  { planes := { y := y, cb := cb, cr := cr }
    mr := y, mg := cb, mb := cr, green := y.map fun l => l.map (16 * ·), clip := 0 }

/-! ### Output formatting (R173, R174) -/

/-- The horizontal chroma step. -/
def chromaH (l : List Nat) : List Nat :=
  (List.range (l.length / 2)).map fun i =>
    (rnd ((if i = 0 then l.getD 1 0 else l.getD (2 * i - 1) 0) + 2 * l.getD (2 * i) 0 + l.getD (2 * i + 1) 0 : Nat) 2).toNat

/-- The vertical chroma step. -/
def chromaV (p : Plane) : Plane :=
  (List.range (p.length / 2)).map fun j =>
    (List.zip (List.getD p (2 * j) []) (List.getD p (2 * j + 1) [])).map fun e => (rnd (e.1 + e.2 : Nat) 1).toNat

/-- Reduction of a 16-bit component to n bits, 8 or 10. -/
def reduceTo (n v : Nat) : Nat := satU (rnd v (16 - n)) n

/-- The colour status word (R175). -/
def colourStatus (b : Bank) (clip : Nat) : Word :=
  BitVec.ofNat 32 (clip + pGet b PW.yccMat % 2 * 2 ^ 24 + pGet b PW.yccRange % 2 * 2 ^ 25
    + bit (isYuv (trayDt b)) * 2 ^ 26 + cfaKind b * 2 ^ 27)

end Sys2Proof.Machine
end

