-- ==== Sys2Proof/Machine/Stones.lean ====
section
/-!
DEFINITION. Stones and wall images (10) as functions of a wall tray and a frame's planes: the polyphase scaler, the
formats, the layout of a wall frame's bytes and the owner of each pixel.
-/
namespace Sys2Proof.Machine

/-- Fields of a stone entry (R234). -/
structure Stone where
  on : Bool
  remote : Bool
  src : Nat
  rwall : Nat
  cx : Nat
  cy : Nat
  cw : Nat
  ch : Nat
  ow : Nat
  oh : Nat
  px : Nat
  py : Nat
  hset : Nat
  vset : Nat
  deriving DecidableEq, Repr

/-- Entry e of a wall bank. -/
def stoneAt (b : Bank) (e : Nat) : Stone :=
  Stone.mk (eGet b e 0 ≠ 0) (eGet b e 1 ≠ 0) (eGet b e 2) (eGet b e 3) (eGet b e 4) (eGet b e 5) (eGet b e 6)
    (eGet b e 7) (eGet b e 8) (eGet b e 9) (eGet b e 10) (eGet b e 11) (eGet b e 12) (eGet b e 13)

/-- The index of a local entry's source port: port address bits 10:2 (R22). -/
def Stone.port (e : Stone) : Nat := e.src / 4 % 512

/-- The enabled entries of a wall bank, ascending. -/
def stonesOf (b : Bank) : List (Nat × Stone) :=
  ((List.range 64).map fun e => (e, stoneAt b e)).filter fun p => p.2.on

/-- The enabled local entries. -/
def localStones (b : Bank) : List (Nat × Stone) := (stonesOf b).filter fun p => !p.2.remote

def wallW (b : Bank) : Nat := wGet b WW.ww
def wallH (b : Bank) : Nat := wGet b WW.wh
def wallFmt (b : Bank) : Nat := wGet b WW.fmt

/-! ### The scaler (R213) -/

/-- Source position of output index i, in Q.16. -/
def scalePos (c cw ow i : Nat) : Int :=
  let st := cw * 65536 / ow
  (c * 65536 : Nat) + shr ((st : Int) - 65536) 1 + (i * st : Nat)

/-- The clamped source indexes of the eight taps. -/
def scaleTaps (c cw ow i : Nat) : List Nat :=
  let ip := shr (scalePos c cw ow i) 16
  (List.range 8).map fun (t : Nat) => (min (max (ip - 3 + (t : Int)) c) (c + cw - 1 : Nat)).toNat

/-- One output sample from a function of the source index. -/
def scaleSample (b : Bank) (set c cw ow i : Nat) (src : Nat → Nat) : Nat :=
  let ph := (shr (scalePos c cw ow i) 13 % 8).toNat
  let acc := ((scaleTaps c cw ow i).mapIdx fun t k => wInt b (WW.coef + (set * 8 + ph) * 8 + t) * src k).foldl (· + ·) 0
  satU (rnd acc 14) 16

/-- A plane cropped and scaled by an entry. -/
def scalePlane (b : Bank) (e : Stone) (p : Plane) : Plane :=
  let h := (List.range e.ch).map fun j => (List.range e.ow).map fun i =>
    scaleSample b e.hset e.cx e.cw e.ow i fun k => p.px k (e.cy + j)
  (List.range e.oh).map fun j => (List.range e.ow).map fun i =>
    scaleSample b e.vset e.cy e.ch e.oh j fun k => Plane.px h i (k - e.cy)

/-- The last source line among the taps of output line j (R228). -/
def lastTap (e : Stone) (j : Nat) : Nat := (scaleTaps e.cy e.ch e.oh j).foldl max 0

/-! ### Formats (R217) -/

/-- Bits of a sample, and bytes it takes. -/
def fmtBits (fmt : Nat) : Nat := if fmt = 1 || fmt = 3 then 10 else 8
def fmtBytes (fmt : Nat) : Nat := if fmt = 1 || fmt = 3 then 2 else 1

/-- Bytes of w × h pixels in a format. -/
def imageBytes (fmt w h : Nat) : Nat :=
  match fmt with
  | 0 => w * h * 3 / 2
  | 1 => w * h * 3
  | 2 => w * h * 2
  | 3 => w * h * 4
  | _ => w * h * 3

/-- Bytes of a wall frame. -/
def wallSize (b : Bank) : Nat := imageBytes (wallFmt b) (wallW b) (wallH b)

/-- The samples of line y of a wall in a format without planes: component, column, line. -/
def lineLayout (fmt w y : Nat) : List (Nat × Nat × Nat) :=
  if fmt = 4 then (List.range w).flatMap fun x => [(0, x, y), (1, x, y), (2, x, y)]
  else (List.range (w / 2)).flatMap fun i => [(1, 2 * i, y), (0, 2 * i, y), (2, 2 * i, y), (0, 2 * i + 1, y)]

/-- The samples of a wall frame in byte order: component, and the pixel it belongs to. A chroma sample belongs to its
co-sited luma pixel (R218). -/
def wallLayout (fmt w h : Nat) : List (Nat × Nat × Nat) :=
  if fmt < 2 then
    ((List.range h).flatMap fun y => (List.range w).map fun x => (0, x, y))
      ++ (List.range (h / 2)).flatMap fun j => (List.range (w / 2)).flatMap fun i => [(1, 2 * i, 2 * j), (2, 2 * i, 2 * j)]
  else (List.range h).flatMap fun y => lineLayout fmt w y

/-- Whether an entry of size ow × oh covers a pixel. -/
def covers (px py ow oh x y : Nat) : Bool := px ≤ x && x < px + ow && py ≤ y && y < py + oh

/-- Sizes of the remote frames placed, by entry: a remote entry covers what its frame's header says. -/
abbrev RemoteSizes := List (Nat × Nat × Nat)

/-- The width and height that entry e covers. -/
def stoneSize (rs : RemoteSizes) (e : Nat) (st : Stone) : Nat × Nat :=
  if st.remote then
    match rs.find? (·.1 = e) with
    | some r => (r.2.1, r.2.2)
    | none => (st.ow, st.oh)
  else (st.ow, st.oh)

/-- The owner of a pixel: the highest enabled entry that covers it (R218). -/
def ownerOf (ss : List (Nat × Stone)) (rs : RemoteSizes) (x y : Nat) : Option Nat :=
  ((ss.filter fun p =>
    let z := stoneSize rs p.1 p.2
    covers p.2.px p.2.py z.1 z.2 x y).getLast?).map (·.1)

/-- A stone ready for placement: its three components in the wall's format. -/
structure CutStone where
  a : Plane
  b : Plane
  c : Plane
  deriving DecidableEq, Repr

/-- Cuts a local stone from a frame's planes (R212). -/
def cutStone (b : Bank) (e : Stone) (p : Planes) : CutStone :=
  let fmt := wallFmt b
  let n := fmtBits fmt
  let red := fun (q : Plane) => q.map fun l => l.map (reduceTo n)
  if fmt = 4 then
    CutStone.mk (red (scalePlane b e p.r)) (red (scalePlane b e p.g)) (red (scalePlane b e p.b))
  else
    let sub := fun (q : Plane) => let h := (scalePlane b e q).map chromaH
      if fmt < 2 then chromaV h else h
    CutStone.mk (red (scalePlane b e p.y)) (red (sub p.cb)) (red (sub p.cr))

/-- A sample of a cut stone at stone position (x, y). -/
def CutStone.sample (s : CutStone) (fmt comp x y : Nat) : Nat :=
  let cx := if fmt = 4 then x else x / 2
  let cy := if fmt < 2 then y / 2 else y
  match comp with
  | 0 => s.a.px x y
  | 1 => s.b.px cx cy
  | _ => s.c.px cx cy

/-- A colour of the wall tray (BG or LOSS), one component reduced to the format. -/
def wallColour (b : Bank) (base comp : Nat) : Nat := reduceTo (fmtBits (wallFmt b)) (wGet b (base + comp))

/-- The bytes of one sample. -/
def sampleBytes (fmt v : Nat) : List Byte := leBytes (fmtBytes fmt) v

/-- The bytes that an entry owns in the wall image, with their offsets, where `keep` holds of a sample's component and
pixel (R218). -/
def ownedBytes (b : Bank) (rs : RemoteSizes) (e : Nat) (keep : Nat → Nat → Nat → Bool) (value : Nat → Nat → Nat → Nat) :
    List (Nat × List Byte) :=
  let fmt := wallFmt b
  let ss := stonesOf b
  ((wallLayout fmt (wallW b) (wallH b)).mapIdx fun i p =>
    (i * fmtBytes fmt, p)).filterMap fun (q : Nat × Nat × Nat × Nat) =>
      if keep q.2.1 q.2.2.1 q.2.2.2 && ownerOf ss rs q.2.2.1 q.2.2.2 = some e then
        some (q.1, sampleBytes fmt (value q.2.1 q.2.2.1 q.2.2.2)) else none

end Sys2Proof.Machine
end

