-- ==== Sys2Proof/Machine/Flags.lean ====
section
/-!
DEFINITION. The flags that frames and wall frames carry: FLAGS of a source frame (R198), what a cause of filling sets (R225),
FLAGS and WIN_MASK of a wall frame (R229, R230).
-/
namespace Sys2Proof.Machine

/-- Link status bits that break the window condition (R109). -/
def breaksWindow (status : BitVec 8) : Bool := (status &&& 0xBC) ≠ 0

/-- FLAGS of a frame (R198).
Log entry 26: DEDUCED, unsafe. -/
def Frame.flags (f : Frame) : Nat :=
  bit f.shed + 2 * bit (f.poison || bitOf f.fstat 5)
    + 4 * bit (breaksWindow f.status || f.missing || f.missed) + 8 * bit f.missed + 16 * bit f.unsync
    + 32 * bit f.missing + 64 * f.appSrc.toNat + 256 * bit f.reqNew + 512 * bit f.replay

/-- FLAGS that a cause of filling sets (R225).
Log entries 26: DEDUCED, unsafe; 50: DEDUCED, unsafe. -/
def FillCause.flags : FillCause → Nat
  | .sourceMissing => 32 + 4
  | .deadline => 32 + 4 + 8
  | .portIdle => 32
  | .remoteLate => 32 + 64 + 4
  | .remoteMismatch => 32 + 64
  | .holdOverflow => 32 + 4 + 8

/-- The bit of a cause in event 0x0501. -/
def FillCause.code : FillCause → Nat
  | .sourceMissing => 1
  | .deadline => 2
  | .portIdle => 4
  | .remoteLate => 8
  | .remoteMismatch => 16
  | .holdOverflow => 32

/-- Whether a cause fills a remote entry. -/
def FillCause.isRemote : FillCause → Bool
  | .remoteLate | .remoteMismatch => true
  | _ => false

/-- The OR of numbers. -/
def orAll (ns : List Nat) : Nat := ns.foldl (· ||| ·) 0

/-- Bits of a mask, one for each entry named once. -/
def maskOf (es : List Nat) : Nat := orAll (es.map fun e => if e < 64 then 2 ^ e else 0)

/-- FLAGS of a wall frame (R230).
Log entry 26: DEDUCED, unsafe. -/
def WallDue.flags (d : WallDue) (poison final stream : Bool) : Nat :=
  bit d.shed + 2 * bit poison ||| orAll (d.marks.map fun m => m.flags.toNat % 32 + (if m.remote then 0
      else m.flags.toNat / 512 % 2 * 512)) ||| orAll (d.fills.map fun f => f.2.flags)
    ||| 16 * bit d.unsync ||| 128 * bit final ||| 256 * bit stream

/-- WIN_MASK (R229).
Log entry 50: DEDUCED, unsafe. -/
def WallDue.winMask (d : WallDue) : Nat :=
  maskOf ((d.marks.filter fun m => m.flags.toNat.testBit 2).map (·.entry)
    ++ (d.fills.filter fun f => f.2.flags.testBit 2).map (·.1))

end Sys2Proof.Machine
end

