-- ==== Sys2Proof/Machine/Stats.lean ====
section
/-!
DEFINITION. What a mill measures and the records it makes: statistics records (R190 to R202) and tap
records (R231, R232), with RSEQ still 0.
-/
namespace Sys2Proof.Machine

/-- The statistics window of a port tray (R191). -/
structure Zones where
  x0 : Nat
  y0 : Nat
  zw : Nat
  zh : Nat
  zx : Nat
  zy : Nat
  deriving DecidableEq, Repr

def zonesOf (b : Bank) : Zones :=
  { x0 := pGet b PW.x0, y0 := pGet b PW.y0, zw := pGet b PW.zw, zh := pGet b PW.zh, zx := pGet b PW.zx,
    zy := pGet b PW.zy }

/-- The sums of one zone (R192). -/
structure ZoneSum where
  r : Nat := 0
  g : Nat := 0
  b : Nat := 0
  sat : Nat := 0
  sharp : Nat := 0
  deriving DecidableEq, Repr

def cap (n x : Nat) : Nat := min x (2 ^ n - 1)

/-- Adds two sums, saturating (R192, R199). -/
def ZoneSum.add (a c : ZoneSum) : ZoneSum :=
  { r := cap 48 (a.r + c.r), g := cap 48 (a.g + c.g), b := cap 48 (a.b + c.b), sat := cap 32 (a.sat + c.sat),
    sharp := cap 48 (a.sharp + c.sharp) }

/-- The border period of the green plane: that of the pattern, 2 for YUV422 (R158, R195). -/
def greenAround (b : Bank) (g : Plane) (x y : Nat) (dx dy : Int) : Int :=
  let n := if isYuv (trayDt b) then 2 else cfaPeriod b
  g.px (repAt n (x + dx) (trayW b)) (repAt n (y + dy) (trayH b))

/-- What one pixel adds to its zone. -/
def pixelSum (b : Bank) (o : BackOut) (x y : Nat) : ZoneSum :=
  let r := o.mr.px x y
  let g := o.mg.px x y
  let bl := o.mb.px x y
  let v := greenAround b o.green x y
  let peak := if isYuv (trayDt b) then r * 16 else max r (max g bl)
  { r := r, g := g, b := bl, sat := bit (pGet b PW.statSat ≤ peak)
    sharp := (absI (2 * v 0 0 - v (-1) 0 - v 1 0) + absI (2 * v 0 0 - v 0 (-1) - v 0 1)).toNat }

/-- The sums of zone (i, j). -/
def zoneSum (b : Bank) (o : BackOut) (z : Zones) (i j : Nat) : ZoneSum :=
  (List.range z.zh).foldl (fun a dy => (List.range z.zw).foldl (fun a dx =>
    a.add (pixelSum b o (z.x0 + i * z.zw + dx) (z.y0 + j * z.zh + dy))) a) {}

/-- All zones, row by row. -/
def allZones (b : Bank) (o : BackOut) : List ZoneSum :=
  let z := zonesOf b
  (List.range z.zy).flatMap fun j => (List.range z.zx).map fun i => zoneSum b o z i j

/-- HIST_SRC as applied (R195). -/
def histSrc (b : Bank) : Nat := if isYuv (trayDt b) then 0 else pGet b PW.histSrc

/-- The histogram's 256 bins (R193). -/
def histogram (b : Bank) (o : BackOut) : List Nat :=
  let z := zonesOf b
  let bins := (List.range (z.zy * z.zh)).flatMap fun dy => (List.range (z.zx * z.zw)).map fun dx =>
    let x := z.x0 + dx
    let y := z.y0 + dy
    if histSrc b = 0 then Plane.px o.planes.y x y / 256
    else min (max (o.mr.px x y) (max (o.mg.px x y) (o.mb.px x y)) / 4096) 255
  (List.range 256).map fun i => cap 32 (bins.count i)

/-- Entries of the flicker profile (R194). -/
def flickerLen (b : Bank) : Nat := ceilDiv (trayH b) (2 ^ pGet b PW.flkSh)

def flicker (b : Bank) (o : BackOut) : List Nat :=
  let n := 2 ^ pGet b PW.flkSh
  (List.range (flickerLen b)).map fun e =>
    (((o.green.drop (e * n)).take n).map fun l => (l.map (· / 256)).foldl (· + ·) 0).foldl (· + ·) 0

/-! ### Records -/

/-- The header of a statistics record (R197). -/
def statHeader (f : Frame) (pa kind part len : Nat) : List Byte :=
  [BitVec.ofNat 8 kind, BitVec.ofNat 8 part] ++ leBytes 2 pa ++ leBytes 6 f.number.toNat ++ leBytes 2 len
    ++ leBytes 2 f.bind.pgen.toNat ++ leBytes 2 f.bind.mgen.toNat ++ leBytes 2 f.reqGen.toNat
    ++ leBytes 2 f.appGen.toNat ++ leBytes 2 f.flags ++ [f.status, 0] ++ leBytes 4 f.fstat.toNat
    ++ leBytes 4 f.cstat.toNat ++ leBytes 8 f.tick ++ leBytes 16 f.stamp.toNat ++ leBytes 8 0

/-- A zone entry (R200). -/
def ZoneSum.bytes (z : ZoneSum) : List Byte :=
  leBytes 6 z.r ++ leBytes 6 z.g ++ leBytes 6 z.b ++ leBytes 4 z.sat ++ leBytes 6 z.sharp ++ leBytes 4 0

/-- The summary record (R199, R202). -/
def summaryRecord (f : Frame) (pa : Nat) (zs : List ZoneSum) : List Byte :=
  let b := f.bind.ptray
  let z := zonesOf b
  let t := zs.foldl ZoneSum.add {}
  statHeader f pa 1 0 128
    ++ [BitVec.ofNat 8 z.zx, BitVec.ofNat 8 z.zy, BitVec.ofNat 8 (pGet b PW.flkSh),
        BitVec.ofNat 8 (pGet b PW.statParts % 8 + 8 * histSrc b)]
    ++ leBytes 4 (z.zx * z.zw * z.zy * z.zh) ++ leBytes 6 t.r ++ leBytes 6 t.g ++ leBytes 6 t.b ++ leBytes 4 t.sat
    ++ leBytes 6 t.sharp
    ++ (match f.tag with
      | some g => leBytes 4 g.exp.toNat ++ leBytes 2 g.gain.toNat
      | none => leBytes 6 0)
    ++ leBytes 22 0

/-- The zone records (R196). -/
def zoneRecords (f : Frame) (pa : Nat) (zs : List ZoneSum) : List (List Byte) :=
  let z := zonesOf f.bind.ptray
  (List.range (ceilDiv z.zy 4)).map fun p =>
    let part := (zs.drop (4 * p * z.zx)).take (z.zx * min 4 (z.zy - 4 * p))
    statHeader f pa 2 p (64 + 32 * part.length) ++ part.flatMap ZoneSum.bytes

/-- The records of a measured frame, in order (R196). -/
def statRecords (f : Frame) (pa : Nat) (o : BackOut) : List (List Byte) :=
  let b := f.bind.ptray
  let parts := pGet b PW.statParts
  let zs := allZones b o
  [summaryRecord f pa zs] ++ (if parts.testBit 0 then zoneRecords f pa zs else [])
    ++ (if parts.testBit 1 then [statHeader f pa 3 0 1088 ++ (histogram b o).flatMap (leBytes 4)] else [])
    ++ (if parts.testBit 2 then
        [statHeader f pa 4 0 (64 + 4 * flickerLen b) ++ (flicker b o).flatMap (leBytes 4)] else [])

/-! ### Taps -/

/-- Window and plane of tap t under a mill tray. -/
structure TapCfg where
  on : Bool
  port : Nat
  x0 : Nat
  y0 : Nat
  w : Nat
  h : Nat
  plane : Nat
  ring : Nat
  deriving DecidableEq, Repr

def tapCfg (m : Bank) (t : Nat) : TapCfg :=
  TapCfg.mk (mGet m (MW.tapEn + t) = 1) (mGet m (MW.tapPort + t)) (mGet m (MW.tx0 + t)) (mGet m (MW.ty0 + t))
    (mGet m (MW.tw + t)) (mGet m (MW.th + t)) (if t = 3 then mGet m MW.tapPlane else 0) (mGet m (MW.tapRing + t))

/-- The header of a tap record (R232). -/
def tapHeader (f : Frame) (c : TapCfg) (t pa kind len line : Nat) : List Byte :=
  let close := kind = 6
  let n := fun (x : Nat) => if close then x else 0
  [BitVec.ofNat 8 kind, BitVec.ofNat 8 (t + 4 * c.plane)] ++ leBytes 2 pa ++ leBytes 6 f.number.toNat ++ leBytes 2 len
    ++ leBytes 2 f.bind.pgen.toNat ++ leBytes 2 f.bind.mgen.toNat ++ leBytes 2 line ++ leBytes 2 c.x0
    ++ leBytes 2 c.w ++ leBytes 2 (n f.flags) ++ [BitVec.ofNat 8 (n f.status.toNat), 0] ++ leBytes 4 (n f.fstat.toNat)
    ++ leBytes 4 (n f.cstat.toNat) ++ leBytes 6 0 ++ leBytes 8 f.tick ++ leBytes 16 0

/-- The 16-bit form of a tap sample (R231). -/
def tapForm (b : Bank) (t v : Nat) : Nat :=
  match t with
  | 0 => v * 2 ^ (16 - (groupOf (trayDt b)).2.2)
  | 3 => v
  | _ => satU (rnd v 4) 16

/-- The record of line j of a tap's window, from the plane offered at its point. -/
def tapLine (f : Frame) (c : TapCfg) (t pa : Nat) (p : Plane) (j : Nat) : List Byte :=
  let y := c.y0 + j
  tapHeader f c t pa 5 (64 + 2 * c.w) y
    ++ (List.range c.w).flatMap fun i => leBytes 2 (tapForm f.bind.ptray t (p.px (c.x0 + i) y))

/-- The close record of a tap that produced n line records. -/
def tapClose (f : Frame) (c : TapCfg) (t pa n : Nat) : List Byte := tapHeader f c t pa 6 64 n

end Sys2Proof.Machine
end

