-- ==== Sys2Proof/Machine/Walls.lean ====
section
/-!
DEFINITION. Wall frames: the frame header (R229, R230), what filling marks (R225), and the composition of a staged frame
from its buffer (R218, R220, R222).
-/
namespace Sys2Proof.Machine

/-- DEPTH (R229). -/
def WallDue.depth (d : WallDue) : Nat :=
  let loc := d.marks.filter fun m => !m.remote && m.entry < 64
  let deep := (loc.filter (·.tnr)).map fun m => bitsOf m.fstat 0 2
  deep.foldl min 3 + 4 * bit (loc.any fun m => 1 ≤ bitsOf m.fstat 2 3 && bitsOf m.fstat 2 3 ≤ 6)
    + 8 * bit (loc.any fun m => bitOf m.fstat 6)

/-- The placed local entry of the lowest index. -/
def WallDue.first (d : WallDue) : Option StoneMark :=
  (d.marks.filter fun m => !m.remote && m.entry < 64).foldl (fun a m => match a with
    | none => some m
    | some b => if m.entry < b.entry then some m else some b) none

/-- CLIP over the placed local source frames, each counted once whatever number of entries it fills (R229). -/
def WallDue.clip (d : WallDue) : Nat :=
  let loc := d.marks.filter fun m => !m.remote && m.entry < 64
  let once := loc.foldl (fun (acc : List StoneMark) m => if acc.any (·.port = m.port) then acc else acc ++ [m]) []
  min 0xFFFFFFFF ((once.map (·.clip)).foldl (· + ·) 0)

/-- The 128-byte frame header, RSEQ 0 (R229). SRC and the DEVICE of PORT0 are the chain address at the wall frame's tick,
and CHAIN is the role as the header is composed.
Log entry 101: DEDUCED, unsafe. -/
def State.wallHeader (s : State) (w : Nat) (d : WallDue) (flags : Nat) : List Byte :=
  let b := d.bank
  let port := match d.first with
    | some m => (m.number.toNat, s.portAddrAt m.port d.tick)
    | none => (0, 0xFFFF)
  [1, BitVec.ofNat 8 (wallFmt b)] ++ leBytes 2 w ++ leBytes 2 (s.devAt d.tick * 2048) ++ leBytes 2 d.gen.toNat
    ++ leBytes 8 d.tick ++ leBytes 16 d.time.toNat ++ leBytes 2 (wallW b) ++ leBytes 2 (wallH b) ++ leBytes 2 flags
    ++ [BitVec.ofNat 8 s.chain.role.toNat, BitVec.ofNat 8 (stonesOf b).length] ++ leBytes 4 (wallSize b) ++ leBytes 4 0
    ++ leBytes 8 (maskOf (d.fills.map (·.1))) ++ leBytes 8 d.winMask
    ++ [BitVec.ofNat 8 (orAll (d.marks.map fun m => m.lstat.toNat)), BitVec.ofNat 8 d.depth] ++ leBytes 2 0
    ++ leBytes 4 d.clip ++ leBytes 6 port.1 ++ leBytes 2 port.2
    ++ List.replicate 48 0

/-- Units of transfer of a wall frame: the header, then each line of each plane (R279).
Log entry 51: DEDUCED, unsafe. -/
def wallUnits (fmt w h : Nat) : List Nat :=
  let line := match fmt with
    | 0 => w
    | 1 | 2 => w * 2
    | 3 => w * 4
    | _ => w * 3
  128 :: List.replicate (if fmt < 2 then h + h / 2 else h) line

/-! ### Composition -/

/-- Where the bytes of a sample of the wall image come from. -/
inductive SampleFrom where
  | stored (e : Nat)
  | loss
  | back
  deriving DecidableEq, Repr

/-- The samples of a wall frame in byte order: component, and where each comes from (R218, R225).
Log entry 51: DEDUCED, unsafe. -/
def WallDue.sources (d : WallDue) : List (Nat × SampleFrom) :=
  let b := d.bank
  let ss := stonesOf b
  let rs := (d.marks.filter (·.remote)).map fun m => (m.entry, m.w, m.h)
  (wallLayout (wallFmt b) (wallW b) (wallH b)).map fun q =>
    (q.1, match ownerOf ss rs q.2.1 q.2.2 with
      | none => .back
      | some e => if d.fills.any (·.1 = e) || d.late.contains e then .loss else .stored e)

/-- The 64-byte units of the buffer that composition reads, in order.
Log entry 51: DEDUCED, unsafe. -/
def unitsRead (fb : Nat) (src : List (Nat × SampleFrom)) : List Nat :=
  ((src.mapIdx fun i p => (i * fb / 64, p.2)).filterMap fun p => match p.2 with
    | .stored _ => some p.1
    | _ => none).foldl (fun acc u => if acc.getLast? = some u then acc else acc ++ [u]) []

/-- Reads units of a buffer; a unit that comes poisoned holds zeros (R222). -/
def State.stagingUnits (s : State) (addr : Nat) : List Nat → Store (List Byte) × Nat × State
  | [] => ([], 0, s)
  | u :: us =>
    let (r, s) := s.readUnits (addr + 64 * u) 1
    let (m, n, s) := s.stagingUnits addr us
    let bad := !r.2.isEmpty
    ((u, if bad then List.replicate 64 0 else r.1) :: m, n + bit bad, s)

/-- The image of a due wall frame, and the number of poisoned units (R220, R222). A frame whose buffer has moved since
it was written (R370, R496) holds nothing valid: every unit counts as poisoned.
Log entry 51: DEDUCED, unsafe. -/
def State.compose (s : State) (w : Nat) (d : WallDue) : List Byte × Nat × State :=
  let b := d.bank
  let fmt := wallFmt b
  let fb := fmtBytes fmt
  let src := d.sources
  let us := unitsRead fb src
  let here := match s.region 1 w with
    | some r => !d.moved && decide (r.addr + bit d.buf * (r.size / 2) = d.addr)
    | none => false
  let (m, n, s) := if here then s.stagingUnits d.addr us else ([], us.length, s)
  let bytes := (src.mapIdx fun i p => match p.2 with
    | .back => sampleBytes fmt (wallColour b WW.bg p.1)
    | .loss => sampleBytes fmt (wallColour b WW.loss p.1)
    | .stored _ =>
      let o := i * fb
      (padTo 64 (Store.get [] m (o / 64))).drop (o % 64) |>.take fb).flatten
  (bytes, n, s)

/-- What a finished wall frame leaves behind: counters, events and WALL_LAST (R222, R225, R235). -/
def State.noteWall (s : State) (w : Nat) (d : WallDue) (flags poisoned : Nat) : State :=
  let n := d.fills.length
  let s := if n = 0 then s
    else (s.bump .wallSubst w 0 n).raise 0x0501 [(1, w), (1, n), (1, orAll (d.fills.map fun f => f.2.code)), (5, d.tick)]
  let late := (d.fills.filter fun f => f.2.isRemote).length
  let s := if late = 0 then s else s.bump .wallRlate w 0 late
  let s := if poisoned = 0 then s
    else (s.bump .wallPoison w 0 poisoned).raise 0x0503 [(1, w), (3, min poisoned 0xFFFFFF), (4, d.tick)]
  s.setReg .wallLast w 0 (BitVec.ofNat 32 (flags + bit d.buf * 2 ^ 24))

end Sys2Proof.Machine
end

