-- ==== Sys2Proof/Machine/Staging.lean ====
section
/-!
DEFINITION. Staging (R220, R221, R223): the tray that composes a wall frame (R186), its buffer, and the bytes that stone lines
and remote frames put there as they are formed or arrive, or hold while the older frame of the buffer has not been read.
-/
namespace Sys2Proof.Machine

/-! ### The wall frame of a tick -/

/-- The bank and the generation of wall w that compose its frame of tick k, and cut its stones (R186). -/
def State.wallAt (s : State) (w k : Nat) : Bank × BitVec 16 :=
  let t := s.tray (576 + w)
  if s.tick.landings.any fun x => x.wall = w && decide (s.now + x.edges ≤ k) then (t.staged, t.gen + 1)
  else (t.active, t.gen)

/-- F of the frames of a wall's ports at release tick k, or WF (R220). -/
def State.wallPeriod (s : State) (b : Bank) (k : Nat) : Nat :=
  match localStones b with
  | [] => wGet b WW.wf
  | e :: _ =>
    match (s.port e.2.port).periods.find? fun q => q.tick + q.bind.lag = k with
    | some q => pGet q.bind.ptray PW.frameTicks
    | none => pGet (s.pBank e.2.port) PW.frameTicks

/-- The buffer of wall frame k, of a wall whose frames come every f ticks (R220). -/
def bufferNo (k f : Nat) : Bool := decide (k / max 1 f % 2 = 1)

/-- The DRAM address of a buffer of wall w. -/
def State.bufferAddr (s : State) (w : Nat) (buf : Bool) : Option Nat :=
  (s.region 1 w).map fun r => r.addr + bit buf * (r.size / 2)

/-- Whether the older wall frame of a buffer has not been read yet (R221). -/
def State.bufferBusy (s : State) (w k : Nat) (buf : Bool) : Bool :=
  match (s.wall w).due with
  | some d => decide (d.tick < k) && d.buf = buf
  | none => false

/-! ### Wall frame ticks (R219) -/

/-- Whether tick k is a release tick of port i. -/
def State.releasesAt (s : State) (i k : Nat) : Bool :=
  ((s.port i).idles.any fun e => e.2 = k) || (s.port i).periods.any fun q => q.tick + q.bind.lag = k

/-- Whether a wall of this bank has a frame at tick k. -/
def State.wallFrameAt (s : State) (b : Bank) (k : Nat) : Bool :=
  match localStones b with
  | [] => k % max 1 (wGet b WW.wf) = wGet b WW.wph
  | es => es.any fun e => s.releasesAt e.2.port k

/-! ### Remote frames (R223, R224) -/

/-- The remote frame that entry e takes for wall frame k, as far as it has arrived. -/
def State.remoteFor (s : State) (w : Nat) (e : Stone) (k : Nat) : Option RemoteIn :=
  let orig := e.src / 2048
  (s.wall w).remotes.find? fun r => r.orig = orig && r.rwall = e.rwall && r.tick + s.hops orig = k

/-- Whether the frame header has arrived. -/
def RemoteIn.headed (r : RemoteIn) : Bool := 128 ≤ r.bytes.length

/-- WW and WH of a remote frame's header. -/
def RemoteIn.size (r : RemoteIn) : Nat × Nat := (leAt r.bytes 32 2, leAt r.bytes 34 2)

/-- The checks at a remote header. -/
def RemoteIn.fits (r : RemoteIn) (b : Bank) (e : Stone) : Bool :=
  let fmt := wallFmt b
  (byteAt r.bytes 1).toNat = fmt && e.px + r.size.1 ≤ wallW b && e.py + r.size.2 ≤ wallH b
    && (fmt = 4 || e.px % 2 = 0) && (2 ≤ fmt || e.py % 2 = 0)

/-- What the header of an accepted remote frame passes on. -/
def RemoteIn.mark (r : RemoteIn) (e : Nat) : StoneMark :=
  { entry := e, lstat := byteAt r.bytes 64, flags := BitVec.ofNat 16 (leAt r.bytes 36 2 % 32), remote := true
    w := r.size.1, h := r.size.2 }

/-- Offset of a sample in an image of w × h pixels, in samples (R217). -/
def sampleAt (fmt w h comp x y : Nat) : Nat :=
  if fmt < 2 then if comp = 0 then y * w + x else w * h + y / 2 * w + x / 2 * 2 + (comp - 1)
  else if fmt = 4 then (y * w + x) * 3 + comp
  else y * w * 2 + x / 2 * 4 + match comp with
    | 0 => 1 + x % 2 * 2
    | 1 => 0
    | _ => 2

/-- A sample of a remote frame at its position (x, y). -/
def RemoteIn.sample (r : RemoteIn) (fmt comp x y : Nat) : Nat :=
  let n := fmtBytes fmt
  leAt r.bytes (128 + n * sampleAt fmt r.size.1 r.size.2 comp x y) n

/-- Joins pieces that follow one another. -/
def mergeRuns : List (Nat × List Byte) → List (Nat × List Byte)
  | [] => []
  | (o, bs) :: rest =>
    match mergeRuns rest with
    | (p, cs) :: more => if p = o + bs.length then (o, bs ++ cs) :: more else (o, bs) :: (p, cs) :: more
    | [] => [(o, bs)]

/-! ### Writing into a buffer -/

/-- One run of bytes reaches its buffer, if the wall has one. -/
def State.putRow (s : State) (w : Nat) (r : HeldRow) : State :=
  match s.bufferAddr w r.buf with
  | some a => s.writeDram (a + r.off) r.bytes
  | none => s

/-- Runs of bytes for the frame of tick k: written, or held while the older frame of the buffer has not been read (R221).
Log entry 100: DEDUCED, unsafe. -/
def State.stageRows (s : State) (w : Nat) (rows : List HeldRow) : State :=
  rows.foldl (fun s r =>
    if s.bufferBusy w r.tick r.buf then s.setWall w { s.wall w with held := (s.wall w).held ++ [r] } else s.putRow w r) s

/-- The older frame has been read, or its tick has ended: what was held is written in order (R221). -/
def State.flushHeld (s : State) (w : Nat) : State :=
  let rows := (s.wall w).held
  rows.foldl (fun s r => s.putRow w r) (s.setWall w { s.wall w with held := [] })

/-- Lines of a stone that are held for a frame. -/
def Wall.heldLines (x : Wall) (e k : Nat) : Nat :=
  ((x.held.filter fun r => r.entry = e && r.tick = k).map (·.line)).eraseDups.length

/-- Sizes of the remote frames of tick k's wall frame as far as their headers have come; one that has not covers nothing yet.
Log entry 100: DEDUCED, unsafe. -/
def State.remoteSizes (s : State) (w : Nat) (b : Bank) (k : Nat) : RemoteSizes :=
  ((stonesOf b).filter (·.2.remote)).map fun e =>
    match s.remoteFor w e.2 k with
    | some r => if r.headed && r.fits b e.2 then (e.1, r.size.1, r.size.2) else (e.1, 0, 0)
    | none => (e.1, 0, 0)

/-- Line j of a stone cut from a frame of port address `pa` goes into the buffer of wall frame k: the pixels that it owns, and
with the second line of each pair the chroma of a 4:2:0 wall (R218). A hold beyond 16 lines is an overflow: the stone stops
writing for the frame, and event 0x0504 is raised (R221). -/
def State.stoneLine (s : State) (w k : Nat) (b : Bank) (buf : Bool) (pa : Nat) (e : Nat × Stone) (cut : CutStone) (j : Nat) :
    State :=
  let x := s.wall w
  if x.overflows.contains (e.1, k) then s
  else if s.bufferBusy w k buf && 16 ≤ x.heldLines e.1 k then
    (s.setWall w { x with overflows := x.overflows ++ [(e.1, k)]
                          held := x.held.filter fun r => !(r.entry = e.1 && r.tick = k) }).raise 0x0504
      [(2, pa), (1, e.1), (1, w), (4, k)]
  else
    let fmt := wallFmt b
    let keep := fun (c _x y : Nat) => decide ((if fmt < 2 && c ≠ 0 then y + 1 else y) = e.2.py + j)
    let rows := mergeRuns (ownedBytes b (s.remoteSizes w b k) e.1 keep fun c x y =>
      cut.sample fmt c (x - e.2.px) (y - e.2.py))
    s.stageRows w (rows.map fun r => { tick := k, entry := e.1, line := j, buf := buf, off := r.1, bytes := r.2 })

/-- The samples of a remote frame that came with its bytes n0 to n1 - 1 go into the buffer of wall frame k (R223). -/
def State.remoteRows (s : State) (w k : Nat) (b : Bank) (e : Nat × Stone) (r : RemoteIn) (n0 n1 : Nat) : State :=
  let fmt := wallFmt b
  let n := fmtBytes fmt
  let last := fun (c x y : Nat) => 128 + n * sampleAt fmt r.size.1 r.size.2 c (x - e.2.px) (y - e.2.py) + n
  let rows := mergeRuns (ownedBytes b (s.remoteSizes w b k) e.1
    (fun c x y => decide (n0 < last c x y) && decide (last c x y ≤ n1)) fun c x y => r.sample fmt c (x - e.2.px) (y - e.2.py))
  let buf := bufferNo k (s.wallPeriod b k)
  s.stageRows w (rows.map fun q => { tick := k, entry := e.1, line := 0, buf := buf, off := q.1, bytes := q.2 })

/-- A remote frame of tick k' has grown from n0 bytes: what is placed of it is written for every entry that takes it, once its
header has passed the checks (R223).
Log entry 100: DEDUCED, unsafe. -/
def State.remoteArrived (s : State) (w : Nat) (r : RemoteIn) (n0 : Nat) : State :=
  let k := r.tick + s.hops r.orig
  let b := (s.wallAt w k).1
  if !r.headed || wGet b WW.stream ≠ 0 then s
  else ((stonesOf b).filter fun e => e.2.remote && e.2.src / 2048 = r.orig && e.2.rwall = r.rwall).foldl (fun s e =>
    if r.fits b e.2 then s.remoteRows w k b e r (if n0 < 128 then 128 else n0) r.bytes.length else s) s

end Sys2Proof.Machine
end

