-- ==== Sys2Proof/Machine/Ingress.lean ====
section
/-!
DEFINITION. Line buffers, credits, overwrite funnels and watermark notices (05), and a mill's work on its frames: the
order of slices (R124), and what the mill makes of a frame once its last slice is served (R134, R156, R201, R232).
-/
namespace Sys2Proof.Machine

/-! ### Watermarks (R128) -/

/-- A funnel's notice bit latches; if it was 0 and its event is enabled, event 0x0310 is raised (R128). -/
def State.latchNote (s : State) (m funnel level mark : Nat) : State :=
  let told := s.flag .millInNote m 0 funnel
  let s := s.setField .millInNote m 0 funnel 1 1
  if !told && s.flag .millInNoteEn m 0 funnel then
    s.raise 0x0310 [(1, m), (1, funnel), (2, level), (2, mark), (2, 0)]
  else s

/-- A level has moved from `old` to `new` against a mark: a crossing is counted, latches the notice and may raise event
0x0310. -/
def State.crossing (s : State) (m funnel old new mark : Nat) (xing : State → State) : State :=
  if mark ≠ 0 && old < mark && mark ≤ new then (xing s).latchNote m funnel new mark else s

/-! ### Line buffers -/

/-- Words of the slot that a line holds; a filled line holds none (R117). -/
def LineEntry.words : LineEntry → Option Nat
  | .got _ n | .part _ n => some n
  | .filled => none

/-- The slots that a frame's lines hold: received, in whole or in part, and not yet served whole (R117). Those of a frame that
has missed its deadline are free from the edge that ends its release tick on (R74).
Log entry 100: DEDUCED, unsafe. -/
def Frame.slots (f : Frame) : List Nat :=
  if f.processed || f.missed then [] else (f.lines.drop f.servedLines).filterMap LineEntry.words

/-- Lines of a frame that hold a slot. -/
def Frame.buffered (f : Frame) : Nat := f.slots.length

/-- Line slots in use of port i. -/
def State.lineLevel (s : State) (i : Nat) : Nat := sumOf ((s.port i).frames.map Frame.buffered)

/-- Words that a port's buffered lines hold, each in the layout of its time (R120). -/
def State.lineWords (s : State) (i : Nat) : Nat := sumOf ((s.port i).frames.map fun f => sumOf f.slots)

/-- Words that a mill's line store holds. -/
def State.storeWords (s : State) (m : Nat) : Nat := sumOf ((List.range 8).map fun k => s.lineWords (8 * m + k))

/-- Line-store words allotted to the enabled ports of a mill under the active configuration (R116). -/
def State.allotted (s : State) (m : Nat) : Nat :=
  sumOf ((List.range 8).map fun k =>
    let b := s.pBank (8 * m + k)
    if s.portEn (8 * m + k) then pGet b PW.lines * slotWords b else 0)

/-- Whether port i holds a credit for a new line (R117, R120). -/
def State.hasCredit (s : State) (i : Nat) : Bool :=
  let b := s.pBank i
  let n := pGet b PW.lines
  let w := slotWords b
  s.lineLevel i < n && s.lineWords i + w ≤ n * w && s.storeWords (i / 8) + w ≤ 8192

/-- The line level of port i has moved from `old`. -/
def State.lineMoved (s : State) (i old : Nat) : State :=
  let new := s.lineLevel i
  let s := s.setReg .millInPeak (i / 8) (i % 8) (BitVec.ofNat 32 (max new (s.reg .millInPeak (i / 8) (i % 8)).toNat))
  s.crossing (i / 8) (i % 8) old new (s.field .millInWm (i / 8) (i % 8) 0 6) fun s => s.bump .millInXing (i / 8) (i % 8)

/-! ### Overwrite funnels (R126) -/

/-- Bytes that a funnel holds: whole words of 64 bytes, since no word holds bytes of two items (R115).
Log entry 100: DEDUCED, unsafe. -/
def funnelBytes (q : List FunItem) : Nat := sumOf (q.map fun x => 64 * wordsOf 64 x.bytes.length)

/-- LEVEL of a funnel, in units of 256 bytes, rounded up (R133). -/
def funnelLevel (q : List FunItem) : Nat := ceilDiv (funnelBytes q) 256

/-- Capacity of funnel f: f = 4 is the statistics funnel (R114). -/
def funnelSize (f : Nat) : Nat := if f = 4 then 16384 else 65536

/-- The registers of funnel f of mill m. -/
def State.funMark (s : State) (m f : Nat) : Nat :=
  if f = 4 then s.field .millFunWmS m 0 0 9 else s.field .millFunWm m f 0 9

/-- The level of funnel f has moved from `old`. -/
def State.funMoved (s : State) (m f old : Nat) : State :=
  let new := funnelLevel (s.funnel (8 * m + f))
  let s := if f = 4 then s.setReg .millFunPeakS m 0 (BitVec.ofNat 32 (max new (s.reg .millFunPeakS m).toNat))
    else s.setReg .millFunPeak m f (BitVec.ofNat 32 (max new (s.reg .millFunPeak m f).toNat))
  s.crossing m (8 + f) old new (s.funMark m f) fun s =>
    if f = 4 then s.bump .millFunXingS m else s.bump .millFunXing m f

/-- Discards the oldest items until an item of `n` bytes fits in words of its own. -/
def makeRoom (size n : Nat) : List FunItem → List FunItem
  | [] => []
  | x :: q => if funnelBytes (x :: q) + 64 * wordsOf 64 n ≤ size then x :: q else makeRoom size n q

/-- One item enters funnel f of mill m; its ring numbers it as it enters (R268). -/
def State.funnelPut (s : State) (m f ring due : Nat) (bytes : List Byte) : State :=
  let q := s.funnel (8 * m + f)
  let old := funnelLevel q
  let r := ring % 1024
  let n := s.reg .ringSeq r
  let s := s.setReg .ringSeq r 0 (n + 1)
  let q' := makeRoom (funnelSize f) bytes.length q
  let lost := q.length - q'.length
  let was := if f = 4 then s.reg .millFunLossS m else s.reg .millFunLoss m f
  let s := if lost = 0 then s else if f = 4 then s.bump .millFunLossS m 0 lost else s.bump .millFunLoss m f lost
  let s := if lost ≠ 0 && was = 0 then s.raise 0x0312 [(1, m), (1, 8 + f), (6, 0)] else s
  let s := s.setFunnel (8 * m + f) (q' ++ [FunItem.mk bytes r n due])
  s.funMoved m f old

/-- Level and mark of a funnel of mill m, coded as in event 0x0310. A line buffer's mark above INGRESS_LINES never latches
(R132).
Log entry 96: DEDUCED, unsafe. -/
def State.noteLevel (s : State) (m funnel : Nat) : Nat × Nat :=
  if funnel < 8 then
    let mark := s.field .millInWm m funnel 0 6
    (s.lineLevel (8 * m + funnel), if mark ≤ pGet (s.pBank (8 * m + funnel)) PW.lines then mark else 0)
  else (funnelLevel (s.funnel (8 * m + (funnel - 8))), s.funMark m (funnel - 8))

/-- After a write has cleared notice bits of mill m, those whose level still stands at or above the mark latch again, and no
crossing is counted (R129).
Log entry 96: DEDUCED, unsafe. -/
def State.relatch (s : State) (m : Nat) (cleared : Word) : State :=
  (List.range 13).foldl (fun s f =>
    let (level, mark) := s.noteLevel m f
    if bitOf cleared f && mark ≠ 0 && mark ≤ level then s.latchNote m f level mark else s) s

/-! ### Frames of a port -/

/-- Replaces the frame of the same tick. -/
def State.setFrame (s : State) (i : Nat) (f : Frame) : State :=
  let p := s.port i
  s.setPort i { p with frames := p.frames.map fun g => if g.tick = f.tick then f else g }

/-- The open frame of port i. -/
def State.openFrame (s : State) (i : Nat) : Option Frame := (s.port i).frames.find? (·.isOpen)

/-- Whether a port runs the temporal filter under a tray (R148, R73, R372). -/
def State.tnrOn (s : State) (i : Nat) (b : Bank) : Bool :=
  pGet b PW.tnrEn = 1 && !s.reduced && !s.tick.shedPorts.contains i

/-- A restart cause comes up for the frames from number n on (R150). -/
def State.addCause (s : State) (i cause : Nat) (n : BitVec 48) : State :=
  let p := s.port i
  s.setPort i { p with causes := p.causes ++ [(cause, n)] }

/-! ### A frame's work -/

/-- The stages of both halves over a frame's lines, from the stored reference and its poisoned offsets. The temporal filter
runs as the frame bound it (R185).
Log entry 94: DEDUCED, safe. -/
def millWork (f : Frame) (stored : List Byte) (bad : Nat → Bool) : FrameWork :=
  let b := f.bind.ptray
  let tnr := f.bind.tnr
  if isYuv (trayDt b) then
    let xu := f.lines.map (unpackLine b)
    { fstat := 7 * 4, ref := [], dpc := 0, moved := 0, poisoned := 0, xu := xu, t := xu, o := xu,
      back := yuvInput b xu }
  else
    let sp := spatial b f.lines
    let r := if tnr then tnrFrame b (f.cause ≠ 0) sp.sp stored bad else { plane := sp.sp, minDepth := 0 }
    let o := gridOf (trayW b) (trayH b) fun x y => lens b (Plane.px r.plane x y) x y
    let cut := tnr && pGet b PW.cutFrac ≠ 0 && pGet b PW.cutFrac * trayW b * trayH b < r.moved * 256
    { fstat := BitVec.ofNat 32 ((if tnr then r.minDepth + f.cause * 4 else 7 * 4) + bit (r.poisoned ≠ 0) * 32
        + bit cut * 64 + sp.dpc * 256)
      ref := if tnr then r.bytes else []
      dpc := sp.dpc, moved := r.moved, poisoned := r.poisoned, xu := sp.xu, t := r.plane, o := o
      back := colourHalf b o }

/-- The planes of a closed frame. -/
def Frame.planes (f : Frame) : Planes :=
  match f.work with
  | some w => w.back.planes
  | none => {}

/-- Whether a frame's reference goes, or will go, to DRAM (R76, R148). -/
def Frame.updatesRef (f : Frame) : Bool := f.bind.tnr && f.work.isSome && !f.missed && !breaksWindow f.status

/-- The reference that a closed frame writes: the blocks of lines that an uncorrectable on-chip word touched carry DEPTH 0
(R451). -/
def Frame.newRef (f : Frame) : List Byte :=
  match f.work with
  | some w => zeroDepth f.bind.ptray f.ueLines w.ref
  | none => []

/-- The stored reference of port i for a frame, with the byte offsets that came poisoned: the one that the frame before is
still to write, or what the region holds. A restart frame reads none (R149). -/
def State.readReference (s : State) (i : Nat) (f : Frame) : (List Byte × (Nat → Bool)) × State :=
  match f.bind.ref with
  | none => (([], fun _ => false), s)
  | some r =>
    if f.cause ≠ 0 then (([], fun _ => false), s)
    else match ((s.port i).frames.filter fun g =>
        g.bound && decide (g.tick < f.tick) && !g.processed && g.updatesRef && decide (g.bind.ref = some r)).getLast? with
    | some g => ((g.newRef, fun _ => false), s)
    | none =>
      let n := trayW f.bind.ptray * trayH f.bind.ptray * 5 / 4
      let (d, s) := s.readDram r.addr n
      ((d.1, fun off => d.2.contains ((r.addr + off) / 64 * 64)), s)

/-- What the mill has made of a frame so far: of the lines that have come, while it is open. -/
def State.workNow (s : State) (i : Nat) (f : Frame) : FrameWork :=
  match f.work with
  | some w => w
  | none =>
    let ref := if f.bind.tnr then (s.readReference i f).1 else ([], fun _ => false)
    millWork f ref.1 ref.2

/-! ### The lines that have passed (R165, R216) -/

/-- Lines below its own that a line needs to pass the front half: two for static replacement, two for rejection and smoothing
behind it (R140 to R143).
Log entry 27: DEDUCED, unsafe. -/
def frontReach (b : Bank) : Nat :=
  if isYuv (trayDt b) then 0 else if pGet b PW.dpcEn ≠ 0 then 4 else if pGet b PW.snrEn ≠ 0 then 2 else 0

/-- Lines that have passed the front half once `served` lines have been served. -/
def passedFront (b : Bank) (served : Nat) : Nat := if trayH b ≤ served then trayH b else served - frontReach b

/-- Lines that the colour half has produced: line y once input line min(y + 3, H - 1) has passed the front half (R165). -/
def producedLines (b : Bank) (served : Nat) : Nat :=
  if trayH b ≤ passedFront b served then trayH b else passedFront b served - 3

/-- Lines of a frame that have passed tap point t: T0 behind unpacking, T1 and T2 in the front half, T3 behind the colour half,
which has produced every line at the frame's close (R165). -/
def Frame.linesAt (f : Frame) (t : Nat) : Nat :=
  let b := f.bind.ptray
  match t with
  | 0 => f.servedLines
  | 1 | 2 => passedFront b f.servedLines
  | _ => if f.work.isSome then trayH b else producedLines b f.servedLines

/-- Output lines of a stone formed from the first `produced` lines of its source (R216). -/
def formedLines (e : Stone) (produced : Nat) : Nat :=
  ((List.range e.oh).takeWhile fun j => lastTap e j < produced).length

/-- Output lines of a stone that have been formed from a frame. -/
def Frame.formed (f : Frame) (e : Stone) : Nat := formedLines e (f.linesAt 3)

/-! ### Taps and statistics -/

/-- The taps of a mill on port k under a mill tray: point and set-up. -/
def tapsOf (m : Bank) (k : Nat) : List (Nat × TapCfg) :=
  ((List.range 4).map fun t => (t, tapCfg m t)).filter fun e => e.2.on && e.2.port = k

/-- The plane offered at a tap point (R231). -/
def FrameWork.plane (w : FrameWork) (t : Nat) (c : TapCfg) : Plane :=
  match t with
  | 0 => w.xu
  | 1 => w.t
  | 2 => w.o
  | _ => match c.plane with
    | 0 => w.back.planes.y
    | 1 => w.back.planes.cb
    | _ => w.back.planes.cr

/-- Lines of a tap's window among the first n lines of a frame. -/
def TapCfg.within (c : TapCfg) (n : Nat) : Nat := min (n - c.y0) c.h

/-- The line records of the lines that have passed the tap points since the frame stood as `was` (R232). -/
def State.tapProgress (s : State) (i : Nat) (was f : Frame) : State :=
  (tapsOf f.bind.mtray (i % 8)).foldl (fun s e =>
    let a := e.2.within (was.linesAt e.1)
    let b := e.2.within (f.linesAt e.1)
    if b ≤ a || !e.2.ring.testBit 10 then s
    else
      let p := (s.workNow i f).plane e.1 e.2
      (List.range (b - a)).foldl (fun s j =>
        s.funnelPut (i / 8) e.1 e.2.ring 0 (tapLine f e.2 e.1 (s.portAddrAt i f.tick) p (a + j))) s) s

/-- The close records of a frame's taps, each with the number of line records produced (R232). -/
def State.tapCloses (s : State) (i : Nat) (f : Frame) : State :=
  (tapsOf f.bind.mtray (i % 8)).foldl (fun s e =>
    if e.2.ring.testBit 10 then
      s.funnelPut (i / 8) e.1 e.2.ring 0
        (tapClose f e.2 e.1 (s.portAddrAt i f.tick) (if f.missing then 0 else e.2.within (f.linesAt e.1)))
    else s) s

/-- Records of a frame of port i enter the funnels: statistics items are due in the tick after the release tick. -/
def State.putStats (s : State) (i : Nat) (f : Frame) (recs : List (List Byte)) : State :=
  let ring := mGet f.bind.mtray MW.statRing
  if pGet f.bind.ptray PW.statEn = 1 && ring.testBit 10 then
    recs.foldl (fun s r => s.funnelPut (i / 8) 4 ring (f.tick + f.bind.lag + 1) r) s
  else s

/-- A frame without measures (R202, R232): its summary record, and the close records of its taps.
Log entry 100: DEDUCED, unsafe. -/
def State.shortRecords (s : State) (i : Nat) (f : Frame) : State :=
  (s.tapCloses i f).putStats i f [summaryRecord f (s.portAddrAt i f.tick) []]

/-- FSTAT and CSTAT of a frame that never opened.
Log entry 26: DEDUCED, unsafe. -/
def Frame.blank (f : Frame) : Frame :=
  { f with fstat := if pGet f.bind.ptray PW.tnrEn = 1 then 0 else 28, cstat := colourStatus f.bind.ptray 0 }

/-! ### Stones in the making -/

/-- The stone lines that have been formed since the frame stood as `was` go to the buffers of the staged walls that take them,
cut under the tray that composes the wall frame (R186, R212, R216, R220). -/
def State.stoneProgress (s : State) (i : Nat) (was f : Frame) : State :=
  let k := f.tick + f.bind.lag
  let buf := bufferNo k (pGet f.bind.ptray PW.frameTicks)
  ((s.trays.filter fun e => decide (576 ≤ e.1)).map (·.1 - 576)).foldl (fun s w =>
    let b := (s.wallAt w k).1
    if wGet b WW.en = 0 || wGet b WW.stream ≠ 0 || s.tick.shedWalls.contains w then s
    else ((localStones b).filter fun e => e.2.port = i).foldl (fun s e =>
      let lo := was.formed e.2
      let hi := f.formed e.2
      if hi ≤ lo then s
      else
        let cut := cutStone b e.2 (s.workNow i f).back.planes
        (List.range (hi - lo)).foldl (fun s j => s.stoneLine w k b buf (s.portAddrAt i f.tick) e cut (lo + j)) s) s) s

/-- What comes of the lines that have passed since the frame stood as `was`. -/
def State.progress (s : State) (i : Nat) (was f : Frame) : State := (s.tapProgress i was f).stoneProgress i was f

/-! ### The close and the last slice -/

/-- MILL_ST_LAST shows what has become of the port's last closed or missing frame (R198, R211).
Log entry 94: DEDUCED, safe. -/
def State.noteLast (s : State) (i : Nat) (f : Frame) : State :=
  if (s.port i).frames.any fun g => !g.isOpen && decide (f.tick < g.tick) then s
  else s.setReg .millStLast (i / 8) (i % 8) (BitVec.ofNat 32 f.flags)

/-- A bound frame closes: its front and colour status words, what they count and announce, and the restart that a scene cut
brings (R151, R152, R154, R175).
Log entry 94: DEDUCED, safe. -/
def State.closeWork (s : State) (i : Nat) (f : Frame) : Frame × State :=
  let m := i / 8
  let k := i % 8
  let ((stored, bad), s) := if f.bind.tnr then s.readReference i f else (([], fun _ => false), s)
  let w := millWork f stored bad
  let f := { f with work := some w, fstat := w.fstat, cstat := colourStatus f.bind.ptray w.back.clip }
  let s := if w.poisoned = 0 then s
    else (s.bump .millFrPoison m k w.poisoned).raise 0x0321
      [(2, s.portAddrAt i f.tick), (2, min w.poisoned 0xFFFF), (4, f.number.toNat)]
  let s := if bitOf w.fstat 6 then s.addCause i 6 (f.number + 1) else s
  let s := (s.bump .millFrDpc m k w.dpc).setReg .millFrStat m k f.fstat
  (f, ((s.bump .millCoClip m k w.back.clip).setReg .millCoStat m k f.cstat).setFrame i f)

/-- The mill has served a closed frame's last slice: its reference is written where its region is still the port's, and its
records enter the funnels (R149, R185, R201, R232).
Log entries 94: DEDUCED, safe; 100: DEDUCED, unsafe. -/
def State.finish (s : State) (i : Nat) (f : Frame) : State :=
  let s := match f.bind.ref with
    | some r => if f.updatesRef && decide (s.region 0 i = some r) then s.writeDram r.addr f.newRef else s
    | none => s
  let f := { f with processed := true, shed := f.shed || s.tick.shed || s.reduced, lines := [] }
  let s := ((s.setFrame i f).noteLast i f).tapCloses i f
  match f.work with
  | some w =>
    if pGet f.bind.ptray PW.statEn = 1 then s.putStats i f (statRecords f (s.portAddrAt i f.tick) w.back) else s
  | none => s

/-! ### The order of service (R124) -/

/-- The frame of port i that the mill works on: the oldest bound one not yet done.
Log entry 94: DEDUCED, safe. -/
def State.workFrame (s : State) (i : Nat) : Option Frame :=
  (s.port i).frames.find? fun f => f.bound && !f.processed && !f.missing && !f.missed

/-- Whether the next slice of a frame is ready: its line is complete or filled, or all its bytes are in the slot (R123). -/
def Frame.sliceReady (f : Frame) : Bool :=
  match f.lines[f.servedLines]? with
  | some (.part bs _) => (sliceBytes f.bind.ptray f.servedSlices).2 ≤ bs.length
  | some _ => true
  | none => false

/-- Whether port i has a slice ready (R123). -/
def State.sliceReady (s : State) (i : Nat) : Bool :=
  match s.workFrame i with
  | some f => f.sliceReady
  | none => false

/-- The course of the tick in force (R60).
Log entry 93: DEDUCED, unsafe. -/
def State.course (s : State) : Nat := s.now % max 1 s.tick.cycle

/-- A decision clock of mill m, if it is idle and a slice is ready (R124). No course runs between a change of the tick and the
first edge under it (R55). -/
def State.decideMill (s : State) (m : Nat) : State :=
  let x := s.mill m
  if s.dark || s.tick.halted || x.service.isSome then s
  else
    let p := if x.reload then s.course % 8 else x.pointer.val
    match ((List.range 8).map fun j => (p + j) % 8).find? fun k => s.sliceReady (8 * m + k) with
    | none => s
    | some k => s.setMill m { pointer := Fin.ofNat 8 (k + 1), reload := false, service := some (Fin.ofNat 8 k)
                              serviceTick := ((s.workFrame (8 * m + k)).map (·.tick)).getD 0 }

/-- Finishes the frame of port i if it is closed and served whole. -/
def State.finishIfDone (s : State) (i : Nat) : State :=
  match s.workFrame i with
  | some f => if !f.isOpen && f.lines.length ≤ f.servedLines then s.finish i f else s
  | none => s

/-- The slice in service of a frame is done: the next slice of its line, or the line's credit returns (R117, R122). -/
def State.slicePast (s : State) (i : Nat) (f : Frame) : State :=
  if f.servedSlices + 1 < slicesOf f.bind.ptray then s.setFrame i { f with servedSlices := f.servedSlices + 1 }
  else
    let old := s.lineLevel i
    let g := { f with servedSlices := 0, servedLines := f.servedLines + 1 }
    (((s.setFrame i g).lineMoved i old).progress i f g).finishIfDone i

/-- The slice in service of mill m is done, and the mill decides (R124). A slice whose frame has missed its deadline brings
nothing any more (R74). -/
def State.sliceDone (s : State) (m : Nat) : State :=
  match (s.mill m).service with
  | none => s
  | some k =>
    let i := 8 * m + k.val
    let t := (s.mill m).serviceTick
    let s := s.setMill m { s.mill m with service := none }
    let s := match s.workFrame i with
      | none => s
      | some f => if f.tick = t then s.slicePast i f else s
    s.decideMill m

end Sys2Proof.Machine
end

