-- ==== Sys2Proof/Machine/Operands.lean ====
section
/-!
DEFINITION. The fields of a 64-byte descriptor (R257, R260, R264, R266, R269) and the checks that make one MALFORMED:
each check names the byte offset that DETAIL reports (R258).
-/
namespace Sys2Proof.Machine

/-- The `n` bytes of a descriptor from byte `i` on, as a little-endian number. -/
def dField (d : BitVec 512) (i n : Nat) : Nat := d.toNat / 2 ^ (8 * i) % 2 ^ (8 * n)

/-- `n` bytes of a descriptor from byte `i` on. -/
def dBytes (d : BitVec 512) (i n : Nat) : List Byte := leBytes n (dField d i n)

/-- OP (R257). -/
def dOp (d : BitVec 512) : Nat := dField d 0 1
/-- FLAGS bit 0, EVT. -/
def dEvt (d : BitVec 512) : Bool := dField d 1 1 % 2 = 1
/-- TAG. -/
def dTag (d : BitVec 512) : Nat := dField d 2 2

/-- A check of a descriptor: the offset of the field, and whether it offends. -/
abbrev Check := Nat × Bool

/-- Bytes lo to hi - 1, which the opcode does not use.
Log entry 37: DEDUCED, unsafe. -/
def unused (d : BitVec 512) (lo hi : Nat) : List Check :=
  (List.range (hi - lo)).map fun k => (lo + k, decide (dField d (lo + k) 1 ≠ 0))

/-- The first offending field.
Log entry 37: DEDUCED, unsafe. -/
def firstBad (cs : List Check) : Option Nat := (cs.find? (·.2)).map (·.1)

/-- The checks of every descriptor (R257): OP valid for the ring's KIND, FLAGS bits 7:1.
Log entry 37: DEDUCED, unsafe. -/
def commonChecks (d : BitVec 512) (valid : Bool) : List Check :=
  [(0, !valid), (1, decide (2 ≤ dField d 1 1))]

/-- A port address in a descriptor: bits 1:0 must be 0; DEVICE is ignored (R23). -/
def dPort (d : BitVec 512) : Nat := dField d 4 2 / 4 % 512
def portCheck (d : BitVec 512) : Check := (4, decide (dField d 4 2 % 4 ≠ 0))

/-- TRAY in bytes 5:4 (R177). -/
def dTray (d : BitVec 512) : Nat := (trayOfId (dField d 4 2)).getD 0
def trayCheck (d : BitVec 512) : Check := (4, (trayOfId (dField d 4 2)).isNone)
/-- WORD in bytes 7:6. -/
def dWord (d : BitVec 512) : Nat := dField d 6 2

/-- STAGE (R260). -/
def stageChecks (d : BitVec 512) : List Check :=
  let n := dField d 8 1
  [trayCheck d, (8, !(1 ≤ n && n ≤ 10))] ++ unused d 9 16 ++ unused d (16 + 4 * n) 56

/-- The inline words of STAGE. -/
def stageData (d : BitVec 512) : List Word :=
  (List.range (dField d 8 1)).map fun j => BitVec.ofNat 32 (dField d (16 + 4 * j) 4)

/-- STAGE_IND: ADDR in bytes 15:8, COUNT in bytes 19:16. -/
def stageIndChecks (d : BitVec 512) : List Check :=
  let n := dField d 16 4
  [trayCheck d, (8, decide (dField d 8 8 % 4 ≠ 0)), (16, !(1 ≤ n && n ≤ 16384))] ++ unused d 20 56

/-- The tray identifiers that a COMMIT names (R263). -/
def commitIds (d : BitVec 512) : List Nat := (List.range (dField d 4 1)).map fun j => dField d (8 + 2 * j) 2

/-- COMMIT: COUNT 1 to 24, its identifiers valid, unused entries 0. -/
def commitChecks (d : BitVec 512) : List Check :=
  let n := dField d 4 1
  [(4, !(1 ≤ n && n ≤ 24))] ++ unused d 5 8 ++ (List.range 24).map fun j =>
    let id := dField d (8 + 2 * j) 2
    (8 + 2 * j, if j < n then (trayOfId id).isNone else decide (id ≠ 0))

/-- MFLAGS of SENSOR (R264). -/
def sensorBound (d : BitVec 512) : Bool := (dField d 8 1).testBit 0
def sensorReply (d : BitVec 512) : Bool := (dField d 8 1).testBit 1
def sensorInd (d : BitVec 512) : Bool := (dField d 8 1).testBit 2

/-- SENSOR (R264). -/
def sensorChecks (d : BitVec 512) : List Check :=
  let n := dField d 9 1
  let ind := sensorInd d
  [portCheck d, (8, decide (8 ≤ dField d 8 1)), (9, decide (60 < n) || (!ind && decide (32 < n)))] ++ unused d 10 16
    ++ [(16, if sensorReply d then decide (dField d 16 8 % 64 ≠ 0) else decide (dField d 16 8 ≠ 0))]
    ++ unused d (if ind then 32 else 24 + n) 56

/-- TRAY_READ: BANK in byte 8, ADDR in bytes 23:16, COUNT in bytes 27:24. -/
def trayReadChecks (d : BitVec 512) : List Check :=
  let n := dField d 24 4
  [trayCheck d, (8, decide (1 < dField d 8 1))] ++ unused d 9 16
    ++ [(16, decide (dField d 16 8 % 4 ≠ 0)), (24, !(1 ≤ n && n ≤ 16384))] ++ unused d 28 56

/-- OBUF (R266): ADDR in bytes 15:8, LEN in bytes 19:16. -/
def obufChecks (d : BitVec 512) : List Check :=
  let n := dField d 16 4
  unused d 4 8 ++ [(8, decide (dField d 8 8 % 64 ≠ 0)), (16, decide (n % 64 ≠ 0) || decide (n < 64))] ++ unused d 20 56

/-- TICKOFF of a replay descriptor. -/
def dTickOff (d : BitVec 512) : Nat := dField d 8 4

/-- DATA (R269): `mill` and `last` are the ring's MILL and the TICKOFF before. -/
def dataChecks (d : BitVec 512) (mill last : Nat) : List Check :=
  let n := dField d 40 4
  [(4, (portCheck d).2 || decide (dPort d / 8 ≠ mill))] ++ unused d 6 8 ++ [(8, decide (dTickOff d < last))]
    ++ [(40, !(1 ≤ n && n ≤ 1048576))] ++ unused d 44 56

/-- EOT (R269). -/
def eotChecks (d : BitVec 512) (last : Nat) : List Check :=
  unused d 4 8 ++ [(8, decide (dTickOff d < last))] ++ unused d 12 56

/-- The opcodes of a KIND: command, output, replay. -/
def opsOf (kind : Nat) : List Nat :=
  match kind with
  | 0 => [1, 2, 3, 4, 5, 6, 7, 8, 9]
  | 1 => [0x20]
  | 2 => [0x30, 0x31]
  | _ => []

/-- Whether a byte is an opcode of any KIND. -/
def isOp (op : Nat) : Bool := (opsOf 0 ++ opsOf 1 ++ opsOf 2).contains op

end Sys2Proof.Machine
end

