-- ==== Sys2Proof/Machine/Output.lean ====
section
/-!
DEFINITION. Output rings (R266 to R268): offering a record, the buffers that hold it, its units of transfer, the
completions of its buffers, and the funnels' delivery.
-/
namespace Sys2Proof.Machine

/-! ### Offering -/

/-- Whether ring r takes a record of an OCLASS now (R267, R268, R410). -/
def State.ringTakes (s : State) (r oclass : Nat) : Bool :=
  let x := s.ring r
  !s.power.d3hot && (x.state = .run || x.state = .wait) && s.kind r = 1 && s.field .ringCfg r 0 9 2 = oclass

/-- Offers a numbered record at an output slot: it waits on its ring, or is dropped at once (R267, R268).
Log entry 42: DEDUCED, unsafe. -/
def State.offerNumbered (s : State) (r oclass : Nat) (rseq : Word) (bytes : List Byte) (units : List Nat) : State :=
  let y : Record := { bytes := bytes, units := units, rseq := rseq, oclass := BitVec.ofNat 2 oclass, slot := s.now
                      order := s.offered }
  if s.ringTakes r oclass then
    let x := s.ring r
    { s.setRing r { x with records := x.records ++ [y] } with offered := s.offered + 1 }
  else s.dropRecord r y

/-- The next number of a ring (R268).
Log entry 42: DEDUCED, unsafe. -/
def State.takeSeq (s : State) (r : Nat) : Word × State :=
  (s.reg .ringSeq r, s.setReg .ringSeq r 0 (s.reg .ringSeq r + 1))

/-- Writes RSEQ into a record at byte `at`.
Log entry 42: DEDUCED, unsafe. -/
def putSeq (bytes : List Byte) (pos : Nat) (n : Word) : List Byte :=
  bytes.take pos ++ leBytes 4 n.toNat ++ bytes.drop (pos + 4)

/-! ### Buffers -/

/-- The entry that a ring reads next: behind the buffers it holds and the completions it has still to write (R252). -/
def State.readCount (s : State) (r : Nat) : Word :=
  let x := s.ring r
  s.cons r + BitVec.ofNat 32 (x.bufs.length + x.filled.length + (x.writes.filter (·.advance)).length)

/-- The completion of a buffer joins what its ring writes (R257, R266). -/
def State.bufferDone (s : State) (r : Nat) (b : OutBuf) (status detail result : Nat) : State :=
  let x := s.ring r
  s.setRing r { x with writes := x.writes ++
    [s.completionOf r (BitVec.ofNat 32 b.count) 0x20 b.opTag.toNat b.evt status detail result] }

/-- Malformed OBUFs whose turn has come complete. -/
def State.passBad (s : State) (r : Nat) : List OutBuf → State
  | [] => s
  | b :: bs =>
    match b.bad with
    | some off =>
      let s := s.setRing r { s.ring r with bufs := bs }
      (s.bufferDone r b 1 off.toNat 0).passBad r bs
    | none => s

/-- Malformed OBUFs at the head of a ring's buffers complete, and what waits is written. One behind a record in progress waits
for that record. -/
def State.settleBufs (s : State) (r : Nat) : State :=
  (if (s.ring r).unitsDone = 0 then s.passBad r (s.ring r).bufs else s).drainWrites r

/-- The buffers that the front record has filled complete, in order: FIRST with the record's first byte, LAST with its last
(R266); a malformed one among them in its turn. -/
def State.fillDone (s : State) (r : Nat) (first : Bool) : List OutBuf → State
  | [] => s.setRing r { s.ring r with filled := [] }
  | b :: bs =>
    match b.bad with
    | some off => (s.bufferDone r b 1 off.toNat 0).fillDone r first bs
    | none => (s.bufferDone r b 0 (bit first + 2 * bit (bs.all (·.bad.isSome))) b.written).fillDone r false bs

/-- Takes the buffers that hold n bytes off a list of unfilled ones, or none where they cannot. -/
def allot : List OutBuf → Nat → Option (List OutBuf)
  | bs, 0 => some bs
  | [], _ + 1 => none
  | b :: bs, n + 1 => if b.bad.isSome then allot bs (n + 1) else allot bs (n + 1 - b.len)

/-- The unfilled buffers left once the first records have theirs; none where one of them lacks its own. The front record
keeps the buffers it has begun. -/
def allotAll : List OutBuf → List (Nat × Nat) → Option (List OutBuf)
  | bs, [] => some bs
  | bs, (len, done) :: rest =>
    match allot bs (len - (done - (bs.map (·.written)).foldl (· + ·) 0)) with
    | some bs => allotAll bs rest
    | none => none

/-- Bytes that records still need, with those already written. -/
def needs (done : Nat) : List Record → List (Nat × Nat)
  | [] => []
  | y :: ys => (y.bytes.length, done) :: ys.map fun z => (z.bytes.length, 0)

/-- Whether the first n + 1 records of a ring have the buffers they need (R267). -/
def Ring.holds (x : Ring) (n : Nat) : Bool :=
  (allotAll x.bufs ((needs x.done x.records).take (n + 1))).isSome

/-- Whether a ring has room for one more record of `len` bytes (R126). -/
def Ring.room (x : Ring) (len : Nat) : Bool :=
  (allotAll x.bufs (needs x.done x.records ++ [(len, 0)])).isSome

/-! ### Units of transfer (R279) -/

/-- Looks up every page of several pieces. -/
def State.preparePieces (s : State) (r : Nat) (write : Bool) : List (Nat × Nat) → Ready × State
  | [] => (.go [], s)
  | p :: ps =>
    match s.prepare r p.1 p.2 write with
    | (.go a, s) =>
      match s.preparePieces r write ps with
      | (.go b, s) => (.go (a ++ b), s)
      | q => q
    | (.wait, s) => (.wait, (s.preparePieces r write ps).2)
    | q => q

/-- Fills buffers with n bytes of the front record. A buffer that is full, or that the record ends in, completes with the record:
until then a drop may still strike it (R284).
Log entry 47: DEDUCED, unsafe. -/
def State.fillBufs (s : State) (r : Nat) (bytes : List Byte) (n : Nat) (last : Bool) : List OutBuf → List Nat → State
  | [], _ => s.setRing r { s.ring r with bufs := [] }
  | b :: bs, ps =>
    let x := s.ring r
    if b.bad.isSome then (s.setRing r { x with bufs := bs, filled := x.filled ++ [b] }).fillBufs r bytes n last bs ps
    else
      let k := min (b.len - b.written) n
      let pages := (pagesOf (b.addr + b.written) k).length
      let s := s.issue r (b.addr + b.written) (bytes.take k) true (ps.take pages)
      let b' := { b with written := b.written + k }
      if b'.written = b.len || (last && k = n) then
        let s := s.setRing r { s.ring r with bufs := bs, filled := x.filled ++ [b'] }
        if k = n then s else s.fillBufs r (bytes.drop k) (n - k) last bs (ps.drop pages)
      else s.setRing r { s.ring r with bufs := b' :: bs }

/-- A unit is written whole (R279); behind the last one the record is done. -/
def State.writeRecordUnit (s : State) (r : Nat) (ps : List Nat) : State :=
  let x := s.ring r
  match x.records, x.nextUnit with
  | y :: ys, some n =>
    let last := y.bytes.length ≤ x.done + n
    let s := s.fillBufs r ((y.bytes.drop x.done).take n) n last x.bufs ps
    let x := s.ring r
    if last then
      ((s.setRing r { x with records := ys, done := 0, unitsDone := 0 }).fillDone r true x.filled).settleBufs r
    else s.setRing r { x with done := x.done + n, unitsDone := x.unitsDone + 1 }
  | _, _ => s

/-! ### Funnels (R126, R201) -/

/-- OCLASS of a funnel: 4 is the statistics funnel. -/
def funnelClass (f : Nat) : Nat := if f = 4 then 1 else 2

/-- The oldest item of a funnel goes to its ring if the ring has room, or is offered in vain. Only items due by now go
where `due` is set. -/
def State.passOldest (s : State) (m f : Nat) : State :=
  match s.funnel (8 * m + f) with
  | [] => s
  | x :: q =>
    let r := x.ring % 1024
    if !s.ringTakes r (funnelClass f) || (s.ring r).room x.bytes.length then
      let old := funnelLevel (x :: q)
      let s := (s.setFunnel (8 * m + f) q).funMoved m f old
      s.offerNumbered r (funnelClass f) x.rseq (putSeq x.bytes 56 x.rseq) [x.bytes.length]
    else s

/-- A funnel's items that are due leave in order while their ring has room. -/
def State.passDue (s : State) (m f : Nat) : Nat → State
  | 0 => s
  | n + 1 =>
    match s.funnel (8 * m + f) with
    | [] => s
    | x :: q =>
      if s.now < x.due then s
      else
        let t := s.passOldest m f
        if (t.funnel (8 * m + f)).length = q.length + 1 then t else t.passDue m f n

/-- FUNNEL_DELIVER (R126): a funnel passes its oldest item once its ring has room; a statistics record not before its tick
(R201).
Log entry 93: DEDUCED, unsafe. -/
def execFunnelDeliver (m : Fin 64) (f : Fin 5) (s : State) : Host.Outcome State Fault Refusal :=
  effect (fun s =>
    if s.dark || s.tick.halted then s
    else match s.funnel (8 * m.val + f.val) with
      | [] => s
      | x :: _ => if s.now < x.due then s else s.passOldest m.val f.val) s

end Sys2Proof.Machine
end

