-- ==== Sys2Proof/Machine/Eth.lean ====
section
/-!
DEFINITION. Ethernet egress (15): split ports (R308, R309), received frames (R310), streams and their AVTPDUs (R311 to
R317), gates and shapers (R316, R319, R320), and gPTP time-stamping (R321).
-/
namespace Sys2Proof.Machine

/-! ### Split ports -/

/-- Whether MODE creates split port x (R308). -/
def State.splitExists (s : State) (x : Nat) : Bool := x % 4 < 2 ^ s.field .ethCfg (x / 4) 0 1 2

/-- The rate of split port x in Gb/s (R308). -/
def State.splitRate (s : State) (x : Nat) : Nat := 400 / 2 ^ s.field .ethCfg (x / 4) 0 1 2

/-- Event 0x0710: a wall frame dropped or truncated on a stream, counted (R317). -/
def State.streamDrop (s : State) (n wall cause tick : Nat) : State :=
  (s.bump .ethStrDrop n).raise 0x0710 [(1, n), (1, wall), (1, cause), (1, 0), (4, tick)]

/-- The frame that a stream has begun and not finished: its wall and tick. -/
def State.begun (s : State) (x n : Nat) : Option (Nat × Nat) :=
  match (s.split x).queued.find? fun p => p.stream = n with
  | some p => some (p.wall, p.tick)
  | none => (s.stream n).live

/-- Truncates what a stream has begun (R317). -/
def State.truncate (s : State) (x n cause : Nat) : State :=
  match s.begun x n with
  | none => s
  | some (w, k) =>
    let y := s.split x
    let s := s.setSplit x { y with queued := y.queued.filter fun p => p.stream ≠ n }
    (s.setStream n { s.stream n with live := none }).streamDrop n w cause k

/-- The split port of stream n. -/
def State.streamSub (s : State) (n : Nat) : Nat := s.field .ethStrCfg n 0 0 3

/-- Streams with a frame begun on split port x, ascending. -/
def State.streamsOn (s : State) (x : Nat) : List Nat :=
  (List.range 256).filter fun n => s.streamSub n = x && (s.begun x n).isSome

/-- A split port goes down (R309, R317): cause 1 link lost, 2 EN cleared. -/
def State.splitDown (s : State) (x cause : Nat) : State :=
  if !(s.split x).up then s
  else
    let s := (s.streamsOn x).foldl (fun s n => s.truncate x n 4) s
    (s.setSplit x { s.split x with up := false, credits := [] }).raise 0x0702 [(1, x), (1, cause), (6, 0)]

/-- SPLIT_PORT_UP (R309). -/
def execSplitPortUp (x : Fin 8) (s : State) : Host.Outcome State Fault Refusal :=
  effect (fun s =>
    let p := x.val / 4
    if !s.splitExists x.val || !s.flag .ethCfg p 0 0 || (s.split x.val).up then s
    else (s.setSplit x.val { s.split x.val with up := true }).raise 0x0701
      [(1, x.val), (1, s.field .ethCfg p 0 1 2), (6, 0)]) s

/-- SPLIT_PORT_DOWN (R309). -/
def execSplitPortDown (x : Fin 8) (s : State) : Host.Outcome State Fault Refusal :=
  effect (fun s => s.splitDown x.val 1) s

/-- ETH_CFG[p] has been written (R308, R309): with EN cleared its split ports go down; another MODE gives the lanes to
other split ports, and those that it does not create lose their state. -/
def State.ethCfgWritten (s : State) (p : Nat) (old new : Word) : State :=
  let s := if bitOf old 0 && !bitOf new 0 then (List.range 4).foldl (fun s j => s.splitDown (4 * p + j) 2) s else s
  if bitsOf old 1 2 = bitsOf new 1 2 then s
  else (List.range 4).foldl (fun s j =>
    let s := s.splitDown (4 * p + j) 1
    if s.splitExists (4 * p + j) then s else s.setSplit (4 * p + j) {}) s

/-! ### Streams (R311, R313 to R315) -/

/-- The stream that a wall bank names. -/
def streamOf (b : Bank) : Option Nat :=
  let v := wGet b WW.eth
  if v.testBit 8 then some (v % 256) else none

/-- Whether stream n is bound: named in an enabled wall tray that is active or ARMED (R311). -/
def State.streamBound (s : State) (n : Nat) : Bool :=
  let names := fun (b : Bank) => wGet b WW.en ≠ 0 && streamOf b = some n
  s.trays.any fun e => 576 ≤ e.1 && (names e.2.active || (e.2.state = .armed && names e.2.staged))

/-- Whether a stream of port p is bound (R311). -/
def State.portStreams (s : State) (p : Nat) : Bool :=
  (List.range 256).any fun n => s.streamSub n / 4 = p && s.streamBound n

/-- avtp_timestamp and tv for the TB0 instant t in ns, with a presentation offset (R314).
Log entry 79: DEDUCED, unsafe. -/
def State.avtpStamp (s : State) (pres : Word) (t : Nat) : BitVec 32 × Bool :=
  if s.tb0.state = .locked || (s.tb0.state = .holdover && !s.tb0.errb) then (BitVec.ofInt 32 ((t : Int) + pres.toInt), true)
  else (0, false)

/-- The picture that a wall bank's RVF AVTPDUs describe (R313). -/
def pictureOf (b : Bank) : Picture := { width := wallW b, height := wallH b, rgb := wallFmt b = 4 }

/-- The bytes of one RVF piece of a stream (R313). -/
def State.pieceBytes (s : State) (n fmt : Nat) : Nat :=
  let g := if fmt = 2 then 4 else 3
  4 * s.field .ethStrCfg n 0 20 9 / g * g

/-- Cuts bytes into runs of n; `fuel` bounds their number. -/
def runsOf (n : Nat) : Nat → List Byte → List (List Byte)
  | 0, _ => []
  | f + 1, bs => if bs.isEmpty then [] else bs.take n :: runsOf n f (bs.drop n)

/-- The RVF AVTPDUs of one line.
Log entry 79: DEDUCED, unsafe. -/
def State.linePdus (s : State) (n w tick : Nat) (bank : Bank) (line : Nat) (stamp : BitVec 32 × Bool) (streaming final : Bool)
    (bytes : List Byte) : List Pdu :=
  let runs := runsOf (max 1 (s.pieceBytes n (wallFmt bank))) bytes.length bytes
  runs.mapIdx fun i b =>
    { stream := n, wall := w, tick := tick, vsf := false, stamp := stamp.1, tv := stamp.2, line := line,
      last := final && i + 1 = runs.length, streaming := streaming, picture := some (pictureOf bank), payload := b }

/-- The VSF_STREAM AVTPDU of a frame header.
Log entry 79: DEDUCED, unsafe. -/
def headerPdu (n w tick : Nat) (stamp : BitVec 32 × Bool) (streaming : Bool) (header : List Byte) : Pdu :=
  { stream := n, wall := w, tick := tick, vsf := true, stamp := stamp.1, tv := stamp.2, line := 0, last := false,
    streaming := streaming, payload := header }

/-- The lines of an image of h lines. -/
def imageLines (h : Nat) (image : List Byte) : List (List Byte) :=
  (List.range h).map fun y => (image.drop (image.length / h * y)).take (image.length / h)

/-- The queue of a PDU: its stream's PCP.
Log entry 79: DEDUCED, unsafe. -/
def State.pduQueue (s : State) (p : Pdu) : Nat := s.field .ethStrCfg p.stream 0 4 3

/-- The credit of queue q now: a shaped queue gains idleSlope, up to 0 while it is empty (R316, IEEE 802.1Qav).
Log entry 13: PRESUMED, unsafe. -/
def State.creditNow (s : State) (x q : Nat) : Int :=
  let c := Store.get {} (s.split x).credits q
  let gain : Int := ((s.clock - c.since) * ((s.reg .ethCbs x q).toNat * 1000) : Nat)
  if (s.split x).queued.any fun p => s.pduQueue p = q then c.value + gain else min 0 (c.value + gain)

/-- ETH_CBS[x][q] is about to change: what its queue has gained so far is kept (R316, IEEE 802.1Qav).
Log entry 13: PRESUMED, unsafe. -/
def State.settleCredit (s : State) (x q : Nat) : State :=
  let y := s.split x
  let c := Store.get {} y.credits q
  if s.clock < c.since then s
  else s.setSplit x { y with credits := Store.put {} y.credits q { value := s.creditNow x q, since := s.clock } }

/-- PDUs of one stream join what is queued: PDUs of streaming walls that are queued in the same clock stand in ascending stream
index (R316). -/
def queueBehind (ps : List Pdu) (n clock : Nat) (q : List Pdu) : List Pdu :=
  let later := (q.reverse.takeWhile fun p => p.streaming && p.clock = clock && n < p.stream).length
  q.take (q.length - later) ++ ps ++ q.drop (q.length - later)

/-- PDUs join their split port's queues. A queue that was empty has no credit above 0. -/
def State.enqueue (s : State) (n : Nat) (ps : List Pdu) : State :=
  let ps := ps.map fun p => { p with clock := s.clock }
  let x := s.streamSub n
  let q := s.field .ethStrCfg n 0 4 3
  let y := s.split x
  let credits := if s.reg .ethCbs x q = 0 then y.credits
    else Store.put {} y.credits q { value := s.creditNow x q, since := max s.clock (Store.get {} y.credits q).since }
  let queued := if ps.all (·.streaming) then queueBehind ps n s.clock y.queued else y.queued ++ ps
  s.setSplit x { y with queued := queued, credits := credits }

/-- Offers a wall frame to a stream (R315, R317): its RSEQ, and whether the stream accepts it. -/
def State.offerStream (s : State) (n w tick : Nat) : Option Word × State :=
  let x := s.streamSub n
  let q := s.reg .ethStrSent n
  let s := s.setReg .ethStrSent n 0 (q + 1)
  if !(s.split x).up then (none, s.streamDrop n w 1 tick)
  else if (s.begun x n).isSome then (none, s.streamDrop n w 2 tick)
  else (some q, s)

/-- A staged wall frame is offered to its stream in its output slot (R313, R316). -/
def State.streamFrame (s : State) (n w : Nat) (d : WallDue) (header image : List Byte) : State :=
  match s.offerStream n w d.tick with
  | (none, s) => s
  | (some q, s) =>
    let st := s.avtpStamp (s.reg .ethStrPres n) s.tick.edgeTb0Ns
    let ls := imageLines (wallH d.bank) image
    let body := (ls.mapIdx fun y b => s.linePdus n w d.tick d.bank y st false (y + 1 = ls.length) b).flatten
    s.enqueue n (headerPdu n w d.tick st false (putSeq header 44 q) :: body)

/-- STREAM_TRUNCATE (R317): PDUs of a staged wall frame of tick k remain unsent at the edge of tick k + 2. -/
def execStreamTruncate (n : Fin 256) (s : State) : Host.Outcome State Fault Refusal :=
  effect (fun s =>
    let x := s.streamSub n.val
    if (s.split x).queued.any fun p => p.stream = n.val && !p.streaming && decide (p.tick + 2 ≤ s.now) then
      s.truncate x n.val 3 else s) s

/-! ### Gates and shapers (R316, R319, R320) -/

/-- Interval of a gate entry in ns: 0 acts as 1. -/
def gateNs (e : Word) : Nat := max 1 (bitsOf e 8 24)

/-- Cycle time of a gate list.
Log entry 13: PRESUMED, unsafe. -/
def gateCycle (l : List Word) : Nat := (l.map gateNs).foldl (· + ·) 0

/-- The admin list of split port x. -/
def State.adminList (s : State) (x : Nat) : List Word :=
  (List.range (max 1 (min 256 (s.field .ethGclLen x 0 0 9)))).map fun e => s.reg .ethGcl x e

/-- The admin base time in ns. -/
def State.adminBase (s : State) (x : Nat) : Nat :=
  ((s.reg .ethGclBaseSecLo x).toNat + (s.reg .ethGclBaseSecHi x).toNat * 2 ^ 32) * 1000000000
    + (s.reg .ethGclBaseNs x).toNat

/-- How long queue q's gate stays open from `pos` ns into a run of entries: what the first entries hold open. -/
def openFrom (q : Nat) : List Word → Nat → Nat
  | [], _ => 0
  | e :: es, pos =>
    if gateNs e ≤ pos then openFrom q es (pos - gateNs e)
    else if bitOf e q then (gateNs e - pos) + openFrom q es 0 else 0

/-- ns for which queue q's gate stays open from now, or none where it never closes. -/
def State.gateOpen (s : State) (x q : Nat) : Option Nat :=
  let y := s.split x
  if !s.flag .ethGclCtl x 0 0 || y.operational.isEmpty || y.operational.all (bitOf · q) then none
  else
    let ct := gateCycle y.operational
    let pos := ((s.tb0.ns : Int) - y.cycleBase).emod ct
    some (openFrom q (y.operational ++ y.operational) pos.toNat)

/-- Wire bytes of an AVTPDU (R318). -/
def State.wireBytes (s : State) (p : Pdu) : Nat :=
  p.payload.length + (if s.flag .ethStrCfg p.stream 0 3 then 74 else 70)

/-- The first PDU of queue q, if its shaper and its gate let it start now.
Log entry 13: PRESUMED, unsafe. -/
def State.mayStart (s : State) (x q : Nat) : Option Pdu :=
  match (s.split x).queued.find? fun p => s.pduQueue p = q with
  | none => none
  | some p =>
    let fits := match s.gateOpen x q with
      | none => true
      | some ns => decide (s.wireBytes p * 8 ≤ ns * s.splitRate x)
    let paid := s.reg .ethCbs x q = 0 || decide (0 ≤ s.creditNow x q)
    if fits && paid then some p else none

/-- 48 bits in a LO and a HI register. -/
def macAddress (lo hi : Word) : BitVec 48 := BitVec.ofNat 48 (lo.toNat + hi.toNat % 65536 * 2 ^ 32)

/-- What a sent AVTPDU carries beside its own fields.
Log entry 12: PRESUMED, unsafe. -/
def State.ethHead (s : State) (x : Nat) (p : Pdu) : EthHead :=
  let n := p.stream
  { dst := macAddress (s.reg .ethStrDaLo n) (s.reg .ethStrDaHi n)
    src := macAddress (s.reg .ethMacLo x) (s.reg .ethMacHi x)
    vlan := if s.flag .ethStrCfg n 0 3 then
        some (BitVec.ofNat 16 (s.field .ethStrCfg n 0 8 12 + s.field .ethStrCfg n 0 4 3 * 2 ^ 13)) else none
    streamId := BitVec.ofNat 64 ((s.reg .ethStrIdLo n).toNat + (s.reg .ethStrIdHi n).toNat * 2 ^ 32)
    vendor := if p.vsf then some (macAddress (s.reg .ethVsfIdLo) (s.reg .ethVsfIdHi)) else none
    seq := (s.stream n).seq }

/-- The shaper of queue q pays for n wire bytes: credit falls by the line rate for as long as they last.
Log entry 13: PRESUMED, unsafe. -/
def State.payCredit (s : State) (x q n : Nat) : State :=
  if s.reg .ethCbs x q = 0 then s
  else
    let clocks := ceilDiv (10 * n) (s.splitRate x)
    let y := s.split x
    let spent : Int := (n * 8 * 1250000000 : Nat) - (clocks * ((s.reg .ethCbs x q).toNat * 1000) : Nat)
    s.setSplit x { y with credits := Store.put {} y.credits q { value := s.creditNow x q - spent, since := s.clock + clocks } }

/-- A PDU leaves its split port with the stream's next sequence_num (R314). -/
def State.sendPdu (s : State) (x : Nat) (p : Pdu) : State :=
  let s := s.payCredit x (s.pduQueue p) (s.wireBytes p)
  let y := s.split x
  let s := s.emit (.ethPdu x (s.ethHead x p) p)
  let s := (s.setSplit x { y with queued := y.queued.erase p }).setStream p.stream
    { s.stream p.stream with seq := (s.stream p.stream).seq + 1 }
  s.bump .ethTxPdu x

/-- PDU_TRANSMIT (R316): strict priority from queue 7 down. -/
def execPduTransmit (x : Fin 8) (s : State) : Host.Outcome State Fault Refusal :=
  effect (fun s =>
    if !(s.split x.val).up || s.dark then s
    else match [7, 6, 5, 4, 3, 2, 1, 0].findSome? fun q => s.mayStart x.val q with
      | some p => s.sendPdu x.val p
      | none => s) s

/-- CHANGE is written 1 (R320): admission is to run on the admin list. -/
def State.gateChange (s : State) (x : Nat) (o : Origin) : State :=
  let s := s.setField .ethGclCtl x 0 1 1 1
  let s := s.setSplit x { s.split x with changeOrigin := o, changeResult := 0 }
  { s with tick := { s.tick with gateRuns := s.tick.gateRuns ++ [x] } }

/-- Admission accepts an admin list: when it takes effect (R320). -/
def State.gateAccepted (s : State) (x res : Nat) : State :=
  let base := s.adminBase x
  let ct := gateCycle (s.adminList x)
  let now := s.tb0.ns
  let at0 := if now < base then base else base + ((now - base) / ct + 1) * ct
  s.setSplit x { s.split x with changeResult := res, effectAt := at0 }

/-- GATE_LIST_TAKE_EFFECT (R320). -/
def execGateListTakeEffect (x : Fin 8) (s : State) : Host.Outcome State Fault Refusal :=
  effect (fun s =>
    let y := s.split x.val
    if !s.flag .ethGclCtl x.val 0 1 || y.changeResult = 0 || s.tb0.ns < y.effectAt then s
    else
      let s := s.setSplit x.val { y with operational := s.adminList x.val, cycleBase := y.effectAt }
      let s := s.setField .ethGclCtl x.val 0 1 1 0
      (s.action y.changeOrigin 20 x.val y.changeResult).raise 0x0720 [(1, x.val), (1, y.changeResult), (6, s.now)]) s

/-! ### Received frames and gPTP (R310, R321) -/

/-- The longest frame of the MAC without its FCS: 1,522 bytes with it (R309).
Log entry 104: DEDUCED, unsafe. -/
def maxFrame : Nat := 1518

/-- Whether a received frame is a gPTP message of the instance's port, no longer than the MAC takes (R309, R310). -/
def State.isGptp (s : State) (x : Nat) (frame : List Byte) (fcsOk : Bool) : Bool :=
  fcsOk && x = s.field .ethPtpCfg 0 0 0 3 && frame.length ≤ maxFrame
    && frame.take 6 = [(0x01 : Byte), 0x80, 0xC2, 0x00, 0x00, 0x0E] && (frame.drop 12).take 2 = [(0x88 : Byte), 0xF7]

/-- Whether a received gPTP message is an event message: messageType 0 Sync, 2 Pdelay_Req, 3 Pdelay_Resp (R321).
Log entry 12: PRESUMED, unsafe. -/
def isEventFrame (frame : List Byte) : Bool := [0, 2, 3].contains ((byteAt frame 14).toNat % 16)

/-- The receive stamp of a message whose start is now: TB0 with DLY_RX subtracted (R321).
Log entry 80: DEDUCED, unsafe. -/
def State.rxStamp (s : State) (x : Nat) : BitVec 128 :=
  timeValue (s.tb0.subns - (s.reg .ethPtpDlyRx x).toNat) (s.tb0.tag 0)

/-- The domain of the gPTP instance, and its priority1: the device is never grandmaster (R322). -/
def State.gptpDomain (s : State) : Nat := s.field .ethPtpCfg 0 0 4 7
def gptpPriority1 : Byte := 255

/-- Whether a gPTP message names the domain of the instance: domainNumber is its byte 4.
Log entry 12: PRESUMED, unsafe. -/
def State.inDomain (s : State) (message : List Byte) : Bool := (byteAt message 4).toNat = s.gptpDomain

/-- ETH_FRAME_RECEIVED (R310, R321): an event message is stamped. What the gPTP instance makes of its messages reaches TB0 as
TIME_SOURCE_UPDATE. -/
def execEthFrameReceived (x : Fin 8) (frame : List Byte) (fcsOk : Bool) (dt : Nat) (s : State) :
    Host.Outcome State Fault Refusal :=
  effect (fun s =>
    let s := s.elapse dt
    if !(s.split x.val).up then s
    else if s.isGptp x.val frame fcsOk then
      let s := s.bump .ethRxPtp x.val
      if isEventFrame frame then s.emit (.gptpStamp x.val (s.inDomain (frame.drop 14)) (s.rxStamp x.val)) else s
    else s.bump .ethRxOther x.val) s

/-- Whether a gPTP message is an event message, which is stamped (R321). -/
def isEventMessage : GptpKind → Bool
  | .sync | .pdelayReq | .pdelayResp => true
  | .followUp | .pdelayRespFollowUp => false

/-- Big-endian bytes. -/
def beBytes (n v : Nat) : List Byte := (leBytes n v).reverse

/-- `n` bytes of a message from `at0` on replaced by a big-endian number. -/
def putBe (at0 n v : Nat) (body : List Byte) : List Byte :=
  if body.length < at0 + n then body else body.take at0 ++ beBytes n v ++ body.drop (at0 + n)

/-- A message with its timestamp written into it, bytes 43:34: 6 of seconds and 4 of ns.
Log entry 12: PRESUMED, unsafe. -/
def withOrigin (body : List Byte) (v : BitVec 128) : List Byte :=
  putBe 40 4 (v.toNat / 2 ^ 16 % 2 ^ 32) (putBe 34 6 (v.toNat / 2 ^ 64) body)

/-- A message with a time in subns added to correctionField, bytes 15:8.
Log entry 12: PRESUMED, unsafe. -/
def withCorrection (body : List Byte) (v : Nat) : List Byte :=
  putBe 8 8 (ofLe ((body.drop 8).take 8).reverse + v) body

/-- A message with the domain of the instance in domainNumber (R322).
Log entry 12: PRESUMED, unsafe. -/
def State.withDomain (s : State) (body : List Byte) : List Byte := putBe 4 1 s.gptpDomain body

/-- What leaves for a message of the instance, stamped `st` (R321): a one-step Sync carries its own stamp and its residence time,
which the manual does not give; a Follow_Up carries the stamp of the Sync before it.
Log entries 12: PRESUMED, unsafe; 104: DESIGN CHOICE, safe. -/
def State.gptpBody (s : State) (x : Nat) (kind : GptpKind) (body : List Byte) (st : BitVec 128) : List Byte × State :=
  let body := s.withDomain body
  match kind with
  | .sync =>
    if s.flag .ethPtpCfg 0 0 3 then
      let (residence, s) := s.draw
      (withCorrection (withOrigin body st) residence.toNat, s)
    else (body, s.setSplit x { s.split x with syncStamp := st })
  | .followUp => (if s.flag .ethPtpCfg 0 0 3 then body else withOrigin body (s.split x).syncStamp, s)
  | _ => (body, s)

/-- The address of gPTP messages (R310). -/
def gptpAddress : BitVec 48 := 0x0180C200000E

/-- GPTP_MESSAGE_SEND (R309, R310, R321, R322): event messages carry a TB0 stamp to which DLY_TX is added. A message longer
than the MAC's frame is none that it sends.
Log entries 12: PRESUMED, unsafe; 80: DEDUCED, unsafe. -/
def execGptpMessageSend (kind : GptpKind) (body : List Byte) (dt : Nat) (s : State) :
    Host.Outcome State Fault Refusal :=
  effect (fun s =>
    let s := s.elapse dt
    let x := s.field .ethPtpCfg 0 0 0 3
    if !(s.split x).up || maxFrame < 14 + body.length then s
    else
      let st := timeValue (s.tb0.subns + (s.reg .ethPtpDlyTx x).toNat) (s.tb0.tag 0)
      let (body, s) := s.gptpBody x kind body st
      s.emit (.gptp x gptpAddress (macAddress (s.reg .ethMacLo x) (s.reg .ethMacHi x)) kind body
        (if isEventMessage kind then st else 0))) s

end Sys2Proof.Machine
end

