-- ==== Sys2Proof/Machine/Fec.lean ====
section
/-!
DEFINITION. The line code of the forward lanes and of the chain (R85 to R87, R325): GF(2¹⁰), the RS(544,514) decoder,
the control field and the self-synchronising descrambler x⁵⁸ + x³⁹ + 1. Polynomials are lists of coefficients, lowest
power first; symbol 0 of a codeword is the coefficient of x⁵⁴³ and the generator's roots are α⁰ to α²⁹.
-/
namespace Sys2Proof

/-- Multiplication by α modulo x¹⁰ + x³ + 1. -/
def gfX (a : Nat) : Nat := if 512 ≤ a then (2 * a - 1024) ^^^ 9 else 2 * a

/-- Multiplication in GF(2¹⁰). -/
def gfMul (a b : Nat) : Nat :=
  ((List.range 10).foldl (fun (s : Nat × Nat) i => (if b.testBit i then s.1 ^^^ s.2 else s.1, gfX s.2)) (0, a)).1

/-- Powers of a field element. -/
def gfPow (a : Nat) : Nat → Nat
  | 0 => 1
  | n + 1 => gfMul a (gfPow a n)

/-- a¹⁰²², by squaring: a, a³, a⁷, …, a⁵¹¹, and its square. -/
def gfInv (a : Nat) : Nat :=
  let b := (List.range 8).foldl (fun x _ => gfMul (gfMul x x) a) a
  gfMul b b

/-- The value of a polynomial at a point. -/
def polyEval (p : List Nat) (x : Nat) : Nat := p.foldr (fun c acc => c ^^^ gfMul x acc) 0

def polyAdd : List Nat → List Nat → List Nat
  | [], q => q
  | p, [] => p
  | a :: p, b :: q => (a ^^^ b) :: polyAdd p q

def polyScale (c : Nat) (p : List Nat) : List Nat := p.map (gfMul c)

def polyShift (k : Nat) (p : List Nat) : List Nat := List.replicate k 0 ++ p

def polyMul (p q : List Nat) : List Nat :=
  p.foldr (fun a acc => polyAdd (polyScale a q) (0 :: acc)) []

/-- The formal derivative. -/
def polyDeriv (p : List Nat) : List Nat := (p.drop 1).mapIdx fun i c => if i % 2 = 0 then c else 0

/-- Syndromes S₀ to S₂₉ of a received word: the first symbol is the highest coefficient, so Horner's rule reads it in
order.
Log entry 10: PRESUMED, unsafe. -/
def syndromes (word : List Nat) : List Nat :=
  (List.range 30).map fun j =>
    let x := gfPow 2 j
    word.foldl (fun acc c => gfMul acc x ^^^ c) 0

/-- The registers of the Berlekamp–Massey iteration: the locator, the previous one, its length, the gap and the last
discrepancy. -/
structure Massey where
  c : List Nat := [1]
  b : List Nat := [1]
  len : Nat := 0
  m : Nat := 1
  d : Nat := 1
  deriving DecidableEq, Repr

/-- One step of the iteration, for syndrome n. -/
def masseyStep (s : List Nat) (x : Massey) (n : Nat) : Massey :=
  let d := (List.range (x.len + 1)).foldl (fun acc i =>
    if i ≤ n then acc ^^^ gfMul (x.c.getD i 0) (s.getD (n - i) 0) else acc) 0
  if d = 0 then { x with m := x.m + 1 }
  else
    let c := polyAdd x.c (polyScale (gfMul d (gfInv x.d)) (polyShift x.m x.b))
    if 2 * x.len ≤ n then { c := c, b := x.c, len := n + 1 - x.len, m := 1, d := d }
    else { x with c := c, m := x.m + 1 }

/-- The error locator and its length.
Log entry 10: PRESUMED, unsafe. -/
def locator (s : List Nat) : Massey := (List.range 30).foldl (masseyStep s) {}

/-- Powers of x at which a 544-symbol word is in error: the inverses of the locator's roots. -/
def errorPowers (c : List Nat) : List Nat :=
  let step := gfInv 2
  ((List.range 544).foldl (fun (a : List Nat × Nat) p =>
    (if polyEval c a.2 = 0 then p :: a.1 else a.1, gfMul a.2 step)) ([], 1)).1.reverse

/-- Decodes a received word: the corrected word and how many symbols were corrected, or none where more than 15 symbols
are in error (R85, R88).
Log entry 10: PRESUMED, unsafe. -/
def rsDecode (word : List Nat) : Option (List Nat × Nat) :=
  let s := syndromes word
  if s.all (· = 0) then some (word, 0)
  else
    let x := locator s
    let ps := errorPowers x.c
    if 15 < x.len || ps.length ≠ x.len then none
    else
      let omega := (polyMul s x.c).take 30
      let dc := polyDeriv x.c
      let fixed := ps.foldl (fun w p =>
        let v := gfPow 2 p
        let inv := gfInv v
        let e := gfMul v (gfMul (polyEval omega inv) (gfInv (polyEval dc inv)))
        w.set (543 - p) (w.getD (543 - p) 0 ^^^ e)) word
      if (syndromes fixed).all (· = 0) then some (fixed, x.len) else none

/-! ### Message bits -/

/-- The bits of a symbol, the most significant first (R85). -/
def symbolBits (c : Nat) : List Bool := (List.range 10).map fun i => c.testBit (9 - i)

/-- The 5,140 message bits of a codeword, in transmission order. -/
def messageBits (word : List Nat) : List Bool := (word.take 514).flatMap symbolBits

/-- Descrambles bits: each is the received bit plus those 39 and 58 before it (R87). `st` holds the last 58 received
bits, the latest lowest.
Log entry 10: PRESUMED, unsafe. -/
def descramble (st : Nat) : List Bool → List Bool × Nat
  | [] => ([], st)
  | r :: rs =>
    let d := (r != st.testBit 38) != st.testBit 57
    let (ds, st') := descramble ((2 * st + bit r) % 2 ^ 58) rs
    (d :: ds, st')

/-- Bits as a number, the first lowest. -/
def ofBits : List Bool → Nat
  | [] => 0
  | b :: bs => bit b + 2 * ofBits bs

/-- The payload bytes of a run of bits, least significant bit first (R85). -/
def bitBytes : Nat → List Bool → List Byte
  | 0, _ => []
  | n + 1, bs => BitVec.ofNat 8 (ofBits (bs.take 8)) :: bitBytes n (bs.drop 8)

/-- A decoded codeword: its control field (R86) and its 640 payload bytes. -/
structure Payload640 where
  /-- The offset of the first packet, or none. -/
  first : Option Nat
  seq : BitVec 4
  bytes : List Byte
  deriving DecidableEq, Repr

/-- Reads a descrambled message. A FIRST from 640 to 1,022 is 1,023 (R86). -/
def readMessage (bits : List Bool) : Payload640 :=
  let f := ofBits (bits.take 10)
  { first := if f < 640 then some f else none
    seq := BitVec.ofNat 4 (ofBits ((bits.drop 10).take 4))
    bytes := bitBytes 640 (bits.drop 20) }

/-- What the line code makes of one received codeword: the decoded message, the symbols corrected, and the scrambler's
state behind it. The message bits of a word that does not decode pass the descrambler as they were received. -/
def receiveCodeword (st : Nat) (symbols : List (BitVec 10)) : Option (Payload640 × Nat) × Nat :=
  let word := symbols.map BitVec.toNat
  match rsDecode word with
  | some (w, n) =>
    let (bits, st') := descramble st (messageBits w)
    (some (readMessage bits, n), st')
  | none => (none, (descramble st (messageBits word)).2)

end Sys2Proof
end

