-- ==== Sys2Proof/Machine/Frames.lean ====
section
/-!
DEFINITION. The frame rules of the packet layer (R106 to R109), frame periods' outcome, the exposure binding of frames
(R205 to R208, R211), and the meanings of the packet commands, of a missing frame, of the two deadlines and of a slice.
-/
namespace Sys2Proof.Machine

/-! ### Instants -/

/-- A base's value in whole ns, `ahead` time clocks from now. -/
def State.baseNs (s : State) (b ahead : Nat) : Nat := ((s.base b).acc + ahead * s.rate b) / nsUnits

/-- The tick base. -/
def State.tickBase (s : State) : Nat := s.field .tickCfg 0 0 0 2

/-- t of R53, `ahead` clocks from now. -/
def State.tickNs (s : State) (ahead : Nat := 0) : Nat := s.baseNs s.tickBase ahead

/-- P and the phase (R53). -/
def State.tickP (s : State) : Nat := max 1 (s.reg .tickPeriodNs).toNat
def State.tickPhase (s : State) : Nat := (s.reg .tickPhaseNs).toNat

/-- Whether t of R53 satisfies the condition of an edge for the first time at this clock, and none has been taken.
Log entry 33: DEDUCED, unsafe. -/
def State.edgeNow (s : State) : Bool :=
  let t := s.tickNs
  let before := ((s.base s.tickBase).acc - s.rate s.tickBase) / nsUnits
  let taken := s.tick.started && s.clock ≤ s.tick.edgeClock + 2
  s.tickPhase ≤ t && (t - s.tickPhase) % s.tickP = 0 && (before < t || s.clock = 0) && !taken

/-- Time clocks up to the next edge.
Log entries 2: DESIGN CHOICE, unsafe; 33: DEDUCED, unsafe. -/
def State.clocksToEdge (s : State) : Nat :=
  let t := s.tickNs
  if s.edgeNow then 0
  else
    let target := if t < s.tickPhase then s.tickPhase else t + (s.tickP - (t - s.tickPhase) % s.tickP)
    ceilDiv (target * nsUnits - (s.base s.tickBase).acc) (max 1 (s.rate s.tickBase))

/-- What a frame triggered at the edge at `edge` ns binds under two banks (R58, R59, R106). -/
def bindingOf (p : Nat) (edge : Nat) (pb mb : Bank) (pgen mgen : BitVec 16) : Binding :=
  let e : Int := edge + pGet pb PW.latNs
  let half : Int := p / 2
  let r : Int := pGet pb PW.readoutNs
  { ptray := pb, mtray := mb, pgen := pgen, mgen := mgen, lo := e - half, hi := e + half, close := e + r + half
    lag := (pGet pb PW.latNs + pGet pb PW.readoutNs + p / 2) / p + 1 }

/-- The binding of port i at an edge under the trays now active (R185): the temporal filter runs where TNR_EN is 1, unless
shedding or reduced service has switched it off (R73, R372), on the region then in force. -/
def State.bindingAt (s : State) (i edge : Nat) : Binding :=
  let b := bindingOf s.tickP edge (s.pBank i) (s.mBank (i / 8)) (s.tray i).gen (s.tray (512 + i / 8)).gen
  let tnr := s.tnrOn i b.ptray && !isYuv (trayDt b.ptray)
  { b with tnr := tnr, ref := if tnr then s.region 0 i else none }

/-- Whether port i's frame period begins at tick n under a bank (R184). -/
def triggersAt (b : Bank) (n : Nat) : Bool :=
  pGet b PW.en ≠ 0 && n % max 1 (pGet b PW.frameTicks) = pGet b PW.framePhase

/-! ### Step mode (R79) -/

/-- Whether the tick unit replays in step mode (R79).
Log entry 34: DEDUCED, unsafe. -/
def State.stepMode (s : State) : Bool := s.field .tickCfg 0 0 2 2 = 1

/-- The enabled replay rings. -/
def State.replayRings (s : State) : List Nat :=
  ((s.rings.filter fun e => e.1 < 1024 && e.2.state ≠ .off && s.kind e.1 = 2).map (·.1))

/-- Whether ticks now start as the replay rings allow: the condition of R79 is in force for some ring (R270).
Log entry 34: DEDUCED, unsafe. -/
def State.stepping (s : State) : Bool :=
  s.stepMode && s.replayRings.any fun r => match (s.ring r).n0 with
    | some n => decide (n ≤ s.now)
    | none => false

/-- The instant of the tick base, in ns, against which windows and deadlines are judged: a tick that is held back passes
none that lies behind its own end, so that no window break arises from timing (R79).
Log entry 34: DEDUCED, unsafe. -/
def State.judgeNs (s : State) : Int :=
  if s.stepping then min (s.tickNs : Int) (s.tick.edgeNs + s.tickP) else s.tickNs

/-! ### Exposure (R205 to R208, R211) -/

/-- The applied generation that R207 infers for a frame: the value and APP_SRC. -/
def State.inferGen (s : State) (i : Nat) (f : Frame) : BitVec 16 × BitVec 2 :=
  let p := s.port i
  let lat := pGet f.bind.ptray PW.expLat
  if lat = 0 then (f.reqGen, 2)
  else if f.number.toNat < p.enableNumber.toNat + lat then (p.enableGen, 3)
  else match p.periods.find? fun q => q.number.toNat + lat = f.number.toNat with
    | some q => (q.reqGen, 2)
    | none => (p.enableGen, 3)

/-- Fills in the applied generation of a frame that closes or is missing; a tag that differs from the inference raises
event 0x0331. -/
def State.applyGen (s : State) (i : Nat) (f : Frame) : Frame × State :=
  let (g, src) := s.inferGen i f
  match f.tag with
  | some t =>
    if t.agenValid && t.matching then
      let f := { f with appGen := t.agen, appSrc := 1 }
      (f, if t.agen = g then s
        else (s.bump .millStMism (i / 8) (i % 8)).raise 0x0331
          [(2, s.portAddrAt i f.tick), (2, t.agen.toNat), (2, g.toNat), (2, f.number.toNat)])
    else ({ f with appGen := g, appSrc := src }, s)
  | none => ({ f with appGen := g, appSrc := src }, s)

/-- MILL_ST_EXP and MILL_ST_LAST of the port (R211). -/
def State.noteExposure (s : State) (i : Nat) (f : Frame) : State :=
  (s.setReg .millStExp (i / 8) (i % 8) (BitVec.ofNat 32 ((s.port i).reqGen.toNat + f.appGen.toNat * 65536))).setReg
    .millStLast (i / 8) (i % 8) (BitVec.ofNat 32 f.flags)

/-! ### Closing a frame -/

/-- What a closed and bound frame reports: its status byte, event 0x0212, its exposure, its status words, what its close
produces, and the restart of the next frame (R108, R109, R150, R154, R165, R175). -/
def State.reportClose (s : State) (i : Nat) (f : Frame) : State :=
  let was := f
  let (f, s) := s.applyGen i f
  let (f, s) := s.closeWork i { f with shed := f.shed || s.tick.shed || s.reduced }
  let s := s.setReg .sxlPstat (i / 8) (i % 8) (BitVec.ofNat 32 f.status.toNat)
  let s := s.noteExposure i f
  let s := if f.status.toNat &&& s.field .sxlCfg (i / 8) 0 16 8 ≠ 0 then
      s.raise 0x0212 [(2, s.portAddrAt i f.tick), (1, f.status.toNat), (5, f.number.toNat)] else s
  let s := if breaksWindow f.status then s.addCause i 5 (f.number + 1) else s
  s.progress i was f

/-- A line whose packet is still arriving as the frame closes is filled out as a shorter line (row 7 of R107): the line, and
whether it was short.
Log entry 100: DEDUCED, unsafe. -/
def LineEntry.ended (dt n : Nat) : LineEntry → LineEntry × Bool
  | .part bs w => (.got (fitLine dt n bs) w, decide (bs.length < n))
  | e => (e, false)

/-- Closes the open frame as at FE, with further status bits (rows 1, 2, 3, 11 and 13 of R107). -/
def State.closeFrame (s : State) (i : Nat) (extra : BitVec 8) : State :=
  match s.openFrame i with
  | none => s
  | some f =>
    let h := trayH f.bind.ptray
    let n := h - f.lines.length
    let untagged := match f.tag with
      | some t => !t.matching
      | none => true
    let es := f.lines.map (LineEntry.ended (trayDt f.bind.ptray) (lineBytes f.bind.ptray))
    let f := { f with isOpen := false, lines := es.map (·.1) ++ List.replicate n .filled,
                      status := f.status ||| extra ||| (if n = 0 then 0 else 4) ||| (if untagged then 64 else 0)
                        ||| (if es.any (·.2) then 8 else 0) }
    let s := s.setFrame i f
    let s := if f.bound then s.reportClose i f else s
    (s.finishIfDone i).decideMill (i / 8)

/-! ### Opening a frame -/

/-- The restart causes of a frame that opens are spent; a restart frame raises event 0x0320 (R150). -/
def State.spendCauses (s : State) (i : Nat) (f : Frame) : State :=
  let p := s.port i
  let due := p.causes.filter fun c => c.2.toNat ≤ f.number.toNat
  let code := (due.map (·.1)).foldl min 7
  let s := s.setPort i { p with causes := p.causes.filter fun c => f.number.toNat < c.2.toNat }
  let s := if code = 1 then { s with power := { s.power with returnDone := i :: s.power.returnDone } } else s
  if s.tnrOn i f.bind.ptray && code < 7 then
    ((s.setFrame i { f with cause := code }).bump .millFrRestart (i / 8) (i % 8)).raise 0x0320
      [(2, s.portAddrAt i f.tick), (1, code), (5, f.number.toNat)]
  else s

/-- A frame start (R97, R106): the tick base in whole ns, the TB1 stamp, and the hub's frame count. -/
structure FrameStart where
  t : Int
  stamp : BitVec 128
  count : BitVec 16
  deriving DecidableEq, Repr

/-- The frame of a period, as it opens at a stamp. -/
def Period.frame (q : Period) (stamp : BitVec 128) (unsync : Bool) : Frame :=
  { tick := q.tick, number := q.number, bind := q.bind, stamp := stamp, unsync := unsync, reqGen := q.reqGen,
    reqNew := q.reqNew, replay := q.replay }

/-- Marks a period opened or missing. -/
def State.setPeriod (s : State) (i : Nat) (q : Period) : State :=
  let p := s.port i
  s.setPort i { p with periods := p.periods.map fun x => if x.tick = q.tick then q else x }

/-- A frame opens for a period (row 1 of R107); the hub's frame count is recorded, and not checked (R97). -/
def State.openFor (s : State) (i : Nat) (q : Period) (a : FrameStart) : State :=
  let s := s.closeFrame i 0
  let s := s.setPeriod i { q with opened := true }
  let f := { q.frame a.stamp s.tb1.errb with hubCount := a.count, shed := s.tick.shed || s.reduced }
  let p := s.port i
  (s.setPort i { p with frames := p.frames ++ [f] }).spendCauses i f

/-- A frame opens before its trigger edge; it is bound there (R185).
Log entries 36: DEDUCED, unsafe; 55: DEDUCED, unsafe. -/
def State.openEarly (s : State) (i : Nat) (b : Binding) (a : FrameStart) : State :=
  let s := s.closeFrame i 0
  let p := s.port i
  let f : Frame := { tick := s.now + 1, number := p.nextNumber, bound := false, bind := b, early := a.t, stamp := a.stamp
                     hubCount := a.count, unsync := s.tb1.errb, shed := s.tick.shed || s.reduced }
  s.setPort i { p with frames := p.frames ++ [f] }

/-- A stray frame start (row 3 of R107): with no frame open, what follows up to the next FS of row 1 changes nothing but the
count of row 10. -/
def State.strayFs (s : State) (i : Nat) : State :=
  ((s.closeFrame i 16).bump .sxlPstray (i / 8) (i % 8)).raise 0x0211 [(2, s.portAddr i), (6, s.now)]

/-- The frame that an FS at t ns may open before the next edge, if its window reaches back that far.
Log entry 36: DEDUCED, unsafe. -/
def State.earlyBinding (s : State) (i : Nat) (t : Int) : Option Binding :=
  if s.tick.started && triggersAt (s.pBank i) (s.now + 1) then
    let b := s.bindingAt i (s.tick.edgeNs + s.tickP)
    if b.lo ≤ t && t < b.hi then some b else none
  else none

/-- FS on an enabled port (rows 1 to 3 of R107).
Log entry 55: DEDUCED, unsafe. -/
def State.frameStart (s : State) (i : Nat) (a : FrameStart) : State :=
  let p := s.port i
  let inWin := p.periods.filter fun q => q.bind.lo ≤ a.t && a.t < q.bind.hi
  match inWin.find? fun q => !q.opened && !q.missing with
  | some q => s.openFor i q a
  | none =>
    if inWin.any (·.opened) then s.closeFrame i 16
    else match s.earlyBinding i a.t with
      | some b => if p.frames.any fun f => !f.bound then s.closeFrame i 16 else s.openEarly i b a
      | none => s.strayFs i

/-! ### Packets of an open frame -/

/-- Sets status bits on the open frame of port i. -/
def State.markFrame (s : State) (i : Nat) (bits : BitVec 8) : State :=
  match s.openFrame i with
  | some f => s.setFrame i { f with status := f.status ||| bits }
  | none => s

/-- LS (row 6 of R107). -/
def State.lineStart (s : State) (i n : Nat) : State :=
  match s.openFrame i with
  | none => s
  | some f =>
    let h := trayH f.bind.ptray
    let c := f.lines.length
    if n ≤ c then s
    else
      let k := min n h - c
      let st : BitVec 8 := (if k = 0 then 0 else 4) ||| (if h < n then 16 else 0)
      (s.setFrame i { f with lines := f.lines ++ List.replicate k .filled, status := f.status ||| st }).decideMill (i / 8)

/-- Row 7 of R107 accepts a pixel packet as the next line of the open frame: it takes a credit, and the bytes that follow go to
its slot (R117), or it overruns, and its bytes are dropped (R119). Answers the frame whose line the bytes are, by its tick. -/
def State.nextLine (s : State) (i : Nat) (f : Frame) : Option Nat × State :=
  if s.hasCredit i then
    let old := s.lineLevel i
    let s := s.setFrame i { f with lines := f.lines ++ [.part [] (slotWords f.bind.ptray)] }
    (some f.tick, s.lineMoved i old)
  else
    let s := s.setFrame i { f with lines := f.lines ++ [.filled], status := f.status ||| 4, overrun := true }
    let s := s.bump .millInOvr (i / 8) (i % 8)
    let s := if f.overrun then s else s.raise 0x0311 [(2, s.portAddrAt i f.tick), (6, f.number.toNat)]
    (none, s.decideMill (i / 8))

/-- The header of a pixel packet is judged (rows 7 to 10 of R107). -/
def State.pixelHead (s : State) (i dt : Nat) : Option Nat × State :=
  match s.openFrame i with
  | none => (none, s.bump .sxlPlate (i / 8) (i % 8))
  | some f =>
    if dt ≠ trayDt f.bind.ptray then (none, s.markFrame i 128)
    else if f.lines.length < trayH f.bind.ptray then s.nextLine i f
    else (none, s.markFrame i 16)

/-- The open frame of tick `tick` of port i, the lines before the one that is arriving, and the words of its slot. -/
def State.arriving (s : State) (i tick : Nat) : Option (Frame × List LineEntry × Nat) :=
  match s.openFrame i with
  | some f =>
    match f.lines.getLast? with
    | some (.part _ w) => if f.tick = tick then some (f, f.lines.dropLast, w) else none
    | _ => none
  | none => none

/-- The bytes of an arriving line so far: its slices may be ready (R123). -/
def State.lineData (s : State) (i tick : Nat) (bytes : List Byte) : State :=
  match s.arriving i tick with
  | some (f, ls, w) => (s.setFrame i { f with lines := ls ++ [.part bytes w] }).decideMill (i / 8)
  | none => s

/-- The packet of an arriving line has ended: the line is filled out or truncated, and used as received (row 7 of R107). -/
def State.lineEnd (s : State) (i tick : Nat) (bytes : List Byte) (crcOk : Bool) : State :=
  match s.arriving i tick with
  | some (f, ls, w) =>
    let n := lineBytes f.bind.ptray
    let st : BitVec 8 := (if bytes.length < n then 8 else 0) ||| (if n < bytes.length then 16 else 0)
      ||| (if crcOk then 0 else 1)
    let s := s.setFrame i { f with lines := ls ++ [.got (fitLine (trayDt f.bind.ptray) n bytes) w], status := f.status ||| st }
    (if crcOk then s else s.bump .sxlPcrc (i / 8) (i % 8)).decideMill (i / 8)
  | none => s

/-- A pixel packet (rows 7 to 10 of R107). -/
def State.pixelPacket (s : State) (i dt : Nat) (bytes : List Byte) (crcOk : Bool) : State :=
  match s.pixelHead i dt with
  | (some t, s) => s.lineEnd i t bytes crcOk
  | (none, s) => s

/-- A FRAME_TAG of the right form (rows 4 and 5 of R107). TICK is the low 48 bits of the trigger's.
Log entry 20: DEDUCED, unsafe. -/
def State.frameTag (s : State) (i : Nat) (bytes : List Byte) : State :=
  match s.openFrame i with
  | none => s
  | some f =>
    if f.lines.isEmpty then
      let ok := leAt bytes 10 6 = f.tick % 2 ^ 48
      let t : TagRec := { agen := BitVec.ofNat 16 (leAt bytes 0 2), agenValid := bitOf (BitVec.ofNat 32 (leAt bytes 2 1)) 0
                          exp := BitVec.ofNat 32 (leAt bytes 4 4), gain := BitVec.ofNat 16 (leAt bytes 8 2)
                          matching := ok }
      s.setFrame i { f with tag := some t, status := f.status ||| (if ok then 0 else 64) }
    else s.markFrame i 128

/-! ### What reaches a port -/

/-- Whether a mill takes its input from a replay ring (R269): a ring of KIND replay naming it is enabled. -/
def State.replaying (s : State) (m : Nat) : Bool :=
  s.rings.any fun e => e.1 < 1024 && e.2.state ≠ .off && s.kind e.1 = 2 && s.field .ringCfg e.1 0 13 6 = m

/-- Whether a lane's packets are taken: UP, and the data plane runs (R92, R452).
Log entry 55: DEDUCED, unsafe. -/
def State.laneTakes (s : State) (l : Nat) : Bool := (s.lane l).step = .up && !s.dark

/-- Whether packets of port i come from its lane: it is enabled (R107), its mill does not replay (R269), and its mill has not
lost its replay ring (R79).
Log entry 102: DEDUCED, unsafe. -/
def State.portTakes (s : State) (i : Nat) : Bool := s.portEn i && !s.replaying (i / 8) && !(s.port i).stranded

/-- A packet of port i from its lane: it is counted and discarded where the port does not take it (R107). -/
def State.fromLane (s : State) (i : Nat) (f : State → State) : State :=
  if !s.laneTakes (i / 8) then s else if s.portTakes i then f s else s.bump .sxlUnexp (i / 8)

/-- Port k of lane l. -/
def portIx (l : Fin 64) (k : Fin 8) : Nat := 8 * l.val + k.val

/-! ### Meanings -/

/-- FS (R106, R107). -/
def execFs (l : Fin 64) (k : Fin 8) (count : BitVec 16) (dt : Nat) (s : State) : Host.Outcome State Fault Refusal :=
  effect (fun s =>
    let s := s.elapse dt
    s.fromLane (portIx l k) fun s => s.frameStart (portIx l k) { t := s.tickNs, stamp := s.stampAhead 0, count := count }) s

/-- FE (rows 11 and 12 of R107). -/
def execFe (l : Fin 64) (k : Fin 8) (_count : BitVec 16) (s : State) : Host.Outcome State Fault Refusal :=
  effect (fun s => s.fromLane (portIx l k) fun s => s.closeFrame (portIx l k) 0) s

/-- LS (row 6 of R107). -/
def execLs (l : Fin 64) (k : Fin 8) (line : BitVec 16) (s : State) : Host.Outcome State Fault Refusal :=
  effect (fun s => s.fromLane (portIx l k) fun s => s.lineStart (portIx l k) line.toNat) s

/-- LE is ignored (R97); on a port that is not enabled it counts as any packet (R107). -/
def execLe (l : Fin 64) (k : Fin 8) (_line : BitVec 16) (s : State) : Host.Outcome State Fault Refusal :=
  effect (fun s => s.fromLane (portIx l k) fun s => s) s

/-- IDLE is fill of the link: discarded, and never counted (R97). -/
def execIdle (_l : Fin 64) (_vc : Fin 8) (_wc : BitVec 16) (s : State) : Host.Outcome State Fault Refusal :=
  effect (fun s => s) s

/-- A pixel packet (R107). -/
def execPixelPacket (l : Fin 64) (k : Fin 8) (dataType : BitVec 6) (payload : List Byte) (crc : BitVec 16)
    (s : State) : Host.Outcome State Fault Refusal :=
  effect (fun s => s.fromLane (portIx l k) fun s =>
    s.pixelPacket (portIx l k) dataType.toNat payload (crc16 payload = crc)) s

/-- FRAME_TAG (R97, R102, rows 4 and 5 of R107). No rule judges its CRC: it is recorded as received
(notes/assumptions/20.md).
Log entry 20: DEDUCED, unsafe. -/
def State.tagPacket (s : State) (i : Nat) (payload : List Byte) : State :=
  if payload.length ≠ 16 then s.markFrame i 128 else s.frameTag i payload

def execFrameTag (l : Fin 64) (k : Fin 8) (payload : List Byte) (_crc : BitVec 16) (s : State) :
    Host.Outcome State Fault Refusal :=
  effect (fun s => s.fromLane (portIx l k) fun s => s.tagPacket (portIx l k) payload) s

/-- Null, blanking and embedded data are discarded; any other unlisted type also marks the open frame (R97). -/
def execUnknownDataType (l : Fin 64) (k : Fin 8) (dataType : BitVec 6) (s : State) :
    Host.Outcome State Fault Refusal :=
  effect (fun s => s.fromLane (portIx l k) fun s =>
    if dataType = 0x10 || dataType = 0x11 || dataType = 0x12 then s else s.markFrame (portIx l k) 128) s

/-- C_N is reached with the frame for N open (row 13 of R107). -/
def execCloseDeadline (l : Fin 64) (k : Fin 8) (s : State) : Host.Outcome State Fault Refusal :=
  effect (fun s =>
    if s.dark then s
    else match s.openFrame (portIx l k) with
    | some f => if f.bound && f.bind.close ≤ s.judgeNs then s.closeFrame (portIx l k) 32 else s
    | none => s) s

/-- The frame of a period in whose window none opened (row 14 of R107, R202). -/
def State.frameMissing (s : State) (i : Nat) (q : Period) : State :=
  let s := s.setPeriod i { q with missing := true }
  let f := { q.frame 0 s.tb1.errb with isOpen := false, missing := true, processed := true
                                       shed := s.tick.shed || s.reduced }
  let (f, s) := s.applyGen i f.blank
  let p := s.port i
  let s := s.setPort i { p with frames := p.frames ++ [f] }
  let s := (s.bump .sxlPmiss (i / 8) (i % 8)).raise 0x0210 [(2, s.portAddrAt i f.tick), (6, f.number.toNat)]
  let s := (s.noteExposure i f).addCause i 5 (f.number + 1)
  s.shortRecords i f

/-- W_N ends with no frame opened for N (row 14 of R107): the oldest such period of the port. -/
def execFrameMissing (l : Fin 64) (k : Fin 8) (s : State) : Host.Outcome State Fault Refusal :=
  effect (fun s =>
    let i := portIx l k
    if s.dark then s
    else match (s.port i).periods.reverse.find? fun q => !q.opened && !q.missing && q.bind.hi ≤ s.judgeNs with
    | some q => s.frameMissing i q
    | none => s) s

/-- A deadline miss is counted and reported (R74, R202); the edge that ended the release tick has discarded the frame's
work. Its status words stay as they were at its close. -/
def State.deadlineMiss (s : State) (i : Nat) (f : Frame) : State :=
  let f := { f with missTold := true }
  let s := ((s.setFrame i f).noteLast i f).bump .tickDlMiss
  (s.raise 0x0103 [(2, s.portAddrAt i f.tick), (6, f.number.toNat)]).shortRecords i f

/-- DEADLINE_MISS (R74). -/
def execDeadlineMiss (m : Fin 64) (k : Fin 8) (s : State) : Host.Outcome State Fault Refusal :=
  effect (fun s =>
    if s.dark then s
    else match (s.port (portIx m k)).frames.find? fun f => f.missed && !f.missTold with
    | some f => s.deadlineMiss (portIx m k) f
    | none => s) s

/-! ### On-chip memory (R451) -/

/-- Fatal internal error (R452): ERR_FATAL, the AER report, and the data plane stops. -/
def State.fatalError (s : State) (place : Nat) (index : Nat) : State :=
  let v := BitVec.ofNat 32 (place + 1 + index * 2 ^ 16 + 2 ^ 31)
  { s.setReg .errFatal 0 0 v with fatal := true }.emit (.aer 0)

/-- Counts an uncorrectable word of groups 1 to 3 (R451). -/
def State.onChipUe (s : State) (group : Nat) (mill : Nat) (pa : Nat) : State :=
  (s.bump .errMemUe).raise 0x0C20 [(1, group), (1, mill), (2, pa), (4, s.now)]

/-- The AER code of Corrected Internal Error; 0 is Uncorrectable Internal Error (R452, R453). -/
def aerCorrected : Nat := 3

/-- A corrected on-chip word: counted, and reported unless that is masked (R453). -/
def State.onChipCe (s : State) : State :=
  let s := s.bump .errMemCe
  if s.pci.correctedMask then s else s.emit (.aer aerCorrected)

/-- What the on-chip code finds (R451). -/
def State.onChip (s : State) (m : Nat) : OnChip → State
  | .none => s
  | .corrected => s.onChipCe
  | .path k =>
    let i := 8 * m + k.val
    let s := s.onChipUe 1 m (s.portAddr i)
    match s.workFrame i with
    | some f => s.setFrame i { f with poison := true, ueLines := f.ueLines ++ [f.servedLines] }
    | none => s
  | .lineStore w =>
    let s := s.onChipUe 2 0xFF 0xFFFF
    match (s.wall w.val).stream with
    | some d => s.setWall w.val { s.wall w.val with stream := some { d with marks := d.marks ++
        [{ entry := 64, flags := 2 }] } }
    | none => s
  | .cache e => { s.onChipUe 3 0xFF 0xFFFF with xcache := s.xcache.eraseIdx e }
  | .fatal p n => (s.bump .errMemUe).fatalError p.val n.toNat

/-- SLICE_COMPLETE (R124): the slice in service ends, and the mill chooses the next. -/
def execSliceComplete (m : Fin 64) (ue : OnChip) (s : State) : Host.Outcome State Fault Refusal :=
  effect (fun s =>
    let s := s.onChip m.val ue
    if s.dark then s else s.sliceDone m.val) s

end Sys2Proof.Machine
end

