-- ==== Sys2Proof/Machine/Mailbox.lean ====
section
/-!
DEFINITION. The back-channel's packets (R95, R98 to R102) and the control mailbox (R104, R203 to R205, R265), with the
meanings of MBX_REQ, MBX_RSP and MBX_TIMEOUT.
-/
namespace Sys2Proof.Machine

/-- One packet of the packet layer: header with its ECC, payload and CRC (R95). -/
def csiPacket (dt vc : Nat) (payload : List Byte) : List Byte :=
  let di := dt + vc % 4 * 64
  let wc := payload.length
  let d := di + wc * 256 + vc / 4 % 2 * 2 ^ 24
  [BitVec.ofNat 8 di] ++ leBytes 2 wc ++ [BitVec.ofNat 8 (eccOf d + vc / 4 % 2 * 64)] ++ payload
    ++ leBytes 2 (crc16 payload).toNat

/-- A packet leaves on a lane's back-channel, which is silent while EN is 0 (R112). -/
def State.emitBack (s : State) (l : Nat) (bytes : List Byte) : State :=
  if s.flag .sxlCfg l 0 0 && !s.dark then s.emit (.backChannel l bytes) else s

/-- Whether no back-channel packet but a trigger starts now: the 200 ns before a tick edge, up to the trigger (R57, R94). A
tick that the replay rings hold back (R79) has no such instant.
Log entry 102: DEDUCED, unsafe. -/
def State.backHeld (s : State) : Bool := !s.stepping && decide (s.clocksToEdge ≤ 250)

/-- Sends a packet on a lane's back-channel; one that would start in the 200 ns before an edge waits for it. -/
def State.sendBack (s : State) (l dt vc : Nat) (payload : List Byte) : State :=
  let p := csiPacket dt vc payload
  if s.flag .sxlCfg l 0 0 && !s.dark && s.backHeld then { s with backWait := s.backWait ++ [(l, p)] } else s.emitBack l p

/-- The packets that have waited for the edge leave, behind its triggers and their bound requests (R94). -/
def State.flushBack (s : State) : State :=
  s.backWait.foldl (fun s e => s.emitBack e.1 e.2) { s with backWait := [] }

/-- Whether requests of a lane are sent and time out: EN is 1 (R104), and the links run (R409, R452). -/
def State.mbxRuns (s : State) (i : Nat) : Bool := s.flag .sxlCfg (i / 8) 0 0 && !s.dark

/-- Sends a request with the SEQ that it was given as it was queued (R104, notes/assumptions/21.md). A bound request sets
the requested generation (R205); a request with REPLY joins those waiting.
Log entry 21: DEDUCED, unsafe. -/
def State.sendRequest (s : State) (i : Nat) (r : MbxReq) : State :=
  let p := s.port i
  let r := { r with attempts := r.attempts + 1 }
  let body := leBytes 2 r.gen.toNat ++ [r.seq, BitVec.ofNat 8 (bit r.bound + 2 * bit r.reply)] ++ r.body
  let p := { p with reqGen := if r.bound && r.attempts = 1 then r.gen else p.reqGen,
                    waiting := if r.reply then p.waiting ++ [r] else p.waiting }
  (s.setPort i p).sendBack (i / 8) 0x35 (i % 8) body

/-- The response block of a request with REPLY, and event 0x0605 behind it (R265): result 0 response, 1 failed,
2 discarded. -/
def State.respond (s : State) (i : Nat) (r : MbxReq) (res status : Nat) (payload : List Byte) : State :=
  let x := s.ring r.ring
  if r.reply && (x.state = .run || x.state = .wait) && x.inc = r.inc then
    let a := r.rspAddr.toNat
    let data : PendingWrite :=
      { addr := a, bytes := padTo 64 payload, relaxed := true, advance := false, ahead := 8, event := none
        response := true }
    let fin : PendingWrite :=
      { addr := a + 64
        bytes := leBytes 2 payload.length ++ [BitVec.ofNat 8 res, 1] ++ leBytes 4 0
        relaxed := false
        advance := false
        event := some (0x0605, Machine.payload [(2, r.ring), (2, r.opTag.toNat), (2, s.portAddr i), (1, status), (1, 0)])
        response := true }
    (s.setRing r.ring { x with writes := x.writes ++ [data, fin] }).drainWrites r.ring
  else s

/-- The unbound request that may go next: requests go in the order committed, so an earlier one still queued holds it back, and
so does an earlier one with REPLY that waits for its response (R104). Only bound requests never wait. -/
def Port.nextUnbound (p : Port) : Option MbxReq :=
  match p.queue.find? fun r => !r.bound with
  | none => none
  | some r => if (p.waiting ++ p.queue).any fun q => q.order < r.order then none else some r

/-- Takes a request off a port's queue. -/
def State.unqueue (s : State) (i : Nat) (r : MbxReq) : State :=
  let p := s.port i
  s.setPort i { p with queue := p.queue.filter fun q => q.order ≠ r.order }

/-- MBX_REQ (R104): the next unbound request of a port is sent. -/
def execMbxReq (l : Fin 64) (k : Fin 8) (s : State) : Host.Outcome State Fault Refusal :=
  effect (fun s =>
    let i := portIx l k
    if !s.mbxRuns i then s
    else match (s.port i).nextUnbound with
      | some r => (s.unqueue i r).sendRequest i r
      | none => s) s

/-- STATUS as it is handled: any value but 0, 1 and 2 is 2 (R101). -/
def mbxStatus (b : Byte) : Nat := min b.toNat 2

/-- A response that passed its CRC (R104). -/
def State.mbxResponse (s : State) (i : Nat) (payload : List Byte) : State :=
  let gen := BitVec.ofNat 16 (leAt payload 0 2)
  let seq := byteAt payload 2
  let st := mbxStatus (byteAt payload 3)
  let s := if st = 0 then s
    else s.raise 0x0221 [(2, s.portAddr i), (2, gen.toNat), (1, seq.toNat), (1, st), (2, 0)]
  let p := s.port i
  match p.waiting.find? fun r => r.seq = seq && r.gen = gen with
  | some r =>
    (s.setPort i { p with waiting := p.waiting.filter fun q => q.order ≠ r.order }).respond i r 0 st payload
  | none => s

/-- A packet that belongs to the lane's mailbox or hub: the lane must be UP; a replaying mill's lane drops and counts
it (R92, R269). -/
def State.boxFromLane (s : State) (l : Nat) (f : State → State) : State :=
  if !s.laneTakes l then s else if s.replaying l then s.bump .sxlUnexp l else f s

/-- MBX_RSP of the right form (R97, R104). -/
def State.mbxPacket (s : State) (i : Nat) (payload : List Byte) (crc : BitVec 16) : State :=
  if payload.length < 4 || 64 < payload.length || crc16 payload ≠ crc then s else s.mbxResponse i payload

/-- MBX_RSP: on any port, enabled or not (R107). -/
def execMbxRsp (l : Fin 64) (k : Fin 8) (payload : List Byte) (crc : BitVec 16) (s : State) :
    Host.Outcome State Fault Refusal :=
  effect (fun s => s.boxFromLane l.val fun s => s.mbxPacket (portIx l k) payload crc) s

/-- A request without response in time: resent up to RETRY times, then failed (R104). -/
def State.mbxTimeout (s : State) (i : Nat) (r : MbxReq) : State :=
  let p := s.port i
  let s := s.setPort i { p with waiting := p.waiting.filter fun q => q.order ≠ r.order }
  if r.attempts ≤ s.field .sxlMbxCfg (i / 8) 0 16 2 then s.sendRequest i r
  else
    let s := (s.bump .sxlPmbxf (i / 8) (i % 8)).raise 0x0220
      [(2, s.portAddr i), (2, r.gen.toNat), (1, r.seq.toNat), (3, 0)]
    s.respond i r 1 0xFF []

/-- MBX_TIMEOUT (R104): the time of the request that has waited longest is up. -/
def execMbxTimeout (l : Fin 64) (k : Fin 8) (s : State) : Host.Outcome State Fault Refusal :=
  effect (fun s =>
    let i := portIx l k
    match (s.port i).waiting with
    | r :: _ => if s.mbxRuns i then s.mbxTimeout i r else s
    | [] => s) s

/-- Bound requests not yet sent are discarded as their port is disabled (R204). -/
def State.discardBound (s : State) (i : Nat) : State :=
  let gone := (s.port i).queue.filter (·.bound)
  gone.foldl (fun s r =>
    let s := (s.unqueue i r).bump .millStDisc (i / 8) (i % 8)
    (s.raise 0x0330 [(2, s.portAddr i), (2, r.gen.toNat), (4, 0)]).respond i r 2 0xFF []) s

/-- The bound requests that go with a trigger of port i: up to four, in order (R203). Answers whether any went.
Log entry 35: DEDUCED, unsafe. -/
def State.sendBound (s : State) (i : Nat) : Bool × State :=
  let due := ((s.port i).queue.filter fun r => r.bound && r.wait = 0).take 4
  (!due.isEmpty, due.foldl (fun s r => (s.unqueue i r).sendRequest i r) s)

end Sys2Proof.Machine
end

