-- ==== Sys2Proof/Machine/Lanes.lean ====
section
/-!
DEFINITION. A lane (04): bring-up and mode changes (R90 to R92), HUB_STATUS (R103), codeword lock (R88), the split into
packets (R95 to R97), and the meanings of the lane's commands.
-/
namespace Sys2Proof.Machine

/-! ### The packet in progress -/

/-- A packet header: its 26 bits behind correction, or none where it is discarded, and whether an error of one bit was
corrected (R95, R96). -/
def readHeader (bs : List Byte) : Option Nat × Bool :=
  let d := leAt bs 0 3 + (byteAt bs 3).toNat / 64 * 2 ^ 24
  let (e, fixed) := match eccCheck d ((byteAt bs 3).toNat % 64) with
    | .clean => (some d, false)
    | .corrected e => (some e, true)
    | .bad => (none, false)
  (e.filter fun e => !e.testBit 25, fixed)

/-- VC of a header (R95). -/
def headVc (d : Nat) : Nat := d / 64 % 4 + 4 * (d / 2 ^ 24 % 2)

/-- WC of a header, or the data field of a short packet. -/
def headWc (d : Nat) : Nat := d / 256 % 65536

/-- Bytes of a packet with a header. -/
def packetSize (d : Nat) : Nat := if d % 64 < 16 then 4 else 4 + headWc d + 2

/-- The packet in progress on lane l, as it stands. -/
def State.keepPacket (s : State) (l : Nat) (p : Option Part) : State := s.setLane l { s.lane l with partialPacket := p }

/-- The packet in progress is lost (R88, R96): a line that row 7 of R107 has accepted ends as a shorter line.
Log entries 100: DEDUCED, unsafe; 103: DEDUCED, unsafe. -/
def State.losePacket (s : State) (l : Nat) : State :=
  match (s.lane l).partialPacket with
  | none => s
  | some p =>
    let s := s.keepPacket l none
    match p.line, (readHeader p.bytes).1 with
    | some t, some d => s.lineEnd (8 * l + headVc d) t ((p.bytes.drop 4).take (headWc d)) true
    | _, _ => s

/-! ### Bring-up and lock -/

/-- Sends LINK_CTL: 1 SWITCH with a mode, 2 RESTART (R102). -/
def State.linkCtl (s : State) (l op mode : Nat) : State :=
  s.sendBack l 0x36 0 ([BitVec.ofNat 8 op, BitVec.ofNat 8 mode] ++ List.replicate 6 0)

/-- Step 1 of bring-up: idle characters, and a search for MODE 0b00 codewords. -/
def State.startLane (s : State) (l : Nat) : State :=
  let s := s.losePacket l
  (s.setLane l { s.lane l with step := .search, mode := 0, lock := false, hubOk := false, good := 0, lastSeq := none,
                               fresh := true }).emit (.backIdle l true)

/-- The lane is UP (step 5): event 0x0201. -/
def State.laneUp (s : State) (l : Nat) : State :=
  let x := s.lane l
  let s := s.setLane l { x with step := .up, uncorrectable := 0, downs := if x.fresh then 0 else x.downs, fresh := false }
  s.raise 0x0201 [(1, l), (1, x.mode.toNat), (1, x.hubVersion.toNat), (5, 0)]

/-- Sends SWITCH naming mode m; a SWITCH that names the current mode changes nothing (R90). -/
def State.switchLane (s : State) (l m : Nat) : State :=
  let s := (s.setLane l { s.lane l with step := .switching (BitVec.ofNat 2 m) }).linkCtl l 1 m
  if (s.lane l).mode = BitVec.ofNat 2 m && (s.lane l).lock then s.laneUp l else s

/-- m of step 3. -/
def State.switchMode (s : State) (l : Nat) : Nat := min (s.field .sxlCfg l 0 2 2) (s.lane l).hubMode.toNat

/-- Step 3, once the lane has codeword lock and a valid HUB_STATUS of a version other than 0. -/
def State.tryStep3 (s : State) (l : Nat) : State :=
  let x := s.lane l
  if x.step = .search && x.lock && x.hubOk && x.hubVersion ≠ 0 then s.switchLane l (s.switchMode l) else s

/-- Codeword lock is lost (R92). -/
def State.loseLock (s : State) (l : Nat) : State :=
  let s := s.losePacket l
  let x := s.lane l
  let x' := { x with lock := false, good := 0, lastSeq := none, badRun := 0, seqRun := 0 }
  if x.step = .up then
    let s := (s.setLane l { x' with step := .search, mode := 0, hubOk := false }).raise 0x0202 [(1, l), (1, 1), (6, 0)]
    s.linkCtl l 2 0
  else s.setLane l x'

/-- A valid HUB_STATUS (R103). -/
def State.hubStatus (s : State) (l : Nat) (b : List Byte) : State :=
  let x := s.lane l
  let s := s.setReg .sxlHubInfo l 0 (BitVec.ofNat 32 (leAt b 0 4))
  let s := s.setReg .sxlHubIdLo l 0 (BitVec.ofNat 32 (leAt b 8 4))
  let s := s.setReg .sxlHubIdHi l 0 (BitVec.ofNat 32 (leAt b 12 4))
  let now := BitVec.ofNat 32 (leAt b 2 4)
  let s := s.setLane l { x with hubOk := true, hubVersion := byteAt b 0
                                hubMode := BitVec.ofNat 2 (byteAt b 1).toNat, hubClock := some s.clock, hubBytes := now }
  let s := if now = x.hubBytes then s else s.raise 0x0230 [(1, l), (4, now.toNat), (3, 0)]
  s.tryStep3 l

/-- HUB_STATUS as a packet: taken whenever the lane holds codeword lock (R92, R97, R103). -/
def State.hubPacket (s : State) (l vc : Nat) (payload : List Byte) (crc : BitVec 16) : State :=
  if !(s.lane l).lock || s.dark then s
  else if (s.lane l).step = .up && s.replaying l then s.bump .sxlUnexp l
  else if vc ≠ 0 || payload.length ≠ 16 || crc16 payload ≠ crc then s
  else s.hubStatus l payload

/-- HUB_STATUS (R103). -/
def execHubStatus (l : Fin 64) (k : Fin 8) (payload : List Byte) (crc : BitVec 16) (s : State) :
    Host.Outcome State Fault Refusal :=
  effect (fun s => s.hubPacket l.val k.val payload crc) s

/-! ### Packets of a codeword -/

/-- Time clocks from a codeword's first symbol to payload byte j at a mode's line rate (R83, R106). -/
def byteClocks (mode j : Nat) : Nat := (20 + 8 * j) * 5 / (4 * (7 * 2 ^ mode))

/-- One whole packet of lane l, other than a pixel line: its header and its bytes (R97). -/
def State.packet (s : State) (l d : Nat) (p : Part) : State :=
  let dt := d % 64
  let vc := headVc d
  let i := 8 * l + vc
  let payload := (p.bytes.drop 4).take (headWc d)
  let crc := BitVec.ofNat 16 (leAt p.bytes (4 + headWc d) 2)
  if dt = 0x08 then s
  else if dt = 0x32 then s.hubPacket l vc payload crc
  else if dt = 0x31 then s.boxFromLane l fun s => s.mbxPacket i payload crc
  else s.fromLane i fun s =>
    match dt with
    | 0x00 => s.frameStart i { t := p.tickNs, stamp := p.stamp, count := BitVec.ofNat 16 (headWc d) }
    | 0x01 => s.closeFrame i 0
    | 0x02 => s.lineStart i (headWc d)
    | 0x03 | 0x10 | 0x11 | 0x12 => s
    | 0x30 => s.tagPacket i payload
    | _ => s.markFrame i 128

/-- The frame, by its tick, whose next line a packet becomes with its header (row 7 of R107). -/
def State.lineOf (s : State) (l : Nat) (p : Part) : Option Nat :=
  match (readHeader p.bytes).1 with
  | none => none
  | some d =>
    let i := 8 * l + headVc d
    if (packing (d % 64)).isSome && s.laneTakes l && s.portTakes i then (s.pixelHead i (d % 64)).1 else none

/-- The header of the packet in progress is complete: a corrected or discarded header counts, and a pixel packet is judged;
before the lane is UP only HUB_STATUS counts (R92, R96, R107). -/
def State.judgeHeader (s : State) (l : Nat) (p : Part) : State :=
  let up := (s.lane l).step = .up
  let (h, fixed) := readHeader p.bytes
  let s := if fixed && (up || h.map (· % 64) = some 0x32) then s.bump .sxlHdrCor l else s
  match h with
  | none => if up then s.bump .sxlHdrUnc l else s
  | some d =>
    let i := 8 * l + headVc d
    if (packing (d % 64)).isSome then s.fromLane i fun s => (s.pixelHead i (d % 64)).2 else s

/-- The packet in progress is whole. -/
def State.wholePacket (s : State) (l d : Nat) (p : Part) : State :=
  if (packing (d % 64)).isSome then
    match p.line with
    | some t =>
      let payload := (p.bytes.drop 4).take (headWc d)
      s.lineEnd (8 * l + headVc d) t payload (crc16 payload = BitVec.ofNat 16 (leAt p.bytes (4 + headWc d) 2))
    | none => s
  else s.packet l d p

/-- The bytes of the packet in progress so far reach their line. -/
def State.moreOfPacket (s : State) (l d : Nat) (p : Part) : State :=
  match p.line with
  | some t => s.lineData (8 * l + headVc d) t ((p.bytes.drop 4).take (headWc d))
  | none => s

/-- Takes packets off the bytes of a codeword: `p` is the packet in progress, `pos` the place of the next byte, `last` the
clock of the packet before, and `fuel` bounds the bytes. The tick base and TB1 are latched at a packet's first symbol
(R106). A header that is discarded ends the packet layer until the next FIRST (R96).
Log entry 96: DEDUCED, unsafe. -/
def State.packets (s : State) (l mode pos last : Nat) (p : Part) (bs : List Byte) : Nat → State
  | 0 => s
  | n + 1 =>
    if bs.isEmpty then s.keepPacket l (if p.bytes.isEmpty then none else some p)
    else
      let at0 := byteClocks mode pos
      let p := if p.bytes.isEmpty then { p with tickNs := s.tickNs at0, stamp := s.stampAhead at0 } else p
      let h := 4 - p.bytes.length
      let head := { p with bytes := p.bytes ++ bs.take h }
      if head.bytes.length < 4 then s.keepPacket l (some head)
      else
        let at1 := if h = 0 then last else byteClocks mode (pos + h - 1)
        let head := if p.judged then head else { head with judged := true, line := s.lineOf l head }
        let s := if p.judged then s else s.later last at1 fun s => s.judgeHeader l head
        match (readHeader head.bytes).1 with
        | none => s.keepPacket l none
        | some d =>
          let k := packetSize d - head.bytes.length
          let q := { head with bytes := head.bytes ++ (bs.drop h).take k }
          if q.bytes.length < packetSize d then (s.moreOfPacket l d q).keepPacket l (some q)
          else
            let at2 := byteClocks mode (pos + h + k - 1)
            let s := s.later at1 at2 fun s => s.wholePacket l d q
            s.packets l mode (pos + h + k) at2 { bytes := [], tickNs := 0, stamp := 0 } (bs.drop (h + k)) n

/-- The payload of a codeword: it continues the packet in progress, or starts at FIRST (R88). -/
def State.payloadIn (s : State) (l mode : Nat) (p : Payload640) : State :=
  match (s.lane l).partialPacket with
  | some c => s.packets l mode 0 0 c p.bytes (p.bytes.length + 8)
  | none =>
    match p.first with
    | some f => s.packets l mode f 0 { bytes := [], tickNs := 0, stamp := 0 } (p.bytes.drop f) (p.bytes.length + 8)
    | none => s

/-- A codeword that does not decode (R88, R107): in the run of codewords whose SEQ does not follow on it neither counts nor
breaks the run, and the SEQ due next advances by one.
Log entry 103: DESIGN CHOICE, unsafe. -/
def State.badCodeword (s : State) (l : Nat) : State :=
  let s := s.bump .sxlFecUnc l
  let s := if s.replaying l then s else (List.range 8).foldl (fun s k => s.markFrame (8 * l + k) 2) s
  let s := s.losePacket l
  let x := s.lane l
  let s := s.setLane l { x with good := 0, badRun := x.badRun + 1
                                lastSeq := if x.lock then x.lastSeq.map (· + 1) else none
                                uncorrectable := if x.step = .up && s.flag .sxlCfg l 0 4 then x.uncorrectable + 1
                                                 else x.uncorrectable }
  if x.lock && 8 ≤ x.badRun + 1 then s.loseLock l else s

/-- A codeword that decodes: lock is gained, kept or lost (R88). -/
def State.goodCodeword (s : State) (l : Nat) (p : Payload640) (fixed : Nat) : State :=
  let s := if fixed = 0 then s else s.bump .sxlFecCor l 0 fixed
  let x := s.lane l
  let follows := x.lastSeq.map (· + 1) = some p.seq
  if x.lock then
    let run := if follows then 0 else x.seqRun + 1
    let s := s.setLane l { x with lastSeq := some p.seq, badRun := 0, seqRun := run }
    if 3 ≤ run then s.loseLock l else s.payloadIn l x.mode.toNat p
  else
    let good := if follows then x.good + 1 else 1
    let s := s.setLane l { x with lastSeq := some p.seq, badRun := 0, seqRun := 0, good := good, lock := decide (3 ≤ good) }
    if good < 3 then s
    else
      let s := match x.step with
        | .switching m => if m = x.mode then s.laneUp l else s
        | _ => s.tryStep3 l
      s.payloadIn l x.mode.toNat p

/-- CODEWORD_RECEIVED (R85 to R88): a codeword at a forward mode, `dt` clocks after the command before, its first symbol
now. A codeword at a mode that the receiver is not set to does not decode; at the mode that a SWITCH named, the receiver
searches for lock anew.
Log entry 23: DESIGN CHOICE, safe. -/
def State.codeword (s : State) (l mode : Nat) (symbols : List (BitVec 10)) : State :=
  let anew := match (s.lane l).step with
    | .switching m => m = BitVec.ofNat 2 mode && (s.lane l).mode ≠ m
    | _ => false
  if (s.lane l).step = .down || s.dark then s
  else
    let s := if anew then s.losePacket l else s
    let x := s.lane l
    let x := if anew then { x with mode := BitVec.ofNat 2 mode, lock := false, good := 0, lastSeq := none, badRun := 0,
                                   seqRun := 0 } else x
    if x.mode ≠ BitVec.ofNat 2 mode then s.badCodeword l
    else
      let (r, st) := receiveCodeword x.scrambler.toNat symbols
      let s := s.setLane l { x with scrambler := BitVec.ofNat 58 st }
      match r with
      | some (p, n) => s.goodCodeword l p n
      | none => s.badCodeword l

def execCodewordReceived (l : Fin 64) (mode : Fin 4) (symbols : List (BitVec 10)) (dt : Nat) (s : State) :
    Host.Outcome State Fault Refusal :=
  if symbols.length = 544 then effect (fun s => (s.elapse dt).codeword l.val mode.val symbols) s
  else .refused .illFormed

/-! ### Bring-up's instants -/

/-- SWITCH_TIMEOUT (R90): the next lower mode, or RESTART and a wait of 100 ms. -/
def execSwitchTimeout (l : Fin 64) (s : State) : Host.Outcome State Fault Refusal :=
  effect (fun s =>
    let x := s.lane l.val
    match x.step with
    | .switching m =>
      if m = 0 then
        let s := (s.linkCtl l.val 2 0).raise 0x0202 [(1, l.val), (1, 2), (6, 0)]
        let s := s.losePacket l.val
        s.setLane l.val { s.lane l.val with step := .waiting, lock := false, good := 0, lastSeq := none }
      else s.switchLane l.val (m.toNat - 1)
    | _ => s) s

/-- RESTART_WAIT_END (R90): bring-up resumes at step 1. -/
def execRestartWaitEnd (l : Fin 64) (s : State) : Host.Outcome State Fault Refusal :=
  effect (fun s => if (s.lane l.val).step = .waiting then s.startLane l.val else s) s

/-- DOWN_SHIFT_INTERVAL_END (R91): one second of the lane has passed. -/
def execDownShiftIntervalEnd (l : Fin 64) (s : State) : Host.Outcome State Fault Refusal :=
  effect (fun s =>
    let x := s.lane l.val
    if x.step ≠ .up then s
    else
      let n := x.uncorrectable
      let s := s.setLane l.val { x with uncorrectable := 0 }
      if s.flag .sxlCfg l.val 0 4 && max 1 (s.field .sxlCfg l.val 0 8 8) < n then
        let lower := x.mode.toNat - 1
        let s := s.raise 0x0203 [(1, l.val), (1, lower), (4, min n 0xFFFFFFFF), (2, 0)]
        if x.mode = 0 then s
        else (s.setLane l.val { s.lane l.val with downs := BitVec.ofNat 16 (min (x.downs.toNat + 1) 0xFFFF) }).switchLane
          l.val lower
      else s) s

/-! ### EN and RENEG, as SXL_CFG and SXL_CTRL act -/

/-- Whether any port of a lane is enabled (R91, R112). -/
def State.laneBusy (s : State) (l : Nat) : Bool := (List.range 8).any fun k => s.portEn (8 * l + k)

/-- EN has been written (R90, R112).
Log entry 66: DEDUCED, unsafe. -/
def State.laneEn (s : State) (l : Nat) (was now : Bool) : State :=
  if was = now then s
  else if now then s.startLane l
  else
    let s := s.losePacket l
    let x := s.lane l
    let s := if x.step = .up then s.raise 0x0202 [(1, l), (1, 3), (6, 0)] else s
    (s.setLane l { x with step := .down, mode := 0, lock := false, hubOk := false, good := 0, lastSeq := none })
      |>.emit (.backIdle l false)

/-- RENEG repeats step 3 on a lane that is UP (R91).
Log entry 66: DEDUCED, unsafe. -/
def State.renegLane (s : State) (l : Nat) : State :=
  if (s.lane l).step = .up then s.switchLane l (s.switchMode l) else s

/-- SXL_STATUS[l] (R113). -/
def State.sxlStatus (s : State) (l : Nat) : Word :=
  let x := s.lane l
  let st := match x.step with
    | .down => 0
    | .search | .waiting => 1
    | .up => 2
    | .switching _ => 3
  let hub := match x.hubClock with
    | some c => decide (s.clock - c < 1250000000)
    | none => false
  BitVec.ofNat 32 (x.mode.toNat + st * 4 + bit x.lock * 16 + bit hub * 32 + x.downs.toNat * 65536)

end Sys2Proof.Machine
end

