-- ==== Sys2Proof/Machine/RecallStore.lean ====
section
/-!
DEFINITION. The recall store's entries (R236, R237), the end of the freeze tick (R241), and export (R242, R243).
-/
namespace Sys2Proof.Machine

/-- Bytes of DRAM that an entry occupies (R237). -/
def entrySpace (len : Nat) : Nat := roundUp len 4096

/-- Whether an entry touches [lo, hi) of the region. -/
def RecallEntry.touches (e : RecallEntry) (lo hi : Nat) : Bool := e.offset < hi && lo < e.offset + entrySpace e.len

/-- Drops the oldest entries, whole, until none touches [lo, hi). -/
def dropOldest (lo hi : Nat) : List RecallEntry → List RecallEntry
  | [] => []
  | e :: es => if (e :: es).any (·.touches lo hi) then dropOldest lo hi es else e :: es

/-- Whether the store takes the wall frame of tick k (R236, R241).
Log entry 53: DEDUCED, unsafe. -/
def State.recallTakes (s : State) (k : Nat) : Bool :=
  s.rcl.state = .recording && !s.rcl.restart && (!s.rcl.pend || k < s.rcl.tf.toNat) && !s.reduced

/-- One wall frame with its header, RSEQ 0, is written as an entry, or is not stored (R236, R237).
Log entry 53: DEDUCED, unsafe. -/
def State.recallWrite (s : State) (f : RecallFrame) : State :=
  match s.region 3 0 with
  | none => s.bump .wallRclSkip
  | some r =>
    let space := entrySpace f.bytes.length
    if !s.recallTakes f.tick || r.size < space then s.bump .wallRclSkip
    else
      let at0 := if s.rcl.writeAt + space ≤ r.size then s.rcl.writeAt else 0
      let old := dropOldest at0 (at0 + space) s.rcl.entries
      let e : RecallEntry := { offset := at0, len := f.bytes.length, wall := f.wall, tick := f.tick, fmt := f.fmt, w := f.w, h := f.h }
      let s := { s with rcl := { s.rcl with entries := old ++ [e], writeAt := at0 + space } }
      s.writeDram (r.addr + at0) f.bytes

/-- Whether a recall wall of lower index has still to take its output slot in this course. -/
def State.recallBehind (s : State) (w : Nat) : Bool :=
  s.walls.any fun e => decide (e.1 < w) && match e.2.due with
    | some d => decide (wGet d.bank WW.rclEn ≠ 0)
    | none => false

/-- Entries of one tick stand in ascending wall index, whatever the order of the walls' output slots (R237): the frames that no
lower wall holds back any more are written; all of them where the course ends.
Log entry 53: DEDUCED, unsafe. -/
def State.recallPass (s : State) (all : Bool) : List RecallFrame → State
  | [] => { s with rcl := { s.rcl with waiting := [] } }
  | f :: fs =>
    if all || !s.recallBehind f.wall then (s.recallWrite f).recallPass all fs else { s with rcl := { s.rcl with waiting := f :: fs } }

/-- A recall wall's frame takes its output slot.
Log entry 53: DEDUCED, unsafe. -/
def State.recallTake (s : State) (w : Nat) (b : Bank) (tick : Nat) (bytes : List Byte) : State :=
  let f : RecallFrame := { wall := w, tick := tick, fmt := wallFmt b, w := wallW b, h := wallH b, bytes := bytes }
  s.recallPass false (insertBy (fun a b => decide (a.wall ≤ b.wall)) f s.rcl.waiting)

/-- The course ends: what still waits is written. -/
def State.recallFlush (s : State) : State := s.recallPass true s.rcl.waiting

/-- FREEZE_TICK_END (R241): tick T_f has ended. -/
def execFreezeTickEnd (s : State) : Host.Outcome State Fault Refusal :=
  effect (fun s =>
    if s.rcl.state = .recording && s.rcl.pend && s.rcl.tf.toNat < s.now then
      let n := s.rcl.entries.length
      let tf := s.rcl.tf.toNat
      let s := { s with rcl := { s.rcl with state := .frozen, pend := false, lost := false } }
      (s.action s.rcl.origin 12 n (tf % 2 ^ 32)).raise 0x0511 [(4, n), (4, tf)]
    else s) s

/-! ### Export -/

/-- The exported bytes of an entry, RSEQ still 0 (R242, R243). -/
def State.exportBytes (s : State) (base : Nat) (e : RecallEntry) : List Byte × State :=
  let (r, s) := s.readDram (base + e.offset) e.len
  let bad := r.2
  let bytes := r.1.mapIdx fun i b => if bad.contains ((base + e.offset + i) / 64 * 64) then 0 else b
  let mark := fun (i : Nat) (b : Byte) =>
    if i = 36 then (if bad.isEmpty then b else b ||| 2) else if i = 37 then b ||| 4 else b
  (bytes.mapIdx mark, if bad.isEmpty then s else s.bump .wallRclPoison 0 0 bad.length)

/-- An export ends whole: with a release, or back to FROZEN (R242). -/
def State.exportDone (s : State) (cause : Nat) (release : Bool) : State :=
  let s := { s with rcl := { s.rcl with state := .frozen, budget := 0 } }.exportEnd cause
  if release then s.release.releasesDone else { s with rcl := { s.rcl with exported := 0 } }

/-- Goes on with an export that has no entry on its ring: the oldest entry not yet taken is offered, or the export ends. A ring
that stands in neither RUN nor WAIT is lost to it (R242); in D3hot, and while its ring is about to halt, it waits.
Log entry 43: DESIGN CHOICE, unsafe. -/
def State.exportNext (s : State) : State :=
  let c := s.rcl
  let x := s.ring c.exportRing
  if c.state ≠ .exporting || x.records.any (·.oclass = 3) || s.power.d3hot || x.halting.isSome then s
  else if !c.releasing.isEmpty then s.exportDone 2 true
  else if x.state ≠ .run && x.state ≠ .wait then s.exportLost c.exportRing
  else match c.entries.findIdx? fun e => !e.sent, s.region 3 0 with
    | some i, some r =>
      match c.entries[i]? with
      | some e =>
        let (bytes, s) := s.exportBytes r.addr e
        let s := { s with rcl := { s.rcl with entries := c.entries.set i { e with sent := true } } }
        let (n, s) := s.takeSeq c.exportRing
        s.offerNumbered c.exportRing 3 n (putSeq bytes 44 n) (wallUnits e.fmt e.w e.h)
      | none => s
    | _, _ => s.exportDone 1 (s.flag .wallRclCfg 0 0 28)

/-- An export entry has been written whole.
Log entry 43: DESIGN CHOICE, unsafe. -/
def State.exportWritten (s : State) : State :=
  { s with rcl := { s.rcl with exported := s.rcl.exported + 1 } }.exportNext

/-- EXPORT is taken (R242): every entry is to go, the oldest first. -/
def State.exportBegin (s : State) (r : Nat) : State :=
  { s with rcl := { s.rcl with state := .exporting, exportRing := r, exported := 0, budget := 0
                               entries := s.rcl.entries.map fun e => { e with sent := false } } }

/-- Export bytes that may leave in one course (R242).
Log entry 43: DESIGN CHOICE, unsafe. -/
def State.exportRate (s : State) : Nat := s.field .wallRclExp 0 0 0 16 * (s.reg .tickPeriodNs).toNat / 1000

/-- The export's part of a course's output slots: bytes not used up by a unit that spans courses stay with it.
Log entry 43: DESIGN CHOICE, unsafe. -/
def State.exportSlot (s : State) : State :=
  if s.rcl.state ≠ .exporting then s
  else
    let held := match (s.ring s.rcl.exportRing).records with
      | y :: _ => if y.oclass = 3 && (s.ring s.rcl.exportRing).holds 0 &&
          s.rcl.budget < ((s.ring s.rcl.exportRing).nextUnit.getD 0) then s.rcl.budget else 0
      | [] => 0
    { s with rcl := { s.rcl with budget := held + s.exportRate } }.exportNext

end Sys2Proof.Machine
end

