-- ==== Sys2Proof/Machine/Rings.lean ====
section
/-!
DEFINITION. Descriptors (R257 to R264, R266): the order of judging, refusal, and the meanings of the command descriptors
and of OBUF. The manual fetches a descriptor and then executes it; a command that carries a descriptor does both.
-/
namespace Sys2Proof.Machine

/-- A host-memory range by 4 KiB-aligned pages: the units of an indirect read (R279). -/
def pagePieces (addr : Nat) : Nat → Nat → List (Nat × Nat)
  | 0, _ => []
  | _ + 1, 0 => []
  | f + 1, n + 1 =>
    let k := min (4096 - addr % 4096) (n + 1)
    (addr, k) :: pagePieces (addr + k) f (n + 1 - k)

/-- Completes a descriptor. -/
def State.finishDesc (s : State) (r : Nat) (d : BitVec 512) (status detail result : Nat)
    (first : List PendingWrite := []) : State :=
  s.complete r (dOp d) (dTag d) (dEvt d) status detail result first

/-- A descriptor refused with DENIED, marked as action 21 (R250, R442, R443). -/
def State.denied (s : State) (r dom : Nat) (d : BitVec 512) : State :=
  (s.mark (.domain (Fin.ofNat 16 dom)) 3 21 (BitVec.ofNat 32 r) (BitVec.ofNat 32 (dOp d + 65536 * dTag d)) true).finishDesc
    r d 2 0 0

/-- N0 of a replay ring: the first tick whose edge follows the read of its first descriptor (R270), which an edge in the very
clock of the read does not. -/
def State.noteFirst (s : State) (r : Nat) : State :=
  let x := s.ring r
  if x.n0.isSome || s.kind r ≠ 2 then s else s.setRing r { x with n0 := some (s.now + 1 + bit (s.edgeNow && !s.stepping)) }

/-- A MALFORMED descriptor (R257); one of an output ring completes in its turn (R259). -/
def State.malformed (s : State) (r : Nat) (d : BitVec 512) (off : Nat) : State :=
  let s := s.noteFirst r
  if s.kind r = 1 then
    let x := s.ring r
    let b : OutBuf := { count := (s.readCount r).toNat, addr := 0, len := 0, opTag := BitVec.ofNat 16 (dTag d)
                        evt := dEvt d, bad := some (BitVec.ofNat 16 off) }
    (s.setRing r { x with bufs := x.bufs ++ [b] }).settleBufs r
  else s.finishDesc r d 1 off 0

/-- Whether a ring goes on with descriptor d: one that it has read and that waits for its indirect data, which it still finishes
in DRAIN (R253, R291); or the next one, in RUN, posted, the one before completed (R252, R259). -/
def State.reads (s : State) (r : Nat) (d : BitVec 512) : Bool :=
  let x := s.ring r
  !s.fatal && x.halting.isNone && match x.fetched with
    | some e => decide (e = d) && x.waits.isEmpty && (x.state = .run || x.state = .drain)
    | none => x.state = .run && !x.busy && (s.kind r = 1 || x.writes.isEmpty) && s.readCount r ≠ s.prod r

/-- A ring reads its next descriptor, `d`, once (R291), and judges it (R249, R257). -/
def State.descriptor (s : State) (r : Nat) (d : BitVec 512) (checks : List Check) (body : Nat → State → State) : State :=
  if !s.reads r d then s
  else if (s.ring r).fetched.isSome then body ((s.ringDomain r).getD 0) s
  else
    let addr := s.entryAddr r (s.readCount r)
    match s.prepare r addr 64 false with
    | (.wait, s) => s
    | (.outside, s) => s.halt r 2
    | (.go ps, s) =>
      let s := s.issueRead r addr 64 ps
      match firstBad (commonChecks d ((opsOf (s.kind r)).contains (dOp d)) ++ checks) with
      | some off => s.malformed r d off
      | none => body ((s.ringDomain r).getD 0) s

/-- Whether a descriptor's OP makes it another command of the same ring. -/
def State.otherOp (s : State) (r op : Nat) (d : BitVec 512) : Bool :=
  dOp d ≠ op && (opsOf (s.kind r)).contains (dOp d)

/-- The meaning of a descriptor command of opcode op. -/
def descriptorCommand (r op : Nat) (d : BitVec 512) (checks : State → List Check) (body : Nat → State → State)
    (s : State) : Host.Outcome State Fault Refusal :=
  if s.otherOp r op d then .refused .illFormed
  else effect (fun s => s.descriptor r d (checks s) body) s

/-- Reads pages of indirect data, each a unit (R279): those before one that cannot be read yet have been read (R280). -/
def State.readPages (s : State) (r : Nat) : List (Nat × Nat) → Ready × State
  | [] => (.go [], s)
  | p :: ps =>
    match s.prepare r p.1 p.2 false with
    | (.go a, s) =>
      let s := s.issueRead r p.1 p.2 a
      (s.setRing r { s.ring r with unitsRead := (s.ring r).unitsRead + 1 }).readPages r ps
    | q => q

/-- Reads the indirect data of descriptor d (R279, R281): `body` runs once every page of it has been read. Until then the
descriptor is held, and what has been read is not read again (R280, R291).
Log entry 22: DEDUCED, unsafe. -/
def State.indirect (s : State) (r : Nat) (d : BitVec 512) (addr len : Nat) (body : State → State) : State :=
  match s.readPages r ((pagePieces addr len len).drop (s.ring r).unitsRead) with
  | (.go _, s) => body (s.setRing r { s.ring r with fetched := none, unitsRead := 0 })
  | (.wait, s) => s.setRing r { s.ring r with fetched := some d }
  | (.outside, s) => s.halt r 2

/-! ### Trays -/

/-- STAGE and STAGE_IND behind their checks: RANGE, then DATAERR, then LOCKED (R261). -/
def State.stageCmd (s : State) (r dom : Nat) (d : BitVec 512) (ws : List Word) (bad : Bool) : State :=
  if bad then s.finishDesc r d 8 0 0
  else
    let (ok, s) := s.stageWords r dom (dTray d) (dWord d) ws
    if ok then s.finishDesc r d 0 0 0 else s.finishDesc r d 3 (dField d 4 2) 0

/-- Whether WORD + COUNT lies beyond the tray.
Log entry 37: DEDUCED, unsafe. -/
def outOfRange (d : BitVec 512) (count : Nat) : Bool := (trayKind (dTray d)).size < dWord d + count

/-- STAGE (R260, R261). -/
def execStage (r : Fin 1024) (d : BitVec 512) (s : State) : Host.Outcome State Fault Refusal :=
  descriptorCommand r.val 0x02 d (fun _ => stageChecks d) (fun dom s =>
    if !s.domTray dom (dTray d) then s.denied r.val dom d
    else if outOfRange d (dField d 8 1) then s.finishDesc r.val d 5 (trayKind (dTray d)).size 0
    else s.stageCmd r.val dom d (stageData d) false) s

/-- STAGE_IND: `words` is what the reads returned, `bad` whether any returned poison or an error (R261).
Log entry 22: DEDUCED, unsafe. -/
def execStageInd (r : Fin 1024) (d : BitVec 512) (words : List Word) (bad : Bool) (s : State) :
    Host.Outcome State Fault Refusal :=
  if words.length ≠ dField d 16 4 && !bad then .refused .illFormed
  else descriptorCommand r.val 0x03 d (fun _ => stageIndChecks d) (fun dom s =>
    if !s.domTray dom (dTray d) then s.denied r.val dom d
    else if outOfRange d (dField d 16 4) then s.finishDesc r.val d 5 (trayKind (dTray d)).size 0
    else s.indirect r.val d (dField d 8 8) (4 * dField d 16 4) fun s => s.stageCmd r.val dom d words bad) s

/-- TRAY_READ (R260, R261). -/
def execTrayRead (r : Fin 1024) (d : BitVec 512) (s : State) : Host.Outcome State Fault Refusal :=
  descriptorCommand r.val 0x06 d (fun _ => trayReadChecks d) (fun dom s =>
    let t := dTray d
    if !s.domTray dom t then s.denied r.val dom d
    else if outOfRange d (dField d 24 4) then s.finishDesc r.val d 5 (trayKind t).size 0
    else
      let x := s.tray t
      let ws := bankRead t (dWord d) (dField d 24 4) (if dField d 8 1 = 0 then x.staged else x.active)
      let data : PendingWrite :=
        { addr := dField d 16 8, bytes := ws.flatMap fun w => leBytes 4 w.toNat, relaxed := true, advance := false
          event := none }
      s.finishDesc r.val d 0 0 x.gen.toNat [data]) s

/-! ### Commit -/

/-- The first tray identifier for which a commit is refused, with the cause: 1 named twice, 2 PENDING or ARMED (R180). The list
is walked in its order: a first naming of a tray that is not OPEN comes before its repeat.
Log entry 105: DESIGN CHOICE, unsafe. -/
def State.commitFault (s : State) (seen : List Nat) : List Nat → Option (Nat × Nat)
  | [] => none
  | id :: ids =>
    if seen.contains id then some (id, 1)
    else if (s.tray ((trayOfId id).getD 0)).state ≠ .openTray then some (id, 2)
    else s.commitFault (id :: seen) ids

/-- The trays that a commit names become PENDING (R179). -/
def State.setTrays (s : State) (st : TrayState) (group : Bool) (ts : List Nat) : State :=
  ts.foldl (fun s t => s.setTray t { s.tray t with state := st, group := group }) s

/-- COMMIT (R180, R263): the descriptor completes when admission decides. -/
def execCommit (r : Fin 1024) (d : BitVec 512) (s : State) : Host.Outcome State Fault Refusal :=
  descriptorCommand r.val 0x04 d (fun _ => commitChecks d) (fun dom s =>
    let ids := commitIds d
    let ts := ids.map fun id => (trayOfId id).getD 0
    if ts.any fun t => !s.domTray dom t then s.denied r.val dom d
    else match s.commitFault [] ids with
      | some (id, cause) =>
        (s.raise 0x0403 [(2, id), (1, cause), (1, 0), (2, r.val), (2, 0)]).finishDesc r.val d 3 id 0
      | none =>
        let s := s.setTrays .pending false ts
        let c : CommitRec := { ring := r.val, dom := Fin.ofNat 16 dom, trays := ts, opTag := BitVec.ofNat 16 (dTag d)
                               evt := dEvt d, inc := (s.ring r.val).inc }
        let s := s.setRing r.val { s.ring r.val with busy := true }
        { s with tick := { s.tick with judging := s.tick.judging ++ [c] } }) s

/-! ### The mailbox -/

/-- The SENSOR request of a descriptor (R264, R203): a bound one committed now may go from the second edge on, not counting
the edge of this very clock.
Log entry 21: DEDUCED, unsafe. -/
def State.queueRequest (s : State) (r : Nat) (d : BitVec 512) (body : List Byte) : State :=
  let i := dPort d
  let p := s.port i
  let q : MbxReq :=
    { gen := BitVec.ofNat 16 (dField d 6 2), seq := p.seq + 1, bound := sensorBound d, reply := sensorReply d, body := body
      rspAddr := BitVec.ofNat 64 (dField d 16 8), ring := r, inc := (s.ring r).inc, opTag := BitVec.ofNat 16 (dTag d)
      order := p.requests, wait := if sensorBound d then 2 + bit s.edgeNow else 0 }
  s.setPort i { p with queue := p.queue ++ [q], seq := p.seq + 1, requests := p.requests + 1 }

/-- SENSOR: `body` is the indirect BODY as read (R264).
Log entry 22: DEDUCED, unsafe. -/
def execSensor (r : Fin 1024) (d : BitVec 512) (body : List Byte) (bad : Bool) (s : State) :
    Host.Outcome State Fault Refusal :=
  if sensorInd d && !bad && body.length ≠ dField d 9 1 then .refused .illFormed
  else descriptorCommand r.val 0x05 d (fun _ => sensorChecks d) (fun dom s =>
    let done := fun (s : State) (b : List Byte) =>
      (s.queueRequest r.val d b).finishDesc r.val d 0 0 ((s.port (dPort d)).seq + 1).toNat
    if !s.domPort dom (dPort d) then s.denied r.val dom d
    else if sensorInd d then
      s.indirect r.val d (dField d 24 8) (dField d 9 1) fun s => if bad then s.finishDesc r.val d 8 0 0 else done s body
    else done s (dBytes d 24 (dField d 9 1))) s

/-! ### NOP and the recall store -/

/-- NOP (R260). -/
def execNop (r : Fin 1024) (d : BitVec 512) (s : State) : Host.Outcome State Fault Refusal :=
  descriptorCommand r.val 0x01 d (fun _ => unused d 4 56) (fun _ s => s.finishDesc r.val d 0 0 0) s

/-- DETAIL of status STATE (R258): recall STATE and PEND. -/
def State.recallDetail (s : State) : Nat := s.rcl.state.code + 256 * bit s.rcl.pend

/-- FREEZE (R240, R260). -/
def execFreeze (r : Fin 1024) (d : BitVec 512) (s : State) : Host.Outcome State Fault Refusal :=
  descriptorCommand r.val 0x07 d (fun _ => unused d 4 56) (fun dom s =>
    if !s.domFreeze dom then s.denied r.val dom d
    else
      let (ok, s) := s.trigger 2 0 (.domain (Fin.ofNat 16 dom)) none
      if ok then s.finishDesc r.val d 0 0 (s.rcl.tf.toNat % 2 ^ 32) else s.finishDesc r.val d 6 s.recallDetail 0) s

/-- Whether RING of an EXPORT is an enabled output ring of the domain of ring r with OCLASS recall export (R260).
Log entry 41: DEDUCED, unsafe. -/
def State.exportRingOk (s : State) (r e : Nat) : Bool :=
  decide (e < 1024) && s.flag .ringCfg e 0 0 && s.kind e = 1 && s.field .ringCfg e 0 9 2 = 3
    && (s.ringDomain e).isSome && s.ringDomain e = s.ringDomain r

/-- EXPORT (R242, R260). -/
def execExportStart (r : Fin 1024) (d : BitVec 512) (s : State) : Host.Outcome State Fault Refusal :=
  descriptorCommand r.val 0x08 d (fun s => (4, !s.exportRingOk r.val (dField d 4 2)) :: unused d 6 56) (fun dom s =>
    if !s.domFreeze dom then s.denied r.val dom d
    else if s.rcl.state ≠ .frozen then s.finishDesc r.val d 6 s.recallDetail 0
    else
      let n := s.rcl.entries.length
      let s := (s.exportBegin (dField d 4 2)).finishDesc r.val d 0 0 n
      if n = 0 then s.exportNext else s) s

/-- RELEASE (R242, R260): it cancels a pending freeze or discards the frozen content, and completes; in an export it is applied,
and completes, behind the entry in progress. -/
def State.releaseCmd (s : State) (r : Nat) (d : BitVec 512) : State :=
  match s.rcl.state with
  | .recording => { s with rcl := { s.rcl with pend := false, lost := false } }.finishDesc r d 0 0 0
  | .exporting =>
    let s := s.setRing r { s.ring r with busy := true }
    let c : Waiting := { ring := r, inc := (s.ring r).inc, opTag := dTag d, evt := dEvt d }
    { s with rcl := { s.rcl with releasing := s.rcl.releasing ++ [c] } }.exportNext
  | _ => s.release.finishDesc r d 0 0 0

/-- RELEASE. -/
def execRelease (r : Fin 1024) (d : BitVec 512) (s : State) : Host.Outcome State Fault Refusal :=
  descriptorCommand r.val 0x09 d (fun _ => unused d 4 56) (fun dom s =>
    if !s.domFreeze dom then s.denied r.val dom d
    else if s.rcl.state = .off || (s.rcl.state = .recording && !s.rcl.pend) then
      s.finishDesc r.val d 6 s.recallDetail 0
    else s.releaseCmd r.val d) s

/-! ### Output rings -/

/-- OBUF (R266): an empty buffer is posted. -/
def execObuf (r : Fin 1024) (d : BitVec 512) (s : State) : Host.Outcome State Fault Refusal :=
  descriptorCommand r.val 0x20 d (fun _ => obufChecks d) (fun _ s =>
    let x := s.ring r.val
    let b : OutBuf := { count := (s.readCount r.val).toNat, addr := dField d 8 8, len := dField d 16 4
                        opTag := BitVec.ofNat 16 (dTag d), evt := dEvt d }
    s.setRing r.val { x with bufs := x.bufs ++ [b] }) s

end Sys2Proof.Machine
end

