-- ==== Sys2Proof/Machine/Replay.lean ====
section
/-!
DEFINITION. Replay rings (R78, R79, R111, R269, R270): DATA and EOT, and the application of a replay record's packets.
-/
namespace Sys2Proof.Machine

/-- FS packets in a stream of packets. -/
def countFs : Nat → List Byte → Nat
  | 0, _ => 0
  | f + 1, bs =>
    if bs.length < 4 then 0
    else match (readHeader bs).1 with
      | none => 0
      | some d =>
        if bs.length < packetSize d then 0
        else (if d % 64 = 0 then 1 else 0) + countFs f (bs.drop (packetSize d))

/-- One replayed packet of port i (R111): the rules of R97 and R107, with the record's stamp for FS. A packet that is no
frame's goes to the mailbox or the hub's status as from the lane; a HUB_STATUS whose VC is not 0 has the wrong form.
Log entry 38: DEDUCED, unsafe. -/
def State.replayPacket (s : State) (i d : Nat) (body : List Byte) (t : Int) (stamp : BitVec 128) : State :=
  let dt := d % 64
  let wc := headWc d
  let payload := body.take wc
  let crc := BitVec.ofNat 16 (leAt body wc 2)
  if dt = 0x08 then s
  else if dt = 0x31 then s.mbxPacket i payload crc
  else if dt = 0x32 then
    if headVc d = 0 && payload.length = 16 && crc16 payload = crc then s.hubStatus (i / 8) payload else s
  else if !s.portEn i then s.bump .sxlUnexp (i / 8)
  else
    match dt with
    | 0x00 => s.frameStart i { t := t, stamp := stamp, count := BitVec.ofNat 16 wc }
    | 0x01 => s.closeFrame i 0
    | 0x02 => s.lineStart i wc
    | 0x03 | 0x10 | 0x11 | 0x12 => s
    | 0x30 => s.tagPacket i payload
    | _ => if (packing dt).isSome then s.pixelPacket i dt payload (crc16 payload = crc) else s.markFrame i 128

/-- The packets of a record, in order (R111, R270): bytes that complete no packet mark the open frame MALFORMED.
Log entry 38: DEDUCED, unsafe. -/
def State.replayPackets (s : State) (i : Nat) (t : Int) (stamp : BitVec 128) : Nat → List Byte → State
  | 0, _ => s
  | f + 1, bs =>
    if bs.isEmpty then s
    else if bs.length < 4 then s.markFrame i 128
    else
      let (h, fixed) := readHeader bs
      let s := if fixed then s.bump .sxlHdrCor (i / 8) else s
      match h with
      | none => (s.bump .sxlHdrUnc (i / 8)).markFrame i 128
      | some d =>
        if bs.length < packetSize d then s.markFrame i 128
        else (s.replayPacket i d ((bs.take (packetSize d)).drop 4) t stamp).replayPackets i t stamp f
          (bs.drop (packetSize d))

/-- Applies a replay record for tick n (R270): FS counts as stamped at the edge of n + FS_OFF; the frame's time is the
record's in step mode, and that TB1 instant in live mode.
Log entry 39: DEDUCED, unsafe. -/
def State.applyRecord (s : State) (n : Nat) (y : ReplayRec) : State :=
  let edge : Int := s.tick.edgeNs - (s.now - n : Nat) * (s.tickP : Int)
  let live := timeValue (((s.tick.edgeTb1 : Int) + y.fsOff * 65536).toNat) s.tick.edgeTag.toNat
  s.replayPackets y.port (edge + y.fsOff) (if s.stepMode then y.fsTime else live) (y.bytes.length + 1) y.bytes

/-- DATA behind its checks (R269, R270): it waits for the edge of its tick; in live mode it is LATE behind that edge, in
step mode it is then applied at once.
Log entries 22: DEDUCED, unsafe; 39: DEDUCED, unsafe. -/
def State.takeData (s : State) (r : Nat) (d : BitVec 512) (bytes : List Byte) : State :=
  let x := s.ring r
  let n := x.n0.getD 0 + dTickOff d
  let y : ReplayRec :=
    { port := dPort d, tickOff := dTickOff d, fsOff := (BitVec.ofNat 32 (dField d 12 4)).toInt
      fsTime := BitVec.ofNat 128 (dField d 16 16), bytes := bytes }
  if 1 < countFs (bytes.length + 1) bytes then s.finishDesc r d 1 32 0
  else
    let s := s.setRing r { x with lastOff := dTickOff d }
    if s.now < n then
      (s.setRing r { s.ring r with replays := x.replays ++ [y] }).finishDesc r d 0 0 0
    else if s.stepMode then (s.applyRecord n y).finishDesc r d 0 0 0
    else s.finishDesc r d 9 0 0

/-- The mill that a replay ring names. -/
def State.replayMill (s : State) (r : Nat) : Nat := s.field .ringCfg r 0 13 6

/-- DATA (R250, R269, R281): `bytes` is what the reads returned, `bad` whether any returned poison or an error. -/
def execData (r : Fin 1024) (d : BitVec 512) (bytes : List Byte) (bad : Bool) (s : State) :
    Host.Outcome State Fault Refusal :=
  if bytes.length ≠ dField d 40 4 && !bad then .refused .illFormed
  else descriptorCommand r.val 0x30 d (fun s => dataChecks d (s.replayMill r.val) (s.ring r.val).lastOff) (fun dom s =>
    if !s.domPort dom (dPort d) then (s.noteFirst r.val).denied r.val dom d
    else s.indirect r.val d (dField d 32 8) (dField d 40 4) fun s =>
      let s := s.noteFirst r.val
      if bad then s.finishDesc r.val d 8 0 0 else s.takeData r.val d bytes) s

/-- EOT (R269): the records of a tick offset end. -/
def execEot (r : Fin 1024) (d : BitVec 512) (s : State) : Host.Outcome State Fault Refusal :=
  descriptorCommand r.val 0x31 d (fun s => eotChecks d (s.ring r.val).lastOff) (fun _ s =>
    let s := s.noteFirst r.val
    let x := s.ring r.val
    (s.setRing r.val { x with lastOff := dTickOff d, eots := x.eots ++ [dTickOff d] }).finishDesc r.val d 0 0 0) s

/-- Whether step mode holds back the start of the next tick: an enabled replay ring holds no EOT for the tick in force.
The condition applies to a ring from tick N0 + 1 onward (R79, R270).
Log entry 34: DEDUCED, unsafe. -/
def State.stepHolds (s : State) (r : Nat) : Bool :=
  let x := s.ring r
  match x.n0 with
  | none => false
  | some n0 => decide (n0 ≤ s.now) && !x.eots.contains (s.now - n0)

/-- Whether the tick unit may start the next tick (R79). -/
def State.tickMayStart (s : State) : Bool := !s.stepMode || s.replayRings.all fun r => !s.stepHolds r

end Sys2Proof.Machine
end

