-- ==== Sys2Proof/Machine/AdmRules.lean ====
section
/-!
DEFINITION. What admission judges first (item 1 of R70, budget kind 9): the ranges of the tray fields and the rules that tie
fields and trays together. A configuration is a `State` whose active trays are those that would be active.
-/
namespace Sys2Proof.Machine

/-! ### Ranges (R56, R155, R176, R210, R234, R261) -/

/-- A run of tray words up to `last` with one range; `signed` words are read as s32. -/
structure FieldRange where
  last : Nat
  lo : Int
  hi : Int
  signed : Bool := false
  deriving DecidableEq, Repr

/-- An unsigned range. -/
def fr (last lo hi : Nat) : FieldRange := { last := last, lo := lo, hi := hi }

/-- A field of `bits` bits with any value, up to word `last`. -/
def fw (last bits : Nat) : FieldRange := { last := last, lo := 0, hi := 2 ^ bits - 1 }

/-- A signed field of `bits` bits with any value. -/
def fs (last bits : Nat) : FieldRange := { last := last, lo := -(2 ^ (bits - 1)), hi := 2 ^ (bits - 1) - 1, signed := true }

/-- The ranges of the port tray's words, in their order (R262).
Log entry 74: DEDUCED, unsafe. -/
def portRanges : List FieldRange :=
  [fw 0 1, fr 1 1 256, fw 2 16, fr 3 0 100000000, fr 4 1000 0xFFFFFFFF, fw 5 8, fr 7 8 8192, fr 8 2 32, fw 9 8, fw 10 1,
   fw 267 20, fw 271 20, fw 272 16, fw 305 16, fw 306 1, fw 307 8, fr 308 0 1024, fw 1332 32, fw 1333 1, fw 1334 8]
    ++ [fr 1335 1 255, fw 1367 8, fw 1368 1, fw 1369 8, fw 1385 8, fw 1386 4, fw 1387 8, fw 1388 1, fr 1390 3 10,
        fr 1392 2 33, fw 5748 16, fr 5749 1 16, fw 5752 16, fw 5755 16, fs 5764 16, fs 5767 21, fw 6024 16]
    ++ [fw 6026 1, fw 6027 1, fw 6028 3, fw 6030 13, fr 6032 2 8192, fr 6034 1 32, fw 6035 20, fw 6036 1, fr 6037 0 5,
        fw 6038 4]

/-- The ranges of the mill tray's words. -/
def millRanges : List FieldRange :=
  [fw 0 11, fw 4 1, fw 8 3, fw 16 13, fr 20 32 8192, fr 24 1 8192, fr 25 0 2, fw 29 11]

/-- The ranges of a wall tray's first 274 words. -/
def wallRanges : List FieldRange :=
  [fw 0 1, fr 1 0 4, fr 3 2 16384, fw 4 2, fw 5 1, fw 6 11, fw 7 9, fw 8 2, fw 9 1, fw 15 16, fr 16 1 256, fw 17 8, fs 273 16]

/-- The ranges of an entry's 14 words. -/
def entryRanges : List FieldRange := [fw 1 1, fw 2 16, fw 3 8, fw 11 14, fw 13 2]

/-- The range of word i in a table of runs. -/
def rangeIn (rs : List FieldRange) (i : Nat) : Option FieldRange := rs.find? fun r => i ≤ r.last

/-- The range of word i of tray t. -/
def fieldRange (t i : Nat) : Option FieldRange :=
  match trayKind t with
  | .port => rangeIn portRanges i
  | .mill => rangeIn millRanges i
  | .wall => if i < WW.entry then rangeIn wallRanges i else rangeIn entryRanges ((i - WW.entry) % 14)

/-- Whether a word lies in a range. -/
def FieldRange.takes (r : FieldRange) (w : Word) : Bool :=
  let x : Int := if r.signed then w.toInt else w.toNat
  r.lo ≤ x && x ≤ r.hi

/-- Whether every word of a bank of tray t lies in its range. Words at their reset values do. -/
def bankInRange (t : Nat) (b : Bank) : Bool :=
  b.all fun e => match fieldRange t e.1 with
    | some r => r.takes e.2
    | none => true

/-! ### One tray -/

/-- Whether the static defect list is well formed (R141). -/
def defectsOk (b : Bank) : Bool :=
  let ds := (List.range (pGet b PW.defectN)).map fun n => pGet b (PW.defect + n)
  (ds.all fun d => d &&& 0xE000E000 = 0) && (ds.zip (ds.drop 1)).all fun p => decide (p.1 < p.2)

/-- k of R64: 2 for a 4×4 pattern with infrared, else 1. -/
def millK (b : Bank) : Nat := if !isYuv (trayDt b) && 128 ≤ pGet b PW.cfa then 2 else 1

/-- The rules of a port tray beyond its ranges (R56, R135, R136, R140, R141, R144, R153, R155, R172, R191, R210, R262).
Log entry 74: DEDUCED, unsafe. -/
def portRules (p : Nat) (b : Bank) : Bool :=
  let g := pGet b
  let f := g PW.frameTicks
  let dt := trayDt b
  let w := trayW b
  let h := trayH b
  let cfa := g PW.cfa
  g PW.framePhase < f && g PW.readoutNs ≤ f * p && (packing dt).isSome && cfa / 16 % 8 = 0
    && (128 ≤ cfa || (cfa % 4 < 2 && cfa / 4 % 4 < 2))
    && (g PW.tnrEn = 0 || (!isYuv dt && w % (32 * (1 + cfa / 128)) = 0)) && (!isYuv dt || w % 2 = 0)
    && defectsOk b
    && w ≤ (g PW.lscGx - 1) * 2 ^ g PW.lscLx && h ≤ (g PW.lscGy - 1) * 2 ^ g PW.lscLy
    && g PW.zw % 2 = 0 && g PW.zh % 2 = 0 && g PW.x0 + g PW.zx * g PW.zw ≤ w && g PW.y0 + g PW.zy * g PW.zh ≤ h
    && ceilDiv h (2 ^ g PW.flkSh) ≤ 1024

/-- The rules of a mill tray beyond its ranges (R231): the widths of all taps. -/
def millRules (b : Bank) : Bool := (List.range 4).all fun t => mGet b (MW.tw + t) % 32 = 0

/-- The rules of a wall tray beyond its ranges (R217, R234). -/
def wallRules (b : Bank) : Bool := wallW b % 2 = 0 && wallH b % 2 = 0 && wGet b WW.wph < wGet b WW.wf

/-- Whether every active tray is within its ranges.
Log entry 72: DEDUCED, unsafe. -/
def State.traysInRange (s : State) : Bool :=
  s.trays.all fun e => bankInRange e.1 e.2.active && match trayKind e.1 with
    | .port => portRules s.tickP e.2.active
    | .mill => millRules e.2.active
    | .wall => wallRules e.2.active

/-! ### Units in use -/

/-- The enabled ports of mill m. -/
def State.millPorts (s : State) (m : Nat) : List Nat := s.enabledPorts.filter (· / 8 = m)

/-- The walls that are enabled and that shedding has not disabled, ascending. -/
def State.wallsOn (s : State) : List Nat :=
  (s.trays.filter fun e => decide (576 ≤ e.1) && s.wallEn (e.1 - 576)).map (·.1 - 576)

/-- The release lag of port i (R59). -/
def State.lagOf (s : State) (i : Nat) : Nat := (s.bindingAt i 0).lag

/-- The local entries of wall w. -/
def State.localsOf (s : State) (w : Nat) : List (Nat × Stone) := localStones (s.wBank w)

/-- L: the schedule cycle length (R60). -/
def State.cycleLength (s : State) : Nat :=
  let fs := s.enabledPorts.map fun i => pGet (s.pBank i) PW.frameTicks
  let ws := s.wallsOn.flatMap fun w =>
    match s.localsOf w with
    | [] => [wGet (s.wBank w) WW.wf]
    | es => es.map fun e => pGet (s.pBank e.2.port) PW.frameTicks
  (fs ++ ws).foldl Nat.lcm 1

/-- Whether ring r is an output ring of OCLASS c (R268). -/
def State.outRing (s : State) (r c : Nat) : Bool := s.kind (r % 1024) = 1 && s.field .ringCfg (r % 1024) 0 9 2 = c

/-! ### Mills -/

/-- Line store of a mill (R116). -/
def State.lineStoreOk (s : State) (m : Nat) : Bool :=
  ((s.millPorts m).map fun i => pGet (s.pBank i) PW.lines * slotWords (s.pBank i)).foldl (· + ·) 0 ≤ 8192

/-- The sum of fractions, as numerator and denominator. -/
def fracSum : List (Nat × Nat) → Nat × Nat
  | [] => (0, 1)
  | (n, d) :: r => let t := fracSum r
    (n * t.2 + t.1 * d, d * t.2)

/-- Declared bytes of a frame on its lane (R110). -/
def frameBytes (b : Bank) : Nat := trayH b * (lineBytes b + 6) + 30

/-- The mode at which admission checks lane l (R110). -/
def State.laneMode (s : State) (l : Nat) : Nat :=
  if (s.lane l).step = .up then (s.lane l).mode.toNat else s.field .sxlCfg l 0 2 2

/-- Lane capacity (R83, R110): 0.95 of the packet stream rate, 7 × 2^MODE × 16 / 17 bits per ns.
Log entry 74: DEDUCED, unsafe. -/
def State.laneOk (s : State) (l : Nat) : Bool :=
  let f := fracSum ((s.millPorts l).map fun i =>
    (frameBytes (s.pBank i) * 8, pGet (s.pBank i) PW.frameTicks * s.tickP))
  f.1 * 340 ≤ 19 * 7 * 2 ^ s.laneMode l * 16 * f.2

/-- Cycles of a line (R121). -/
def lineCycles (b : Bank) : Nat := millK b * ((trayW b + 3) / 4) + 2 * slicesOf b

/-- Where a port's readout span triggered at tick n starts, in ns from the edge of tick 0 (R121). -/
def State.spanStart (s : State) (i n : Nat) : Int :=
  (n * s.tickP + pGet (s.pBank i) PW.latNs : Nat) - (s.tickP / 2 : Nat)

/-- Whether any readout span of port i contains instant t. -/
def State.spanHolds (s : State) (i : Nat) (t : Int) : Bool :=
  let b := s.pBank i
  let period : Int := max 1 (pGet b PW.frameTicks * s.tickP)
  let len : Int := pGet b PW.readoutNs + 2 * (s.tickP / 2)
  (t - s.spanStart i (pGet b PW.framePhase)).emod period < len

/-- The triggers of a period F and phase φ in a cycle of L courses. -/
def triggers (l f ph : Nat) : List Nat := (List.range (l / max 1 f)).map fun n => ph + n * f

/-- The ingress rate of a mill at an instant (R121): no more than 1.125 cycles per ns. -/
def State.ingressAt (s : State) (ps : List Nat) (t : Int) : Bool :=
  let f := fracSum ((ps.filter fun i => s.spanHolds i t).map fun i =>
    (lineCycles (s.pBank i) * trayH (s.pBank i), pGet (s.pBank i) PW.readoutNs))
  f.1 * 8 ≤ 9 * f.2

/-- The ingress rate over the schedule cycle: the sum can rise only where a span starts. -/
def State.ingressOk (s : State) (l m : Nat) : Bool :=
  let ps := s.millPorts m
  ps.all fun i => (triggers l (pGet (s.pBank i) PW.frameTicks) (pGet (s.pBank i) PW.framePhase)).all fun n =>
    s.ingressAt ps (s.spanStart i n)

/-- Statistics rings (R210). -/
def State.statRingOk (s : State) (i : Nat) : Bool :=
  let r := mGet (s.mBank (i / 8)) MW.statRing
  pGet (s.pBank i) PW.statEn = 0 || (r.testBit 10 && s.outRing r 1)

/-- One enabled tap (R231, R268). -/
def State.tapOk (s : State) (m t : Nat) : Bool :=
  let c := tapCfg (s.mBank m) t
  let b := s.pBank (8 * m + c.port)
  !c.on || ((t = 3 || !isYuv (trayDt b)) && c.x0 + c.w ≤ trayW b && c.y0 + c.h ≤ trayH b && c.ring.testBit 10
    && s.outRing c.ring 2)

/-- The rules of mill m and of its lane. -/
def State.millOk (s : State) (l m : Nat) : Bool :=
  s.lineStoreOk m && s.laneOk m && s.ingressOk l m && (s.millPorts m).all s.statRingOk
    && (List.range 4).all fun t => s.tapOk m t

/-! ### Walls -/

/-- The limits of an enabled local entry (R172, R173, R215).
Log entry 72: DEDUCED, unsafe. -/
def State.stoneOk (s : State) (b : Bank) (e : Stone) : Bool :=
  let p := s.pBank e.port
  let fmt := wallFmt b
  e.src / 2048 = 0 && e.src % 4 = 0 && 1 ≤ e.cw && 1 ≤ e.ch && e.cx + e.cw ≤ trayW p && e.cy + e.ch ≤ trayH p
    && 1 ≤ e.ow && e.ow ≤ 8192 && 1 ≤ e.oh && e.oh ≤ 8192 && e.cw ≤ 8 * e.ow && e.ch ≤ 8 * e.oh
    && e.px + e.ow ≤ wallW b && e.py + e.oh ≤ wallH b && (fmt = 4 || (e.px % 2 = 0 && e.ow % 2 = 0))
    && (2 ≤ fmt || (e.py % 2 = 0 && e.oh % 2 = 0)) && (fmt ≠ 4 || !isYuv (trayDt p))

/-- Whether all members of a list are equal. -/
def allEqual {α : Type} [DecidableEq α] : List α → Bool
  | [] => true
  | x :: xs => xs.all (· = x)

/-- The rules of a streaming wall (R226). -/
def State.streamingOk (s : State) (w : Nat) : Bool :=
  let b := s.wBank w
  let es := stonesOf b
  1 ≤ es.length && es.length ≤ 8 && es.all (fun e => !e.2.remote)
    && allEqual (es.map fun e => [e.2.py, e.2.oh, e.2.cy, e.2.ch, e.2.vset])
    && allEqual (es.map fun e => let p := s.pBank e.2.port
      [pGet p PW.frameTicks, pGet p PW.framePhase, pGet p PW.latNs, pGet p PW.readoutNs, trayH p])
    && wGet b WW.ring = 0 && wGet b WW.chn = 0 && wGet b WW.rclEn = 0

/-- The rules of a wall's stream (R312). -/
def State.wallStreamOk (s : State) (w : Nat) : Bool :=
  match streamOf (s.wBank w) with
  | none => true
  | some n =>
    let fmt := wallFmt (s.wBank w)
    let pay := s.field .ethStrCfg n 0 20 9
    (fmt = 2 || fmt = 4) && (s.wallsOn.all fun v => v = w || streamOf (s.wBank v) ≠ some n) && 16 ≤ pay && pay ≤ 367
      && s.splitExists (s.streamSub n)

/-- The rules of a recall wall (R238), which reduced service leaves out (R372). -/
def State.wallRecallOk (s : State) (w : Nat) : Bool :=
  let b := s.wBank w
  wGet b WW.rclEn = 0 || s.reduced || (s.recallSize ≠ 0 && s.field .wallRclExp 0 0 0 16 ≠ 0
    && 2 * roundUp (128 + wallSize b) 4096 ≤ s.recallSize * 2 ^ 24)

/-- The walls whose trays do not hold their reset values alone. -/
def State.wallTrays (s : State) : List Nat := (s.trays.filter fun e => decide (576 ≤ e.1)).map (·.1 - 576)

/-- The rules of a wall tray, whether the wall is enabled or not (R215, R219, R220, R226, R312).
Log entry 72: DEDUCED, unsafe. -/
def State.wallTrayOk (s : State) (w : Nat) : Bool :=
  let b := s.wBank w
  let es := s.localsOf w
  let key := fun (e : Nat × Stone) =>
    let p := s.pBank e.2.port
    [pGet p PW.frameTicks, pGet p PW.framePhase, s.lagOf e.2.port]
  es.all (fun e => s.stoneOk b e.2) && allEqual (es.map key)
    && (wGet b WW.stream ≠ 0 || es.all fun e => s.lagOf e.2.port + 1 ≤ 2 * pGet (s.pBank e.2.port) PW.frameTicks)
    && (wGet b WW.stream = 0 || s.streamingOk w) && s.wallStreamOk w

/-- The rules of an enabled wall beyond those of its tray (R238, R268). -/
def State.wallOk (s : State) (w : Nat) : Bool :=
  let ring := wGet (s.wBank w) WW.ring
  (!ring.testBit 10 || s.outRing ring 0) && s.wallRecallOk w

/-- The totals over all enabled walls (R215, R226). -/
def State.wallTotalsOk (s : State) : Bool :=
  let ws := s.wallsOn
  let stones := ws.flatMap s.localsOf
  (ws.map fun w => (stonesOf (s.wBank w)).length).foldl (· + ·) 0 ≤ 4096
    && ((List.range 64).all fun m =>
      48 * ((stones.filter fun e => e.2.port / 8 = m).map fun e => e.2.ow).foldl (· + ·) 0 ≤ 1048576)
    && (ws.map fun w => if wGet (s.wBank w) WW.stream = 0 then 0 else 16 * wallW (s.wBank w)).foldl (· + ·) 0 ≤ 4194304

/-! ### Gates, shapers, and the whole of item 1 -/

/-- Whether no gate list in use and no shaper names a split port that MODE does not create (R308). -/
def State.splitsOk (s : State) : Bool :=
  (List.range 8).all fun x => s.splitExists x
    || (!s.flag .ethGclCtl x 0 0 && (List.range 8).all fun q => s.reg .ethCbs x q = 0)

/-- Whether a port or wall is enabled while the device is in PARK (R411). -/
def State.parkOk (s : State) : Bool := s.power.pstate ≠ .park || (s.enabledPorts.isEmpty && s.wallsOn.isEmpty)

/-- Item 1 of R70 for a configuration.
Log entry 72: DEDUCED, unsafe. -/
def State.fieldsOk (s : State) : Bool :=
  s.traysInRange && s.cycleLength ≤ 256 && ((List.range 64).all fun m => s.millOk s.cycleLength m)
    && s.wallTrays.all s.wallTrayOk && s.wallsOn.all s.wallOk
    && s.wallTotalsOk && s.splitsOk && s.parkOk

end Sys2Proof.Machine
end

