-- ==== Sys2Proof/Machine/AdmCost.lean ====
section
/-!
DEFINITION. The cost model of admission (R64 to R69, R247, R318, R319, R347): what a configuration charges against each
budget, course by course, and items 2 to 5 of R70. As in `AdmRules`, a configuration is a `State`.
-/
namespace Sys2Proof.Machine

/-- A charge on one course: the course and the amount. -/
abbrev Charge := Nat × Nat

/-- What a list of charges puts on course c. -/
def onCourse (cs : List Charge) (c : Nat) : Nat := ((cs.filter fun e => e.1 = c).map (·.2)).foldl (· + ·) 0

/-- The same amount on every course. -/
def everyCourse (l x : Nat) : List Charge := (List.range l).map fun c => (c, x)

/-- A per-frame cost x of a frame triggered on course t, spread over the readout from d to d + r (R65). -/
def spread (p l d r t x : Nat) : List Charge :=
  (List.range ((d + r - 1) / p + 1 - d / p)).map fun n =>
    let j := d / p + n
    ((t + j) % l, ceilDiv (x * (min (d + r) ((j + 1) * p) - max d (j * p))) r)

/-- The courses on which a port triggers by its tray, enabled or not. -/
def State.portTriggers (s : State) (l i : Nat) : List Nat :=
  triggers l (pGet (s.pBank i) PW.frameTicks) (pGet (s.pBank i) PW.framePhase)

/-- A per-frame cost of port i, spread over the readout of each of its frames (R65). -/
def State.portSpread (s : State) (l i x : Nat) : List Charge :=
  let b := s.pBank i
  (s.portTriggers l i).flatMap fun t => spread s.tickP l (pGet b PW.latNs) (pGet b PW.readoutNs) t x

/-! ### Mills (R64) -/

/-- The stones that enabled walls cut from port i. -/
def State.stonesFrom (s : State) (i : Nat) : List Stone :=
  s.wallsOn.flatMap fun w => (((s.localsOf w).map (·.2)).filter fun e => e.port = i)

/-- The mill cost of one frame of port i. -/
def State.frameCost (s : State) (i : Nat) : Nat :=
  let b := s.pBank i
  let out := sumOf ((s.stonesFrom i).map fun e => e.oh * ((e.ow + 3) / 4 + 2))
  max (trayH b * lineCycles b) out + 256

/-- The mill charges of mill m. -/
def State.millCharges (s : State) (l m : Nat) : List Charge :=
  (s.millPorts m).flatMap fun i => s.portSpread l i (s.frameCost i)

/-- B of a mill. -/
def State.millBudget (s : State) : Nat := s.tickP * 5 / 4

/-! ### Walls and their courses -/

/-- The staged walls: enabled and not streaming. -/
def State.stagedWalls (s : State) : List Nat := s.wallsOn.filter fun w => wGet (s.wBank w) WW.stream = 0

/-- The courses in which wall w delivers its frames (R59, R219). -/
def State.deliveryCourses (s : State) (l w : Nat) : List Nat :=
  match s.localsOf w with
  | [] => (triggers l (wGet (s.wBank w) WW.wf) (wGet (s.wBank w) WW.wph)).map fun t => (t + 1) % l
  | e :: _ => (s.portTriggers l e.2.port).map fun t => (t + s.lagOf e.2.port + 1) % l

/-- A cost of each frame of wall w, on its delivery course. -/
def State.onDelivery (s : State) (l w x : Nat) : List Charge := (s.deliveryCourses l w).map fun c => (c, x)

/-! ### DRAM (R66, R347) -/

/-- Whether the recall store is charged (R66, R68, R372).
Log entry 73: DEDUCED, unsafe. -/
def State.recallCharged (s : State) : Bool := s.recallSize ≠ 0 && !s.reduced

/-- The export rate in bytes per course, where the store is charged. -/
def State.exportCharge (s : State) : Nat :=
  if s.recallCharged then s.field .wallRclExp 0 0 0 16 * s.tickP / 1000 else 0

/-- CHN_RSV of both ports. -/
def State.relayBytes (s : State) (x : Nat) : Nat := (s.reg .chnRsv x).toNat

/-- The enabled ports that keep a temporal reference. -/
def State.tnrPorts (s : State) : List Nat := s.enabledPorts.filter fun i => s.tnrOn i (s.pBank i)

/-- Stone staging writes of wall w: only an enabled port's frames bring stones. -/
def State.stagingWrites (s : State) (l w : Nat) : List Charge :=
  (s.localsOf w).flatMap fun e =>
    if s.portEn e.2.port then s.portSpread l e.2.port (imageBytes (wallFmt (s.wBank w)) e.2.ow e.2.oh) else []

/-- The DRAM traffic of the whole device (R66), the retraining slot apart. -/
def State.dramCharges (s : State) (l : Nat) : List Charge :=
  s.tnrPorts.flatMap (fun i => s.portSpread l i (2 * trayW (s.pBank i) * trayH (s.pBank i)))
    ++ s.stagedWalls.flatMap (fun w => s.stagingWrites l w ++ s.onDelivery l w (wallSize (s.wBank w))
      ++ if s.recallCharged && wGet (s.wBank w) WW.rclEn ≠ 0 then s.onDelivery l w (wallSize (s.wBank w)) else [])
    ++ everyCourse l (s.exportCharge + 2 * (s.relayBytes 0 + s.relayBytes 1))

/-- The DRAM rate in MT/s (R350). -/
def State.dramRate (s : State) : Nat := 4800 + 800 * s.field .dramMap 0 0 4 3

/-- The active channels (R350): in SERVICE, TRAINING or RECOVERY. -/
def State.activeChans (s : State) : List Nat :=
  (List.range 16).filter fun n => (s.chan n).state ≠ .off && (s.chan n).state ≠ .retired

/-- Charge of every active channel on course c: the even share, and on course 0 the retraining slot (R63, R66). -/
def State.channelCharge (s : State) (cs : List Charge) (c : Nat) : Nat :=
  ceilDiv (onCourse cs c) s.activeChans.length + if c = 0 then 24 * s.dramRate * 8 else 0

/-- B of a channel. -/
def State.dramBudget (s : State) : Nat := s.tickP * s.dramRate * 768 / 100000

/-! ### The host output (R67, R201, R232, R247) -/

/-- Bytes of the statistics records of one frame under a tray (R196). -/
def statBytes (b : Bank) : Nat :=
  let parts := pGet b PW.statParts
  let z := zonesOf b
  128 + (if parts.testBit 0 then 64 * ceilDiv z.zy 4 + 32 * z.zx * z.zy else 0) + (if parts.testBit 1 then 1088 else 0)
    + if parts.testBit 2 then 64 + 4 * flickerLen b else 0

/-- The statistics of port i, on the course behind the release tick (R201). -/
def State.statCharges (s : State) (l i : Nat) : List Charge :=
  if pGet (s.pBank i) PW.statEn = 0 then []
  else (s.portTriggers l i).map fun t => ((t + s.lagOf i + 1) % l, statBytes (s.pBank i))

/-- The taps of mill m on its enabled ports: line records and the close record (R232), spread by R65.
Log entry 77: DEDUCED, unsafe. -/
def State.tapCharges (s : State) (l m : Nat) : List Charge :=
  (List.range 4).flatMap fun t =>
    let c := tapCfg (s.mBank m) t
    let i := 8 * m + c.port
    if c.on && s.portEn i then s.portSpread l i (2 * c.w * c.h + 64 * (c.h + 1)) else []

/-- Everything that leaves through the host output. -/
def State.hostCharges (s : State) (l : Nat) : List Charge :=
  s.stagedWalls.flatMap (fun w => if (wGet (s.wBank w) WW.ring).testBit 10
      then s.onDelivery l w (wallSize (s.wBank w) + 128) else [])
    ++ s.enabledPorts.flatMap (s.statCharges l) ++ (List.range 64).flatMap (s.tapCharges l)
    ++ everyCourse l s.exportCharge

/-- Ten times the link rate in GT/s, by its code in HOST_LINK (R271). -/
def linkRate (code : Nat) : Nat := [0, 25, 50, 80, 160, 320, 640, 1280].getD code 0

/-- B of the host output: 0.875 of the raw link (R69, R247). -/
def State.hostBudget (s : State) : Nat :=
  s.tickP * 7 * linkRate (s.field .hostLink 0 0 8 3) * s.field .hostLink 0 0 0 5 / 640

/-! ### Ethernet (R318, R319) -/

/-- Bytes of one line of a wall that a stream may carry. -/
def lineSize (b : Bank) : Nat := wallW b * if wallFmt b = 2 then 2 else 3

/-- Wire bytes of a frame of wall w on stream n. -/
def State.frameWire (s : State) (w n : Nat) : Nat :=
  let b := s.wBank w
  let extra := if s.flag .ethStrCfg n 0 3 then 74 else 70
  let headers := if wGet b WW.stream = 0 then 1 else 2
  headers * (128 + extra)
    + wallH b * (lineSize b + ceilDiv (lineSize b) (max 1 (s.pieceBytes n (wallFmt b))) * extra)

/-- The walls on split port x and queue q, or on any queue, with their streams. -/
def State.wallsOnSplit (s : State) (x : Nat) (q : Option Nat) : List (Nat × Nat) :=
  s.wallsOn.filterMap fun w =>
    match streamOf (s.wBank w) with
    | some n =>
      let here := match q with
        | some q => s.field .ethStrCfg n 0 4 3 = q
        | none => true
      if s.streamSub n = x && here then some (w, n) else none
    | none => none

/-- The charges of some walls on their streams. -/
def State.streamCharges (s : State) (l : Nat) (ws : List (Nat × Nat)) : List Charge :=
  ws.flatMap fun e =>
    if wGet (s.wBank e.1) WW.stream = 0 then s.onDelivery l e.1 (s.frameWire e.1 e.2)
    else match s.localsOf e.1 with
      | [] => []
      | st :: _ => s.portSpread l st.2.port (s.frameWire e.1 e.2)

/-- The gate list that admission judges on split port x, or none where gates are disabled (R319, R320). -/
def State.judgedGates (s : State) (x : Nat) : Option (List Word) :=
  if !s.flag .ethGclCtl x 0 0 then none
  else if s.flag .ethGclCtl x 0 1 then some (s.adminList x)
  else if (s.split x).operational.isEmpty then none
  else some (s.split x).operational

/-- The guaranteed open time of queue q in a course, in ns (R319). -/
def State.openTimeOf (s : State) (x q : Nat) : Nat :=
  match s.judgedGates x with
  | none => s.tickP
  | some g => s.tickP / gateCycle g * gateCycle (g.filter (bitOf · q))

/-- B of queue q of split port x. -/
def State.queueBudget (s : State) (x q : Nat) : Nat :=
  let b := s.openTimeOf x q * s.splitRate x / 8
  let slope := (s.reg .ethCbs x q).toNat
  if slope = 0 then b else min b (s.tickP * slope / 8000000)

/-- Whether a gate list that x is to use is longer than a course (R319). -/
def State.gateTooLong (s : State) (x : Nat) : Bool :=
  match (if s.flag .ethGclCtl x 0 1 then some (s.adminList x) else s.judgedGates x) with
  | some g => s.tickP < gateCycle g
  | none => false

/-! ### The chain (R347) -/

/-- Bytes of a frame record of wall w on a chain port: 28 bytes beside each piece. -/
def State.recordWire (s : State) (w : Nat) : Nat :=
  let n := 128 + wallSize (s.wBank w)
  n + 28 * ceilDiv n 16384

/-- What chain port x carries on course c. -/
def State.chainCharge (s : State) (l x c : Nat) : Nat :=
  let cs := s.stagedWalls.flatMap fun w =>
    if (wGet (s.wBank w) WW.chn).testBit x then s.onDelivery l w (s.recordWire w) else []
  ceilDiv ((onCourse cs c + s.relayBytes x) * 257) 256

/-- B of a chain port. -/
def State.chainBudget (s : State) : Nat := s.tickP * 224 / 17

/-! ### DRAM capacity (R68, R347) -/

/-- One region that a configuration needs: kind, owner and size (R496), in the order of placement.
Log entries 73: DEDUCED, unsafe; 77: DEDUCED, unsafe. -/
def State.regionNeeds (s : State) : List (Nat × Nat × Nat) :=
  s.tnrPorts.map (fun i => (0, i, roundUp (ceilDiv (trayW (s.pBank i) * trayH (s.pBank i)) 16 * 20) 4096))
    ++ s.stagedWalls.map (fun w => (1, w, 2 * roundUp (wallSize (s.wBank w)) 4096))
    ++ ([0, 1].filterMap fun x => if s.relayBytes x = 0 then none else some (2, x, roundUp (2 * s.relayBytes x) 4096))
    ++ if s.recallCharged then [(3, 0, s.recallSize * 2 ^ 24)] else []

/-- The capacity charge: that of the relay staging is rounded up as one (R347).
Log entries 73: DEDUCED, unsafe; 77: DEDUCED, unsafe. -/
def State.capacityCharge (s : State) : Nat :=
  sumOf ((s.regionNeeds.filter fun n => n.1 ≠ 2).map (·.2.2)) + roundUp (2 * (s.relayBytes 0 + s.relayBytes 1)) 4096

/-- The DRAM capacity (R69). -/
def State.capacity (s : State) : Nat := s.activeChans.length * 2 ^ 33

/-! ### The checks, in the order of R70 -/

/-- One comparison of a charge with 0.9 of its budget; a pair of courses has twice the budget. -/
structure Budget where
  kind : Nat
  unit : Nat
  /-- None where the check belongs to no course. -/
  course : Option Nat
  charge : Nat
  b : Nat
  deriving DecidableEq, Repr

/-- Whether a charge fits: charge ≤ 0.9 × B. -/
def Budget.fits (x : Budget) : Bool := 10 * x.charge ≤ 9 * x.b

/-- The load in ‰, truncated, as a field of `width` bits shows it. The manual states none where there is no budget to
divide by, and none beyond the field.
Log entries 17: DESIGN CHOICE, safe; 18: DEDUCED, unsafe. -/
def Budget.load (x : Budget) (width : Nat) : Option Nat :=
  if x.charge = 0 then some 0
  else if x.b = 0 || 2 ^ width ≤ x.charge * 1000 / x.b then none
  else some (x.charge * 1000 / x.b)

/-- The course checks of a unit and then its pair checks. -/
def withPairs (kind unit l b : Nat) (charge : Nat → Nat) : List Budget :=
  (List.range l).map (fun c => { kind := kind, unit := unit, course := some c, charge := charge c, b := b })
    ++ (List.range l).map fun c =>
      { kind := kind + 1, unit := unit, course := some c, charge := charge c + charge ((c + 1) % l), b := 2 * b }

/-- The course checks of an output. -/
def withoutPairs (kind unit l b : Nat) (charge : Nat → Nat) : List Budget :=
  (List.range l).map fun c => { kind := kind, unit := unit, course := some c, charge := charge c, b := b }

/-- Item 2. -/
def State.millChecks (s : State) (l : Nat) : List Budget :=
  (List.range 64).flatMap fun m =>
    let cs := s.millCharges l m
    if cs.isEmpty then [] else withPairs 1 m l s.millBudget (onCourse cs)

/-- Item 3, on the lowest active channel: every active channel carries the same. -/
def State.dramChecks (s : State) (l : Nat) : List Budget :=
  match s.activeChans with
  | [] => []
  | n :: _ => withPairs 3 n l s.dramBudget (s.channelCharge (s.dramCharges l))

/-- Item 4: split port x, its queues before the whole. A gate list that is too long leaves no budget. -/
def State.splitChecks (s : State) (l x : Nat) : List Budget :=
  if !s.splitExists x then []
  else (if s.gateTooLong x then [{ kind := 6, unit := x, course := none, charge := 1, b := 0 }] else [])
    ++ ((List.range 8).flatMap fun q =>
      let ws := s.wallsOnSplit x (some q)
      if ws.isEmpty then [] else withoutPairs 6 x l (s.queueBudget x q) (onCourse (s.streamCharges l ws)))
    ++ withoutPairs 6 x l (s.tickP * s.splitRate x / 8) (onCourse (s.streamCharges l (s.wallsOnSplit x none)))

/-- Item 4. -/
def State.outputChecks (s : State) (l : Nat) : List Budget :=
  withoutPairs 5 0 l s.hostBudget (onCourse (s.hostCharges l)) ++ (List.range 8).flatMap (s.splitChecks l)
    ++ (List.range 2).flatMap fun x => withoutPairs 7 x l s.chainBudget (s.chainCharge l x)

/-- Item 5. -/
def State.capacityCheck (s : State) : Budget :=
  { kind := 8, unit := 0, course := none, charge := s.capacityCharge, b := s.capacity }

/-- Items 2 to 5 in their order. -/
def State.checks (s : State) (l : Nat) : List Budget :=
  s.millChecks l ++ s.dramChecks l ++ s.outputChecks l ++ [s.capacityCheck]

end Sys2Proof.Machine
end

