-- ==== Sys2Proof/Machine/Admission.lean ====
section
/-!
DEFINITION. Admission as it runs (R71, R73, R81, R187, R320): the configuration that a run judges, what it reports, the
shedding steps, the placement of DRAM regions (R496), and the meaning of ADMISSION_RUN.
-/
namespace Sys2Proof.Machine

/-! ### The configuration judged (R71) -/

/-- The trays that an accepted commit has ARMED and that have not swapped. -/
def State.armedTrays (s : State) : List Nat := (s.trays.filter fun e => e.2.state = .armed).map (·.1)

/-- The state with some trays as swapped. -/
def State.asIf (s : State) (ts : List Nat) : State :=
  ts.foldl (fun s t => s.setTray t { s.tray t with active := (s.tray t).staged }) s

/-- The state with nothing shed. -/
def State.unshed (s : State) : State :=
  { s with
    tick := { s.tick with shed := false, shedPorts := [], shedWalls := [] }
    rcl := { s.rcl with shrunk := none } }

/-- What a commit would make active, with nothing shed. -/
def State.commitConfig (s : State) (c : CommitRec) : State := (s.asIf (s.armedTrays ++ c.trays)).unshed

/-- What a run without a commit judges: shedding as it stands. -/
def State.standing (s : State) : State := s.asIf s.armedTrays

/-- The number that the next edge is to have (R54). -/
def State.nextEdge (s : State) : Nat :=
  if s.tick.started && (s.anyPortEnabled || s.stepping) then s.now + 1
  else if s.tickNs < s.tickPhase then 0
  else (s.tickNs - s.tickPhase) / s.tickP + 1 - bit s.edgeNow

/-- Whether the edge of tick n is a hand-over point of a tray (R177). -/
def State.handover (s : State) (t n : Nat) : Bool :=
  512 ≤ t || !s.portEn t || triggersAt (s.pBank t) n

/-- Edges from now to the common edge of some trays (R187), if there is one within L ticks: 1 is the next edge. The edge whose
very clock this is does not count (R183). -/
def State.commonEdge (s : State) (ts : List Nat) : Option Nat :=
  let a := bit s.edgeNow
  let e := s.nextEdge + a
  ((List.range (max 1 s.tick.cycle)).find? fun n => ts.all fun t => s.handover t (e + n)).map (· + 1 + a)

/-- Whether a configuration enables a port that was not enabled on a mill without an enabled replay ring (R79). -/
def State.lacksReplay (s cfg : State) : Bool :=
  s.stepMode && cfg.enabledPorts.any fun i => !s.portEn i && !s.replaying (i / 8)

/-! ### The judgement -/

/-- A failure of item 1: the manual gives it neither course nor load. -/
def kind9 : Budget := { kind := 9, unit := 0, course := none, charge := 1, b := 0 }

/-- The checks of items 2 to 5, or none where item 1 fails. -/
def State.judged (s : State) : List Budget := if s.fieldsOk then s.checks s.cycleLength else []

/-- The first failure of a configuration in the order of R70. -/
def State.failure (s : State) : Option Budget := if s.fieldsOk then s.judged.find? fun c => !c.fits else some kind9

/-- The highest load of some checks, where every load is stated.
Log entry 17: DESIGN CHOICE, safe. -/
def highestLoad (width : Nat) (cs : List Budget) : Option Nat :=
  cs.foldl (fun a c => match a, c.load width with
    | some x, some y => some (max x y)
    | _, _ => none) (some 0)

/-- A value, or a free one of so many bits where the manual states none.
Log entries 17: DESIGN CHOICE, safe; 57: DEDUCED, safe. -/
def State.orDraw (s : State) (x : Option Nat) (width : Nat) : Nat × State :=
  match x with
  | some n => (n, s)
  | none =>
    let (v, s) := s.draw
    (v.toNat % 2 ^ width, s)

/-- TICK_MILL_LOAD and TICK_DRAM_LOAD: highest course and pair load of one unit. -/
def State.noteLoad (s : State) (n : RegName) (i kind unit : Nat) (cs : List Budget) : State :=
  let (a, s) := s.orDraw (highestLoad 10 (cs.filter fun c => c.kind = kind && c.unit = unit)) 10
  let (b, s) := s.orDraw (highestLoad 10 (cs.filter fun c => c.kind = kind + 1 && c.unit = unit)) 10
  s.setReg n i 0 (BitVec.ofNat 32 (a + b * 2 ^ 16))

/-- The load registers of every mill and channel after a run that came to items 2 to 5. -/
def State.noteLoads (s : State) (cs : List Budget) : State :=
  if cs.isEmpty then s
  else
    let s := (List.range 64).foldl (fun s m => s.noteLoad .tickMillLoad m 1 m cs) s
    let on := s.activeChans
    (List.range 16).foldl (fun s n =>
      if on.contains n then s.noteLoad .tickDramLoad n 3 (on.headD 0) cs else s.setReg .tickDramLoad n 0 0) s

/-- Writes what a run found (R81): RESULT, and the failure or the highest load. Answers course and load.
Log entry 17: DESIGN CHOICE, safe. -/
def State.noteRun (s : State) (result : Nat) (fail : Option Budget) (cs : List Budget) : (Nat × Nat) × State :=
  let (course, s) := match fail with
    | some f => s.orDraw f.course 8
    | none => (0, s)
  let (load, s) := s.orDraw (match fail with
    | some f => f.load 16
    | none => highestLoad 16 cs) 16
  let kind := (fail.map (·.kind)).getD 0
  let unit := (fail.map (·.unit)).getD 0
  let count := (s.field .tickAdmStatus 0 0 24 8 + 1) % 256
  let s := s.setReg .tickAdmStatus 0 0
    (BitVec.ofNat 32 (result + kind * 16 + unit * 256 + course * 2 ^ 16 + count * 2 ^ 24))
  ((course, load), (s.setReg .tickAdmLoad 0 0 (BitVec.ofNat 32 load)).noteLoads cs)

/-! ### The placement of regions (R496) -/

/-- What one region needs: kind, owner and size. -/
abbrev Need := Nat × Nat × Nat

/-- Whether [a, a + n) meets a region. -/
def Region.meets (r : Region) (a n : Nat) : Bool := a < r.addr + r.size && r.addr < a + n

/-- The lowest address at which n bytes fit beside some regions: 0, or the end of one of them. -/
def lowestFit (limit n : Nat) (rs : List Region) : Option Nat :=
  (sortBy (fun a b => decide (a ≤ b)) (0 :: rs.map fun r => r.addr + r.size)).find? fun a =>
    a + n ≤ limit && !rs.any fun r => r.meets a n

/-- Places needs one after another beside the regions already there. -/
def placeBeside (limit : Nat) : List Region → List Need → Option (List Region)
  | rs, [] => some rs
  | rs, (k, o, n) :: ns =>
    match lowestFit limit n rs with
    | some a => placeBeside limit (rs ++ [{ kind := k, owner := o, addr := a, size := n }]) ns
    | none => none

/-- Places needs anew, one after another from an address on. -/
def placeAnew : Nat → List Need → List Region
  | _, [] => []
  | a, (k, o, n) :: ns => { kind := k, owner := o, addr := a, size := n } :: placeAnew (a + n) ns

/-- The region of a kind and an owner among some. -/
def regionOf (rs : List Region) (k o : Nat) : Option Region := rs.find? fun r => r.kind = k && r.owner = o

/-- The region that a need keeps: its own, or the store's at its start where shedding has shrunk it. -/
def keptRegion (rs : List Region) (shrunk : Bool) (n : Need) : Option Region :=
  match regionOf rs n.1 n.2.1 with
  | some r =>
    if r.size = n.2.2 then some r
    else if n.1 = 3 && shrunk && n.2.2 < r.size then some { r with size := n.2.2 }
    else none
  | none => none

/-- The regions of a configuration, from those in force in `s`.
Log entry 78: DEDUCED, unsafe. -/
def State.place (s cfg : State) : List Region :=
  let ns := cfg.regionNeeds
  let kept := ns.filterMap (keptRegion s.tick.regions cfg.rcl.shrunk.isSome)
  let new := ns.filter fun n => (regionOf kept n.1 n.2.1).isNone
  if s.tick.remap then placeAnew 0 ns
  else match placeBeside cfg.capacity kept new with
    | some rs => rs
    | none => placeAnew 0 ns

/-! ### A commit (R71, R187) -/

/-- Completes a commit whose descriptor is still in execution, unless a function reset has come between (R258, R421). -/
def State.commitDone (s : State) (c : CommitRec) (status detail result : Nat) : State :=
  let x := s.ring c.ring
  if !c.mute && x.inc = c.inc && x.busy then
    s.complete c.ring 0x04 c.opTag.toNat c.evt status detail result
  else s

/-- An event of a commit. -/
def State.commitEvent (s : State) (c : CommitRec) (type : Nat) (fs : List (Nat × Nat)) : State :=
  if c.mute then s else s.raise type fs

/-- Admission accepts a commit: its trays are ARMED for the common edge, `edges` edges away. -/
def State.acceptCommit (s cfg : State) (c : CommitRec) (edges : Nat) : State :=
  let ((_, _), s) := s.noteRun 1 none cfg.judged
  let n := s.nextEdge + edges - 1
  let s := s.setTrays .armed (decide (1 < c.trays.length)) c.trays
  let s := { s with tick := { s.tick with armed := s.tick.armed ++ [{ c with edges := edges, ends := true }]
                                          nextRegions := some (s.place cfg) } }
  (s.commitEvent c 0x0101 [(2, c.ring), (1, cfg.cycleLength - 1), (5, 0)]).commitDone c 0 0 (n % 2 ^ 32)

/-- Admission rejects a commit: its trays are OPEN again, and nothing else changes. -/
def State.rejectCommit (s : State) (c : CommitRec) (f : Budget) (cs : List Budget) : State :=
  let ((course, load), s) := s.noteRun 2 (some f) cs
  let s := s.setTrays .openTray false c.trays
  (s.commitEvent c 0x0102 [(1, f.kind), (1, f.unit), (1, course), (1, 0), (2, load), (2, c.ring)]).commitDone c 4
    (f.kind + 256 * f.unit) (load + course * 2 ^ 16)

/-- A run on the oldest commit that waits. Where a budget fails and there is no common edge either, the budget is reported.
Log entries 40: DEDUCED, unsafe; 105: DESIGN CHOICE, unsafe. -/
def State.judgeCommit (s : State) (c : CommitRec) : State :=
  let cfg := s.commitConfig c
  let ts := c.trays.filter (· < 512)
  if s.lacksReplay cfg then s.rejectCommit c kind9 []
  else match cfg.failure, s.commonEdge ts with
    | some f, _ => s.rejectCommit c f cfg.judged
    | none, some e => s.acceptCommit cfg c e
    | none, none => s.rejectCommit c kind9 []

/-! ### Shedding (R73) -/

/-- The smallest effective size at which R238 holds for every recall wall, in units of 16 MiB. -/
def State.recallLeast (s : State) : Nat :=
  ((s.wallsOn.filter fun w => wGet (s.wBank w) WW.rclEn ≠ 0).map fun w =>
    max 1 (ceilDiv (2 * roundUp (128 + wallSize (s.wBank w)) 4096) (2 ^ 24))).foldl max 0

/-- The largest smaller size of the recall store that the capacity leaves room for. -/
def State.recallRoom (s : State) : Nat :=
  let other := sumOf ((s.regionNeeds.filter fun n => n.1 < 2).map (·.2.2))
    + roundUp (2 * (s.relayBytes 0 + s.relayBytes 1)) 4096
  min (s.recallSize - 1) ((9 * s.capacity / 10 - other) / 2 ^ 24)

/-- One shedding step is marked, and raises event 0x0105.
Log entry 75: DEDUCED, unsafe. -/
def State.shedStep (s : State) (step new field : Nat) : State :=
  ({ s.markShed with tick := { s.tick with shed := true, shedSeen := true } }.action .auto 15 step new).raise 0x0105
    [(1, step), (2, field), (5, 0)]

/-- Sets the effective size of the recall store.
Log entry 75: DEDUCED, unsafe. -/
def State.shrinkTo (s : State) (k : Nat) : State := { s with rcl := { s.rcl with shrunk := some k } }

/-- Step 1: the store shrinks to the largest size that lets admission accept, or to the smallest.
Log entry 75: DEDUCED, unsafe. -/
def State.shedRecall (s : State) : State :=
  let cfg := s.standing
  let least := cfg.recallLeast
  if !cfg.recallCharged || cfg.recallSize ≤ least then s
  else
    let k := max least cfg.recallRoom
    let k := if (cfg.shrinkTo k).failure.isNone then k else least
    (s.shrinkTo k).shedStep 1 0 0

/-- Step 2, in the order of `ports`, until admission accepts.
Log entry 75: DEDUCED, unsafe. -/
def State.shedTnr (s : State) : List Nat → State
  | [] => s
  | i :: is =>
    if s.standing.failure.isNone then s
    else ({ s with tick := { s.tick with shedPorts := s.tick.shedPorts ++ [i] } }.shedStep 2 (s.portAddr i)
      (s.portAddr i)).shedTnr is

/-- Step 3, in the order of `walls`. -/
def State.shedWalls (s : State) : List Nat → State
  | [] => s
  | w :: ws =>
    if s.standing.failure.isNone then s
    else ({ s with tick := { s.tick with shedWalls := s.tick.shedWalls ++ [w] } }.shedStep 3 w w).shedWalls ws

/-- Walls by ascending PRIO, and within it by descending index. -/
def State.shedOrder (cfg : State) : List Nat :=
  sortBy (fun a b => let pa := wGet (cfg.wBank a) WW.prio
    let pb := wGet (cfg.wBank b) WW.prio
    decide (pa < pb) || (pa = pb && decide (b ≤ a))) cfg.wallsOn

/-- Sheds until admission accepts, or all is shed. -/
def State.shedAll (s : State) : State :=
  if s.standing.failure.isNone then s
  else
    let s := s.shedRecall
    let s := s.shedTnr s.standing.tnrPorts.reverse
    s.shedWalls s.standing.shedOrder

/-! ### A change of capacity (R73, R247, R320, R347, R370) -/

/-- A gate list is not taken: its change is dropped.
Log entry 76: DEDUCED, unsafe. -/
def State.dropGates (s : State) (x : Nat) : State := s.setField .ethGclCtl x 0 1 1 0

/-- Whether the gate change of split port x can never be accepted: the port does not exist, or the list is longer than a
course (R308, R319).
Log entry 76: DEDUCED, unsafe. -/
def State.gatesBad (s : State) (x : Nat) : Bool := !s.splitExists x || s.gateTooLong x

/-- The end of a run without a commit that admission accepts. -/
def State.acceptCapacity (s : State) (res : Nat) (gates : List Nat) : State :=
  let cfg := s.standing
  let (_, s) := s.noteRun res none cfg.judged
  let s := gates.foldl (fun s x => s.gateAccepted x (if res = 3 then 2 else 1)) s
  { s with tick := { s.tick with nextRegions := some (s.place cfg), placeNow := true, placeClock := s.clock } }

/-- A run on a change of capacity, gate lists among them. A shed state that an ARMED commit is to end stays to be ended
if the whole still fits.
Log entries 40: DEDUCED, unsafe; 76: DEDUCED, unsafe. -/
def State.judgeCapacity (s : State) : State :=
  let gates := s.tick.gateRuns
  let s := { s with tick := { s.tick with capacity := false, gateRuns := [] } }
  if s.tick.armed.any (·.ends) && s.standing.unshed.failure.isNone then s.acceptCapacity 1 gates
  else
    let stay := fun (c : CommitRec) => { c with ends := false }
    let s := { s with tick := { s.tick with armed := s.tick.armed.map stay } }
    let s := s.shedAll
    match s.standing.failure with
    | none => s.acceptCapacity (if s.tick.shed then 3 else 1) gates
    | some f =>
      let cs := s.standing.judged
      let (_, s) := s.noteRun 2 (some f) cs
      gates.foldl (fun s x => s.dropGates x) s

/-- A run on a gate list that cannot be accepted.
Log entry 76: DEDUCED, unsafe. -/
def State.rejectGates (s : State) (x : Nat) : State :=
  let s := { s with tick := { s.tick with gateRuns := s.tick.gateRuns.filter (· ≠ x) } }
  let f := if s.splitExists x then { kind9 with kind := 6, unit := x } else kind9
  (s.noteRun 2 (some f) []).2.dropGates x

/-- ADMISSION_RUN (R71, R73): a change of capacity goes before the oldest commit that waits.
Log entry 40: DEDUCED, unsafe. -/
def execAdmissionRun (s : State) : Host.Outcome State Fault Refusal :=
  effect (fun s =>
    if s.power.pstate = .keep || s.power.pstate = .reset then s
    else match s.tick.gateRuns.find? s.gatesBad, s.tick.judging with
      | some x, _ => s.rejectGates x
      | none, cs =>
        if s.tick.capacity || !s.tick.gateRuns.isEmpty then s.judgeCapacity
        else match cs with
          | [] => s
          | c :: cs => { s with tick := { s.tick with judging := cs } }.judgeCommit c) s

end Sys2Proof.Machine
end

