-- ==== Sys2Proof/Machine/Chain.lean ====
section
/-!
DEFINITION. The chain (16): HELLO and its aggregates, inauguration and epochs, isolation, chain time, remote frames and
their relay, and alarms.
-/
namespace Sys2Proof.Machine

/-! ### Fields -/

/-- n bytes of a packet's header or payload from byte i. -/
def numAt {w : Nat} (v : BitVec w) (i n : Nat) : Nat := v.toNat / 2 ^ (8 * i) % 2 ^ (8 * n)

/-- The fields of a packet header (R327). -/
def hdrHop (h : BitVec 128) : Nat := numAt h 1 1
def hdrOrig (h : BitVec 128) : Nat := numAt h 2 1
def hdrLast (h : BitVec 128) : Bool := (numAt h 3 1).testBit 0
def hdrTick (h : BitVec 128) : Nat := numAt h 8 8

/-- Whether the chain function runs (R329). -/
def State.chainOn (s : State) : Bool := s.flag .chnCfg 0 0 0 && !s.dark

/-- Whether this device leads. -/
def State.leads (s : State) : Bool := s.flag .chnCfg 0 0 1

/-- Whether packets of the relayed types pass port x: LINKED and not blocked (R334). -/
def State.chainOpen (s : State) (x : Nat) : Bool := (s.cport x).linked && !(s.cport x).blocked

/-- Field-wise least of two version words (R328).
Log entry 83: DEDUCED, unsafe. -/
def verMin (a b : Word) : Word :=
  BitVec.ofNat 32 (min (bitsOf a 0 16) (bitsOf b 0 16) + min (bitsOf a 16 16) (bitsOf b 16 16) * 65536)

/-- Whether a floor exceeds agreed versions in either field (R341). -/
def floorAbove (floor aver : Word) : Bool :=
  bitsOf aver 0 16 < bitsOf floor 0 16 || bitsOf aver 16 16 < bitsOf floor 16 16

/-- COUNT and MINVER of the HELLO last received on a port, where its aggregates count (R330, R334). -/
def ChainPort.counts (p : ChainPort) : Bool := p.peer && !p.blocked
def ChainPort.count (p : ChainPort) : Nat := if p.counts then numAt p.hello 10 1 else 0
def ChainPort.minVer (p : ChainPort) : Word := if p.counts then BitVec.ofNat 32 (numAt p.hello 20 4) else 0xFFFFFFFF

/-- Agreed versions as the digest takes them (R340).
Log entry 83: DEDUCED, unsafe. -/
def State.digestVer (s : State) : Word :=
  if s.isKey then s.boot.version else s.chain.aver.getD s.boot.version

/-- The device's digest (R340).
Log entry 83: DEDUCED, unsafe. -/
def State.digest (s : State) : Word :=
  (crc32 (leBytes 4 (s.reg .tickPeriodNs).toNat ++ leBytes 4 (s.reg .tickPhaseNs).toNat
    ++ [BitVec.ofNat 8 (s.field .tickCfg 0 0 0 2), 0] ++ leBytes 4 s.digestVer.toNat ++ [0, 0]))

/-- AVER at the keystone (R341).
Log entry 83: DEDUCED, unsafe. -/
def State.agreed (s : State) : Word := verMin s.boot.version (verMin (s.cport 0).minVer (s.cport 1).minVer)

/-! ### HELLO (R328, R330) -/

/-- The HELLO that goes out on port x. -/
def State.helloFor (s : State) (x : Nat) : List Byte :=
  let c := s.chain
  let far := s.cport (1 - x)
  let iso := c.role = 3
  let flags := bit s.leads + 2 * bit iso + 4 * s.level + 32 * bit c.vexcl
  let dl := min (if iso then 7 else s.level) far.dlevel
  let mv := if c.vexcl then far.minVer else verMin s.boot.version far.minVer
  leBytes 8 Config.deviceId.toNat ++ [BitVec.ofNat 8 flags, BitVec.ofNat 8 dl, BitVec.ofNat 8 (min 63 (1 + far.count)),
      if c.slotValid then c.slot else 0xFF]
    ++ leBytes 4 s.boot.version.toNat ++ leBytes 4 s.boot.floor.toNat ++ leBytes 4 mv.toNat ++ leBytes 4 0
    ++ leBytes 4 (if c.aver.isSome || s.isKey then s.digest.toNat else 0)

/-- HELLO_SEND (R327, R330). -/
def execHelloSend (s : State) : Host.Outcome State Fault Refusal :=
  effect (fun s =>
    if !s.chainOn then s
    else (List.range 2).foldl (fun s x =>
      if (s.cport x).linked then s.sendChain x 1 0 s.orig 0 s.now (s.helloFor x) else s) s) s

/-! ### INAUG and epochs (R331, R332) -/

/-- The INAUG payload of an epoch (R328). -/
def State.inaugBody (s : State) (e : EpochRec) (addr : Nat) (iso : Bool) (side digest : Nat) : List Byte :=
  leBytes 8 e.key.toNat ++ leBytes 2 e.epoch.toNat ++ [BitVec.ofNat 8 addr, BitVec.ofNat 8 (bit iso + 2 * side)]
    ++ leBytes 4 digest ++ leBytes 4 e.agreed.toNat ++ leBytes 8 e.nEff.toNat
    ++ [BitVec.ofNat 8 s.clevel, e.nmem, e.na, 0]

/-- The keystone, or an isolated lead with ISO, sends INAUG on its ports (R331, R343). -/
def State.sendInaug (s : State) : State :=
  let iso := !s.isKey
  if !s.chainOn || !(s.isKey || (s.chain.role = 3 && s.leads)) then s
  else (List.range 2).foldl (fun s x =>
    if s.chainOpen x then
      let e := { s.chain.told with key := Config.deviceId }
      let addr := if x = 0 then 1 else e.na.toNat + 1
      s.sendChain x 2 0 s.orig 0 s.now (s.inaugBody e addr iso x s.digest.toNat)
    else s) s

/-- What a keystone's epoch rests on (R332). The aggregates of a blocked port are ignored (R334): they stand as they were.
Log entry 82: DEDUCED, unsafe. -/
def State.epochBasis (s : State) : List Nat :=
  [s.agreed.toNat, s.digest.toNat, bit (s.cport 0).peer, bit (s.cport 1).peer] ++ (List.range 2).flatMap fun x =>
    let p := s.cport x
    if p.blocked then (s.chain.basis.drop (4 + 2 * x)).take 2
    else [p.count, if p.counts then numAt p.hello 8 1 / 2 % 2 + numAt p.hello 8 1 / 32 % 2 * 2 else 0]

/-- The address from a tick on (R24). -/
def State.setAddr (s : State) (tick : Nat) (a : BitVec 5) : State :=
  { s with chain := { s.chain with addr := a, addrs := (tick, a) :: s.chain.addrs } }

/-- The role changes, and with it TB1's source (R42): a member that is to follow no base has lost it.
Log entry 85: DEDUCED, unsafe. -/
def State.setRole (s : State) (r : BitVec 2) : State :=
  let s := if s.chain.role = 2 && r ≠ 2 && s.field .timeCfg 1 0 0 3 = 2 && s.followed = none then s.baseLost 1 else s
  { s with chain := { s.chain with role := r } }.checkErrb 1

/-- Isolation begins, with its cause (R343): the event, the mark, and TB1's loss of chain time.
Log entries 64: DEDUCED, unsafe; 85: DEDUCED, unsafe. -/
def State.isolate (s : State) (cause : Nat) : State :=
  let c := s.chain
  if c.role = 3 && c.icause = BitVec.ofNat 4 cause then s
  else
    let was := c.role
    let s := if was = 2 && cause = 4 && s.field .timeCfg 1 0 0 3 = 2 then s.baseLost 1 else s
    let s := s.setRole 3
    let s := { s with chain := { s.chain with
      icause := BitVec.ofNat 4 cause, vexcl := cause = 2, timed := false, applyAt := none } }
    let s := if was = 1 || was = 2 then s.setAddr (s.now + 1) 0 else s
    (s.action .auto 14 cause 1).raise 0x0804 [(1, cause), (1, 1), (4, (s.reg .chnKdigest).toNat), (2, 0)]

/-- Isolation ends: the event and the mark. The role is the caller's to set. -/
def State.endIsolation (s : State) : State :=
  let c := s.chain.icause.toNat
  let s := { s with chain := { s.chain with icause := 0, vexcl := false } }
  (s.action .auto 14 c 0).raise 0x0804 [(1, c), (1, 0), (4, (s.reg .chnKdigest).toNat), (2, 0)]

/-- The keystone starts an epoch (R332, R341).
Log entry 82: DEDUCED, unsafe. -/
def State.startEpoch (s : State) : State :=
  let s := (List.range 2).foldl (fun s x => s.setCport x { s.cport x with blocked := false }) s
  if floorAbove s.boot.floor s.agreed then s.isolate 2
  else
    let a := (s.cport 0).count
    let b := (s.cport 1).count
    let e : EpochRec :=
      { key := Config.deviceId, epoch := s.chain.told.epoch + 1, role := 1, addr := 0, agreed := s.agreed
        nEff := BitVec.ofNat 64 (s.now + 2), nmem := BitVec.ofNat 8 (1 + a + b), na := BitVec.ofNat 8 a }
    { s with chain := { s.chain with told := e, applyAt := some (s.now + 2), basis := s.epochBasis } }.sendInaug

/-- A keystone whose basis has changed starts a new epoch.
Log entry 82: DEDUCED, unsafe. -/
def State.checkEpoch (s : State) : State :=
  if s.isKey && s.epochBasis ≠ s.chain.basis then s.startEpoch else s

/-- INAUG_SEND (R331). -/
def execInaugSend (s : State) : Host.Outcome State Fault Refusal := effect (fun s => s.sendInaug) s

/-- EPOCH_APPLY (R332): at the edge of tick N_EFF, or at the next edge where that has passed.
Log entry 82: DEDUCED, unsafe. -/
def State.applyEpoch (s : State) : State :=
  let c := s.chain
  match c.applyAt with
  | none => s
  | some n =>
    if s.now < n then s
    else
      let e := c.told
      let s := if c.role = 3 then s.endIsolation else s
      let s := s.setRole e.role
      let s := { s with chain := { s.chain with
        epoch := e.epoch, nmem := e.nmem, na := e.na, applyAt := none
        timed := s.chain.timed && c.role = e.role, readyTimer := true, epochClock := s.clock } }
      let s := if e.role = 1 then
          { s with chain := { s.chain with slot := 0, slotValid := true, side := false, orient := false, taken := false } }
        else s
      let s := s.setAddr s.now e.addr
      let s := s.setReg .chnVerAgreed 0 0 (if e.role = 1 then s.boot.version else e.agreed)
      let s := s.action (if e.role = 1 then .auto else .peer 0) 13 (c.addr.toNat + 256 * c.role.toNat)
        (e.addr.toNat + 256 * e.role.toNat)
      (s.noteTimed).raise 0x0803 [(1, e.role.toNat), (1, s.chain.slot.toNat), (1, bit s.chain.orient + 2 * bit s.chain.side),
        (1, e.nmem.toNat), (2, e.epoch.toNat), (2, 0)]

def execEpochApply (s : State) : Host.Outcome State Fault Refusal :=
  effect (fun s => if s.chainOn then s.applyEpoch.checkEpoch else s) s

/-- Clocks of 100 ms (R31). -/
def clocks100ms : Nat := 125000000

/-- KDEVIDs of the non-ISO INAUGs of the last 100 ms (R331). -/
def State.keysHeard (s : State) : List (BitVec 64) :=
  (s.chain.heard.filter fun e => decide (s.clock - e.2 < clocks100ms)).map (·.1)

/-- A lead that has heard no foreign INAUG for 100 ms becomes the keystone with an epoch that it starts (R329, R332), unless its
floor exceeds AVER (R341).
Log entry 82: DEDUCED, unsafe. -/
def State.becomeKeystone (s : State) : State :=
  let c := s.chain
  let quiet := s.keysHeard.isEmpty && match c.foreign with
    | some t => decide (clocks100ms ≤ s.clock - t)
    | none => true
  if !s.chainOn || !s.leads || s.isKey || !quiet then s else s.startEpoch

/-- BECOME_KEYSTONE (R329, R343). -/
def execBecomeKeystone (s : State) : Host.Outcome State Fault Refusal := effect State.becomeKeystone s

/-! ### Receiving INAUG (R331 to R334, R343) -/

/-- An INAUG goes on out of port y with ADDR + 1 and HOP + 1.
Log entry 81: DEDUCED, unsafe. -/
def State.relayInaug (s : State) (y : Nat) (hdr : BitVec 128) (p : BitVec 256) : State :=
  if s.chainOpen y then
    let b := leBytes 32 p.toNat
    s.sendChain y 2 (hdrHop hdr + 1) (hdrOrig hdr) (numAt hdr 3 1) (hdrTick hdr)
      (b.take 10 ++ [byteAt b 10 + 1] ++ b.drop 11)
  else s

/-- What a device makes of an INAUG it takes: the cause for which it isolates, or none.
Log entry 81: DEDUCED, unsafe. -/
def State.disagreement (s : State) (addr : Nat) (kdigest aver : Word) : Option Nat :=
  if s.digest ≠ kdigest then some 1
  else if floorAbove s.boot.floor aver then some 2
  else if 31 < addr then some 5
  else none

/-- A device takes an INAUG on port x.
Log entry 81: DEDUCED, unsafe. -/
def State.takeInaug (s : State) (x : Nat) (hdr : BitVec 128) (p : BitVec 256) : State :=
  let addr := numAt p 10 1
  let aver := BitVec.ofNat 32 (numAt p 16 4)
  let kd := BitVec.ofNat 32 (numAt p 12 4)
  let ok := addr ≤ 31
  let s := { s with chain := { s.chain with
    taken := true, takenClock := s.clock, orient := decide (x = 1), side := (numAt p 11 1).testBit 1
    clevel := BitVec.ofNat 3 (numAt p 28 1), slot := if ok then BitVec.ofNat 8 addr else s.chain.slot
    slotValid := ok } }
  let s := s.noteReady.relayInaug (1 - x) hdr p
  let e : EpochRec :=
    { key := BitVec.ofNat 64 (numAt p 0 8), epoch := BitVec.ofNat 16 (numAt p 8 2), role := 2, addr := BitVec.ofNat 5 addr
      agreed := aver, nEff := BitVec.ofNat 64 (numAt p 20 8), nmem := BitVec.ofNat 8 (numAt p 29 1)
      na := BitVec.ofNat 8 (numAt p 30 1) }
  match s.disagreement addr kd aver with
  | some cause => { s with chain := { s.chain with told := e } }.isolate cause
  | none =>
    let at0 := if s.now < e.nEff.toNat then e.nEff.toNat else s.now + 1
    if s.chain.applyAt.isSome && s.chain.told = e then s
    else if s.chain.role = 2 && s.chain.told = e then s
    else { s with chain := { s.chain with told := e, applyAt := some at0 } }

/-- What every INAUG leaves: KDIGEST and AVER of the last one received (R340), and the port on which it arrived first, a new epoch
ending the blocks (R334). -/
def State.noteInaug (s : State) (x : Nat) (p : BitVec 256) : State :=
  let key := BitVec.ofNat 64 (numAt p 0 8)
  let ep := BitVec.ofNat 16 (numAt p 8 2)
  let s := (s.setReg .chnKdigest 0 0 (BitVec.ofNat 32 (numAt p 12 4)))
  let s := { s with chain := { s.chain with aver := some (BitVec.ofNat 32 (numAt p 16 4)) } }
  if s.chain.seen.any fun e => e.1 = key && e.2.1 = ep then s
  else
    let s := (List.range 2).foldl (fun s y => s.setCport y { s.cport y with blocked := false }) s
    { s with chain := { s.chain with seen := (key, ep, x) :: s.chain.seen.filter (·.1 ≠ key) } }

/-- Whether the INAUG of one KDEVID and EPOCH has arrived on the other port before (R334). -/
def State.inaugLoops (s : State) (x : Nat) (p : BitVec 256) : Bool :=
  s.chain.seen.any fun e => e.1 = BitVec.ofNat 64 (numAt p 0 8) && e.2.1 = BitVec.ofNat 16 (numAt p 8 2) && e.2.2 ≠ x

/-- An INAUG arrives on port x.
Log entries 81: DEDUCED, unsafe; 88: DEDUCED, unsafe. -/
def State.inaug (s : State) (x : Nat) (hdr : BitVec 128) (p : BitVec 256) : State :=
  let key := BitVec.ofNat 64 (numAt p 0 8)
  let iso := (numAt p 11 1).testBit 0
  if !s.chainOn || !s.chainOpen x then s
  else if key = Config.deviceId then
    if s.leads then s.setCport x { s.cport x with blocked := true } else s
  else
    let s := s.noteInaug x p
    if s.inaugLoops x p then s.setCport x { s.cport x with blocked := true }
    else
      let others := s.chain.heard.filter fun h => h.1 ≠ key && decide (s.clock - h.2 < clocks100ms)
      let s := if iso then s else { s with chain := { s.chain with heard := (key, s.clock) :: others } }
      if s.leads then
        let s := { s with chain := { s.chain with foreign := some s.clock } }
        ((s.isolate 3).relayInaug (1 - x) hdr p).sendInaug
      else if iso || s.keysHeard.any (· ≠ key) then s.relayInaug (1 - x) hdr p
      else s.takeInaug x hdr p

def execInaugReceived (x : Fin 2) (hdr : BitVec 128) (payload : BitVec 256) (s : State) :
    Host.Outcome State Fault Refusal :=
  effect (fun s => s.inaug x.val hdr payload) s

/-- INAUG_TIMEOUT (R343): a member has taken no INAUG, none or none consistent having come, for 100 ms. -/
def execInaugTimeout (s : State) : Host.Outcome State Fault Refusal :=
  effect (fun s =>
    if s.chainOn && s.chain.role = 2 && decide (clocks100ms ≤ s.clock - s.chain.takenClock) then s.isolate 4 else s) s

/-! ### Links and peers (R326) -/

/-- A port stops being PEER: cause 1 lock lost, 2 HELLO timeout, 3 EN cleared. -/
def State.losePeer (s : State) (x cause : Nat) : State :=
  if (s.cport x).peer then
    (s.setCport x { s.cport x with peer := false }).raise 0x0802 [(1, x), (1, cause), (6, 0)]
  else s

/-- A port becomes or stops being LINKED. -/
def State.setLinked (s : State) (x : Nat) (on : Bool) : State :=
  let p := s.cport x
  if p.linked = on then s
  else if on then s.setCport x { p with linked := true, skew := [], nextSeq := none, partialPacket := none }
  else
    let s := s.losePeer x 1
    let s := s.setCport x { s.cport x with linked := false, blocked := false, skew := [], nextSeq := none
                                           partialPacket := none, t1 := none }
    { s with chain := { s.chain with seen := s.chain.seen.filter fun e => e.2.2 ≠ x } }.checkEpoch

/-- CHAIN_LINK_CHANGE (R326). -/
def execChainLinkChange (x : Fin 2) (locked : Bool) (s : State) : Host.Outcome State Fault Refusal :=
  effect (fun s =>
    if !s.chainOn || s.dark then s
    else
      let p := s.cport x.val
      let l := (List.range 2).foldl (fun (ls : Store ChainLane) i => Store.modify {} ls i fun y =>
        { y with lock := locked, good := if locked then 3 else 0, badRun := 0, seqRun := 0 }) p.lanes
      (s.setCport x.val { p with lanes := l }).setLinked x.val locked) s

/-- A valid HELLO (R326). -/
def State.helloIn (s : State) (x : Nat) (payload : BitVec 256) : State :=
  if !s.chainOn || !(s.cport x).linked then s
  else
    let was := (s.cport x).peer
    let s := s.setCport x { s.cport x with hello := payload, helloClock := s.clock, peer := true }
    let s := if was then s else s.raise 0x0801 [(1, x), (1, numAt payload 10 1), (6, 0)]
    s.noteReady.checkEpoch

def execHelloReceived (x : Fin 2) (payload : BitVec 256) (s : State) : Host.Outcome State Fault Refusal :=
  effect (fun s => s.helloIn x.val payload) s

/-- HELLO_TIMEOUT (R326): 10 ms have passed since the last HELLO. -/
def execHelloTimeout (x : Fin 2) (s : State) : Host.Outcome State Fault Refusal :=
  effect (fun s =>
    if (s.cport x.val).peer && decide (12500000 ≤ s.clock - (s.cport x.val).helloClock) then (s.losePeer x.val 2).checkEpoch
    else s) s

/-- READINESS_TIMEOUT (R343): RDY_TMO seconds have passed since the epoch, which 0 never does. -/
def execReadinessTimeout (s : State) : Host.Outcome State Fault Refusal :=
  effect (fun s =>
    let tmo := s.field .chnCfg 0 0 8 8
    if s.chainOn && s.chain.readyTimer && s.clevel < 4 && tmo ≠ 0 && decide (tmo * 1250000000 ≤ s.clock - s.chain.epochClock) then
      { s with chain := { s.chain with readyTimer := false } }.raise 0x0806 [(1, s.clevel), (7, 0)]
    else s) s

/-! ### Chain time (R337, R338) -/

/-- The port that faces the keystone. -/
def Chain.toward (c : Chain) : Nat := bit c.orient

/-- TIME of this device on port x (R328).
Log entry 87: DEDUCED, unsafe. -/
def State.sendTime (s : State) (x : Nat) : State :=
  if s.chainOpen x then
    s.sendChain x 3 (s.hops 0) s.orig 0 s.now
      (bytesOf 16 s.stamp ++ leBytes 4 (s.errNs 1) ++ [BitVec.ofNat 8 s.clevel] ++ leBytes 11 0)
  else s

/-- TIME_SEND (R337): on each port facing away from the keystone. -/
def execTimeSend (s : State) : Host.Outcome State Fault Refusal :=
  effect (fun s =>
    if !s.chainOn then s
    else if s.chain.role = 1 then (s.sendTime 0).sendTime 1
    else if s.chain.role = 2 then s.sendTime (1 - s.chain.toward)
    else s) s

/-- d_in of port x (R337). -/
def State.delayIn (s : State) (x : Nat) : Int := (s.reg .chnDelay x).toNat + (s.reg .chnAsym x).toInt

/-- A TIME packet on port x, its first symbol at TB1 `rx` (R337): a source update of a member's TB1, from the port that faces
the keystone; or the relay of an isolated device, with its residence time, which nothing fixes.
Log entries 85: DEDUCED, unsafe; 87: DESIGN CHOICE, safe. -/
def State.timeIn (s : State) (x : Nat) (hdr : BitVec 128) (p : BitVec 256) (rx : Nat) : State :=
  let tx : Int := stampSubns (BitVec.ofNat 128 (numAt p 0 16))
  let src := tx + s.delayIn x
  let err := numAt p 16 4
  if !s.chainOn || !s.chainOpen x then s
  else if s.chain.role = 2 && s.chain.toward = x then
    let s := { s with chain := { s.chain with clevel := BitVec.ofNat 3 (numAt p 20 1) } }
    let s := s.noteReady
    if s.takesUpdates 1 then s.servo 1 (src - rx) (err + 1) else s
  else if s.chain.role = 3 then
    let s := { s with chain := { s.chain with clevel := BitVec.ofNat 3 (numAt p 20 1) } }
    if s.chainOpen (1 - x) then
      let (r, s) := s.draw
      s.sendChain (1 - x) 3 (hdrHop hdr + 1) (hdrOrig hdr) (numAt hdr 3 1) (hdrTick hdr)
        (bytesOf 16 (timeValue (src + (r.toNat % 2 ^ 32 : Nat)).toNat (numAt p 6 2)) ++ leBytes 4 (min 0xFFFFFFFF (err + 1))
          ++ (leBytes 32 p.toNat).drop 20)
    else s
  else s

def execTimeReceived (x : Fin 2) (hdr : BitVec 128) (payload : BitVec 256) (dt : Nat) (s : State) :
    Host.Outcome State Fault Refusal :=
  effect (fun s =>
    let s := s.elapse dt
    s.timeIn x.val hdr payload s.tb1.subns) s

/-- DELAY_REQ_SEND (R327, R337): on the port that faces the keystone, which a device without an address has too (R333). -/
def execDelayReqSend (dt : Nat) (s : State) : Host.Outcome State Fault Refusal :=
  effect (fun s =>
    let s := s.elapse dt
    let x := s.chain.toward
    if !s.chainOn || s.chain.role = 1 || !s.chain.taken || !(s.cport x).linked then s
    else (s.setCport x { s.cport x with t1 := some s.tb1.subns }).sendChain x 4 0 s.orig 0 s.now []) s

/-- A DELAY_REQ on port x, its first symbol at TB1 `rx`, is answered `ahead` clocks from now (R328, R331). -/
def State.delayReq (s : State) (x rx ahead : Nat) : State :=
  if s.chainOn && (s.cport x).linked then
    s.sendChain x 5 0 s.orig 0 s.now (bytesOf 16 (timeValue rx (s.tb1.tag 1)) ++ bytesOf 16 (s.stampAhead ahead))
  else s

def execDelayReqReceived (x : Fin 2) (dt : Nat) (s : State) : Host.Outcome State Fault Refusal :=
  effect (fun s =>
    let s := s.elapse dt
    s.delayReq x.val s.tb1.subns 0) s

/-- A DELAY_RSP on port x, received at TB1 `t4` (R337). -/
def State.delayRsp (s : State) (x : Nat) (p : BitVec 256) (t4 : Nat) : State :=
  match (s.cport x).t1 with
  | none => s
  | some t1 =>
    let t2 : Int := stampSubns (BitVec.ofNat 128 (numAt p 0 16))
    let t3 : Int := stampSubns (BitVec.ofNat 128 (numAt p 16 16))
    let d := quot (((t4 : Int) - t1) - (t3 - t2)) 2
    (s.setCport x { s.cport x with t1 := none }).setReg .chnDelay x 0 (BitVec.ofInt 32 d)

def execDelayRspReceived (x : Fin 2) (payload : BitVec 256) (dt : Nat) (s : State) :
    Host.Outcome State Fault Refusal :=
  effect (fun s =>
    let s := s.elapse dt
    if s.chainOn && (s.cport x.val).linked then s.delayRsp x.val payload s.tb1.subns else s) s

/-! ### Remote frames (R344 to R346) -/

/-- Bytes of DATA in a full piece. -/
def pieceSize : Nat := 16384

/-- A frame record in pieces, from piece n on; `fuel` bounds their number. -/
def State.sendPieces (s : State) (x w tick n : Nat) : Nat → List Byte → State
  | 0, _ => s
  | f + 1, bs =>
    let rest := bs.drop pieceSize
    let body := [BitVec.ofNat 8 w, 0] ++ leBytes 2 n ++ leBytes 4 (n * pieceSize) ++ bs.take pieceSize
    let s := s.sendChain x 6 0 s.orig (bit rest.isEmpty) tick body
    if rest.isEmpty then s else s.sendPieces x w tick (n + 1) f rest

/-- A wall frame is offered to chain port x (R344). An isolated device drops it, as with CLEVEL below 4 (R343).
Log entry 86: DEDUCED, unsafe. -/
def State.chainFrame (s : State) (x w tick : Nat) (header image : List Byte) : State :=
  let n := s.reg .chnSent x
  let s := s.setReg .chnSent x 0 (n + 1)
  let drop := fun (s : State) (cause : Nat) =>
    (s.bump .chnTxDrop x).raise 0x0809 [(1, x), (1, w), (1, cause), (1, 0), (4, tick)]
  if !(s.cport x).counts then drop s 1
  else if s.clevel < 4 || (s.chain.role ≠ 1 && s.chain.role ≠ 2) then drop s 2
  else s.sendPieces x w tick 0 (image.length / pieceSize + 2) (putSeq header 44 n ++ image)

/-- The remote entries of a wall whose producer and wall a piece names.
Log entry 86: DEDUCED, unsafe. -/
def State.takers (s : State) (orig rwall k : Nat) : List Nat :=
  (List.range 256).filter fun w =>
    let b := (s.wallAt w (k + s.hops orig)).1
    wGet b WW.en ≠ 0 && !s.tick.shedWalls.contains w &&
      (stonesOf b).any fun e => e.2.remote && e.2.src / 2048 = orig && e.2.rwall = rwall

/-- Whether wall w has a frame at the tick for which a piece of tick k from address orig is made (R219, R346). -/
def State.pieceDue (s : State) (w orig k : Nat) : Bool :=
  s.wallFrameAt (s.wallAt w (k + s.hops orig)).1 (k + s.hops orig)

/-- Adds a piece to the arrivals of a wall (R346).
Log entry 86: DEDUCED, unsafe. -/
def addPiece (rs : List RemoteIn) (orig rwall tick n : Nat) (data : List Byte) (last : Bool) : List RemoteIn :=
  let old := (rs.find? fun r => r.orig = orig && r.rwall = rwall && r.tick = tick).getD
    { orig := orig, rwall := rwall, tick := tick }
  let new := if old.nextPiece = n && !old.whole then
      { old with bytes := old.bytes ++ data, nextPiece := n + 1, whole := last } else old
  (rs.filter fun r => !(r.orig = orig && r.rwall = rwall && r.tick = tick)) ++ [new]

/-- A piece for this device's walls: taken while its wall frame is still to end, or discarded where no wall frame takes its TICK
(R346).
Log entry 86: DEDUCED, unsafe. -/
def State.remotePiece (s : State) (hdr : BitVec 128) (p : List Byte) : State :=
  let orig := hdrOrig hdr
  let rw := (byteAt p 0).toNat
  let k := hdrTick hdr
  let ws := s.takers orig rw k
  if ws.isEmpty || (s.chain.role ≠ 1 && s.chain.role ≠ 2) then s
  else if s.now ≤ k + s.hops orig && k + s.hops orig ≤ s.now + 1 && ws.any (s.pieceDue · orig k) then
    (ws.filter (s.pieceDue · orig k)).foldl (fun s w =>
      let was := (s.wall w).remotes
      let rs := addPiece was orig rw k (leAt p 2 2) (p.drop 8) (hdrLast hdr)
      let same := fun (r : RemoteIn) => r.orig = orig && r.rwall = rw && r.tick = k
      let s := s.setWall w { s.wall w with remotes := rs }
      match rs.find? same with
      | some r => s.remoteArrived w r (((was.find? same).map fun q => q.bytes.length).getD 0)
      | none => s) s
  else (s.bump .chnRemoteDisc).raise 0x0808 [(1, orig), (1, rw), (6, k)]

/-- A FRAME piece on port x (R345, R346): for this device's walls, and for the devices beyond. -/
def State.piece (s : State) (x : Nat) (hdr : BitVec 128) (p : List Byte) : State :=
  if !s.chainOn || !s.chainOpen x || s.dark then s
  else
    let s := s.remotePiece hdr p
    let y := 1 - x
    if (s.cport y).linked then
      s.setCport y { s.cport y with relay := (s.cport y).relay ++ [{ hdr := hdr, payload := p, arrived := s.now }] }
    else s

/-- FRAME_PIECE_RECEIVED. -/
def execFramePieceReceived (x : Fin 2) (hdr : BitVec 128) (payload : List Byte) (s : State) :
    Host.Outcome State Fault Refusal :=
  effect (fun s => s.piece x.val hdr payload) s

/-- The tick from whose edge a piece is relayed (R345). -/
def RelayPiece.due (r : RelayPiece) : Nat := hdrTick r.hdr + hdrHop r.hdr + 2

/-- Whether two pieces belong to one frame. -/
def RelayPiece.mates (a b : RelayPiece) : Bool :=
  hdrOrig a.hdr = hdrOrig b.hdr && hdrTick a.hdr = hdrTick b.hdr && byteAt a.payload 0 = byteAt b.payload 0

/-- Whether the frame of a piece was received whole before its edge: pieces 0 to the last, each once. -/
def wholeBefore (all : List RelayPiece) (r : RelayPiece) : Bool :=
  let ms := all.filter fun q => q.mates r && decide (q.arrived < r.due)
  match ms.find? fun q => hdrLast q.hdr with
  | some q =>
    let n := leAt q.payload 2 2
    (List.range (n + 1)).all fun i => ms.any fun m => leAt m.payload 2 2 = i
  | none => false

/-- One piece goes out of port x, or is dropped (R345).
Log entry 87: DEDUCED, unsafe. -/
def State.relayPiece (s : State) (x : Nat) (whole : Bool) (r : RelayPiece) : State :=
  let p := s.cport x
  let used := if p.relayTick = s.now then p.relayed else 0
  let n := r.payload.length + 20
  if !p.counts || !whole || (s.reg .chnRsv x).toNat < used + n then
    (s.bump .chnRelayDrop x).raise 0x0807
      [(1, x), (1, hdrOrig r.hdr), (1, (byteAt r.payload 0).toNat), (5, hdrTick r.hdr)]
  else
    (s.setCport x { p with relayed := used + n, relayTick := s.now }).sendChain x 6 (hdrHop r.hdr + 1) (hdrOrig r.hdr)
      (numAt r.hdr 3 1) (hdrTick r.hdr) r.payload

/-- Whether a staged piece comes back poisoned: between the retirement of a channel and the remap edge one may, and nothing says
which lie there (R371).
Log entry 87: DESIGN CHOICE, safe. -/
def State.stagingPoison (s : State) : Bool × State :=
  if s.active.any fun n => (s.chan n).state = .retired then
    let (v, s) := s.draw
    (v.toNat % 2 = 1, s)
  else (false, s)

/-- CHAIN_RELAY (R345): what is due goes out of port x in the order of arrival.
Log entry 87: DEDUCED, unsafe. -/
def execChainRelay (x : Fin 2) (s : State) : Host.Outcome State Fault Refusal :=
  effect (fun s =>
    if !s.chainOn || s.dark then s
    else
      let all := (s.cport x.val).relay
      let go := all.filter fun r => decide (r.due ≤ s.now)
      let s := s.setCport x.val { s.cport x.val with relay := all.filter fun r => decide (s.now < r.due) }
      go.foldl (fun s r =>
        let (poisoned, s) := s.stagingPoison
        s.relayPiece x.val (wholeBefore all r && !poisoned) r) s) s

/-! ### Alarms (R348) -/

/-- An ALARM on port x: relayed and acted on once for each ORIG and TF. -/
def State.alarm (s : State) (x : Nat) (hdr : BitVec 128) (p : BitVec 128) : State :=
  let orig := hdrOrig hdr
  let tf := numAt p 0 8
  if !s.chainOn || !s.chainOpen x || (orig = s.orig && orig ≠ 0xFF) || s.chain.alarms.contains (orig, tf) then s
  else
    let s := { s with chain := { s.chain with alarms := (orig, tf) :: s.chain.alarms } }
    let y := 1 - x
    let s := if (s.cport y).counts then
        s.sendChain y 7 (hdrHop hdr + 1) orig (numAt hdr 3 1) (hdrTick hdr) (leBytes 16 p.toNat) else s
    if s.level < 2 || !s.flag .wallRclCfg 0 0 30 then s
    else (s.trigger 3 orig (.peer (Fin.ofNat 32 orig)) (some tf)).2

def execAlarmReceived (x : Fin 2) (hdr : BitVec 128) (payload : BitVec 128) (s : State) :
    Host.Outcome State Fault Refusal :=
  effect (fun s => s.alarm x.val hdr payload) s

/-! ### Codewords (R325, R327) -/

/-- LEN that each packet type has, or none where the type is unknown.
Log entries 84: DEDUCED, unsafe; 88: DEDUCED, unsafe. -/
def lenOk (type len : Nat) : Bool :=
  match type with
  | 1 | 2 | 3 | 5 => len = 32
  | 4 => len = 0
  | 6 => 9 ≤ len && len ≤ 8 + pieceSize
  | 7 => len = 16
  | _ => false

/-- One packet whose CRC holds, its first symbol at TB1 `rx`, its last `ahead` clocks from now.
Log entries 84: DEDUCED, unsafe; 88: DEDUCED, unsafe. -/
def State.chainPacket (s : State) (x : Nat) (hdr : BitVec 128) (body : List Byte) (rx ahead : Nat) : State :=
  let p := BitVec.ofNat 256 (ofLe body)
  match numAt hdr 0 1 with
  | 1 => s.helloIn x p
  | 2 => s.inaug x hdr p
  | 3 => s.timeIn x hdr p rx
  | 4 => s.delayReq x rx ahead
  | 5 => s.delayRsp x p rx
  | 6 => s.piece x hdr body
  | _ => s.alarm x hdr (BitVec.ofNat 128 (ofLe body))

/-- Time clocks from a chain codeword's first symbol to payload byte j at 56 Gb/s. -/
def chainClocks (j : Nat) : Nat := (20 + 8 * j) * 5 / 224

/-- TB1 in subns at payload byte j of a codeword (R44). -/
def ChainWord.tb1At (w : ChainWord) (j : Nat) : Nat := (w.acc + chainClocks j * w.rate) / subnsUnits

/-- What is left of a packet that is not whole. -/
def State.keepChain (s : State) (x : Nat) (p : Option (List Byte × Nat)) : State :=
  s.setCport x { s.cport x with partialPacket := p }

/-- One packet with its CRC: taken, or discarded and counted (R327).
Log entries 84: DEDUCED, unsafe; 88: DEDUCED, unsafe. -/
def State.onePacket (s : State) (x : Nat) (hdr : BitVec 128) (bs : List Byte) (len rx ahead : Nat) : State :=
  if lenOk (numAt hdr 0 1) len && leAt bs (16 + len) 4 = (crc32 (bs.take (16 + len))).toNat then
    s.chainPacket x hdr ((bs.take (16 + len)).drop 16) rx ahead
  else s.bump .chnCrc x

/-- Takes packets off the payload of a codeword: `c` is what the codewords before it brought of the packet in progress, which
began at TB1 `rx`; `pos` is the place of the next byte, `last` the clock of the packet before, and `fuel` bounds the packets.
The packet in progress ends where the next begins at the latest: at FIRST (R86). It answers the clock of the last packet.
Log entry 84: DEDUCED, unsafe. -/
def State.chainPackets (s : State) (x : Nat) (w : ChainWord) (pos last : Nat) (c : List Byte) (rx : Nat) : Nat → Nat × State
  | 0 => (last, s)
  | n + 1 =>
    let rx := if c.isEmpty then w.tb1At pos else rx
    let bs := c ++ w.bytes.drop pos
    if bs.length < 16 then (last, s.keepChain x (if bs.isEmpty then none else some (bs, rx)))
    else
      let hdr := BitVec.ofNat 128 (leAt bs 0 16)
      let len := numAt hdr 4 4
      let next := pos + (20 + len - c.length)
      let lost := (s.bump .chnCrc x).keepChain x none
      let begins := if c.isEmpty then some next else w.first
      if begins.any (· < next) then lost.chainPackets x w (begins.getD next) last [] 0 n
      else if 8 + pieceSize < len then (last, lost)
      else if bs.length < 20 + len then (last, s.keepChain x (some (bs, rx)))
      else
        let at1 := max last (w.clock + chainClocks (next - 1) - s.clock)
        let s := (s.later last at1 fun s => s.onePacket x hdr bs len rx at1).keepChain x none
        match begins with
        | some f => s.chainPackets x w f at1 [] 0 n
        | none => (at1, s)

/-- A codeword in its turn: its payload continues a packet or begins at FIRST; one that did not decode loses the packet in
progress (R88, R327). -/
def State.chainWord (s : State) (x : Nat) (w : ChainWord) (last : Nat) : Nat × State :=
  if w.bytes.isEmpty then (last, (s.keepChain x none).bump .chnCrc x)
  else match (s.cport x).partialPacket, w.first with
    | some (c, rx), _ => s.chainPackets x w 0 last c rx (w.bytes.length + 32)
    | none, some f => s.chainPackets x w f last [] 0 (w.bytes.length + 32)
    | none, none => (last, s)

/-- Takes waiting codewords in the order of SEQ; `fuel` bounds their number. -/
def State.inOrder (s : State) (x last : Nat) : Nat → State
  | 0 => s
  | n + 1 =>
    let p := s.cport x
    match p.nextSeq with
    | none => s
    | some q =>
      match p.skew.find? fun w => w.seq = q with
      | none => s
      | some w =>
        let s := s.setCport x { p with skew := p.skew.filter fun v => v.seq ≠ q, nextSeq := some (q + 1) }
        let (last, s) := s.chainWord x w last
        s.inOrder x last n

/-- Whether both lanes of a port hold lock. -/
def ChainPort.locked (p : ChainPort) : Bool := (Store.get {} p.lanes 0).lock && (Store.get {} p.lanes 1).lock

/-- Whether a codeword of a lane shows that the lanes are not aligned: a SEQ of the other lane's parity, or four codewords of
skew, which R325 does not tolerate.
Log entry 84: DEDUCED, unsafe. -/
def ChainPort.apart (p : ChainPort) (lane : Nat) (w : ChainWord) : Bool :=
  w.seq.toNat % 2 ≠ lane || match (Store.get {} p.lanes (1 - lane)).lastSeq with
    | some o => o - w.seq = 7
    | none => false

/-- The codewords that wait once w of a lane has joined them: at most three of one lane before it. -/
def ChainPort.waiting (p : ChainPort) (lane : Nat) (w : ChainWord) : List ChainWord :=
  let mine := p.skew.filter fun v => v.seq.toNat % 2 = lane
  p.skew.filter (fun v => v.seq.toNat % 2 ≠ lane) ++ mine.drop (mine.length - 3) ++ [w]

/-- A codeword of a lane that holds lock joins the re-ordering (R325). A port with both locks is aligned, and so LINKED, from the
first codeword on that shows no more than three codewords of skew between its lanes, and until a fourth would have to wait
(R326). One that comes behind its turn is discarded.
Log entry 84: DEDUCED, unsafe. -/
def State.chainEnter (s : State) (x lane : Nat) (w : ChainWord) : State :=
  let p := s.cport x
  if !p.locked then s.setCport x { p with skew := p.waiting lane w }
  else match p.nextSeq with
    | none =>
      if p.apart lane w then
        let s := s.setLinked x false
        s.setCport x { s.cport x with skew := p.waiting lane w }
      else
        let s := s.setLinked x true
        (s.setCport x { s.cport x with
          nextSeq := some w.seq, skew := (p.waiting lane w).filter fun v => (v.seq - w.seq).toNat < 8 }).inOrder x 0 8
    | some q =>
      let k := (w.seq - q).toNat
      if 8 ≤ k then s
      else if w.seq.toNat % 2 ≠ lane || (k ≠ 0 && 3 ≤ (p.skew.filter fun v => v.seq.toNat % 2 = lane).length) then
        s.setLinked x false
      else (s.setCport x { p with skew := p.skew ++ [w] }).inOrder x 0 8

/-- The receiver of a lane is as given; a port without both locks is not LINKED (R326). -/
def State.setChainLane (s : State) (x lane : Nat) (y : ChainLane) : State :=
  let s := s.setCport x { s.cport x with lanes := Store.put {} (s.cport x).lanes lane y }
  if (s.cport x).locked then s else s.setLinked x false

/-- One codeword on a lane, its first symbol now: R88 with SEQ stepping by 2. -/
def State.chainCodeword (s : State) (x lane : Nat) (symbols : List (BitVec 10)) : State :=
  let l := Store.get {} (s.cport x).lanes lane
  let (r, st) := receiveCodeword l.scrambler.toNat symbols
  let l := { l with scrambler := BitVec.ofNat 58 st }
  let word := fun (seq : BitVec 4) (bytes : List Byte) (first : Option Nat) =>
    ({ seq := seq, bytes := bytes, first := first, clock := s.clock, acc := s.tb1.acc, rate := s.rate 1 } : ChainWord)
  match r with
  | some (w, _) =>
    let follows := l.lastSeq.map (· + 2) = some w.seq
    if l.lock then
      let run := if follows then 0 else l.seqRun + 1
      let y := { l with lastSeq := some w.seq, badRun := 0, seqRun := run }
      if 3 ≤ run then s.setChainLane x lane { y with lock := false, good := 0, lastSeq := none, seqRun := 0 }
      else (s.setChainLane x lane y).chainEnter x lane (word w.seq w.bytes w.first)
    else
      let good := if follows then l.good + 1 else 1
      let y := { l with lastSeq := some w.seq, badRun := 0, seqRun := 0, good := good, lock := decide (3 ≤ good) }
      let s := s.setChainLane x lane y
      if y.lock then s.chainEnter x lane (word w.seq w.bytes w.first) else s
  | none =>
    let bad := l.badRun + 1
    let next := l.lastSeq.map (· + 2)
    let y := { l with good := 0, badRun := bad, lastSeq := if l.lock then next else none }
    if l.lock && 8 ≤ bad then s.setChainLane x lane { y with lock := false, lastSeq := none, badRun := 0 }
    else
      let s := s.setChainLane x lane y
      match next with
      | some q => if l.lock then s.chainEnter x lane (word q [] none) else s
      | none => s

/-- CHAIN_CODEWORD_RECEIVED (R325). -/
def execChainCodewordReceived (x lane : Fin 2) (symbols : List (BitVec 10)) (dt : Nat) (s : State) :
    Host.Outcome State Fault Refusal :=
  if symbols.length = 544 then
    effect (fun s =>
      let s := s.elapse dt
      if !s.chainOn || s.dark then s else s.chainCodeword x.val lane.val symbols) s
  else .refused .illFormed

/-! ### CHN_CFG (R349) -/

/-- Whether an enabled wall has CHN ≠ 0 or an enabled remote entry (R349). -/
def State.chainWalls (s : State) : Bool :=
  s.trays.any fun e =>
    let b := e.2.active
    decide (576 ≤ e.1) && wGet b WW.en ≠ 0 && (wGet b WW.chn ≠ 0 || (stonesOf b).any fun e => e.2.remote)

/-- EN or LEAD has changed: a device is isolated with cause 4 until it has a role; one that has come to lead becomes the keystone,
where it has heard no other (R329, R332, R349).
Log entry 64: DEDUCED, unsafe. -/
def State.chnCfgWritten (s : State) (old new : Word) : State :=
  let s := if bitOf old 0 && !bitOf new 0 then
      let s := (List.range 2).foldl (fun s x => s.losePeer x 3) s
      let s := { s with cports := [] }
      let s := if s.chain.role = 1 || s.chain.role = 2 then s.setAddr (s.now + 1) 0 else s
      let s := s.setRole 0
      { s with chain := { s.chain with icause := 0, vexcl := false, applyAt := none, timed := false
                                       taken := false, aver := none, seen := [], heard := [], foreign := none
                                       readyTimer := false } }
    else if !bitOf old 0 && bitOf new 0 then s.isolate 4
    else s
  if !bitOf new 0 then s
  else if bitOf new 1 && (!bitOf old 0 || !bitOf old 1) then s.becomeKeystone
  else if bitOf old 1 && !bitOf new 1 && s.isKey then { s with chain := { s.chain with applyAt := none } }.isolate 4
  else s.checkEpoch.noteReady

end Sys2Proof.Machine
end

