-- ==== Sys2Proof/Machine/Dram.lean ====
section
/-!
DEFINITION. The DRAM channels (17): reads and scrubbing, command parity, retraining, recovery, retirement, and the training
helpers.
-/
namespace Sys2Proof.Machine

/-! ### Reads (R359 to R363) -/

/-- Whether read data of a channel arrive: SERVICE, outside its retraining slot (R368), with ALERT_n high; those of reads issued
again do so before the incident ends (R364). -/
def Channel.serves (c : Channel) : Bool := c.state = .service && !c.inSlot && c.alert ≠ 1

/-- The beats of a unit as received: what is stored, with the bits that the read flips. -/
def State.receivedBeats (s : State) (p : Nat) (flips : List (BitVec 80)) : List (BitVec 80) :=
  (s.unitBeats p).mapIdx fun b r => r ^^^ flips.getD b 0

/-- DRAM_READ_DATA (R359): the data of a demand read of one unit. Whether the read had waited under R355 is free.
Log entries 19: DESIGN CHOICE, safe; 92: DESIGN CHOICE, safe. -/
def execDramReadData (n : Fin 16) (unit : BitVec 27) (flips : List (BitVec 80)) (s : State) :
    Host.Outcome State Fault Refusal :=
  effect (fun s =>
    if (s.chan n.val).serves then
      let (v, s) := s.draw
      let s := s.bump .dramRawWait n.val 0 (v.toNat % 2)
      let l := 64 * unit.toNat
      (s.decodeUnit n.val l 1 (s.receivedBeats (phys n.val l) flips)).2
    else s) s

/-- CE_SECOND_END (R362). -/
def execCeSecondEnd (n : Fin 16) (s : State) : Host.Outcome State Fault Refusal :=
  effect (fun s =>
    let c := s.chan n.val
    let thr := s.field .dramCfg n.val 0 16 16
    let s := s.setChan n.val { c with second := 0 }
    if thr ≠ 0 && thr < c.second then s.raise 0x0901 [(1, n.val), (4, c.second), (3, 0)] else s) s

/-- PATROL_SCRUB_READ (R363): the next unit; nothing new is issued in a parity incident (R364). Whether the read had waited under R355 is free.
Log entry 19: DESIGN CHOICE, safe. -/
def execPatrolScrubRead (n : Fin 16) (s : State) : Host.Outcome State Fault Refusal :=
  effect (fun s =>
    if (s.chan n.val).serves && (s.chan n.val).alert = 0 && s.flag .dramScrub 0 0 8 && !s.selfRefresh then
      let (v, s) := s.draw
      let s := s.bump .dramRawWait n.val 0 (v.toNat % 2)
      let u := (s.reg .dramScrubPos n.val).toNat
      let p := phys n.val (64 * u)
      let s := if s.unitUpset p then (s.decodeUnit n.val (64 * u) 2 (s.unitBeats p)).2 else s
      s.setReg .dramScrubPos n.val 0 (BitVec.ofNat 32 ((u + 1) % 2 ^ 27))
    else s) s

/-- REFRESH (R356): a same-bank refresh, which never waits. -/
def execRefresh (n : Fin 16) (bank : Fin 4) (s : State) : Host.Outcome State Fault Refusal :=
  effect (fun s =>
    match (s.chan n.val).state with
    | .off | .retired => s
    | _ => if s.selfRefresh then s else s.emit (.refresh n.val bank.val)) s

/-- TEMPERATURE_POLL (R356). -/
def execTemperaturePoll (n : Fin 16) (hot : Bool) (s : State) : Host.Outcome State Fault Refusal :=
  effect (fun s =>
    match (s.chan n.val).state with
    | .off | .retired => s
    | _ => if s.selfRefresh then s else s.setChan n.val { s.chan n.val with hot := hot }) s

/-! ### Recovery and retirement (R369 to R373) -/

/-- The delays of a lane and the reference code of a device as the last training left them; before any, the reset values
(R376). -/
def Channel.trainedDelays (c : Channel) (lane : Nat) : BitVec 6 × BitVec 6 :=
  if c.training = 0 then (32, 32) else Config.trainedDelays c.training lane
def Channel.trainedVref (c : Channel) (dev : Nat) : BitVec 7 :=
  if c.training = 0 then 64 else Config.trainedVref c.training dev

/-- A training of a channel leaves new settings, which the manual does not give.
Log entry 6: DEDUCED, unsafe. -/
def State.train (s : State) (n : Nat) : State :=
  { s.setChan n { s.chan n with training := s.free + 1, settings := [], vrefs := [] } with free := s.free + 1 }

/-- A channel enters RECOVERY: cause 1 retraining slot, 2 parity escalation, 3 host RETRAIN. -/
def State.enterRecovery (s : State) (n cause : Nat) : State :=
  (s.setChan n { s.chan n with state := .recovery, recovering := s.clock, rcause := BitVec.ofNat 2 cause, att := 0, alert := 0, retry := 0
                               inSlot := false, retrainAfter := false, parityAfter := false }).raise 0x0920 [(1, n), (1, cause), (6, 0)]

/-- Channels that serve: active and not retired. -/
def State.activeNow (s : State) : List Nat := s.active.filter fun n => (s.chan n).state ≠ .retired

/-- Reduced service begins with the third retired channel (R372). -/
def State.enterReduced (s : State) : State :=
  if s.reduced || s.retired < 3 then s
  else
    let s := { s with reduced := true, tick := { s.tick with shedSeen := true } }.markShed.contentLost 1
    let s := { s with rcl := { s.rcl with state := .off, restart := false } }
    (s.action .auto 17 s.retired 0).raise 0x0931 [(1, s.retired), (7, 0)]

/-- A channel is retired: cause 1 boot training, 2 recovery failed, 3 host RETIRE (R370). -/
def State.retireChan (s : State) (n cause : Nat) (o : Origin) : State :=
  let s := s.setChan n { s.chan n with state := .retired, xcause := BitVec.ofNat 2 cause, att := 0, alert := 0, retry := 0
                                       inSlot := false, retrainAfter := false, parityAfter := false }
  let s := s.action o 16 n cause
  let s := s.raise 0x0930 [(1, n), (1, cause), (1, s.activeNow.length), (5, s.now)]
  let s := { s with tick := { s.tick with capacity := true, remap := true, placeNow := false } }
  s.enterReduced

/-- Whether a write of v to DRAM_CTRL[n] is refused (R373). -/
def State.dramCtrlRefused (s : State) (n : Nat) (v : Word) : Bool :=
  let c := s.chan n
  (bitOf v 0 && c.state ≠ .service) || (bitOf v 1 && (c.state = .retired || c.state = .off))

/-- What a write of v to DRAM_CTRL[n] does: RETRAIN, then RETIRE. -/
def State.dramCtrl (s : State) (n : Nat) (o : Origin) (v : Word) : State :=
  let s := if bitOf v 0 then
      if (s.chan n).inSlot then s.setChan n { s.chan n with retrainAfter := true } else s.enterRecovery n 3
    else s
  if bitOf v 1 then s.retireChan n 3 o else s

/-- Whether RECOV_MS, which 0 makes 1 and no more than 1,000, have passed since channel n entered RECOVERY (R369). -/
def State.recoveryOver (s : State) (n : Nat) : Bool :=
  max 1 (min 1000 (s.field .dramRt 0 0 4 10)) * 1250000 ≤ s.clock - (s.chan n).recovering

/-- RECOVERY_COMPLETE (R369): within RECOV_MS; `us` is the recovery's duration. -/
def execRecoveryComplete (n : Fin 16) (us : Word) (s : State) : Host.Outcome State Fault Refusal :=
  effect (fun s =>
    if (s.chan n.val).state = .recovery && !s.recoveryOver n.val then
      let s := (s.train n.val)
      let s := s.setChan n.val { s.chan n.val with state := .service, second := 0 }
      (s.bump .dramRecov n.val).raise 0x0921 [(1, n.val), (4, us.toNat), (3, 0)]
    else s) s

/-- RECOVERY_TIMEOUT (R369): after RECOV_MS. -/
def execRecoveryTimeout (n : Fin 16) (s : State) : Host.Outcome State Fault Refusal :=
  effect (fun s =>
    if (s.chan n.val).state = .recovery && s.recoveryOver n.val then s.retireChan n.val 2 .auto else s) s

/-! ### Command parity (R364) -/

/-- ALERT_LOW: a further attempt, or the escalation, which waits for the end of a retraining slot (R457). How many commands the retry buffer holds is free, up to 64.
Log entry 19: DESIGN CHOICE, safe. -/
def execAlertLow (n : Fin 16) (s : State) : Host.Outcome State Fault Refusal :=
  effect (fun s =>
    let c := s.chan n.val
    if c.state = .off || c.state = .retired then s
    else
      let s := s.bump .dramPar n.val
      if c.parityAfter then s.setChan n.val { c with alert := 1 }
      else if c.att = 3 then
        let s := s.raise 0x0910 [(1, n.val), (1, 3), (6, 0)]
        if c.inSlot then s.setChan n.val { c with alert := 1, parityAfter := true }
        else if c.state = .recovery then s.setChan n.val { c with alert := 0, att := 0, retry := 0 }
        else s.enterRecovery n.val 2
      else
        let (v, s) := s.draw
        s.setChan n.val { c with att := c.att + 1, alert := 1, retry := BitVec.ofNat 7 (v.toNat % 65) }) s

/-- ALERT_HIGH: the retry buffer is issued again. -/
def execAlertHigh (n : Fin 16) (s : State) : Host.Outcome State Fault Refusal :=
  effect (fun s =>
    let c := s.chan n.val
    if c.alert = 1 then (s.setChan n.val { c with alert := 2 }).bump .dramReplay n.val 0 c.retry.toNat else s) s

/-- REPLAY_RETIRED: the incident ends. -/
def execReplayRetired (n : Fin 16) (s : State) : Host.Outcome State Fault Refusal :=
  effect (fun s =>
    let c := s.chan n.val
    if c.alert = 2 then s.setChan n.val { c with alert := 0, att := 0, retry := 0 } else s) s

/-! ### The retraining slot (R368) -/

/-- The channel whose turn it is: the next active one after the one last served.
Log entry 58: DEDUCED, unsafe. -/
def State.slotTurn (s : State) : Option Nat :=
  match s.lastSlot with
  | none => s.activeNow.head?
  | some l => match s.activeNow.find? (l < ·) with
    | some n => some n
    | none => s.activeNow.head?

/-- RETRAINING_SLOT_START: in course 0. A channel that is not in SERVICE, or is in the middle of a parity incident, keeps its
turn, and the slot goes unused.
Log entry 58: DEDUCED, unsafe. -/
def execRetrainingSlotStart (s : State) : Host.Outcome State Fault Refusal :=
  effect (fun s =>
    if !s.flag .dramRt 0 0 0 || s.selfRefresh || !s.tick.started || s.tick.halted || s.now % max 1 s.tick.cycle ≠ 0 then s
    else match s.slotTurn with
      | none => s
      | some n =>
        let c := s.chan n
        if c.state = .service && c.alert = 0 && c.att = 0 then s.setChan n { c with inSlot := true } else s) s

/-- Applies the delays that Reldo moved.
Log entry 58: DEDUCED, unsafe. -/
def Channel.applyMoves (c : Channel) (ms : List LaneSetting) : Channel :=
  { c with settings := ms.foldl (fun m x => Store.put (c.trainedDelays x.lane.val) m x.lane.val (x.rdly, x.wdly)) c.settings }

/-- RETRAINING_SLOT_END: `moves` are the delays applied, `narrow` says that a lane's span has fallen below 8 taps.
Log entry 58: DEDUCED, unsafe. -/
def execRetrainingSlotEnd (n : Fin 16) (moves : List LaneSetting) (narrow : Bool) (s : State) :
    Host.Outcome State Fault Refusal :=
  effect (fun s =>
    let c := s.chan n.val
    if !c.inSlot then s
    else
      let c' := { c.applyMoves moves with inSlot := false, slots := BitVec.ofNat 16 (min 0xFFFF (c.slots.toNat + 1)) }
      let s := { s.setChan n.val c' with lastSlot := some n.val }
      if narrow then s.enterRecovery n.val 1
      else if c.parityAfter then s.enterRecovery n.val 2
      else if c.retrainAfter then s.enterRecovery n.val 3
      else s) s

/-! ### Training helpers (R365, R376) -/

/-- Beat k of the pattern selected by PAT. -/
def State.patternBeat (s : State) (n pat k : Nat) : BitVec 80 :=
  if pat = 4 then
    BitVec.ofNat 80 ((s.reg .dramTrnUpat n 0).toNat + (s.reg .dramTrnUpat n 1).toNat * 2 ^ 32
      + bitsOf (s.reg .dramTrnUpat n 2) 0 16 * 2 ^ 64)
  else Config.trainingBeat (if 4 < pat then 0 else pat) k

/-- Writes one raw beat: its data bits, and what differs from their codeword. -/
def State.writeRaw (s : State) (p : Nat) (r : BitVec 80) : State :=
  let d := beatData r
  { s with dram := Memory.writeBytes s.dram p (leBytes 8 d.toNat)
           upsets := Store.put 0 s.upsets (p / 8) (r ^^^ bchEncode d (p % 2 ^ 33)) }

/-- Reads one raw beat. -/
def State.readRaw (s : State) (p : Nat) : BitVec 80 :=
  bchEncode (BitVec.ofNat 64 (ofLe (Memory.readBytes s.dram p 8))) (p % 2 ^ 33) ^^^ Store.get 0 s.upsets (p / 8)

/-- Writes the pattern over `n` beats from beat address p on. -/
def State.writePattern (s : State) (ch pat p k : Nat) : Nat → State
  | 0 => s
  | n + 1 => (s.writeRaw (p + 8 * k) (s.patternBeat ch pat k)).writePattern ch pat p (k + 1) n

/-- What the comparator finds: for each beat the lanes in error. -/
def State.compareBeats (s : State) (ch pat p beats : Nat) (flips : List (BitVec 80)) : List (BitVec 80) :=
  (List.range beats).map fun k => s.readRaw (p + 8 * k) ^^^ flips.getD k 0 ^^^ s.patternBeat ch pat k

/-- Errors of each lane, saturating. -/
def laneErrors (ds : List (BitVec 80)) : Store (BitVec 16) :=
  (List.range 80).foldl (fun m i =>
    Store.put 0 m i (BitVec.ofNat 16 (min 0xFFFF (ds.filter fun d => d.toNat.testBit i).length))) []

/-- One helper run (R365). Outside TRAINING the bytes that the pattern overwrites come back. -/
def State.helperRun (s : State) (n : Nat) (v : Word) (flips : List (BitVec 80)) : State :=
  let beats := 16 * (bitsOf v 4 6 + 1)
  let p := phys n (128 * (s.reg .dramTrnAddr n).toNat)
  let pat := bitsOf v 0 3
  let t := if bitOf v 3 then s else s.writePattern n pat p 0 beats
  let ds := t.compareBeats n pat p beats flips
  let s := if (s.chan n).state = .training then t else s
  let first := (ds.findIdx? (· ≠ 0)).map fun k => (BitVec.ofNat 4 (k % 16), BitVec.ofNat 7 (k / 16))
  s.setChan n { s.chan n with trnErrs := laneErrors ds, trnFirst := first }

/-- TRAINING_HELPER_GO (R365, R376): the management core writes v to DRAM_TRN_CTL[n] with GO.
Log entry 61: DESIGN CHOICE, safe. -/
def execTrainingHelperGo (n : Fin 16) (v : Word) (flips : List (BitVec 80)) (s : State) :
    Host.Outcome State Fault Refusal :=
  let c := (s.chan n.val).state
  if !bitOf v 12 || c = .off || c = .retired then effect (fun s => s) s
  else if 2 ^ 26 < (s.reg .dramTrnAddr n.val).toNat + bitsOf v 4 6 + 1 then .fault .dramPastEnd
  else effect (fun s => (s.setReg .dramTrnCtl n.val 0 (BitVec.ofNat 32 (v.toNat % 2048))).helperRun n.val v flips) s

/-- DRAM_TRN_ERR[n]: the selected lane's errors, the first failing beat and burst, ANY. -/
def State.trnErr (s : State) (n : Nat) : Word :=
  let c := s.chan n
  let lane := (s.reg .dramTrnLane n).toNat
  BitVec.ofNat 32 ((Store.get 0 c.trnErrs lane).toNat + (match c.trnFirst with
    | some f => f.1.toNat * 2 ^ 16 + f.2.toNat * 2 ^ 20 + 2 ^ 27
    | none => 0))

/-- The delays of a lane and the reference voltage code of a device. -/
def Channel.delays (c : Channel) (lane : Nat) : BitVec 6 × BitVec 6 :=
  Store.get (c.trainedDelays lane) c.settings lane
def Channel.vref (c : Channel) (dev : Nat) : BitVec 7 := Store.get (c.trainedVref dev) c.vrefs dev

/-- DRAM_TRN_SET[n]: the settings of the selected lane. -/
def State.trnSet (s : State) (n : Nat) : Word :=
  let c := s.chan n
  let lane := (s.reg .dramTrnLane n).toNat
  let d := c.delays lane
  BitVec.ofNat 32 (d.1.toNat + d.2.toNat * 2 ^ 8 + (c.vref (lane / 16)).toNat * 2 ^ 16)

/-- DRAM_TRN_SET[n] is written for the selected lane. -/
def State.writeTrnSet (s : State) (n : Nat) (v : Word) : State :=
  let c := s.chan n
  let lane := (s.reg .dramTrnLane n).toNat
  let d := (BitVec.ofNat 6 (bitsOf v 0 6), BitVec.ofNat 6 (bitsOf v 8 6))
  s.setChan n { c with settings := Store.put (c.trainedDelays lane) c.settings lane d
                       vrefs := Store.put (c.trainedVref (lane / 16)) c.vrefs (lane / 16) (BitVec.ofNat 7 (bitsOf v 16 7)) }

/-! ### Status -/

/-- DRAM_STATUS[n] (R375). -/
def State.dramStatus (s : State) (n : Nat) : Word :=
  let c := s.chan n
  let st := match c.state with
    | .off => 0
    | .service => 1
    | .training => 2
    | .recovery => 3
    | .retired => 4
  BitVec.ofNat 32 (st + c.att.toNat * 16 + c.rcause.toNat * 64 + c.xcause.toNat * 256 + c.slots.toNat * 2 ^ 16)

/-- DRAM_ACTIVE: the channels that R350 calls active, which a retired one no longer is (its addresses stay mapped until the
remap edge). -/
def State.dramActive (s : State) : Word :=
  BitVec.ofNat 32 ((s.activeNow.map fun n => 2 ^ n).foldl (· + ·) 0 + s.activeNow.length * 2 ^ 16 + bit s.reduced * 2 ^ 24)

end Sys2Proof.Machine
end

