-- ==== Sys2Proof/Machine/Power.lean ====
section
/-!
DEFINITION. Supplies and power states (20) and resets (R418 to R420): main-rail loss and return, the keep-alive island, its
two supplies, temperature, TRIP and PARK, and what a device reset leaves.
-/
namespace Sys2Proof.Machine

/-! ### What resets leave -/

/-- Registers held in the keep-alive island (R470): DRAM_CE, DRAM_UE, the PWR counters and the ERR block. -/
def islandReg (off : Nat) : Bool :=
  (RegName.pwrSwBack.off ≤ off && off ≤ RegName.pwrGapLast.off)
    || (RegName.errUnmapped.off ≤ off && off ≤ RegName.errFatal.off)
    || (List.range 16).any fun n => off = RegName.dramCe.off n || off = RegName.dramUe.off n

/-- What a reset at a clock leaves of a base: the registers of its read set and its UPD_AGE are not the island's (R51, R404); the
servo's filtered offset, count and interval go on with the base.
Log entry 99: DEDUCED, unsafe. -/
def TimeBase.island (t : TimeBase) (clock : Nat) : TimeBase :=
  { t with lastUpdate := none, since := clock, rdHeld := false, rdSnap := false, rdAcc := 0, rdTag := 0 }

/-- Everything outside the keep-alive island is lost (R404, R419); what has left the device, the commands that wait and the
fuses are no state of a reset.
Log entries 64: DEDUCED, unsafe; 67: DEDUCED, unsafe. -/
def State.islandOnly (s : State) : State :=
  { pending := s.pending
    clock := s.clock
    regs := s.regs.filter fun e => islandReg e.1
    tb0 := s.tb0.island s.clock
    tb1 := s.tb1.island s.clock
    tb2 := s.tb2.island s.clock
    tb3 := s.tb3.island s.clock
    held := s.held
    chain := { slot := s.chain.slot, slotValid := s.chain.slotValid, heldRole := s.chain.role, orient := s.chain.orient
               side := s.chain.side, epoch := s.chain.epoch, told := { epoch := s.chain.told.epoch } }
    power := { s.power with pstate := .reset, warn := false, tripped := false, d3hot := false, tj := 0,
                             monitored := false }
    fuses := s.fuses
    boot := { rstCause := s.boot.rstCause, rstTrip := s.boot.rstTrip }
    marks := s.marks
    markSeq := s.markSeq
    service := s.service
    raised := s.raised
    free := s.free
    out := s.out }

/-- A device reset (R419, R420): its mark, then everything outside the island but TW0's service and address; the reset logic
writes GLB_RST_CAUSE (R436).
Log entry 67: DEDUCED, unsafe. -/
def State.deviceReset (s : State) (cause : Nat) (o : Origin) : State :=
  let s := s.action o 5 cause 0
  let trip := s.power.tripped
  let tw0 := s.tw0
  let latches := s.latches.filter fun e => e.1 = Accessor.tw0
  { s.islandOnly with tw0 := tw0, latches := latches, boot := { rstCause := BitVec.ofNat 3 cause, rstTrip := trip } }

/-- PERST_ASSERT (R418, R479). During a main-rail gap or power-on reset it only holds the device in RESET. -/
def execPerstAssert (s : State) : Host.Outcome State Fault Refusal :=
  effect (fun s =>
    let out := s.power.pstate = .keep || s.power.por || s.power.perst
    let s := if out then s else s.deviceReset 1 .auto
    { s with power := { s.power with perst := true } }) s

/-- WATCHDOG_EXPIRY (R420). -/
def execWatchdogExpiry (s : State) : Host.Outcome State Fault Refusal :=
  effect (fun s => if s.power.pstate = .keep || s.power.pstate = .reset then s else s.deviceReset 4 .auto) s

/-! ### Main rails and the island's supplies -/

/-- A base as the main rails fall: one that was LOCKED has left LOCKED for its error estimate (R40, R41). -/
def State.gapBase (s : State) (b : Nat) : State :=
  let t := s.base b
  if t.state = .locked then s.setBase b { t with errLocked := s.errNs b, frLocked := t.fr, growth := 0, lockCount := 0 } else s

/-- Main-rail loss (R403): the mark, then the island alone. The recall store's content is lost (R244). -/
def State.railLoss (s : State) : State :=
  if s.power.pstate = .keep then s
  else
    let s := s.action .power 1 0 0
    let s := (List.range 4).foldl State.gapBase s
    let lost := s.rcl.state.code
    let s := s.islandOnly
    { s with power := { s.power with pstate := .keep, por := true, gapClock := s.clock, gapSwitches := 0, gapRecall := lost } }

/-- MAIN_RAIL_LOSS. -/
def execMainRailLoss (s : State) : Host.Outcome State Fault Refusal := effect State.railLoss s

/-- CLK_REF_LOSS (R485): the device acts exactly as at a main-rail loss. -/
def execClkRefLoss (s : State) : Host.Outcome State Fault Refusal := effect State.railLoss s

/-- A base as the main rails return (R41): GAP, and HOLDOVER for one that was LOCKED.
Log entry 63: DEDUCED, unsafe. -/
def State.returnBase (s : State) (b : Nat) : State :=
  let t := s.base b
  if b = 2 then s
  else if t.state = .locked then
    (((s.setBase b { t with gap := true, state := .holdover, fr := t.frLocked }).baseEvent b 0x0120)).checkErrb b
  else (s.setBase b { t with gap := true }).checkErrb b

/-- The gap in whole milliseconds since the loss. -/
def State.gapMs (s : State) : Nat := min 0xFFFFFFFF ((s.clock - s.power.gapClock) / 1250000)

/-- The main rails are back in range (R408).
Log entry 63: DEDUCED, unsafe. -/
def State.railReturn (s : State) : State :=
  let ms := s.gapMs
  let n := s.power.gapSwitches
  let s := (List.range 4).foldl State.returnBase s
  let s := (s.bump .pwrGaps).setReg .pwrGapLast 0 0 (BitVec.ofNat 32 ms)
  let s := s.action .power 2 ms n
  let s := s.raise 0x0B10 [(4, ms), (2, n), (2, 0)]
  let lost := s.power.gapRecall
  let s := if lost ≠ 0 then { s with rcl := { s.rcl with lost := true } }.raise 0x0513 [(1, 2), (1, lost), (6, 0)] else s
  { s with power := { s.power with pstate := .reset, returned := true, returnDone := [], gapRecall := 0 } }

/-- MAIN_RAIL_RETURN: `clocks` time clocks after the command before it, as the island counts them (R41).
Log entry 63: DEDUCED, unsafe. -/
def execMainRailReturn (clocks : Nat) (s : State) : Host.Outcome State Fault Refusal :=
  effect (fun s => if s.power.pstate = .keep && s.power.supplied then (s.elapse clocks).railReturn else s) s

/-- POWER_ON_RESET_END (R379, R402, R436): `straps` are TW0_ADR[2:0]. With PERST_N deasserted the device goes to BOOT.
Log entry 63: DEDUCED, unsafe. -/
def execPowerOnResetEnd (straps : BitVec 3) (s : State) : Host.Outcome State Fault Refusal :=
  effect (fun s =>
    if s.power.por && s.power.pstate = .reset && s.power.supplied then
      { s with tw0 := { s.tw0 with address := straps }
               power := { s.power with por := false, cold := false, pstate := if s.power.perst then .reset else .boot }
               boot := { s.boot with rstCause := if s.power.cold then 5 else 0, rstTrip := false } }
    else s) s

/-- The island without its contents: the device waits for a supply (R402, R405).
Log entry 65: DEDUCED, unsafe. -/
def State.islandLost (s : State) : State :=
  { pending := s.pending
    fuses := s.fuses
    free := s.free
    out := s.out
    power := { pstate := .reset, supplied := false, por := true, cold := true, perst := s.power.perst } }

/-- KEEP_ALIVE_SUPPLY_LOSS (R405). -/
def execKeepAliveSupplyLoss (s : State) : Host.Outcome State Fault Refusal := effect State.islandLost s

/-- COLD_START (R34, R405): the island has power after both its supplies were absent. -/
def execColdStart (s : State) : Host.Outcome State Fault Refusal :=
  effect (fun s => let s := s.islandLost
    { s with power := { s.power with supplied := true } }) s

/-- A completed switch of the island's supply: its count, its mark and, while the main rails are in range, its event (R406).
Log entry 65: DEDUCED, unsafe. -/
def State.switched (s : State) (n : RegName) (code event : Nat) : State :=
  let s := s.bump n
  let v := (s.reg n).toNat
  let s := s.action .power code 0 v
  if s.power.pstate = .keep then { s with power := { s.power with gapSwitches := s.power.gapSwitches + 1 } }
  else s.raise event [(4, v), (4, 0)]

/-- SWITCH_TO_BACK (R405). While BACK_OK is 0 a fall of VKA_MAIN leads to a cold start instead (R407).
Log entry 65: DEDUCED, unsafe. -/
def execSwitchToBack (s : State) : Host.Outcome State Fault Refusal :=
  effect (fun s =>
    if s.power.supplied && !s.power.onBack && s.power.backOk then
      { s with power := { s.power with onBack := true, mainOk := false } }.switched .pwrSwBack 3 0x0B01
    else s) s

/-- SWITCH_TO_MAIN (R405). -/
def execSwitchToMain (s : State) : Host.Outcome State Fault Refusal :=
  effect (fun s =>
    if s.power.supplied && s.power.onBack then
      { s with power := { s.power with onBack := false, mainOk := true } }.switched .pwrSwMain 4 0x0B02
    else s) s

/-- VKA_BACK leaves or regains its range (R407).
Log entry 65: DEDUCED, unsafe. -/
def State.backChange (s : State) (ok : Bool) (cause : Nat) : State :=
  if s.power.onBack || s.power.backOk = ok || !s.power.supplied then s
  else { s with power := { s.power with backOk := ok } }.raise 0x0B03 [(1, cause), (7, 0)]

/-- VKA_BACK_LOST. -/
def execVkaBackLost (s : State) : Host.Outcome State Fault Refusal := effect (fun s => s.backChange false 1) s

/-- VKA_BACK_REGAINED. -/
def execVkaBackRegained (s : State) : Host.Outcome State Fault Refusal := effect (fun s => s.backChange true 2) s

/-! ### Temperature -/

/-- The highest of the readings, as s16, with the index of its sensor: of equal readings the lowest index. -/
def hottest : Nat → List (BitVec 16) → BitVec 16 × Nat
  | _, [] => (0x8000, 0)
  | k, r :: rs =>
    let h := hottest (k + 1) rs
    if h.1.toInt ≤ r.toInt then (r, k) else h

/-- The readings of the sensors are taken (R415). -/
def State.readSensors (s : State) (readings : List (BitVec 16)) : State :=
  let s := (List.range 8).foldl (fun s k => s.setReg .pwrTs k 0 ((readings.getD k 0).zeroExtend 32)) s
  let tj := (hottest 0 readings).1
  let peak := BitVec.ofNat 16 (s.reg .pwrTjPeak).toNat
  let s := (s.setReg .pwrTj 0 0 (tj.zeroExtend 32))
  let s := if peak.toInt < tj.toInt then s.setReg .pwrTjPeak 0 0 (tj.zeroExtend 32) else s
  let warn : Int := s.field .pwrThermCfg 0 0 0 7
  let s := { s with power := { s.power with tj := tj, monitored := true } }
  if !s.power.warn && warn * 16 ≤ tj.toInt then
    { s with power := { s.power with warn := true } }.raise 0x0B20 [(2, tj.toNat), (6, 0)]
  else if s.power.warn && tj.toInt < (warn - 5) * 16 then
    { s with power := { s.power with warn := false } }.raise 0x0B21 [(2, tj.toNat), (6, 0)]
  else s

/-- TEMPERATURE_SAMPLE (R415): the eight readings. -/
def execTemperatureSample (readings : List (BitVec 16)) (s : State) : Host.Outcome State Fault Refusal :=
  if readings.length ≠ 8 then .refused .illFormed
  else effect (fun s =>
    if s.power.pstate = .keep || s.power.pstate = .reset then s else s.readSensors readings) s

/-- The sensor that reads TJ. -/
def State.hotSensor (s : State) : Nat :=
  (hottest 0 ((List.range 8).map fun k => BitVec.ofNat 16 (s.reg .pwrTs k).toNat)).2

/-- TRIP (R416): TJ has stayed at or above 120 °C for 1 ms. -/
def execTrip (s : State) : Host.Outcome State Fault Refusal :=
  effect (fun s =>
    if s.power.pstate = .keep || s.power.pstate = .reset || s.power.pstate = .trip || s.power.tj.toInt < 1920 then s
    else
      let k := s.hotSensor
      let s := s.action .auto 19 s.power.tj.toNat k
      let s := s.raise 0x0B22 [(2, s.power.tj.toNat), (1, k), (5, 0)]
      { s with power := { s.power with pstate := .trip, tripped := true } }) s

/-! ### PARK -/

/-- Whether a port or a wall is enabled in its active tray. -/
def State.anyEnabled (s : State) : Bool :=
  s.trays.any fun e => (e.1 < 512 || 576 ≤ e.1) && Store.get 0 e.2.active 0 ≠ 0

/-- Whether any lane, split of an Ethernet port or chain port is enabled in its configuration register. -/
def State.anyLinkOn (s : State) : Bool :=
  ((List.range 64).any fun l => s.flag .sxlCfg l 0 0) || ((List.range 2).any fun p => s.flag .ethCfg p 0 0)
    || s.flag .chnCfg 0 0 0

/-- Whether a write of 1 to PWR_CTRL.PARK is refused (R411). -/
def State.parkRefused (s : State) : Bool :=
  s.power.pstate ≠ .run || s.anyEnabled || s.rcl.state ≠ .off || s.anyLinkOn
    || (List.range 8).any fun c => (s.sdmaChan c).busy

/-- PARK is entered (R411), the one state in which TW0 sleeps (R385, R409).
Log entry 98: DEDUCED, unsafe. -/
def State.parkEnter (s : State) (o : Origin) : State :=
  let s := { s with power := { s.power with pstate := .park }, tw0 := { s.tw0 with awake := false, waking := false } }
  (s.action o 18 0 1).raise 0x0B30 [(1, 1), (7, 0)]

/-- PARK is left (R411, R412): each active channel is trained with its content preserved.
Log entry 98: DEDUCED, unsafe. -/
def State.parkLeave (s : State) (o : Origin) : State :=
  let s := s.activeNow.foldl State.train s
  let s := { s with power := { s.power with pstate := if s.power.d3hot then .d3 else .run } }
  (s.action o 18 1 0).raise 0x0B30 [(1, 0), (7, 0)]

/-- What a write of v to PWR_CTRL does once stored. -/
def State.parkWritten (s : State) (o : Origin) (v : Word) : State :=
  if bitOf v 0 then s.parkEnter o
  else if s.power.pstate = .park then s.parkLeave o else s

end Sys2Proof.Machine
end

