-- ==== Sys2Proof/Machine/RingCtl.lean ====
section
/-!
DEFINITION. Rings as a whole: enable, disable and drain (R253, R254, R289), the doorbell page (R255, R256), consumer counts
(R301), completions from the host (R453), and the output write engine with the drops of waiting records (R267, R283 to
R287).
-/
namespace Sys2Proof.Machine

/-- Whether the host reaches BAR0 and BAR2 and the device acts on them: the boot window is closed and the function is not in
D3hot (R422, R410, R412).
Log entry 69: DEDUCED, unsafe. -/
def State.hostUp (s : State) : Bool :=
  s.boot.win = 1 && !s.power.d3hot && (s.power.pstate = .run || s.power.pstate = .park || s.power.pstate = .trip)

/-! ### Enable and disable -/

/-- Whether a replay ring's mill is taken: it has another enabled replay ring, or an enabled port (R254). -/
def State.replayTaken (s : State) (r m : Nat) : Bool :=
  (s.rings.any fun e => e.1 ≠ r && e.1 < 1024 && e.2.state ≠ .off && s.kind e.1 = 2 && s.field .ringCfg e.1 0 13 6 = m)
    || (List.range 8).any fun k => s.portEn (8 * m + k)

/-- Whether a write of v that sets EN of HOST_RING_CFG[r] is refused (R254). -/
def State.enableRefused (s : State) (r : Nat) (v : Word) : Bool :=
  let log := bitsOf v 4 5
  let kind := bitsOf v 2 2
  match s.ringDomain r with
  | none => true
  | some d =>
    (s.ring r).state ≠ .off || log < 6 || 16 < log
      || (s.flag .ringPasid r 0 20 && !s.domPasid d (s.field .ringPasid r 0 0 20))
      || (kind = 3 && (s.domainQueue d).isSome) || (kind = 2 && s.replayTaken r (bitsOf v 13 6))

/-- Whether a write of v to HOST_RING_CFG[r] is refused (R253, R254). -/
def State.ringCfgRefused (s : State) (r : Nat) (v : Word) : Bool :=
  let old := s.reg .ringCfg r
  if !bitOf old 0 && bitOf v 0 then s.enableRefused r v
  else
    let other := old.toNat / 2 ≠ v.toNat / 2
    (other && (s.ring r).state ≠ .off)
      || (bitOf old 0 && !bitOf v 0 && s.kind r = 2 &&
          (List.range 8).any fun k => s.portEn (8 * s.field .ringCfg r 0 13 6 + k))

/-- An event queue starts anew (R299, R301). -/
def State.freshQueue (s : State) (q : Nat) : State := (s.setQueue q {}).setReg .evtSeq q 0 0

/-- A ring is enabled: P = C = 0, RSEQ 0 (R252, R268). -/
def State.enableRing (s : State) (r : Nat) : State :=
  let s := s.setRing r { state := .run, inc := (s.ring r).inc + 1 }
  let s := ((s.setReg .ringProd r 0 0).setReg .ringCons r 0 0).setReg .ringSeq r 0 0
  match s.queueOf r with
  | some q => s.freshQueue q
  | none => s

/-- A ring as it enters DRAIN: what is not of the descriptor in execution goes, a response block with it (R265), and it waits only
for what that descriptor still needs. -/
def Ring.draining (x : Ring) : Ring :=
  let ws := x.writes.filter fun w => !w.response
  { x with state := .drain, preempted := false, writes := ws, replays := [], eots := []
           waits := if ws.length = x.writes.length && (!ws.isEmpty || x.fetched.isSome) then x.waits else [] }

/-- EN is written 0 (R253, R289): RUN and WAIT go to DRAIN, HALT to OFF. The records that an event queue holds for a page that
faulted are lost; those that only wait for a translation are written (R275, R304). -/
def State.disableRing (s : State) (r : Nat) : State :=
  let x := s.ring r
  match x.state with
  | .run | .wait =>
    let s := s.abandon r
    let s := if x.state = .wait then s.dropHold r else s
    (s.setRing r (s.ring r).draining).drainWrites r
  | .halt => s.setRing r { x with state := .off }
  | _ => s

/-- Whether a ring in DRAIN has nothing left in execution (R253). -/
def State.drained (s : State) (r : Nat) : Bool :=
  let x := s.ring r
  x.state = .drain && !x.busy && x.writes.isEmpty && x.fetched.isNone && match s.queueOf r with
    | some q => (s.queue q).hold.isEmpty
    | none => true

/-- DRAIN_END (R253): nothing is left in execution. -/
def execDrainEnd (r : Fin 1024) (s : State) : Host.Outcome State Fault Refusal :=
  effect (fun s => if s.drained r.val then s.setRing r.val { s.ring r.val with state := .off, replays := [], eots := [] } else s) s

/-! ### Doorbells and consumer counts -/

/-- An ignored access to the doorbell page, EVT_MQ_CONS or MARK_MIR_CONS (R255, R301, R446). -/
def State.badDoorbell (s : State) (ring dom slot : Nat) (v : Word) : State :=
  (s.bump .hostDbBad).raise 0x0604 [(2, ring), (1, dom), (1, slot), (4, v.toNat)]

/-- The enabled ring of slot `slot` of domain d.
Log entry 41: DEDUCED, unsafe. -/
def State.slotRing (s : State) (d slot : Nat) : Option Nat := (s.slotRings d slot).find? fun r => (s.ring r).state ≠ .off

/-- A consumer count V for queue q: accepted where it frees no more than Pd - Ch entries (R301, R303, R304). -/
def State.consume (s : State) (q r : Nat) (v : Word) : Option State :=
  let x := s.queue q
  if (v - x.ch).toNat ≤ (x.pd - x.ch).toNat then
    let s := s.setQueue q { x with ch := v }
    some (if (s.queue q).hold.isEmpty then s.endOverflow q r else s.resumeQueue q)
  else none

/-- A write to the DOORBELL word of an enabled ring (R256, R301). -/
def State.doorbell (s : State) (d slot r : Nat) (v : Word) : State :=
  match s.queueOf r with
  | some q =>
    match s.consume q r v with
    | some s => s
    | none => s.badDoorbell r d slot v
  | none =>
    let x := s.ring r
    let c := s.cons r
    if (x.state = .run || x.state = .wait) && (v - c).toNat ≤ 2 ^ s.log2s r && (s.prod r - c).toNat ≤ (v - c).toNat then
      s.setReg .ringProd r 0 v
    else s.badDoorbell r d slot v

/-- What the device reports under AER (R452, R453): 0 Uncorrectable Internal Error, 1 Poisoned TLP Received, 2 Completion
Timeout. -/
def aerPoisoned : Nat := 1
def aerTimeout : Nat := 2

/-- A write within a doorbell slot (R255, R256); a poisoned one is discarded and counted (R453).
Log entry 41: DEDUCED, unsafe. -/
def State.slotWrite (s : State) (d slot : Nat) (word : SlotWord) (v : Word) : State :=
  if !s.hostUp then s
  else if word.poisoned then (s.bump .errUnmapped).emit (.aer aerPoisoned)
  else match s.slotRing d slot with
    | none => s.badDoorbell 0xFFFF d slot v
    | some r =>
      if !word.whole || word.byte.toNat % 4 ≠ 0 then s.badDoorbell r d slot v
      else if word.byte = 0 then s.doorbell d slot r v else s

/-- DOORBELL_WRITE (R255, R256). -/
def execDoorbellWrite (d : Fin 16) (slot : Fin 64) (word : SlotWord) (v : Word) (s : State) :
    Host.Outcome State Fault Refusal :=
  effect (fun s => s.slotWrite d.val slot.val word v) s

/-- The DOORBELL, STATE and SEQ words of a slot as read (R255). -/
def State.doorbellWord (s : State) (r word : Nat) : Word :=
  let x := s.ring r
  let code := match x.state with
    | .off => 0
    | .run => 1
    | .wait => 2
    | .halt => 3
    | .drain => 4
  match word with
  | 0 => match s.queueOf r with
    | some q => (s.queue q).pd
    | none => s.cons r
  | 4 => BitVec.ofNat 32 (code + s.field .ringStatus r 0 8 4 * 256 + r * 65536)
  | 8 => if s.kind r = 1 then s.reg .ringSeq r else 0
  | _ => 0

/-- A read of the doorbell page (R255). -/
def State.doorbellRead (s : State) (d slot word : Nat) (whole : Bool) : Word × State :=
  match s.slotRing d slot with
  | none => (0, s.badDoorbell 0xFFFF d slot 0)
  | some r => if !whole || word % 4 ≠ 0 then (0, s.badDoorbell r d slot 0) else (s.doorbellWord r word, s)

/-! ### Completions of device requests (R453) -/

/-- Whether a ring can have a request outstanding. -/
def State.ringBusy (s : State) (r : Nat) : Bool :=
  let x := s.ring r
  x.state = .run || x.state = .wait || x.state = .drain

/-- HOST_COMPLETION (R253, R258, R453): good data are taken by the descriptor's own command, and bad indirect data give that
descriptor DATAERR (notes/assumptions/22.md). -/
def execHostCompletion (r : Fin 1024) (status : HostStatus) (descriptorRead : Bool) (s : State) :
    Host.Outcome State Fault Refusal :=
  effect (fun s =>
    if !s.ringBusy r.val then s
    else match status with
      | .ok => s
      | .poison =>
        let s := s.emit (.aer aerPoisoned)
        if descriptorRead then s.halt r.val 3 else s
      | .unsupported | .abort => if descriptorRead then s.halt r.val 1 else s) s

/-- COMPLETION_TIMEOUT (R453). -/
def execCompletionTimeout (r : Fin 1024) (s : State) : Host.Outcome State Fault Refusal :=
  effect (fun s => if s.ringBusy r.val then (s.emit (.aer aerTimeout)).halt r.val 1 else s) s

/-! ### The write engine (R286, R287) -/

/-- PCLASS of a ring. -/
def State.pclass (s : State) (r : Nat) : Nat := s.field .ringCfg r 0 11 2

/-- Whether a ring has a unit ready for the engine, its translations apart: in RUN, or in WAIT for pre-emption alone (R286). -/
def State.unitReady (s : State) (r : Nat) : Bool :=
  let x := s.ring r
  match x.records.head?, x.nextUnit with
  | some y, some n =>
    (x.state = .run || (x.state = .wait && x.why = .preempted)) && x.writes.isEmpty && x.halting.isNone
      && (x.unitsDone ≠ 0 || x.holds 0) && (y.oclass ≠ 3 || n ≤ s.rcl.budget)
  | _, _ => false

/-- Whether ring a goes before ring b: PCLASS, then the order of offering, then the lower number (R286). -/
def State.goesBefore (s : State) (a b : Nat) : Bool :=
  let pa := s.pclass a
  let pb := s.pclass b
  let oa : Nat := ((s.ring a).records.head?.map (·.order)).getD 0
  let ob : Nat := ((s.ring b).records.head?.map (·.order)).getD 0
  decide (pb < pa) || (pa = pb && (decide (oa < ob) || (oa = ob && decide (a ≤ b))))

/-- The rings with a unit ready, in the engine's order. -/
def State.engineOrder (s : State) : List Nat :=
  sortBy s.goesBefore ((s.rings.map (·.1)).filter fun r => decide (r < 1024) && s.unitReady r)

/-- The ring whose unit was the last yields to a ring of higher PCLASS, if it has a unit ready itself: the next of its record, or
of its next record (R287). -/
def State.preempt (s : State) (r : Nat) : State :=
  match s.engine with
  | none => s
  | some r0 =>
    let x := s.ring r0
    if r0 ≠ r && x.state = .run && s.unitReady r0 && s.pclass r0 < s.pclass r then
      (s.setRing r0 { x with state := .wait, preempted := true, resume := x.done }).bump .xlatPreempt
    else s

/-- The engine transfers the next unit of ring r, whose pages are `ps` (R279, R280). -/
def State.transferUnit (s : State) (r : Nat) (ps : List Nat) : State :=
  let s := s.preempt r
  let x := s.ring r
  let isExport := (x.records.head?.map (·.oclass)) = some 3
  let n := x.nextUnit.getD 0
  let s := { s.setRing r { x with state := .run, preempted := false } with engine := some r }
  let before := x.records.length
  let s := if isExport then { s with rcl := { s.rcl with budget := s.rcl.budget - n } } else s
  let s := s.writeRecordUnit r ps
  if isExport && s.rcl.state = .exporting && (s.ring r).records.length < before then s.exportWritten else s

/-- A unit outside the domain's windows drops its record, and the ring halts once its buffers have completed (R249, R284). -/
def State.unitOutside (s : State) (r : Nat) : State := s.faultFinish r 3 (some 2)

/-- The engine takes the first ring whose next unit can be issued. -/
def State.engineStep (s : State) : List Nat → State
  | [] => s
  | r :: rs =>
    let x := s.ring r
    match s.preparePieces r true (piecesOf x.bufs (x.nextUnit.getD 0)) with
    | (.go ps, s) => s.transferUnit r ps
    | (.wait, s) => s.engineStep rs
    | (.outside, s) => s.unitOutside r

/-- WRITE_UNIT (R286).
Log entry 93: DEDUCED, unsafe. -/
def execWriteUnit (s : State) : Host.Outcome State Fault Refusal :=
  effect (fun s => if s.busUp then s.engineStep s.engineOrder else s) s

/-! ### Drops of waiting records -/

/-- The first record of a ring, not yet begun, for which buffers are lacking though its slot's tick has ended (R267). -/
def State.lacking (s : State) (r : Nat) : Option Nat :=
  let x := s.ring r
  (List.range x.records.length).find? fun i =>
    match x.records[i]? with
    | some y => y.oclass ≠ 3 && decide (y.slot < s.now) && !(i = 0 && x.unitsDone ≠ 0) && !x.holds i
    | none => false

/-- RING_SLACK_DROP (R267): the tick of the record's slot has ended. -/
def execRingSlackDrop (r : Fin 1024) (s : State) : Host.Outcome State Fault Refusal :=
  effect (fun s =>
    match s.lacking r.val with
    | none => s
    | some i =>
      let x := s.ring r.val
      match x.records[i]? with
      | some y => (s.setRing r.val { x with records := x.records.eraseIdx i }).dropRecord r.val y
      | none => s) s

/-- FAULT_DEADLINE_DROP (R283, R284): tick k + FB of the front record has ended. The page request stays outstanding. -/
def execFaultDeadlineDrop (r : Fin 1024) (s : State) : Host.Outcome State Fault Refusal :=
  effect (fun s =>
    let x := s.ring r.val
    match x.records with
    | [] => s
    | y :: _ =>
      if y.oclass = 3 || x.halting.isSome || s.now ≤ y.slot + s.field .xlatRingFb r.val 0 0 2 || (x.unitsDone = 0 && !x.holds 0) then s
      else
        s.faultFinish r.val 1) s

end Sys2Proof.Machine
end

