-- ==== Sys2Proof/Machine/Xlat.lean ====
section
/-!
DEFINITION. What the host's translation agent and configuration space do to the device (13, R412, R421): completions of
translation and page requests, invalidation, a flush, configuration requests, a function reset, D3hot and the link.
-/
namespace Sys2Proof.Machine

/-- A ring that waits goes on: what it has to write is written, and a queue's hold drains (R280, R305). -/
def State.goOn (s : State) (r : Nat) : State :=
  let s := s.drainWrites r
  match s.queueOf r with
  | some q => s.resumeQueue q
  | none => s

/-- A ring's lookup of a page is granted: it waits for that page no more, and once it waits for none it is in RUN again, unless it
is pre-empted (R277, R280, R287). -/
def State.granted (s : State) (r page : Nat) (write : Bool) : State :=
  let x := s.ring r
  let ws := x.waits.filter fun w => !(w.page = page && w.write = write)
  let s := s.setRing r { x with waits := ws, faults := x.faults.filter (·.1 ≠ page)
                                state := if x.state = .wait && ws.isEmpty && !x.preempted then .run else x.state }
  if ws.isEmpty then s.goOn r else s

/-- Whether ring r still has something that its lookup serves: it runs or waits, or it drains and has something left. -/
def State.ringLives (s : State) (r : Nat) : Bool :=
  let x := s.ring r
  x.state = .run || x.state = .wait || (x.state = .drain && (!s.drained r || 1024 ≤ r))

/-- What a completion answers for one lookup (R272, R276). -/
def State.answerLookup (s : State) (q : PageReq) (ok : Bool) : State :=
  (q.rings.filter s.ringLives).foldl (fun s r => if ok then s.granted r q.page q.write else s.fault r q.page q.write) s

/-- The cache entry for the requested page from a completion that translates [addr, addr + size) to taddr (R273). -/
def entryOf (pv : Bool) (pasid : BitVec 20) (page addr size taddr : Nat) (rd wr : Bool) : XEntry :=
  let big := decide (2097152 ≤ size)
  let base := if big then page / 512 * 512 else page
  { pv := pv, pasid := pasid, page := base, big := big, target := (taddr + (base * 4096 - addr)) / 4096, rd := rd
    wr := wr }

/-- ATS_COMPLETION (R272, R273, R276): the translation of [addr, addr + size), with the permissions granted. -/
def execAtsCompletion (pv : Bool) (pasid : BitVec 20) (addr : BitVec 64) (size : Nat) (taddr : BitVec 64)
    (rd wr : Bool) (s : State) : Host.Outcome State Fault Refusal :=
  effect (fun s =>
    let lo := addr.toNat / 4096
    let mine := fun (q : PageReq) => q.pv = pv && q.pasid = pasid && decide (lo ≤ q.page)
      && decide (q.page < lo + max 1 (size / 4096))
    let qs := s.lookups.filter mine
    let s := { s with lookups := s.lookups.filter fun q => !mine q }
    if !s.atsOn then s
    else
      let s := if rd || wr then qs.foldl (fun s q =>
          let e := entryOf pv pasid q.page (lo * 4096) (max 4096 size) taddr.toNat rd wr
          { s with xcache := cacheInsert (s.xcache.filter fun x => !x.holds pv pasid q.page) e }.bump .xlatMiss) s
        else s
      qs.foldl (fun s q => s.answerLookup q (if q.write then wr else rd)) s) s

/-! ### Invalidation (R274) -/

/-- Whether an entry translates any byte of [addr, addr + size) under the key. -/
def XEntry.overlaps (e : XEntry) (pv : Bool) (pasid : BitVec 20) (addr size : Nat) : Bool :=
  let lo := e.page * 4096
  let hi := lo + (if e.big then 2097152 else 4096)
  e.pv = pv && e.pasid = pasid && decide (lo < addr + size) && decide (addr < hi)

/-- INVALIDATE_REQUEST: matching entries leave the cache at once, and no unit starts under them. -/
def execInvalidateRequest (tag : Fin 32) (pv : Bool) (pasid : BitVec 20) (addr : BitVec 64) (size : Nat) (s : State) :
    Host.Outcome State Fault Refusal :=
  effect (fun s =>
    let s := s.bump .xlatInv
    { s with
      xcache := s.xcache.filter fun e => !e.overlaps pv pasid addr.toNat size
      invals := s.invals ++ [Invalidation.mk tag.val pv pasid addr.toNat size] }) s

/-- INVALIDATE_COMPLETION: what was issued under the entries has completed or left. -/
def execInvalidateCompletion (tag : Fin 32) (s : State) : Host.Outcome State Fault Refusal :=
  effect (fun s =>
    match s.invals.find? fun v => v.opTag = tag.val with
    | some v => if s.power.d3hot then s else { s with invals := s.invals.erase v }.emit (.invalidateDone tag.val)
    | none => s) s

/-- XLAT_CFG.FLUSH: every entry leaves the cache (R295). -/
def State.flushCache (s : State) : State := { s with xcache := [] }

/-! ### Page requests (R277) -/

/-- Whether a wait is for the answer to a page request. -/
def PageWait.on (w : PageWait) (q : PageReq) : Bool := !w.place && !w.answered && w.prg = q.prg

/-- The rings that wait on a page request.
Log entry 48: DEDUCED, unsafe. -/
def State.waiters (s : State) (q : PageReq) : List Nat :=
  q.rings.filter fun r => s.ringLives r && (s.ring r).waits.any (·.on q)

/-- A place is free: the rings that wait for one issue their requests in ascending order, as far as places go, with the permission
that each needs (R276). Where the device has stopped issuing page requests, what they wait for is a translation failure (R277).
Log entry 48: DEDUCED, unsafe. -/
def State.fillPlaces (s : State) : State :=
  let ws := (s.rings.filter fun e => s.ringLives e.1).flatMap fun e => (e.2.waits.filter (·.place)).map fun w => (e.1, w)
  ws.foldl (fun s e =>
    if !(s.ring e.1).waits.contains e.2 then s
    else if !s.priOn || s.priStop then s.transFail e.1 e.2.page e.2.write 5
    else s.requestPage e.1 e.2.page e.2.write ((s.ring e.1).faultRun e.2.page)) s

/-- A page request is no longer outstanding. -/
def State.closeRequest (s : State) (q : PageReq) : State := { s with prqs := s.prqs.filter fun y => y.prg ≠ q.prg }

/-- A page request ends without its page (R277, R278): cause as event 0x0612 gives it. -/
def State.requestFails (s : State) (q : PageReq) (cause : Nat) : State :=
  ((s.waiters q).foldl (fun s r =>
    s.transFail r q.page ((s.ring r).waits.any fun w => w.on q && w.write) cause) (s.closeRequest q)).fillPlaces

/-- The page is translated again for the rings that wait for it with one permission (R277). -/
def State.lookAgain (s : State) (q : PageReq) (rs : List Nat) (write : Bool) : State :=
  let mine := rs.filter fun r => (s.ring r).waits.any fun w => w.on q && w.write = write
  if mine.isEmpty then s
  else
    let s := mine.foldl (fun s r =>
      let x := s.ring r
      s.setRing r { x with waits := x.waits.map fun w => if w.on q && w.write = write then { w with answered := true } else w }) s
    { s with lookups := s.lookups ++ [{ q with write := write, rings := mine }] }.emit
      (.translationRequest q.pv q.pasid q.page)

/-- A page request succeeds: the device translates the page again for the rings that wait, each with the permission that it needs
(R277). -/
def State.requestSucceeds (s : State) (q : PageReq) : State :=
  let rs := s.waiters q
  (((s.closeRequest q).lookAgain q rs true).lookAgain q rs false).fillPlaces

/-- PAGE_REQUEST_RESPONSE: a response to no outstanding request is discarded. -/
def execPageRequestResponse (prg : Fin 512) (code : PriCode) (s : State) : Host.Outcome State Fault Refusal :=
  effect (fun s =>
    match s.prqs.find? fun q => q.prg = prg.val with
    | none => s
    | some q =>
      match code with
      | .success => s.requestSucceeds q
      | .invalid => s.requestFails q 2
      | .failure => ({ s with priStop := true }.requestFails q 3).raise 0x0613 [(8, 0)]) s

/-- PAGE_REQUEST_TIMEOUT. -/
def execPageRequestTimeout (prg : Fin 512) (s : State) : Host.Outcome State Fault Refusal :=
  effect (fun s =>
    match s.prqs.find? fun q => q.prg = prg.val with
    | none => s
    | some q => s.requestFails q 4) s

/-! ### Configuration space, the function and the link -/

/-- The size mask of a base address register's low word, and its type bits: BAR 0 and 1 are a 64-bit memory BAR of 64 MiB, BAR 2 and
3 one of 1 MiB, and BAR 4 and 5 are not implemented (R248). -/
def barMask (n : Nat) : Word × Word :=
  match n with
  | 0 => (0xFC000000, 4)
  | 2 => (0xFFF00000, 4)
  | 1 | 3 => (0xFFFFFFFF, 0)
  | _ => (0, 0)

/-- Whether configuration space lists a capability (R246). -/
def capabilityPresent : PciCapability → Bool
  | .express | .powerManagement | .msix | .aer | .ats | .pri | .pasid | .ptm => true
  | .msi | .sriov | .multiFunction | .tph | .ide | .doe | .lightweightNotification | .resizableBar => false

/-- What a configuration read returns (R246, R248). `enables` has bit 0 ATS, 1 PRI, 2 Relaxed Ordering, 3 PASID, 4 MSI-X, 5 its
function mask, 6 10-bit tags, 7 the mask of Corrected Internal Error; the size codes stand for 128 × 2ⁿ bytes.
Log entry 106: PRESUMED, unsafe. -/
def State.configRead (s : State) (i : ConfigItem) : Word :=
  match i with
  | .deviceId => 0x7064
  | .revisionId => 0xB1
  | .classCode => 0x048000
  | .headerType => 0
  | .bar n => (Store.get 0 s.pci.bars n.val &&& (barMask n.val).1) ||| (barMask n.val).2
  | .capability c => BitVec.ofNat 32 (bit (capabilityPresent c))
  | .maxPayloadSupported => 2
  | .enables =>
    BitVec.ofNat 32 (bit s.atsOn + 2 * bit s.priOn + 4 * bit s.relaxedOn + 8 * bit s.pci.pasid + 16 * bit s.pci.msix
      + 32 * bit s.pci.msixMask + 64 * bit s.pci.tags10 + 128 * bit s.pci.correctedMask)
  | .maxPayload => BitVec.ofNat 32 s.pci.maxPayload.toNat
  | .maxRead => BitVec.ofNat 32 s.pci.maxRead.toNat
  | .msixTableSize => 2048

/-- A configuration write of the enables (R246, R273, R277, R293).
Log entries 45: DEDUCED, unsafe; 106: PRESUMED, unsafe. -/
def State.configWrite (s : State) (e : ConfigEnables) : State :=
  let s := if e.ats then s else { s with xcache := [], lookups := [] }
  { s with atsOn := e.ats, priOn := e.pri, relaxedOn := e.relaxed, priStop := s.priStop && (s.priOn || !e.pri)
           pci := { s.pci with pasid := e.pasid, msix := e.msix, msixMask := e.msixMask, tags10 := e.tags10
                               maxPayload := e.maxPayload, maxRead := e.maxRead
                               correctedMask := e.correctedMask } }

/-- CONFIG_REQUEST (R422, R434): Request Retry Status while the boot window is open. -/
def execConfigRequest (c : ConfigAccess) (s : State) : Host.Outcome State Fault Refusal :=
  effect (fun s =>
    if s.power.pstate = .keep || s.power.pstate = .reset then s
    else if s.boot.win = 0 then s.emit (.configStatus true)
    else
      let s := s.emit (.configStatus false)
      match c with
      | .read i => s.emit (.configData i (s.configRead i))
      | .write e => s.configWrite e
      | .writeBar n v => { s with pci := { s.pci with bars := Store.put 0 s.pci.bars n.val v } }) s

/-- The rings, queues and translations that every reset clears (R419, R421); a ring keeps the count of its enables, so that
what was begun before completes nowhere.
Log entry 46: DEDUCED, unsafe. -/
def State.clearRings (s : State) : State :=
  { s with
    rings := s.rings.map fun e => (e.1, { inc := e.2.inc + 1 })
    engine := none, xcache := [], prqs := [], lookups := [], invals := [], queues := []
    atsOn := false, priOn := false, relaxedOn := true, priStop := false, pci := {} }

/-- The enabled ports of mills that have lost their replay rings: their frames are missing until they are disabled (R79, R421). -/
def State.strandPorts (s : State) (mills : List Nat) : State :=
  (s.enabledPorts.filter fun i => mills.contains (i / 8)).foldl (fun s i => s.setPort i { s.port i with stranded := true }) s

/-- A function reset (R419, R421). HOST_LINK goes on reporting a link that stays up.
Log entry 46: DEDUCED, unsafe. -/
def State.functionReset (s : State) (k : FunctionResetKind) : State :=
  let link := s.reg .hostLink
  let replaying := s.replaying
  let s := s.clearRings
  let quiet := fun (c : CommitRec) => { c with mute := true }
  let u := s.tick
  let u := { u with judging := u.judging.map quiet, armed := u.armed.map quiet,
                    landings := u.landings.map fun (x : Landing) => { x with owner := quiet x.owner } }
  let s := { s with tick := u }
  let s := { s with regs := Store.clear s.regs 0x300000 0x400000
                    power := { s.power with d3hot := false, pstate := if s.power.pstate = PState.d3 then PState.run else s.power.pstate } }
  let s := match k with
    | .flr => s.setReg .hostLink 0 0 link
    | _ => s
  let mills := (List.range 64).filter replaying
  let s := (s.exportLost s.rcl.exportRing).strandPorts mills
  s.action .bar0 6 0 0

/-- FUNCTION_RESET (R418): hot reset, link disable and FLR act while the device runs; loss of the link resets in D0. -/
def execFunctionReset (k : FunctionResetKind) (s : State) : Host.Outcome State Fault Refusal :=
  effect (fun s =>
    if s.power.pstate = .keep || s.power.pstate = .reset || s.boot.win ≠ 1 then s
    else if k = .linkLoss && s.power.d3hot then s
    else s.functionReset k) s

/-- Output records waiting at entry to D3hot are dropped at once (R410); export entries wait (R267). Buffers that a dropped
record had begun are empty again.
Log entry 45: DEDUCED, unsafe. -/
def State.dropWaiting (s : State) (r : Nat) : State :=
  let x := s.ring r
  if s.kind r ≠ 1 then s
  else
    let gone := x.records.filter (·.oclass ≠ 3)
    let front : Bool := match x.records with
      | y :: _ => y.oclass = 3
      | [] => true
    let x' := { (if front then x else x.emptyBufs) with records := x.records.filter (·.oclass = 3) }
    gone.foldl (fun s y => s.dropRecord r y) (s.setRing r x')

/-- D3HOT_ENTRY (R410, R412). -/
def execD3hotEntry (s : State) : Host.Outcome State Fault Refusal :=
  effect (fun s =>
    if s.boot.win ≠ 1 || s.power.d3hot then s
    else
      let rs := (s.rings.map (·.1)).filter (· < 1024)
      let enter := fun (s : State) (p : PState) => rs.foldl State.dropWaiting
        { s with power := { s.power with d3hot := true, pstate := p } }
      match s.power.pstate with
      | .run => enter s .d3
      | .park => enter s .park
      | _ => s) s

/-- D0_RETURN (R410, R412): every ring goes on in the state it held. -/
def execD0Return (s : State) : Host.Outcome State Fault Refusal :=
  effect (fun s =>
    if !s.power.d3hot then s
    else
      let p := if s.power.pstate = PState.d3 then PState.run else s.power.pstate
      let s := { s with power := { s.power with d3hot := false, pstate := p } }
      (s.rings.map (·.1)).foldl State.goOn s) s

/-- LINK_CHANGE (R247): a change of rate or width is a change of capacity. -/
def execLinkChange (width : BitVec 5) (rate : BitVec 3) (flit up : Bool) (s : State) :
    Host.Outcome State Fault Refusal :=
  effect (fun s =>
    let v := if up then width.toNat + rate.toNat * 256 + bit flit * 4096 + 8192 else 0
    let old := s.reg .hostLink
    let s := s.setReg .hostLink 0 0 (BitVec.ofNat 32 v)
    if old.toNat % 4096 = v % 4096 then s else { s with tick := { s.tick with capacity := true } }) s

end Sys2Proof.Machine
end

