-- ==== Sys2Proof/Machine/Queues.lean ====
section
/-!
DEFINITION. The management queue and the coalescing timers (R301, R306, R307, R492), and the mirror ring with its writes
(R446 to R448).
-/
namespace Sys2Proof.Machine

/-! ### The management queue -/

/-- Whether a write of v to EVT_MQ_CTL, or to MARK_MIR_CTL with the same layout, is refused (R307, R448). -/
def ringCtlRefused (old v : Word) : Bool :=
  let on := bitOf old 0
  let other := bitsOf old 1 28 ≠ bitsOf v 1 28
  let log := bitsOf v 1 5
  (on && other) || (!on && bitOf v 0 && (log < 6 || 16 < log))

/-- EN of the management queue is set: it takes the held events first (R299, R492). -/
def State.enableMq (s : State) : State :=
  let s := s.dropHold mqRing
  let s := s.setRing mqRing { state := .run, inc := (s.ring mqRing).inc + 1 }
  let s := s.freshQueue 16
  let held := s.held
  held.foldl (fun s e => s.take 16 e) { s with held := [] }

/-- EN of the management queue is cleared: it is OFF once the record in progress is written, and what else it holds for a
page that faulted is lost (R307). Records that only wait for a translation are written (R275).
Log entry 107: DEDUCED, unsafe. -/
def State.disableMq (s : State) : State :=
  let x := s.ring mqRing
  match x.state with
  | .run => (s.setRing mqRing { x with state := .drain }).mqDrained mqRing
  | .wait =>
    let front := (s.queue 16).hold.take 1
    let s := (s.setQueue 16 { s.queue 16 with hold := (s.queue 16).hold.drop 1 }).dropHold mqRing
    let s := s.setQueue 16 { s.queue 16 with hold := front }
    (s.setRing mqRing { x with state := .drain }).mqDrained mqRing
  | _ => (s.dropHold mqRing).setRing mqRing { inc := x.inc }

/-- EVT_MQ_CONS is written (R301). -/
def State.mqConsume (s : State) (v : Word) : State :=
  match s.consume 16 mqRing v with
  | some s => s.setReg .evtMqCons 0 0 v
  | none => s.badDoorbell 0x400 0x10 0xFF v

/-- COALESCING_TIMEOUT (R306). -/
def execCoalescingTimeout (q : Fin 17) (s : State) : Host.Outcome State Fault Refusal :=
  effect (fun s =>
    let x := s.queue q.val
    if x.timer && s.flag .evtMsi q.val 0 11 && s.field .evtCoal q.val 0 0 16 ≠ 0 && !s.power.d3hot then
      (s.setQueue q.val { x with sinceMsg := 0, timer := false }).sendMsix (s.field .evtMsi q.val 0 0 11)
    else s) s

/-! ### The mirror ring -/

/-- The oldest SEQ held (R441). -/
def State.oldestSeq (s : State) : Word := s.markSeq - BitVec.ofNat 32 s.marks.length

/-- Whether SEQ n is held. -/
def State.markHeldSeq (s : State) (n : Word) : Bool := decide ((n - s.oldestSeq).toNat < s.marks.length)

/-- The held mark with SEQ n. -/
def State.markAt (s : State) (n : Word) : Option Mark :=
  if s.markHeldSeq n then s.marks[(s.markSeq - n).toNat - 1]? else none

/-- The 32 bytes of a mark (R437). -/
def Mark.bytes (m : Mark) : List Byte :=
  leBytes 16 m.time.toNat ++ leBytes 4 m.seq.toNat ++ leBytes 4 m.who.toNat ++ leBytes 4 m.old.toNat
    ++ leBytes 4 m.new.toNat

/-- The mirror skips marks that are gone, and goes on from the oldest held (R447). -/
def State.mirrorSkip (s : State) : State :=
  let n := s.mirror.next
  let lost := (s.oldestSeq - n).toNat
  let s := { s with mirror := { s.mirror with next := s.oldestSeq } }
  if lost = 0 || 2 ^ 31 ≤ lost then s
  else (s.bump .markMirLost 0 0 lost).raise 0x0C10 [(4, n.toNat), (4, lost)]

/-- EN of the mirror is set (R446). -/
def State.enableMirror (s : State) : State :=
  let s := s.setRing mirrorRing { state := .run, inc := (s.ring mirrorRing).inc + 1 }
  let s := { s with mirror := { pd := 0, ch := 0, next := s.reg .markMirFrom } }
  let s := s.setReg .markMirCons 0 0 0
  if s.markHeldSeq s.mirror.next then s else s.mirrorSkip

/-- Whether a record of the mirror is in progress: its page is being looked up or requested.
Log entry 107: DEDUCED, unsafe. -/
def State.mirrorBusy (s : State) : Bool :=
  (s.ring mirrorRing).state = .wait
    || ((s.ring mirrorRing).state = .run && s.lookups.any fun q => q.rings.contains mirrorRing)

/-- EN of the mirror is cleared: it is OFF once the record in progress is written (R448). -/
def State.disableMirror (s : State) : State :=
  if s.mirrorBusy then s.setRing mirrorRing { s.ring mirrorRing with state := .drain }
  else s.setRing mirrorRing { inc := (s.ring mirrorRing).inc }

/-- The mirror writes what it has begun, and new marks only while it is enabled (R446, R448). -/
def State.mirrorWrites (s : State) : Bool :=
  (s.ring mirrorRing).state = .run || (s.ring mirrorRing).state = .drain

/-- The record in progress of a disabled mirror has been written. -/
def State.mirrorDrained (s : State) : State :=
  if (s.ring mirrorRing).state = .drain then s.setRing mirrorRing { inc := (s.ring mirrorRing).inc } else s

/-- MARK_MIR_CONS is written (R446, R301). -/
def State.mirrorConsume (s : State) (v : Word) : State :=
  let x := s.mirror
  if (v - x.ch).toNat ≤ (x.pd - x.ch).toNat then ({ s with mirror := { x with ch := v } }).setReg .markMirCons 0 0 v
  else s.badDoorbell 0x401 0x11 0xFF v

/-- MIRROR_WRITE (R446, R447): the next mark is written, if the ring has a free entry. -/
def execMirrorWrite (s : State) : Host.Outcome State Fault Refusal :=
  effect (fun s =>
    let l := s.log2s mirrorRing
    let free := (s.mirror.pd - s.mirror.ch).toNat < 2 ^ l
    if !s.mirrorWrites || !free || s.mirror.next = s.markSeq then s
    else
      let s := if s.markHeldSeq s.mirror.next then s else s.mirrorSkip
      match s.markAt s.mirror.next with
      | none => s
      | some m =>
        let addr := s.ringBase mirrorRing + 32 * (s.mirror.pd.toNat % 2 ^ l)
        match s.prepare mirrorRing addr 32 true with
        | (.go ps, s) =>
          let s := s.issue mirrorRing addr m.bytes false ps
          { s with mirror := { s.mirror with pd := s.mirror.pd + 1, next := s.mirror.next + 1 } }.mirrorDrained
        | (_, s) => s) s

end Sys2Proof.Machine
end

