-- ==== Sys2Proof/Machine/SdmaOps.lean ====
section
/-!
DEFINITION. Service DMA's control (19): the start of a transfer with its refusals (R392 to R394), its end (R397) and its
status. `Machine.Sdma` moves the words.
-/
namespace Sys2Proof.Machine

/-- One side of a transfer. -/
structure SdmaSide where
  isReg : Bool
  inc : Bool
  addr : Nat
  deriving DecidableEq, Repr

def State.sdmaSrc (s : State) (c : Nat) : SdmaSide :=
  SdmaSide.mk (s.flag .sdmaCfg c 0 0) (s.flag .sdmaCfg c 0 1) ((s.reg .sdmaSrcLo c).toNat + s.field .sdmaSrcHi c 0 0 6 * 2 ^ 32)

def State.sdmaDst (s : State) (c : Nat) : SdmaSide :=
  SdmaSide.mk (s.flag .sdmaCfg c 0 2) (s.flag .sdmaCfg c 0 3) ((s.reg .sdmaDstLo c).toNat + s.field .sdmaDstHi c 0 0 6 * 2 ^ 32)

def State.sdmaCount (s : State) (c : Nat) : Nat := (s.reg .sdmaCount c).toNat

/-- Bytes of DRAM that a side spans. -/
def SdmaSide.span (x : SdmaSide) (count : Nat) : Nat := if x.inc then count else 4

/-- Whether an incrementing DRAM side runs past the active address space (R394). -/
def State.sdmaBeyond (s : State) (x : SdmaSide) (count : Nat) : Bool :=
  !x.isReg && x.inc && s.dramSize < x.addr + count

/-- Whether a DRAM side overlaps a placed region. -/
def State.sdmaPlaced (s : State) (x : SdmaSide) (count : Nat) : Bool :=
  !x.isReg && s.tick.regions.any fun r => decide (x.addr < r.addr + r.size) && decide (r.addr < x.addr + x.span count)

/-- The CODE with which a GO is refused, or none (R394). -/
def State.sdmaRefusal (s : State) (c : Nat) : Option Nat :=
  let n := s.sdmaCount c
  let a := s.sdmaSrc c
  let b := s.sdmaDst c
  if n < 4 || n % 4 ≠ 0 || a.addr % 4 ≠ 0 || b.addr % 4 ≠ 0 then some 4
  else if s.sdmaBeyond a n || s.sdmaBeyond b n then some 5
  else if c < 6 && (s.sdmaPlaced a n || s.sdmaPlaced b n) then some 6
  else none

/-- A transfer ends (R397): CODE 1 complete, 3 stopped, 4 to 8 with event 0x0940. -/
def State.sdmaEnd (s : State) (c code : Nat) : State :=
  let x := s.sdmaChan c
  let s := (s.setSdma c { x with busy := false, done := true, code := BitVec.ofNat 4 code }).setReg .sdmaBytes c 0
    (BitVec.ofNat 32 x.moved)
  if 4 ≤ code then s.raise 0x0940 [(1, c), (1, code), (4, x.moved), (2, 0)] else s

/-- GO (R393, R394, R399): ignored while BUSY. -/
def State.sdmaGo (s : State) (c : Nat) (o : Origin) : State :=
  if (s.sdmaChan c).busy then s
  else
    let s := (s.setSdma c { busy := true, origin := o }).setReg .sdmaBytes c 0 0
    match s.sdmaRefusal c with
    | some code => s.sdmaEnd c code
    | none => s

/-- SDMA_LANDED (R397): every write that was issued has drained. -/
def execSdmaLanded (c : Fin 8) (s : State) : Host.Outcome State Fault Refusal :=
  effect (fun s =>
    let x := s.sdmaChan c.val
    if x.done && (x.code = 1 || x.code = 3 || x.code = 7 || x.code = 8) then s.setSdma c.val { x with landed := true }
    else s) s

/-- SDMA_STATUS[c] (R400). -/
def State.sdmaStatus (s : State) (c : Nat) : Word :=
  let x := s.sdmaChan c
  BitVec.ofNat 32 (bit x.busy + 2 * bit x.done + 4 * bit x.landed + x.code.toNat * 256)

end Sys2Proof.Machine
end

