-- ==== Sys2Proof/Machine/TwoWire.lean ====
section
/-!
DEFINITION. The two-wire controllers TW1 to TW4 (R386 to R391): their transfers, arbitration, hang recovery and the target
role. Port n of the model, 0 to 3, is TW(n + 1), and the payloads carry n + 1.
-/
namespace Sys2Proof.Machine

/-- The data registers of set h. -/
def twData (h : Fin 2) : RegName := if h = 0 then .twbData0 else .twbData1

/-- Fields of TWB_C_XFER[n][h] (R391). -/
def State.xferAddr (s : State) (n : Nat) (h : Fin 2) : Nat := s.field .twbXfer n h.val 0 7
def State.xferRead (s : State) (n : Nat) (h : Fin 2) : Bool := s.flag .twbXfer n h.val 7
def State.xferPtr (s : State) (n : Nat) (h : Fin 2) : Nat := s.field .twbXfer n h.val 8 2
def State.xferLen (s : State) (n : Nat) (h : Fin 2) : Nat := s.field .twbXfer n h.val 10 5 + 1

/-- The first n bytes that eight data registers hold. -/
def State.twBytes (s : State) (reg : RegName) (n len : Nat) : List Byte :=
  ((List.range 8).flatMap fun i => leBytes 4 (s.reg reg n i).toNat).take len

/-- Puts bytes into eight data registers, from byte 0 on. -/
def State.putTwBytes (s : State) (reg : RegName) (n : Nat) (bs : List Byte) : State :=
  let all := (bs ++ (s.twBytes reg n 32).drop bs.length).take 32
  (List.range 8).foldl (fun s i => s.setReg reg n i (BitVec.ofNat 32 (leAt all (4 * i) 4))) s

/-- The bytes that a transfer sends: address, pointer and data, or the addresses of a read. -/
def State.twSent (s : State) (n : Nat) (h : Fin 2) : List Byte :=
  let a := 2 * s.xferAddr n h
  let p := (s.reg .twbPtr n h.val).toNat
  let ptr := match s.xferPtr n h with
    | 0 => []
    | 1 => [BitVec.ofNat 8 p]
    | _ => [BitVec.ofNat 8 (p / 256), BitVec.ofNat 8 p]
  let start := if s.xferRead n h && ptr.isEmpty then [] else BitVec.ofNat 8 a :: ptr
  if s.xferRead n h then start ++ [BitVec.ofNat 8 (a + 1)]
  else start ++ s.twBytes (twData h) n (s.xferLen n h)

/-- A set's transfer ends with a CODE (R391).
Log entry 56: DESIGN CHOICE, safe. -/
def State.endTransfer (s : State) (n : Nat) (h : Fin 2) (code bytes : Nat) : State :=
  let r := s.reg .twbRes n h.val
  let done := (bitsOf r 16 8 + 1) % 256
  let s := s.setReg .twbRes n h.val (BitVec.ofNat 32 (code + bytes * 16 + done * 2 ^ 16))
  let p := s.twPort n
  s.setTwPort n { p with pending := p.pending.erase h }

/-- GO is written to an idle set (R387, R391); while the set is BUSY it is ignored.
Log entry 59: DEDUCED, unsafe. -/
def State.twGo (s : State) (n : Nat) (h : Fin 2) : State :=
  let p := s.twPort n
  if p.pending.contains h then s
  else if s.xferPtr n h = 3 then s.endTransfer n h 7 0
  else s.setTwPort n { p with pending := p.pending ++ [h] }

/-- The transfer that runs next on a port: the port is enabled and not in target role. -/
def State.twNext (s : State) (n : Nat) : Option (Fin 2) :=
  let p := s.twPort n
  if s.flag .twbCfg n 0 0 && !p.target then p.pending.head? else none

/-- TRANSFER_START (R386 to R388): the bus is free, and the pending transfer runs to its end. -/
def execTransferStart (n : Fin 4) (bus : TwBus) (s : State) : Host.Outcome State Fault Refusal :=
  effect (fun s =>
    match s.twNext n.val with
    | none => s
    | some h =>
      let len := s.xferLen n.val h
      let read := s.xferRead n.val h
      let s := (s.emit (.twTransfer (n.val + 1) (s.twSent n.val h))).setTwPort n.val
        { s.twPort n.val with busBusy := false }
      match bus with
      | .done data =>
        let s := if read then s.putTwBytes (twData h) n.val (padTo len data) else s
        s.endTransfer n.val h 1 len
      | .addressNack => s.endTransfer n.val h 2 0
      | .dataNack acked => s.endTransfer n.val h 3 (min acked len)
      | .lost phase byteIndex bitNo acked data addressed =>
        let k := min acked len
        let s := if read then s.putTwBytes (twData h) n.val (padTo k data) else s
        let target := phase = 1 && addressed && s.flag .twbCfg n.val 0 3
        let s := (s.endTransfer n.val h 4 k).bump .twbArb n.val
        let s := s.setTwPort n.val { s.twPort n.val with busBusy := true, target := target }
        s.raise 0x0A01 [(1, n.val + 1), (1, phase), (1, byteIndex), (1, bitNo), (1, bit target), (3, 0)]) s

/-- SCL_TIMEOUT (R387): no STOP is sent. How many bytes had been acknowledged is free.
Log entries 56: DESIGN CHOICE, safe; 59: DEDUCED, unsafe. -/
def execSclTimeout (n : Fin 4) (s : State) : Host.Outcome State Fault Refusal :=
  effect (fun s =>
    match s.twNext n.val with
    | none => s
    | some h =>
      let (v, s) := s.draw
      let s := s.endTransfer n.val h 6 (v.toNat % (s.xferLen n.val h + 1))
      (s.setTwPort n.val { s.twPort n.val with busBusy := true }).raise 0x0A03
        [(1, n.val + 1), (1, 3), (1, h.val), (5, 0)]) s

/-- HANG_RECOVERY (R390).
Log entry 59: DEDUCED, unsafe. -/
def execHangRecovery (n : Fin 4) (res : HangResult) (s : State) : Host.Outcome State Fault Refusal :=
  effect (fun s =>
    match s.twNext n.val with
    | none => s
    | some h =>
      let hung := fun (s : State) (code cause : Nat) =>
        ((s.endTransfer n.val h code 0).setTwPort n.val { (s.endTransfer n.val h code 0).twPort n.val with hung := true }).raise
          0x0A03 [(1, n.val + 1), (1, cause), (1, h.val), (5, 0)]
      match res with
      | .freed p =>
        let s := (s.setTwPort n.val { s.twPort n.val with hung := false, busBusy := false }).bump .twbRecov n.val
        s.raise 0x0A02 [(1, n.val + 1), (1, p.val + 1), (6, 0)]
      | .sdaHeld => hung s 5 1
      | .sclHeld => hung s 6 2) s

/-- TARGET_TRANSACTION (R389): a read is answered with 0xFF bytes. -/
def execTargetTransaction (n : Fin 4) (read : Bool) (bytes : List Byte) (s : State) :
    Host.Outcome State Fault Refusal :=
  effect (fun s =>
    let p := s.twPort n.val
    if !p.target then s
    else
      let got := if read then [] else bytes.take 32
      let s := s.putTwBytes .twbRx n.val got
      let s := s.setTwPort n.val { p with target := false, busBusy := false, rxLen := got.length }
      s.raise 0x0A06 [(1, n.val + 1), (1, got.length), (1, bit read), (5, 0)]) s

/-- TWB_C_STATUS[n] (R391). -/
def State.twStatus (s : State) (n : Nat) : Word :=
  let p := s.twPort n
  BitVec.ofNat 32 (bit p.busBusy + 2 * bit p.target + 4 * bit p.hung + p.rxLen * 256)

/-- TWB_C_RES[n][h] (R391): BUSY is the set's place among those pending. -/
def State.twRes (s : State) (n h : Nat) : Word :=
  s.reg .twbRes n h + BitVec.ofNat 32 (8 * bit ((s.twPort n).pending.contains (Fin.ofNat 2 h)))

end Sys2Proof.Machine
end

