-- ==== Sys2Proof/Machine/RegRead.lean ====
section
/-!
DEFINITION. Reading registers (R5 to R8, R49, R465): the registers computed from the rest of the state, the `_HI` latches,
the fields that a read clears, and who reaches which register when (R422, R434, R469).
-/
namespace Sys2Proof.Machine

/-! ### Who reaches the registers -/

/-- Whether an access by `a` reaches the register space: the host as `hostUp` says, or after a failed boot (R434); TW0, the
management core and service DMA while the main rails are in range (R379, R469).
Log entry 69: DEDUCED, unsafe. -/
def State.reaches (s : State) (a : Accessor) : Bool :=
  match a with
  | .bar0 | .bar2 | .bar0Part | .bar2Part => s.hostUp || (s.boot.win = 2 && s.power.pstate = .boot && !s.power.d3hot)
  | .tw0 => s.power.pstate ≠ .keep && s.power.supplied
  | .mgmt | .sdma _ => s.power.pstate ≠ .keep && s.power.pstate ≠ .reset

/-- Whether an offset reads as 0 because boot has failed (R434). -/
def State.deadOffset (s : State) (off : Nat) : Bool := s.boot.win = 2 && 0x10000 ≤ off

/-! ### Live values -/

def PState.code : PState → Nat
  | .keep => 0
  | .reset => 1
  | .boot => 2
  | .run => 3
  | .d3 => 4
  | .park => 5
  | .trip => 6

def RingState.code : RingState → Nat
  | .off => 0
  | .run => 1
  | .wait => 2
  | .halt => 3
  | .drain => 4

def WaitWhy.code : WaitWhy → Nat
  | .none => 0
  | .pageRequest => 1
  | .preempted => 2
  | .place => 3

/-- GLB_BOOT_STATUS (R436).
Log entry 70: DEDUCED, unsafe. -/
def State.bootStatus (s : State) : Nat :=
  let b := s.boot
  b.win.toNat + b.cause.toNat * 16 + bit b.slot * 128 + b.resA.toNat * 256 + b.resB.toNat * 4096 + s.fuses.svn * 2 ^ 16
    + s.fuses.programmed.toNat * 2 ^ 23 + s.fuses.revoked.toNat * 2 ^ 27

/-- PWR_STATUS (R417). -/
def State.pwrStatus (s : State) : Nat :=
  let p := s.power
  p.pstate.code + bit p.onBack * 16 + bit p.backOk * 32 + bit p.mainOk * 64 + bit p.warn * 128 + bit p.tripped * 256

/-- CHN_STATUS (R349). -/
def State.chnStatus (s : State) : Nat :=
  let c := s.chain
  c.role.toNat + (if c.role = 1 || c.role = 2 then c.addr.toNat * 4 else 0) + bit c.orient * 128 + bit c.side * 256
    + s.level * 512 + s.chain.clevel.toNat * 4096 + c.icause.toNat * 2 ^ 16 + c.slot.toNat % 32 * 2 ^ 24

/-- CHN_PST[x] (R349): TOWARD shows where a member's keystone lies. -/
def State.chnPst (s : State) (x : Nat) : Nat :=
  let p := s.cport x
  let toward := s.chain.role ≠ 1 && s.chain.taken && s.chain.toward = x
  bit p.linked + 2 * bit p.peer + 4 * bit p.blocked + 8 * bit toward + numAt p.hello 10 1 % 64 * 256

/-- WALL_RCL_STATUS (R245). -/
def State.rclStatus (s : State) : Nat :=
  let c := s.rcl
  c.state.code + 4 * bit c.pend + 8 * bit c.lost + 16 * bit (s.recallSize < s.field .wallRclSize 0 0 0 13) + c.kind.toNat * 32

/-- The enabled walls. -/
def State.enabledWalls (s : State) : List Nat :=
  (s.trays.filter fun e => decide (576 ≤ e.1) && s.wallEn (e.1 - 576)).map (·.1 - 576)

/-- The stones of all enabled walls.
Log entry 70: DEDUCED, unsafe. -/
def State.stoneUse (s : State) : Nat := (s.enabledWalls.map fun w => (stonesOf (s.wBank w)).length).foldl (· + ·) 0

/-- Line store that one streaming wall reserves (R226). -/
def lineStore (b : Bank) : Nat := if wGet b WW.stream ≠ 0 then 4 * wallW b * 4 else 0

/-- WALL_USE (R235). -/
def State.wallUse (s : State) : Nat :=
  s.stoneUse + ceilDiv ((s.enabledWalls.map fun w => lineStore (s.wBank w)).foldl (· + ·) 0) 1024 * 2 ^ 16

/-- The address of a placed region, 0 where there is none. -/
def State.regionAddr (s : State) (kind owner : Nat) : Nat := ((s.region kind owner).map (·.addr)).getD 0

/-- STATE of the management queue or the mirror ring: one that still finishes a record is not yet OFF (R307). -/
def State.ctlState (s : State) (r : Nat) : Nat :=
  let x := s.ring r
  (if x.state = .drain then (if x.waits.isEmpty then 1 else 2) else x.state.code) * 2 ^ 29

/-- Word i of the selected mark (R445). -/
def State.markWord (s : State) (i : Nat) : Nat :=
  match (if s.markSelected then s.markAt (s.reg .markRdSeq) else none) with
  | some m => leAt m.bytes (4 * i) 4
  | none => 0

/-- MARK_HELD. -/
def State.markHeld (s : State) : Nat :=
  s.marks.length + bit (s.markSelected && s.markHeldSeq (s.reg .markRdSeq)) * 2 ^ 31

/-- HOST_RING_STATUS[r] (R271). -/
def State.ringStatusWord (s : State) (r : Nat) : Nat :=
  let b := s.reg .protRing r
  (s.ring r).state.code + s.field .ringStatus r 0 8 4 * 256
    + (if bitOf b 10 then bitsOf b 0 4 * 4096 + bitsOf b 4 6 * 2 ^ 16 + 2 ^ 22 else 0)

/-- EVT_STATUS[q]. -/
def State.evtStatus (s : State) (q : Nat) : Nat :=
  let x := s.queue q
  let waits := match s.queueRing q with
    | some r => (s.ring r).state = .wait
    | none => false
  bit x.overflow + 2 * bit waits + (if waits then min 32 x.hold.length else 0) * 256

/-- What a register adds to its stored value, or shows in its place: the blocks up to MILL. -/
def State.liveA (s : State) (r : RegAt) : Option Nat :=
  match r.name with
  | .glbBootStatus => some s.bootStatus
  | .glbRstCause => some (s.boot.rstCause.toNat + 8 * bit s.boot.rstTrip)
  | .glbBootMs => some (if s.boot.win = 1 then s.boot.ms.toNat else 0)
  | .protLock => some (bit (s.boot.win = 1))
  | .timeStatus => some (s.timeStatus r.i).toNat
  | .timeRdSubns => some ((s.base r.i).rdSub % 65536)
  | .timeRdNs => some ((s.base r.i).rdSub / 65536 % 1000000000)
  | .timeRdSecLo => some ((s.base r.i).rdSub / 65536 / 1000000000)
  | .timeRdSecHi => some ((s.base r.i).rdSub / 65536 / 1000000000 / 2 ^ 32)
  | .timeFreq => some (BitVec.ofInt 32 (s.base r.i).fr).toNat
  | .timeErrNs => some (s.errNs r.i)
  | .tickNumLo => some s.tick.num.toNat
  | .tickNumHi => some (s.tick.num.toNat / 2 ^ 32)
  | .tickCycle => some (s.tick.cycle + s.course * 2 ^ 16)
  | .sxlStatus => some (s.sxlStatus r.i).toNat
  | .sxlPstat => some ((s.reg r.name r.i r.j).toNat + 256 * bit (s.openFrame (8 * r.i + r.j)).isSome)
  | .millInStore => some (s.allotted r.i)
  | .millInWm => some ((s.reg r.name r.i r.j).toNat + 256 * s.lineLevel (8 * r.i + r.j))
  | .millFunWm => some ((s.reg r.name r.i r.j).toNat + 2 ^ 16 * funnelLevel (s.funnel (8 * r.i + r.j)))
  | .millFunWmS => some ((s.reg r.name r.i).toNat + 2 ^ 16 * funnelLevel (s.funnel (8 * r.i + 4)))
  | .millFrRefLo => some (s.regionAddr 0 (8 * r.i + r.j))
  | .millFrRefHi => some (s.regionAddr 0 (8 * r.i + r.j) / 2 ^ 32)
  | .millTrayCmt => some (s.trayStatus (512 + r.i)).toNat
  | .millTrayPst => some (s.trayStatus (8 * r.i + r.j)).toNat
  | _ => none

/-- The blocks from WALL to EVT. -/
def State.liveB (s : State) (r : RegAt) : Option Nat :=
  match r.name with
  | .wallLast => some ((s.reg .wallLast r.i).toNat
      + (stonesOf (s.wBank r.i)).length * 2 ^ 16)
  | .wallUse => some s.wallUse
  | .wallStgLo => some (s.regionAddr 1 r.i)
  | .wallStgHi => some (s.regionAddr 1 r.i / 2 ^ 32)
  | .wallRclStatus => some s.rclStatus
  | .wallRclEntries => some s.rcl.entries.length
  | .wallRclEff => some s.recallSize
  | .wallRclTfLo => some s.rcl.tf.toNat
  | .wallRclTfHi => some (s.rcl.tf.toNat / 2 ^ 32)
  | .wallTrayStat => some (s.trayStatus (576 + r.i)).toNat
  | .ringStatus => some (s.ringStatusWord r.i)
  | .xlatStatus => some (s.prqs.length + bit s.priStop * 2 ^ 16 + bit s.atsOn * 2 ^ 17)
  | .xlatRingWait =>
    let x := s.ring r.i
    some (if x.state = .wait then x.why.code + (if x.why = .pageRequest then x.prg * 4 else 0) else 0)
  | .xlatRingResume => some (if (s.ring r.i).state = .wait then (s.ring r.i).resume else 0)
  | .evtStatus => some (s.evtStatus r.i)
  | .evtMqCtl => some ((s.reg .evtMqCtl).toNat + s.ctlState mqRing)
  | .evtMqProd => some (s.queue 16).pd.toNat
  | .evtMqCons => some (s.queue 16).ch.toNat
  | _ => none

/-- The blocks from ETH on.
Log entry 14: DESIGN CHOICE, safe. -/
def State.liveC (s : State) (r : RegAt) : Option Nat :=
  match r.name with
  | .ethStatus => some (((List.range 4).map fun j => bit (s.split (4 * r.i + j)).up * 2 ^ j).foldl (· + ·) 0)
  | .chnStatus => some s.chnStatus
  | .chnDevidLo => some Config.deviceId.toNat
  | .chnDevidHi => some (Config.deviceId.toNat / 2 ^ 32)
  | .chnVerOwn => some s.boot.version.toNat
  | .chnVerFloor => some s.boot.floor.toNat
  | .chnDigest => some s.digest.toNat
  | .chnEpoch => some (s.chain.epoch.toNat + s.chain.nmem.toNat % 64 * 2 ^ 16 + s.chain.na.toNat % 64 * 2 ^ 24)
  | .chnPst => some (s.chnPst r.i)
  | .dramStatus => some (s.dramStatus r.i).toNat
  | .dramTrnSet => some (s.trnSet r.i).toNat
  | .dramTrnErr => some (s.trnErr r.i).toNat
  | .dramActive => some s.dramActive.toNat
  | .twbT0Status =>
    some (0x58 + s.tw0.address.toNat + 128 * bit (s.power.pstate ≠ .park || s.tw0.awake) + s.tw0.pointer.toNat * 2 ^ 16)
  | .twbStatus => some (s.twStatus r.i).toNat
  | .twbRes => some (s.twRes r.i r.j).toNat
  | .sdmaStatus => some (s.sdmaStatus r.i).toNat
  | .pwrStatus => some s.pwrStatus
  | .pwrMon => some (if s.power.monitored then (Config.railMillivolts r.i s.clock).toNat else 0)
  | .markSeq => some s.markSeq.toNat
  | .markHeld => some s.markHeld
  | .markRdData => some (s.markWord r.i)
  | .markMirCtl => some ((s.reg .markMirCtl).toNat + s.ctlState mirrorRing)
  | .markMirProd => some s.mirror.pd.toNat
  | .markMirCons => some s.mirror.ch.toNat
  | .errStatus => some (s.serviceNow.toNat + s.retired * 256)
  | _ => none

/-- A register as it reads (R7): no side effect. -/
def State.regValue (s : State) (r : RegAt) : Word :=
  match s.liveA r with
  | some v => BitVec.ofNat 32 v
  | none => match s.liveB r with
    | some v => BitVec.ofNat 32 v
    | none => match s.liveC r with
      | some v => BitVec.ofNat 32 v
      | none => s.reg r.name r.i r.j

/-! ### Reads -/

/-- The `_HI` register of a `_LO` register (R5). The TIME read sets have their own latch (R49). -/
def RegName.hi : RegName → Option RegName
  | .protBaseLo => some .protBaseHi
  | .protLimLo => some .protLimHi
  | .timeSetSecLo => some .timeSetSecHi
  | .tickNumLo => some .tickNumHi
  | .sxlHubIdLo => some .sxlHubIdHi
  | .millFrRefLo => some .millFrRefHi
  | .wallStgLo => some .wallStgHi
  | .wallRclTfLo => some .wallRclTfHi
  | .ringBaseLo => some .ringBaseHi
  | .evtMqBaseLo => some .evtMqBaseHi
  | .ethVsfIdLo => some .ethVsfIdHi
  | .ethMacLo => some .ethMacHi
  | .ethGclBaseSecLo => some .ethGclBaseSecHi
  | .ethStrDaLo => some .ethStrDaHi
  | .ethStrIdLo => some .ethStrIdHi
  | .chnDevidLo => some .chnDevidHi
  | .sdmaSrcLo => some .sdmaSrcHi
  | .sdmaDstLo => some .sdmaDstHi
  | .sdmaErrLo => some .sdmaErrHi
  | .markMirBaseLo => some .markMirBaseHi
  | _ => none

/-- What an accessor has latched for a `_HI` register (R465). -/
def State.latched (s : State) (a : Accessor) (off : Nat) : Option Word :=
  (s.latches.find? fun e => e.1 = a && e.2.1 = off).map (·.2.2)

/-- The latch is consumed. -/
def State.unlatch (s : State) (a : Accessor) (off : Nat) : State :=
  { s with latches := s.latches.filter fun e => !(e.1 = a && e.2.1 = off) }

/-- A read of `_LO` latches `_HI`. -/
def State.latchHi (s : State) (a : Accessor) (r : RegAt) : State :=
  match r.name.hi with
  | none => s
  | some h =>
    let off := h.off r.i r.j
    let s := s.unlatch a off
    { s with latches := (a, off, s.regValue (RegAt.mk h r.i r.j)) :: s.latches }

/-- The level that a PEAK field follows again once a read has cleared it (R130); 0 for another register.
Log entry 96: DEDUCED, unsafe. -/
def State.peakLevel (s : State) (r : RegAt) : Nat :=
  match r.name with
  | .millInPeak => s.lineLevel (8 * r.i + r.j)
  | .millFunPeak => funnelLevel (s.funnel (8 * r.i + r.j))
  | .millFunPeakS => funnelLevel (s.funnel (8 * r.i + 4))
  | _ => 0

/-- The read clears the fields of type RC (R7). -/
def State.clearRc (s : State) (r : RegAt) : State :=
  if r.name.row.rc = 0 then s
  else s.setReg r.name r.i r.j
    ((s.reg r.name r.i r.j &&& BitVec.ofNat 32 (0xFFFFFFFF - r.name.row.rc)) ||| BitVec.ofNat 32 (s.peakLevel r))

/-- The read set's part in a read (R49): SUBNS latches before it, SEC_HI frees after it. -/
def State.beforeRead (s : State) (r : RegAt) : State :=
  if r.name = .timeRdSubns then s.readSubns r.i else s

def State.afterRead (s : State) (r : RegAt) : State :=
  if r.name = .timeRdSecHi then s.setBase r.i { s.base r.i with rdHeld := false, rdSnap := false } else s

/-- An access to an offset that lies in no register (R10). -/
def State.unmapped (s : State) : State := s.bump .errUnmapped

/-- A register read by an accessor: its data, and what the read does.
Log entry 69: DEDUCED, unsafe. -/
def State.readReg (s : State) (a : Accessor) (off : Nat) : Word × State :=
  match locate off with
  | none => (0, s.unmapped)
  | some r =>
    if s.deadOffset off then (0, s)
    else match s.latched a off with
    | some v => (v, s.unlatch a off)
    | none =>
      let s := s.beforeRead r
      let v := s.regValue r
      (v, ((s.latchHi a r).clearRc r).afterRead r)

/-- A read of the doorbell page (R255). -/
def State.bar2Read (s : State) (off : Nat) (whole : Bool) : State :=
  let d := off / 0x10000 % 16
  let slot := off / 0x400 % 64
  let word := off % 0x400
  let (v, s) := if s.boot.win = 2 then (0, s) else s.doorbellRead d slot word whole
  s.emit (.bar2Data d slot word v)

/-- A read command of an accessor: BAR2 holds the doorbell page (R255); a BAR0 read of less than a whole aligned word is an
unmapped access (R10, R464). -/
def State.readCmd (s : State) (a : Accessor) (off : Nat) : State :=
  if !s.reaches a then s
  else match a with
    | .bar2 => s.bar2Read off true
    | .bar2Part => s.bar2Read off false
    | .bar0Part => s.unmapped.emit (.readData a off 0)
    | _ =>
      let (v, s) := s.readReg a off
      s.emit (.readData a off v)

/-- READ_LO (R5, R465). -/
def execReadLo (a : Accessor) (off : BitVec 26) (s : State) : Host.Outcome State Fault Refusal :=
  effect (fun s => s.readCmd a off.toNat) s

/-- RC_READ (R7, R8). -/
def execRcRead (a : Accessor) (off : BitVec 26) (s : State) : Host.Outcome State Fault Refusal :=
  effect (fun s => s.readCmd a off.toNat) s

/-- TIME_READ_LATCH (R49): a read of TIME_RD_SUBNS[b]. -/
def execTimeReadLatch (a : Accessor) (b : Fin 4) (s : State) : Host.Outcome State Fault Refusal :=
  effect (fun s => s.readCmd a (RegName.timeRdSubns.off b.val)) s

end Sys2Proof.Machine
end

