-- ==== Sys2Proof/Machine/RegWrite.lean ====
section
/-!
DEFINITION. Writing registers (R7, R9, R10, R433, R439, R443, R460 to R469, R495): how a write is judged, what it stores, its
mark, and the action of each register that acts. The service DMA block's moves lie in `Machine.Sdma`.
-/
namespace Sys2Proof.Machine

/-! ### How a write is judged -/

/-- What becomes of a write. -/
inductive Verdict where
  | unmapped | ignored | refused | accepted
  deriving DecidableEq, Repr

/-- Fields that a write can change or that act on it. -/
def RegRow.writable (r : RegRow) : Nat := r.rw ||| r.wo ||| r.w1s ||| r.w1c ||| r.bw

/-- Registers that the management core alone writes (R467). -/
def RegAt.mgmtOnly (r : RegAt) : Bool :=
  match r.name with
  | .dramTrnCtl | .dramTrnAddr | .dramTrnLane | .dramTrnSet | .dramTrnUpat | .twbData1 => true
  | .twbXfer | .twbPtr => r.j = 1
  | .sdmaSrcLo | .sdmaSrcHi | .sdmaDstLo | .sdmaDstHi | .sdmaCount | .sdmaCfg | .sdmaCtrl | .sdmaStatus | .sdmaBytes
  | .sdmaErrLo | .sdmaErrHi => 6 ≤ r.i
  | _ => false

/-- Whether a register lies in the MSI-X table or pending-bit array, outside the window check (R433). -/
def RegAt.msix (r : RegAt) : Bool := r.name = .msixTable || r.name = .msixPba

/-- Whether register window k lets an origin write an offset (R433). -/
def State.windowGrants (s : State) (k : Nat) (o : Origin) (off : Nat) : Bool :=
  let bit := match o with
    | .bar0 => 0
    | _ => 1
  s.flag .protRwinGrant k 0 bit && (s.reg .protRwinBase k).toNat ≤ off && off ≤ (s.reg .protRwinLimit k).toNat

/-- Whether a write from an origin passes the register windows (R433). -/
def State.writeGranted (s : State) (o : Origin) (off : Nat) : Bool :=
  if s.boot.win = 1 && (o = .bar0 || o = .tw0) then (List.range 16).any fun k => s.windowGrants k o off else true

/-- Whether a write of v to TIME_CFG[b] is refused (R37, R38, R50). -/
def State.timeCfgRefused (s : State) (b : Nat) (v : Word) : Bool :=
  let src := bitsOf v 0 3
  (src ≠ 0 && src ≠ ownSrc b) || (bitOf v 7 && (b = 2 || src ≠ 0 || s.tickHeld b))

/-- Whether a period and a phase are out of range (R55). -/
def tickOutOfRange (period phase : Nat) : Bool := period < 1000000 || 100000000 < period || period ≤ phase

/-- Whether the recall store's size and export rate are sealed (R239). -/
def State.rclSealed (s : State) : Bool :=
  s.rcl.state = .frozen || s.rcl.state = .exporting
    || s.trays.any fun e => decide (576 ≤ e.1) && wGet e.2.active WW.en ≠ 0 && wGet e.2.active WW.rclEn ≠ 0

/-- Whether EN would be set in PARK (R411). -/
def State.parkedEn (s : State) (v : Word) : Bool := s.power.pstate = .park && bitOf v 0

/-- Whether a service DMA GO is refused in PARK: the channel has a DRAM side (R411). -/
def State.parkedGo (s : State) (c : Nat) (v : Word) : Bool :=
  s.power.pstate = .park && bitOf v 0 && !(s.sdmaChan c).busy && (!(s.sdmaSrc c).isReg || !(s.sdmaDst c).isReg)

/-- Whether a register refuses a write of v: the blocks up to HOST. R91 has RENEG refused while a port of the lane is enabled,
and one of its sentences lets a lane that is not UP take it: the refusal holds here whatever the lane's step.
Log entry 103: DESIGN CHOICE, unsafe. -/
def State.refusesA (s : State) (r : RegAt) (v : Word) : Bool :=
  let old := s.reg r.name r.i r.j
  match r.name with
  | .glbFuseCtl | .glbFuseData => s.boot.cause ≠ 1
  | .timeCfg => s.timeCfgRefused r.i v
  | .tickCfg => s.anyPortEnabled || 2 ≤ bitsOf v 2 2
  | .tickPeriodNs => s.anyPortEnabled || tickOutOfRange (bitsOf v 0 27) s.tickPhase
  | .tickPhaseNs => s.anyPortEnabled || tickOutOfRange (s.reg .tickPeriodNs).toNat (bitsOf v 0 27)
  | .sxlCfg => (bitOf v 0 != bitOf old 0 && s.laneBusy r.i) || s.parkedEn v
  | .sxlCtrl => bitOf v 0 && s.laneBusy r.i
  | .wallRclSize => 7168 < bitsOf v 0 13 || s.rclSealed
  | .wallRclExp => s.rclSealed
  | .ringCfg => s.ringCfgRefused r.i (v &&& BitVec.ofNat 32 r.name.row.rw)
  | .ringBaseLo | .ringBaseHi | .ringPasid =>
    (s.ring r.i).state ≠ .off && (v &&& BitVec.ofNat 32 r.name.row.rw) ≠ old
  | _ => false

/-- The blocks from EVT on. -/
def State.refusesB (s : State) (r : RegAt) (v : Word) : Bool :=
  let old := s.reg r.name r.i r.j
  match r.name with
  | .evtMqCtl | .markMirCtl => ringCtlRefused old (v &&& BitVec.ofNat 32 r.name.row.rw)
  | .evtMqBaseLo | .evtMqBaseHi => s.flag .evtMqCtl 0 0 0
  | .markMirBaseLo | .markMirBaseHi | .markMirFrom => s.flag .markMirCtl 0 0 0
  | .ethCfg => bitsOf v 1 2 = 3 || (bitsOf v 0 3 ≠ bitsOf old 0 3 && s.portStreams r.i) || s.parkedEn v
  | .ethStrCfg | .ethStrDaLo | .ethStrDaHi | .ethStrIdLo | .ethStrIdHi => s.streamBound r.i
  | .ethGcl | .ethGclBaseNs | .ethGclBaseSecLo | .ethGclBaseSecHi | .ethGclLen => s.flag .ethGclCtl r.i 0 1
  | .chnCfg => (bitOf v 0 != bitOf old 0 && s.chainWalls) || s.parkedEn v
  | .dramMap => 4 < bitsOf v 4 3
  | .dramCtrl => s.dramCtrlRefused r.i v
  | .twbCfg => !(s.twPort r.i).pending.isEmpty || bitsOf v 1 2 = 3
  | .sdmaSrcLo | .sdmaSrcHi | .sdmaDstLo | .sdmaDstHi | .sdmaCount | .sdmaCfg => (s.sdmaChan r.i).busy
  | .sdmaCtrl => s.parkedGo r.i v
  | .pwrThermCfg => bitsOf v 0 7 < 60 || 115 < bitsOf v 0 7
  | .pwrCtrl => bitOf v 0 && s.parkRefused
  | _ => false

/-- How a write of v by an origin to an offset is judged.
Log entry 68: DEDUCED, unsafe. -/
def State.verdict (s : State) (o : Origin) (off : Nat) (v : Word) : Verdict :=
  match locate off with
  | none => .unmapped
  | some r =>
    let row := r.name.row
    if s.boot.win = 2 && !(r.name = .glbCtrl || r.name = .glbFuseCtl || r.name = .glbFuseData) then .unmapped
    else if row.writable = 0 then .ignored
    else if (o = .bar0 || o = .tw0) && r.mgmtOnly then .ignored
    else if r.name = .glbCtrl && bitsOf v 8 8 ≠ 0xA5 then .ignored
    else if row.bw ≠ 0 && !(s.boot.win = 0 && o = .boot) then .refused
    else if !r.msix && !s.writeGranted o off then .refused
    else if s.refusesA r v || s.refusesB r v then .refused
    else .accepted

/-! ### What a write stores -/

/-- The stored value after a write of v (R7): WO fields are not held. -/
def RegRow.merge (r : RegRow) (old v : Word) : Word :=
  let keep := r.rw ||| r.bw
  let w := BitVec.ofNat 32
  (((old &&& w (0xFFFFFFFF - keep)) ||| (v &&& w keep)) ||| (v &&& w r.w1s)) &&& (w 0xFFFFFFFF ^^^ (v &&& w r.w1c))

/-- Whether an accepted write leaves a mark (R439).
Log entry 68: DEDUCED, unsafe. -/
def RegAt.marked (r : RegAt) : Bool :=
  let row := r.name.row
  (row.rw ||| row.w1s ||| row.wo ||| row.bw) ≠ 0 &&
  match r.name with
  | .evtMqCons | .markMirCons | .markRdSeq | .timeCtrl | .dramTrnCtl | .dramTrnAddr | .dramTrnLane | .dramTrnSet
  | .dramTrnUpat | .twbXfer | .twbPtr | .twbData0 | .twbData1 | .sdmaSrcLo | .sdmaSrcHi | .sdmaDstLo | .sdmaDstHi
  | .sdmaCount | .sdmaCfg | .sdmaCtrl | .msixTable | .msixPba => false
  | _ => true

/-- What the stored value becomes: NS of a manual set is limited (02), and the consumer counts are stored by their own
rules. -/
def State.stored (s : State) (r : RegAt) (v : Word) : State :=
  match r.name with
  | .ethCbs => (s.settleCredit r.i r.j).setReg .ethCbs r.i r.j (RegName.ethCbs.row.merge (s.reg .ethCbs r.i r.j) v)
  | .timeSetNs => s.setReg .timeSetNs r.i 0 (BitVec.ofNat 32 (min v.toNat 999999999))
  | .evtMqCons | .markMirCons | .dramTrnSet | .protLock => s
  | n => s.setReg n r.i r.j (n.row.merge (s.reg n r.i r.j) v)

/-! ### What a write does -/

/-- What the writer cannot decide: how a fuse verifies, how many bytes a stopped transfer has moved, what a training helper
receives. Where a command does not say, they are free. -/
structure WriteHint where
  verified : Option Bool := none
  moved : Option Nat := none
  flips : Option (List (BitVec 80)) := none
  deriving DecidableEq, Repr

/-- SRC written 0, or FOLLOW set to none, takes the source away before the change (R37, R39, R42). -/
def State.timeCfgBefore (s : State) (b : Nat) (v : Word) : State :=
  let src := s.field .timeCfg b 0 0 3
  let gone := src ≠ 0 && bitsOf v 0 3 = 0
  let unfollow := b = 1 && s.follows.isSome && bitsOf v 4 2 = 1
  if gone || unfollow then s.baseLost b else s

/-- The key hash in GLB_FUSE_DATA, byte 0 first.
Log entry 70: DEDUCED, unsafe. -/
def State.fuseData (s : State) : BitVec 384 :=
  BitVec.ofNat 384 (((List.range 12).map fun i => (s.reg .glbFuseData i).toNat * 2 ^ (32 * i)).foldl (· + ·) 0)

/-- 64 free bits for each of n words.
Log entries 16: DESIGN CHOICE, safe; 57: DEDUCED, safe. -/
def State.drawWords (s : State) : Nat → Nat × State
  | 0 => (0, s)
  | n + 1 =>
    let (v, s) := s.draw
    let (w, s) := s.drawWords n
    (v.toNat + w * 2 ^ 64, s)

/-- PROG is written (R428). What a slot holds after a failed verification is free.
Log entries 28: DESIGN CHOICE, safe; 70: DEDUCED, unsafe. -/
def State.fuseProgram (s : State) (v : Word) (h : WriteHint) : State :=
  let j := bitsOf v 4 2
  if s.fuses.programmed.toNat.testBit j then s.setField .glbFuseCtl 0 0 8 2 3
  else
    let (f, s) := s.draw
    let ok := h.verified.getD (f.toNat % 2 = 1)
    let (k, s) := if ok then (s.fuseData.toNat, s) else s.drawWords 6
    let on := ok || (f.toNat / 2 % 2 = 1)
    let fuses := { s.fuses with keys := Store.put 0 s.fuses.keys j (BitVec.ofNat 384 k)
                                programmed := if on then s.fuses.programmed ||| BitVec.ofNat 4 (2 ^ j) else s.fuses.programmed }
    { s with fuses := fuses }.setField .glbFuseCtl 0 0 8 2 (if ok then 1 else 2)

/-- The boot window closes (R429, R435): PSTATE RUN, the mark and event 0x0C01. -/
def State.closeWindow (s : State) : State :=
  let s := { s with boot := { s.boot with win := 1 }, power := { s.power with pstate := .run } }
  let ms := s.boot.ms.toNat
  let s := s.action .boot 7 (bit s.boot.slot) ms
  s.raise 0x0C01 [(1, bit s.boot.slot), (1, s.boot.image.toNat), (1, s.retired), (1, 0), (2, ms), (2, 0)]

/-- Received flips of a helper run of n bursts that no command gives.
Log entry 57: DEDUCED, safe. -/
def State.drawFlips (s : State) (n : Nat) : List (BitVec 80) × State :=
  ((List.range (16 * n)).map fun k => Config.freeFlips s.free k, { s with free := s.free + 1 })

/-- GO of a training helper (R365, R376). -/
def State.helperGo (s : State) (n : Nat) (v : Word) (h : WriteHint) : State :=
  let c := (s.chan n).state
  if !bitOf v 12 || c = .off || c = .retired then s
  else match h.flips with
    | some f => s.helperRun n v f
    | none =>
      let (f, s) := s.drawFlips (bitsOf v 4 6 + 1)
      s.helperRun n v f

/-- STOP is written (R393): the transfer is to end after the word in progress.
Log entry 29: DESIGN CHOICE, safe. -/
def State.sdmaStop (s : State) (c : Nat) (h : WriteHint) : State :=
  let x := s.sdmaChan c
  if !x.busy then s
  else match h.moved with
    | some n => s.setSdma c { x with stop := some n }
    | none =>
      let (v, s) := s.draw
      s.setSdma c { x with stop := some (v.toNat % (s.sdmaCount c + 1)) }

/-- A vector whose mask is cleared sends its pending message (R306).
Log entry 8: PRESUMED, unsafe. -/
def State.unmask (s : State) (vec : Nat) (v : Word) : State :=
  let p := s.reg .msixPba (vec / 32)
  if bitOf v 0 || !bitOf p (vec % 32) then s
  else (s.setReg .msixPba (vec / 32) 0 (setBits p (vec % 32) 1 0)).emit (.msix vec)

/-- EN of a ring has changed. -/
def State.ringEnChanged (s : State) (r : Nat) (old new : Word) : State :=
  if bitOf old 0 = bitOf new 0 then s else if bitOf new 0 then s.enableRing r else s.disableRing r

/-- What an accepted write of v does once stored: the blocks up to HOST. `old` is the stored value before it. -/
def State.actsA (s : State) (o : Origin) (r : RegAt) (old v : Word) (h : WriteHint) : State :=
  match r.name with
  | .glbFuseCtl => if bitOf v 0 then s.fuseProgram v h else s
  | .protLock => if bitOf v 0 then s.closeWindow else s
  | .timeCtrl => if bitOf v 0 then s.snap else s
  | .timeCfg => (if bitOf v 7 then s.manualSet r.i o else s).checkBases r.i
  | .timeBoundNs => s.checkBases r.i
  | .tickCfg | .tickPeriodNs | .tickPhaseNs => { s with tick := { s.tick with halted := true } }.checkEpoch
  | .sxlCfg => if s.power.pstate = .trip then s else s.laneEn r.i (bitOf old 0) (bitOf v 0)
  | .sxlCtrl => if bitOf v 0 && !s.dark then s.renegLane r.i else s
  | .millInNote => s.relatch r.i (old &&& v)
  | .ringCfg => s.ringEnChanged r.i old v
  | .msixTable => if r.j = 3 then s.unmask r.i v else s
  | _ => s

/-- The blocks from XLAT on. -/
def State.actsB (s : State) (o : Origin) (r : RegAt) (old v : Word) (h : WriteHint) : State :=
  match r.name with
  | .xlatCfg => if bitOf v 1 then s.flushCache else s
  | .evtMqCtl => if bitOf old 0 = bitOf v 0 then s else if bitOf v 0 then s.enableMq else s.disableMq
  | .evtMqCons => s.mqConsume v
  | .ethCfg => if s.power.pstate = .trip then s else s.ethCfgWritten r.i old v
  | .ethGclCtl => if bitOf v 1 && !bitOf old 1 then s.gateChange r.i o else s
  | .chnCfg => if s.power.pstate = .trip then s else s.chnCfgWritten old v
  | .chnRsv => { s with tick := { s.tick with capacity := true } }
  | .dramCtrl => s.dramCtrl r.i o v
  | .dramTrnCtl => s.helperGo r.i v h
  | .dramTrnSet => s.writeTrnSet r.i v
  | .twbXfer => if bitOf v 16 then s.twGo r.i (Fin.ofNat 2 r.j) else s
  | .sdmaCtrl =>
    let s := if bitOf v 0 then s.sdmaGo r.i o else s
    if bitOf v 1 then s.sdmaStop r.i h else s
  | .pwrCtrl => s.parkWritten o v
  | .markRdSeq => { s with markSelected := true }
  | .markMirCtl => if bitOf old 0 = bitOf v 0 then s else if bitOf v 0 then s.enableMirror else s.disableMirror
  | .markMirCons => s.mirrorConsume v
  | .errCtrl => if bitOf v 0 then s.setReg .errFatal 0 0 0 else s
  | _ => s

/-- The device reset of GLB_CTRL (R420): cause 2 from BAR0, 3 from TW0. -/
def State.devrst (s : State) (o : Origin) (v : Word) : State :=
  if bitOf v 0 then s.deviceReset (if o = .tw0 then 3 else 2) o else s

/-- An accepted write: its mark, what it stores and what it does.
Log entry 68: DEDUCED, unsafe. -/
def State.accept (s : State) (o : Origin) (r : RegAt) (v : Word) (h : WriteHint) : State :=
  let off := r.name.off r.i r.j
  let old := s.reg r.name r.i r.j
  let seq := s.markSeq
  let s := if r.marked then s.markReg o off (s.regValue r) v else s
  if r.name = .glbCtrl then s.devrst o v
  else
    let done := (((if r.name = .timeCfg then s.timeCfgBefore r.i v else s).stored r v).actsA o r old v h).actsB o r old v h
    if r.name = .timeCfg then done.restamp seq else done

/-- One 32-bit write to an offset by an origin.
Log entry 68: DEDUCED, unsafe. -/
def State.writeReg (s : State) (o : Origin) (off : Nat) (v : Word) (h : WriteHint := {}) : State :=
  match s.verdict o off v, locate off with
  | .unmapped, _ => s.unmapped
  | .refused, some r => s.markReg o off (s.regValue r) v true
  | .accepted, some r => s.accept o r v h
  | _, _ => s

/-- Who makes a write that carries an origin. -/
def originAccessor : Origin → Accessor
  | .tw0 => .tw0
  | .bar0 => .bar0
  | _ => .mgmt

/-- Whether a write of an origin reaches the registers: a TW0 write comes through its window (R383), which the boot window
keeps shut.
Log entry 69: DEDUCED, unsafe. -/
def State.writeReaches (s : State) (o : Origin) : Bool :=
  match o with
  | .boot => s.power.pstate = .boot
  | .tw0 => s.reaches .tw0 && s.boot.win ≠ 0
  | _ => s.reaches (originAccessor o)

end Sys2Proof.Machine
end

