-- ==== Sys2Proof/Machine/Sdma.lean ====
section
/-!
DEFINITION. Service DMA's moves (19): one word read and written (R392, R396), a whole transfer (R397), and a transfer that a
STOP or a remap edge cuts short (R393, R396). The words of a transfer move when it ends.
-/
namespace Sys2Proof.Machine

/-- The address of a side's word after so many bytes. -/
def SdmaSide.at (x : SdmaSide) (moved : Nat) : Nat := if x.inc then x.addr + moved else x.addr

/-- Whether a DRAM word lies beyond the last address that exists. A fixed side alone can (R394).
Log entry 61: DESIGN CHOICE, safe. -/
def State.sdmaPastEnd (s : State) (x : SdmaSide) (moved : Nat) : Bool := !x.isReg && s.dramSize < x.at moved + 4

/-- Whether a side's word lies in a RETIRED channel (R396). -/
def State.sdmaRetired (s : State) (x : SdmaSide) (moved : Nat) : Bool :=
  !x.isReg && match s.dramSplit (x.at moved) with
    | some (ch, _) => (s.chan ch).state = .retired
    | none => false

/-- Reads a side's word: its value, and the address of its unit where that came poisoned. -/
def State.sdmaRead (s : State) (c : Nat) (x : SdmaSide) (moved : Nat) : (Word × Option Nat) × State :=
  if x.isReg then
    let (v, s) := s.readReg (.sdma (Fin.ofNat 8 c)) (x.at moved)
    ((v, none), s)
  else
    let (r, s) := s.readDram (x.at moved) 4
    ((BitVec.ofNat 32 (ofLe r.1), r.2.head?), s)

/-- Whether a write of v to a register starts a training-helper run that leaves the DRAM that exists (R365). -/
def State.writePastEnd (s : State) (o : Origin) (off : Nat) (v : Word) : Bool :=
  match locate off with
  | some r =>
    let c := (s.chan r.i).state
    r.name = .dramTrnCtl && bitOf v 12 && s.verdict o off v = .accepted && !(c = .off || c = .retired)
      && 2 ^ 26 < (s.reg .dramTrnAddr r.i).toNat + bitsOf v 4 6 + 1
  | none => false

/-- One register write with all it does, its marks in order (R444). -/
def State.writeNow (s : State) (o : Origin) (off : Nat) (v : Word) (h : WriteHint := {}) : State :=
  let t := s.writeReg o off v h
  { t with marks := orderMarks s t }

/-- Writes a side's word; a register write carries the origin of GO (R392). -/
def State.sdmaWrite (s : State) (c : Nat) (x : SdmaSide) (moved : Nat) (v : Word) : State :=
  if x.isReg then s.writeNow (s.sdmaChan c).origin (x.at moved) v else s.writeDram (x.at moved) (leBytes 4 v.toNat)

/-- Moves the next word of channel c, or ends the transfer with CODE 7 or 8 (R396). None where it leaves the DRAM that
exists. -/
def State.sdmaWord (s : State) (c : Nat) : Option State :=
  let x := s.sdmaChan c
  let a := s.sdmaSrc c
  let b := s.sdmaDst c
  if s.sdmaPastEnd a x.moved || s.sdmaPastEnd b x.moved then none
  else if s.sdmaRetired a x.moved then some (s.sdmaEnd c 8)
  else
    let (r, s) := s.sdmaRead c a x.moved
    match r.2 with
    | some unit =>
      some (((s.setReg .sdmaErrLo c 0 (BitVec.ofNat 32 unit)).setReg .sdmaErrHi c 0 (BitVec.ofNat 32 (unit / 2 ^ 32))).sdmaEnd
        c 7)
    | none =>
      if s.sdmaRetired b x.moved then some (s.sdmaEnd c 8)
      else if b.isReg && s.writePastEnd x.origin (b.at x.moved) r.1 then none
      else
        let s := s.sdmaWrite c b x.moved r.1
        let y := s.sdmaChan c
        some (if y.busy then s.setSdma c { y with moved := x.moved + 4 } else s)

/-- Moves up to n words, each in a clock of its own, while the transfer runs and no STOP has been written to it.
Log entry 62: DESIGN CHOICE, unsafe. -/
def State.sdmaWords (s : State) (c : Nat) : Nat → Option State
  | 0 => some s
  | n + 1 =>
    if !(s.sdmaChan c).busy || (s.sdmaChan c).stop.isSome then some s
    else (s.sdmaWord c).bind fun s => s.endClock.sdmaWords c n

/-- Moves n words at most and ends the transfer with `code` if it still runs; with CODE 3 if a word of its own stopped it.
Log entry 62: DESIGN CHOICE, unsafe. -/
def State.sdmaRun (s : State) (c n code : Nat) : Option State :=
  (s.sdmaWords c n).map fun s =>
    let x := s.sdmaChan c
    if !x.busy then s
    else if x.stop.isSome then (s.setSdma c { x with stop := none }).sdmaEnd c 3
    else s.sdmaEnd c code

/-- A stopped transfer has moved the words it had time for (R393).
Log entry 62: DESIGN CHOICE, unsafe. -/
def State.sdmaCut (s : State) (c code : Nat) : Option State :=
  let x := s.sdmaChan c
  let n := min (x.stop.getD 0) (s.sdmaCount c) / 4
  (s.setSdma c { x with stop := none }).sdmaRun c n code

/-- Ends the transfers that the writes of the command in execution have stopped, the lowest channel first; the words that
these move may stop others.
Log entry 62: DESIGN CHOICE, unsafe. -/
def State.sdmaSettle : Nat → State → Option State
  | 0, s => some s
  | n + 1, s =>
    match (List.range 8).find? fun c => (s.sdmaChan c).busy && (s.sdmaChan c).stop.isSome with
    | none => some s
    | some c => (s.sdmaCut c 3).bind (State.sdmaSettle n)

/-- A transfer that is BUSY at a remap edge ends there with CODE 8, after words whose number nothing fixes (R396).
Log entry 29: DESIGN CHOICE, safe. -/
def State.sdmaRemap (s : State) (c : Nat) : State :=
  let x := s.sdmaChan c
  if !x.busy then s
  else
    let (v, s) := s.draw
    let s := s.setSdma c { x with stop := some (v.toNat % (s.sdmaCount c + 1)) }
    (s.sdmaCut c 8).getD (s.sdmaEnd c 8)

/-- The meaning of a command that writes registers or moves a transfer's words: its effect, the transfers it stopped, then
`settle`, which keeps the order of marks that fall in different clocks. -/
def regEffect (f : State → Option State) (s : State) : Host.Outcome State Fault Refusal :=
  match (f s).bind (State.sdmaSettle 64) with
  | some t => .next (settle { t with pending := s.pending } t)
  | none => .fault .dramPastEnd

/-- Whether a channel's transfer can move words: one with a DRAM side waits while DRAM is in self-refresh (R411, R416). -/
def State.sdmaLive (s : State) (c : Nat) : Bool :=
  (s.sdmaChan c).busy && !(s.selfRefresh && (!(s.sdmaSrc c).isReg || !(s.sdmaDst c).isReg))

/-- SDMA_GO (R393, R394). -/
def execSdmaGo (c : Fin 8) (o : Origin) (s : State) : Host.Outcome State Fault Refusal :=
  regEffect (fun s => some (if s.writeReaches o then s.writeNow o (RegName.sdmaCtrl.off c.val) 1 else s)) s

/-- SDMA_STOP (R393): `done` bytes have moved once the word in progress has.
Log entry 29: DESIGN CHOICE, safe. -/
def execSdmaStop (c : Fin 8) (o : Origin) (done : Nat) (s : State) : Host.Outcome State Fault Refusal :=
  regEffect (fun s =>
    some (if s.writeReaches o then s.writeNow o (RegName.sdmaCtrl.off c.val) 2 (h := { moved := some done }) else s)) s

/-- SDMA_DONE (R397): CODE 1, or 7 or 8 where the transfer met poison or a RETIRED channel (R396).
Log entry 61: DESIGN CHOICE, safe. -/
def execSdmaDone (c : Fin 8) (s : State) : Host.Outcome State Fault Refusal :=
  regEffect (fun s => if s.sdmaLive c.val then s.sdmaRun c.val (s.sdmaCount c.val / 4) 1 else some s) s

end Sys2Proof.Machine
end

