-- ==== Sys2Proof/Machine/Boot.lean ====
section
/-!
DEFINITION. Boot (21): the judging of the image slots (R425), the fuse changes of R427, the set-up section (R430), the training
of the channels (R367) and the close of the boot window (R429).
-/
namespace Sys2Proof.Machine

/-! ### Images (R424, R425) -/

/-- Whether a range of header bytes is 0. -/
def zeroBytes (h : List Byte) (lo n : Nat) : Bool := leAt h lo n = 0

/-- BODY_LEN of a header. -/
def imageLen (x : ImageSlot) : Nat := leAt x.header 8 4

/-- Check 1 of R425.
Log entry 71: DEDUCED, unsafe. -/
def imageHeaderOk (x : ImageSlot) : Bool :=
  let h := x.header
  let n := imageLen x
  leAt h 0 4 = 0x4F444C52 && leAt h 4 2 = 1 && 16 ≤ n && n ≤ 4194304 && n % 16 = 0 && leAt h 24 2 ≤ 64
    && zeroBytes h 26 2 && zeroBytes h 36 28 && zeroBytes h 161 255 && leAt h 28 4 + leAt h 32 4 ≤ n

/-- The body that is read.
Log entry 71: DEDUCED, unsafe. -/
def imageRead (x : ImageSlot) : List Byte := x.body.take (imageLen x)

/-- Whether the operand gives the slot as flash does: 512 bytes of header, and a body of BODY_LEN bytes where check 1 holds.
Log entry 71: DEDUCED, unsafe. -/
def imageWhole (x : ImageSlot) : Bool := x.header.length = 512 && (!imageHeaderOk x || imageLen x ≤ x.body.length)

/-- The result of a slot (R425): 1 valid, 2 to 6 the first check that fails.
Log entries 11: DESIGN CHOICE, safe; 71: DEDUCED, unsafe. -/
def State.judgeSlot (s : State) (x : ImageSlot) : Nat :=
  let h := x.header
  let k := leAt h 6 1
  let key := (h.drop 64).take 97
  if !imageHeaderOk x then 2
  else if 4 ≤ k || !s.fuses.programmed.toNat.testBit k || s.fuses.revoked.toNat.testBit k then 3
  else if Config.sha384 key ≠ Store.get 0 s.fuses.keys k then 4
  else if !Config.ecdsaVerifies key ((h.drop 416).take 96) (Config.sha384 (h.take 416 ++ (imageRead x))) then 5
  else if leAt h 24 2 < s.fuses.svn then 6
  else 1

/-! ### Fuse changes (R427) -/

/-- The mark and the event of one fuse change. -/
def State.fuseChanged (s : State) (kind v : Nat) (ok : Bool) : State :=
  (s.action .boot 9 kind v).raise 0x0C02 [(1, kind), (1, v), (1, if ok then 1 else 2), (5, 0)]

/-- ROLL: the SVN count becomes the image's. Where that does not verify, what the thermometer holds is free.
Log entry 28: DESIGN CHOICE, safe. -/
def State.rollSvn (s : State) (v : Nat) (ok : Bool) : State :=
  if v ≤ s.fuses.svn then s
  else
    let (f, s) := if ok then (0, s) else s.draw
    let n := if ok then v else s.fuses.svn + f.toNat % (v - s.fuses.svn + 1)
    { s with fuses := { s.fuses with svn := n } }.fuseChanged 1 v ok

/-- REVOKE_BELOW for one slot. Where that does not verify, the bit is free.
Log entry 28: DESIGN CHOICE, safe. -/
def State.revokeSlot (s : State) (j : Nat) (ok : Bool) : State :=
  if !s.fuses.programmed.toNat.testBit j || s.fuses.revoked.toNat.testBit j then s
  else
    let (f, s) := if ok then (1, s) else s.draw
    let bits := if f.toNat % 2 = 1 then s.fuses.revoked ||| BitVec.ofNat 4 (2 ^ j) else s.fuses.revoked
    { s with fuses := { s.fuses with revoked := bits } }.fuseChanged 2 j ok

/-- Both flags of the image that boots. -/
def State.imageFuses (s : State) (h : List Byte) (ok : Bool) : State :=
  let flags := leAt h 7 1
  let s := if flags.testBit 0 then s.rollSvn (leAt h 24 2) ok else s
  if flags.testBit 1 then (List.range (min 4 (leAt h 6 1))).foldl (fun s j => s.revokeSlot j ok) s else s

/-! ### The set-up section (R430) -/

/-- The pairs of a section. -/
def pairsOf (bs : List Byte) : Nat → List SetupPair
  | 0 => []
  | n + 1 => SetupPair.mk (BitVec.ofNat 32 (leAt bs 0 4)) (BitVec.ofNat 32 (leAt bs 4 4)) :: pairsOf (bs.drop 8) n

/-- The set-up section of an image. -/
def imagePairs (x : ImageSlot) : List SetupPair :=
  pairsOf ((imageRead x).drop (leAt x.header 28 4)) (leAt x.header 32 4 / 8)

/-- Whether a register may be named in a set-up section. -/
def RegAt.inSetup (r : RegAt) : Bool := r.name.row.bw ≠ 0 && r.name ≠ .protLock

/-- Whether a pair is valid by itself: its offset, its reserved bits, and a value that the field takes (R495). -/
def State.pairOk (s : State) (p : SetupPair) : Bool :=
  let off := p.offset.toNat
  off % 4 = 0 && match locate off with
    | some r => r.inSetup && (p.value &&& BitVec.ofNat 32 (0xFFFFFFFF - r.name.row.bw)) = 0 && !s.refusesB r p.value
    | none => false

/-- The registers as all pairs leave them. -/
def State.setupImage (s : State) (ps : List SetupPair) : State :=
  ps.foldl (fun s p => match locate p.offset.toNat with
    | some r => s.setReg r.name r.i r.j p.value
    | none => s) s

/-- Whether two bound rings share one domain and slot. -/
def State.slotClash (s : State) : Bool :=
  (List.range 1024).any fun r =>
    s.flag .protRing r 0 10 && 1 < (s.slotRings (s.field .protRing r 0 0 4) (s.field .protRing r 0 4 6)).length

/-- Whether a domain window has BASE above LIMIT. -/
def State.windowCrossed (s : State) : Bool :=
  (List.range 16).any fun d => (List.range 8).any fun k =>
    s.field .protLimLo d k 12 20 + (s.reg .protLimHi d k).toNat * 2 ^ 20
      < s.field .protBaseLo d k 12 20 + (s.reg .protBaseHi d k).toNat * 2 ^ 20

/-- Whether a section is valid. -/
def State.setupOk (s : State) (ps : List SetupPair) : Bool :=
  ps.all s.pairOk && !(s.setupImage ps).slotClash && !(s.setupImage ps).windowCrossed

/-- Whether a pair names DRAM_MAP, which is applied before training. -/
def pairEarly (p : SetupPair) : Bool := p.offset.toNat = RegName.dramMap.off

/-- Applies pairs in order, each with its mark. -/
def State.applyPairs (s : State) (ps : List SetupPair) : State :=
  ps.foldl (fun s p => s.writeReg .boot p.offset.toNat p.value) s

/-! ### Boot -/

/-- Boot fails (R434). -/
def State.bootFail (s : State) (cause : Nat) : State :=
  { s with boot := { s.boot with win := 2, cause := BitVec.ofNat 3 cause } }.action .boot 8 cause 0

/-- The training of one channel at boot (R367): a trained one is zeroed and serves, another is retired with cause 1.
Log entry 6: DEDUCED, unsafe. -/
def State.bootChannel (s : State) (ok : Bool) (n : Nat) : State :=
  if ok then (s.train n).setChan n { (s.train n).chan n with state := .service }
  else s.retireChan n 1 .auto

/-- All channels in turn. No configuration exists that admission would have to judge again. -/
def State.bootTraining (s : State) (trained : BitVec 16) : State :=
  let s := { s with active := List.range 16, dram := [], upsets := [] }
  let s := (List.range 16).foldl (fun s n => s.bootChannel (trained.toNat.testBit n) n) s
  { s with active := s.activeNow, tick := { s.tick with capacity := false, remap := false, placeNow := false } }

/-- What follows once a slot has passed (R425 to R430, R367). -/
def State.bootSlot (s : State) (b : BootInput) (x : ImageSlot) (isB : Bool) : State :=
  let h := x.header
  let boot := { s.boot with slot := isB, image := BitVec.ofNat 8 (leAt h 24 2), version := BitVec.ofNat 32 (leAt h 16 4)
                            floor := BitVec.ofNat 32 (leAt h 20 4) }
  let s := { s with boot := boot }.imageFuses h b.fuseOk
  let ps := imagePairs x
  if !s.setupOk ps then s.bootFail 4
  else
    let s := s.applyPairs (ps.filter pairEarly)
    let s := s.bootTraining b.trained
    let s := s.applyPairs (ps.filter fun p => !pairEarly p)
    if 1000 ≤ b.ms.toNat then s.bootFail 5 else { s with boot := { s.boot with ready := true, ms := b.ms } }

/-- Boot from t_b to the point at which LOCK is written. -/
def State.bootRun (s : State) (b : BootInput) : State :=
  if !b.flashOk then s.bootFail 2
  else if s.fuses.programmed = 0 then s.bootFail 1
  else
    let ra := s.judgeSlot b.slotA
    let s := { s with boot := { s.boot with resA := BitVec.ofNat 4 ra } }
    if ra = 1 then s.bootSlot b b.slotA false
    else
      let rb := s.judgeSlot b.slotB
      let s := { s with boot := { s.boot with resB := BitVec.ofNat 4 rb } }
      if rb = 1 then s.bootSlot b b.slotB true else s.bootFail 3

/-- Whether t_b can come: power-on reset has ended, and boot has not run since (R422). -/
def State.bootDue (s : State) : Bool :=
  !s.power.por && (s.power.pstate = .reset || (s.power.pstate = .boot && s.boot.win = 0 && !s.boot.ready))

/-- BOOT_START (R422): t_b, and boot up to the write of LOCK. Its marks fall in different clocks and keep their order. -/
def execBootStart (b : BootInput) (s : State) : Host.Outcome State Fault Refusal :=
  if !((imageWhole b.slotA) && (imageWhole b.slotB)) then .refused .illFormed
  else if !s.bootDue then effect (fun s => s) s
  else
    let t := { s with power := { s.power with perst := false, pstate := .boot } }.bootRun b
    .next (settle { t with pending := s.pending } t)

/-- BOOT_TIMEOUT (R422): 1 s after t_b the window has not closed. -/
def execBootTimeout (s : State) : Host.Outcome State Fault Refusal :=
  effect (fun s => if s.power.pstate = .boot && s.boot.win = 0 then s.bootFail 5 else s) s

/-- LOCK (R429): boot code writes 1 to PROT_LOCK.LOCK. -/
def execLock (s : State) : Host.Outcome State Fault Refusal :=
  effect (fun s =>
    if s.writeReaches .boot && s.boot.win = 0 && s.boot.ready then s.writeReg .boot RegName.protLock.off 1 else s) s

end Sys2Proof.Machine
end

