-- ==== Sys2Proof/Machine/Outputs.lean ====
section
/-!
DEFINITION. Output slots (R59, R61, R267): the delivery of staged wall frames to every output, of records and of the
export; remote frames that are late (R223); and streaming walls (R226 to R228).
-/
namespace Sys2Proof.Machine

/-! ### Staged walls -/

/-- The ring that a wall bank names. -/
def ringOf (b : Bank) : Option Nat :=
  let v := wGet b WW.ring
  if v.testBit 10 then some (v % 1024) else none

/-- A wall frame, its header and its image, is offered to every output that its tray names (R19, R236, R267, R316,
R344).
Log entry 52: DEDUCED, unsafe. -/
def State.deliverWall (s : State) (w : Nat) (d : WallDue) (header image : List Byte) : State :=
  let b := d.bank
  let s := match ringOf b with
    | some r =>
      let (n, s) := s.takeSeq r
      s.offerNumbered r 0 n (putSeq header 44 n ++ image) (wallUnits (wallFmt b) (wallW b) (wallH b))
    | none => s
  let s := if wGet b WW.rclEn ≠ 0 then s.recallTake w b d.tick (header ++ image) else s
  let s := match streamOf b with
    | some n => s.streamFrame n w d header image
    | none => s
  (List.range 2).foldl (fun s x =>
    if (wGet b WW.chn).testBit x then s.chainFrame x w d.tick header image else s) s

/-- The output slot of wall w (R59, R225): the frame of the tick that has ended is assembled and delivered.
Log entry 52: DEDUCED, unsafe. -/
def State.wallSlot (s : State) (w : Nat) : State :=
  match (s.wall w).due with
  | none => s
  | some d =>
    let s := s.setWall w { s.wall w with due := none }
    if s.tick.shedWalls.contains w || s.dark then s.flushHeld w
    else
      let d := { d with fills := d.fills ++ d.late.map fun e => (e, FillCause.remoteLate), late := [] }
      let (image, bad, s) := s.compose w d
      let s := s.flushHeld w
      let flags := d.flags (bad ≠ 0) true false
      (s.noteWall w d flags bad).deliverWall w d (s.wallHeader w d flags) image

/-- Records that a funnel may hold: a bound for its delivery. -/
def State.funnelFuel (s : State) (m f : Nat) : Nat := (s.funnel (8 * m + f)).length + 1

/-- The place of an output slot in the order of R61: walls by descending PRIO, then ascending index; behind all walls the
records, by ascending ring. None where the unit has nothing to deliver.
Log entry 93: DEDUCED, unsafe. -/
def State.slotKey (s : State) (u : SlotUnit) : Option (Nat × Nat × Nat) :=
  let record := fun (m f : Nat) => (s.funnel (8 * m + f)).head?.map fun x => (1, x.ring % 1024, 0)
  match u with
  | .wall w => (s.wall w.val).due.map fun d => (0, 3 - wGet d.bank WW.prio, w.val)
  | .stats m => record m.val 4
  | .tap m t => record m.val t.val
  | .recallExport => if s.rcl.state = .exporting then some (1, s.rcl.exportRing, 0) else none

/-- Whether an output slot may still come in the tick in force: none that stands behind it in the order of R61 has been used. -/
def State.slotInOrder (s : State) (k : Nat × Nat × Nat) : Bool :=
  match s.tick.slotAt with
  | none => true
  | some a => decide (a.1 < k.1) || (a.1 = k.1 && (decide (a.2.1 < k.2.1) || (a.2.1 = k.2.1 && decide (a.2.2 ≤ k.2.2))))

/-- What an output slot delivers. -/
def State.slotOutput (s : State) (u : SlotUnit) : State :=
  match u with
  | .wall w => s.wallSlot w.val
  | .stats m => s.passDue m.val 4 (s.funnelFuel m.val 4)
  | .tap m t => s.passDue m.val t.val (s.funnelFuel m.val t.val)
  | .recallExport => s.exportSlot

/-- OUTPUT_SLOT (R61, R201, R267). No course runs between a change of the tick and the first edge under it (R55).
Log entry 93: DEDUCED, unsafe. -/
def execOutputSlot (u : SlotUnit) (s : State) : Host.Outcome State Fault Refusal :=
  effect (fun s =>
    if s.dark || s.tick.halted then s
    else match s.slotKey u with
      | none => s
      | some k =>
        if s.slotInOrder k then { s with tick := { s.tick with slotAt := some k } }.slotOutput u else s) s

/-- REMOTE_LATE (R223): the edge of tick k + 1 has passed without the remote frame of entry e. -/
def execRemoteLate (w : Fin 256) (e : Fin 64) (s : State) : Host.Outcome State Fault Refusal :=
  effect (fun s =>
    let x := s.wall w.val
    match x.due with
    | some d =>
      if d.late.contains e.val then
        s.setWall w.val { x with due := some { d with late := d.late.filter (· ≠ e.val)
                                                      fills := d.fills ++ [(e.val, .remoteLate)] } }
      else s
    | none => s) s

/-! ### What a frame marks in a header (R224, R229) -/

/-- The marks of a local source frame of port i placed by entry e. -/
def Frame.mark (f : Frame) (e i : Nat) : StoneMark :=
  { entry := e, lstat := f.status, fstat := f.fstat, clip := bitsOf f.cstat 0 24, number := f.number, port := i
    tnr := f.processed && pGet f.bind.ptray PW.tnrEn = 1, flags := BitVec.ofNat 16 f.flags }

/-! ### Streaming walls (R227) -/

/-- Whether a wall bank is a streaming wall's. -/
def isStreaming (b : Bank) : Bool := wGet b WW.stream ≠ 0

/-- What stands for a stone of a streaming frame: its source frame, or why it is filled, or nothing known yet. -/
inductive StoneNow where
  | frame (f : Frame)
  | fill (c : FillCause)
  | waits
  deriving DecidableEq, Repr

/-- The stone of port i for the frame triggered at tick t (R225). -/
def State.stoneNow (s : State) (i t : Nat) : StoneNow :=
  let p := s.port i
  match p.frames.find? fun f => f.bound && f.tick = t with
  | some f => if f.missing then .fill .sourceMissing else .frame f
  | none => if p.periods.any fun q => q.tick = t then .waits else if t ≤ s.now then .fill .portIdle else .waits

/-- What stands on line j of a stone: its samples, its filling, or nothing yet. -/
inductive LineNow where
  | cut (c : CutStone)
  | fill (c : FillCause)
  | waits
  deriving DecidableEq, Repr

/-- Line j of stone (e, st) of a streaming wall's frame triggered at t. -/
def State.lineNow (s : State) (b : Bank) (d : WallDue) (t j : Nat) (e : Nat × Stone) : LineNow :=
  match d.fills.find? fun f => f.1 = e.1 with
  | some f => .fill f.2
  | none =>
    match s.stoneNow e.2.port t with
    | .frame f =>
      if j < f.formed e.2 then .cut (cutStone b e.2 (s.workNow e.2.port f).back.planes)
      else if f.missed then .fill .deadline else .waits
    | .fill c => .fill c
    | .waits => .waits

/-- The bytes of line y of a streaming wall, whose stones stand as `ls` says. -/
def streamLine (b : Bank) (ls : List (Nat × LineNow)) (y : Nat) : List Byte :=
  let fmt := wallFmt b
  let ss := stonesOf b
  (lineLayout fmt (wallW b) y).flatMap fun q =>
    sampleBytes fmt (match ownerOf ss [] q.2.1 q.2.2 with
      | none => wallColour b WW.bg q.1
      | some e =>
        match ls.find? (·.1 = e) with
        | some (_, .cut c) =>
          let st := stoneAt b e
          c.sample fmt q.1 (q.2.1 - st.px) (q.2.2 - st.py)
        | _ => wallColour b WW.loss q.1)

/-- The streaming frames that port i gives a wall, by trigger tick and release tick: those of its frames, and of its idle frame
periods (R219). -/
def State.portTicks (s : State) (i : Nat) : List (Nat × Nat) :=
  let p := s.port i
  ((p.frames.filter (·.bound)).map fun f => (f.tick, f.tick + f.bind.lag)) ++ p.idles

/-- Whether the tray that R186 binds to tick k makes wall w a streaming wall with a stone of port i. -/
def State.streamsPort (s : State) (w k i : Nat) : Bool :=
  let b := (s.wallAt w k).1
  wGet b WW.en ≠ 0 && isStreaming b && (localStones b).any fun e => e.2.port = i

/-- The trigger tick and the release tick of the next frame of a streaming wall: the oldest not yet begun of which a source, or
its idle frame period, is known (R219, R227). -/
def State.nextTrigger (s : State) (w : Nat) : Option (Nat × Nat) :=
  let x := s.tray (576 + w)
  let ports := ((localStones x.active ++ localStones x.staged).map (·.2.port)).eraseDups
  let known := ports.flatMap fun i => (s.portTicks i).filter fun t => decide ((s.wall w).streamed < t.2) && s.streamsPort w t.2 i
  known.foldl (fun a t => match a with
    | none => some t
    | some b => if t.2 < b.2 then some t else a) none

/-- The header's marks of a streaming frame: of the frames placed so far, with what the line store marked (R451). -/
def State.streamMarks (s : State) (b : Bank) (d : WallDue) (t : Nat) : List StoneMark :=
  (d.marks.filter fun m => 64 ≤ m.entry) ++ (localStones b).filterMap fun e =>
    if d.fills.any (·.1 = e.1) then none
    else match s.stoneNow e.2.port t with
      | .frame f => some (f.mark e.1 e.2.port)
      | _ => none

/-- TIME of a frame whose tick has not begun when its header leaves: the manual gives it no value.
Log entry 24: DESIGN CHOICE, safe. -/
def State.openTime (s : State) : BitVec 128 × State :=
  let (a, s) := s.draw
  let (b, s) := s.draw
  (a ++ b, s)

/-- One header of a streaming frame joins its stream (R227, R314).
Log entries 24: DESIGN CHOICE, safe; 54: DESIGN CHOICE, safe. -/
def State.streamHeader (s : State) (w n : Nat) (d : WallDue) (final : Bool) (st : BitVec 32 × Bool) : State :=
  let (time, s) := if d.timed then (d.time, s) else s.openTime
  let d := { d with time := time }
  let flags := d.flags false final true
  s.enqueue n [headerPdu n w d.tick st true (putSeq (s.wallHeader w d flags) 44 (s.wall w).streamSeq)]

/-- The stream that takes the lines of wall w's frame, if it has accepted it and not truncated it. -/
def State.liveStream (s : State) (w : Nat) (d : WallDue) : Option Nat :=
  match streamOf d.bank with
  | some n => if (s.stream n).live = some (w, d.tick) then some n else none
  | none => none

/-- A streaming wall frame triggered at tick t and released at tick k, as it begins: composed under the tray that R186 binds to
tick k. -/
def State.newStream (s : State) (w t k : Nat) : WallDue :=
  let known := decide (s.now = k)
  let (b, g) := s.wallAt w k
  { tick := k, bank := b, gen := g, addr := t, buf := false, marks := [], fills := [], late := []
    shed := s.tick.shed || s.reduced, unsync := known && s.tick.edgeTag.toNat.testBit 5
    time := timeValue s.tick.edgeTb1 s.tick.edgeTag.toNat, timed := known }

/-- A streaming frame whose first PDU would be queued now is offered to its stream, if it has one, with the presentation offset
now set (R311, R317). -/
def State.offerLive (s : State) (w : Nat) (d : WallDue) : State :=
  let s := s.setWall w { s.wall w with streamed := d.tick }
  match streamOf d.bank with
  | none => s
  | some n =>
    match s.offerStream n w d.tick with
    | (some q, s) =>
      (s.setWall w { s.wall w with streamSeq := q }).setStream n
        { s.stream n with live := some (w, d.tick), pres := s.reg .ethStrPres n }
    | (none, s) => s

/-- What stands on the stones at line y of a streaming frame. -/
def State.linesAt (s : State) (d : WallDue) (y : Nat) : List (Nat × LineNow) :=
  let es := localStones d.bank
  match es with
  | [] => []
  | e0 :: _ =>
    if e0.2.py ≤ y && y < e0.2.py + e0.2.oh then es.map fun e => (e.1, s.lineNow d.bank d d.addr (y - e0.2.py) e) else []

/-- Line y of a streaming frame leaves, the opening header before line 0 and the closing one behind the last; a line that
waits for a stone leaves nothing.
Log entry 54: DESIGN CHOICE, safe. -/
def State.streamNext (s : State) (w y : Nat) (d : WallDue) : State :=
  let ls := s.linesAt d y
  if ls.any fun l => l.2 = .waits then s
  else
    let new := ls.filterMap fun l => match l.2 with
      | .fill c => if d.fills.any (·.1 = l.1) then none else some (l.1, c)
      | _ => none
    let d := { d with fills := d.fills ++ new, shed := d.shed || s.tick.shed || s.reduced }
    let d := { d with marks := s.streamMarks d.bank d d.addr }
    let final := y + 1 = wallH d.bank
    let s := if y = 0 then s.offerLive w d else s
    let s := match s.liveStream w d with
      | none => s
      | some n =>
        let st := s.avtpStamp (s.stream n).pres s.tb0.ns
        let s := if y = 0 then s.streamHeader w n d false st else s
        let s := s.enqueue n (s.linePdus n w d.tick d.bank y st true final (streamLine d.bank ls y))
        if final then (s.streamHeader w n d true st).setStream n { s.stream n with live := none } else s
    if final then (s.noteWall w d (d.flags false true true) 0).setWall w { s.wall w with stream := none, streamLine := 0 }
    else s.setWall w { s.wall w with stream := some d, streamLine := y + 1 }

/-- STREAM_LINE_SEND (R227). No course runs between a change of the tick and the first edge under it (R55).
Log entry 54: DESIGN CHOICE, safe. -/
def execStreamLineSend (w : Fin 256) (s : State) : Host.Outcome State Fault Refusal :=
  effect (fun s =>
    if s.dark || s.tick.halted || s.tick.shedWalls.contains w.val then s
    else match (s.wall w.val).stream with
      | some d => s.streamNext w.val (s.wall w.val).streamLine d
      | none =>
        match s.nextTrigger w.val with
        | some (t, k) => s.streamNext w.val 0 (s.newStream w.val t k)
        | none => s) s

end Sys2Proof.Machine
end

