-- ==== Sys2Proof/Machine/RegCmds.lean ====
section
/-!
DEFINITION. The commands that write one register (02, 04, 12 to 23): each is a 32-bit write by an origin, judged, stored or
refused and marked as `State.writeReg` says. A row that names the value of one bit writes its operand with that bit so.
-/
namespace Sys2Proof.Machine

/-- A write by an origin that reaches the registers. -/
def State.writeFrom (s : State) (o : Origin) (n : RegName) (i j : Nat) (v : Word) (h : WriteHint := {}) : State :=
  if s.writeReaches o then s.writeReg o (n.off i j) v h else s

/-- v with bit 0 cleared. -/
def clearEn (v : Word) : Word := v &&& 0xFFFFFFFE

/-! ### Any register -/

/-- REGISTER_WRITE (R7, R10, R453, R464): a write of less than a word, or a poisoned one, changes nothing and is counted. -/
def execRegisterWrite (o : Origin) (off : BitVec 26) (v : Word) (form : WriteForm) (s : State) :
    Host.Outcome State Fault Refusal :=
  regEffect (fun s =>
    if !s.writeReaches o then some s
    else match form with
    | .lessThanWord => some s.unmapped
    | .poisoned => some (s.unmapped.emit (.aer aerPoisoned))
    | .whole => if s.writePastEnd o off.toNat v then none else some (s.writeNow o off.toNat v)) s

/-! ### Time -/

/-- MANUAL_SET (R37): TIME_CFG[b] is written with SET = 1. -/
def execManualSet (b : Fin 4) (o : Origin) (v : Word) (s : State) : Host.Outcome State Fault Refusal :=
  effect (fun s => s.writeFrom o .timeCfg b.val 0 (v ||| 0x80)) s

/-- SNAP (R49). -/
def execSnap (o : Origin) (s : State) : Host.Outcome State Fault Refusal :=
  effect (fun s => s.writeFrom o .timeCtrl 0 0 1) s

/-! ### Lanes -/

/-- LANE_ENABLE (R90).
Log entry 92: DESIGN CHOICE, safe. -/
def execLaneEnable (l : Fin 64) (o : Origin) (v : Word) (s : State) : Host.Outcome State Fault Refusal :=
  effect (fun s => s.writeFrom o .sxlCfg l.val 0 (v ||| 1)) s

/-- LANE_DISABLE (R112). -/
def execLaneDisable (l : Fin 64) (o : Origin) (v : Word) (s : State) : Host.Outcome State Fault Refusal :=
  effect (fun s => s.writeFrom o .sxlCfg l.val 0 (clearEn v)) s

/-- RENEG (R91). -/
def execReneg (l : Fin 64) (o : Origin) (s : State) : Host.Outcome State Fault Refusal :=
  effect (fun s => s.writeFrom o .sxlCtrl l.val 0 1) s

/-! ### Rings, translation and queues -/

/-- RING_ENABLE (R254). -/
def execRingEnable (r : Fin 1024) (o : Origin) (v : Word) (s : State) : Host.Outcome State Fault Refusal :=
  effect (fun s => s.writeFrom o .ringCfg r.val 0 (v ||| 1)) s

/-- RING_DISABLE (R253). -/
def execRingDisable (r : Fin 1024) (o : Origin) (v : Word) (s : State) : Host.Outcome State Fault Refusal :=
  effect (fun s => s.writeFrom o .ringCfg r.val 0 (clearEn v)) s

/-- FLUSH (R295). -/
def execFlush (o : Origin) (v : Word) (s : State) : Host.Outcome State Fault Refusal :=
  effect (fun s => s.writeFrom o .xlatCfg 0 0 (v ||| 2)) s

/-- CONSUMER_COUNT_WRITE (R301): the consumer count of a doorbell slot, or of the management queue. -/
def execConsumerCountWrite (q : QueueSel) (o : Origin) (v : Word) (s : State) : Host.Outcome State Fault Refusal :=
  effect (fun s =>
    match q with
    | .management => s.writeFrom o .evtMqCons 0 0 v
    | .slot d slot => s.slotWrite d.val slot.val { byte := 0 } v) s

/-- MQ_ENABLE (R492). -/
def execMqEnable (o : Origin) (v : Word) (s : State) : Host.Outcome State Fault Refusal :=
  effect (fun s => s.writeFrom o .evtMqCtl 0 0 (v ||| 1)) s

/-- MQ_DISABLE (R307). -/
def execMqDisable (o : Origin) (v : Word) (s : State) : Host.Outcome State Fault Refusal :=
  effect (fun s => s.writeFrom o .evtMqCtl 0 0 (clearEn v)) s

/-! ### Networks and DRAM -/

/-- GATE_LIST_CHANGE (R320). -/
def execGateListChange (p : Fin 8) (o : Origin) (v : Word) (s : State) : Host.Outcome State Fault Refusal :=
  effect (fun s => s.writeFrom o .ethGclCtl p.val 0 (v ||| 2)) s

/-- CHN_RSV_WRITE (R347). -/
def execChnRsvWrite (x : Fin 2) (o : Origin) (v : Word) (s : State) : Host.Outcome State Fault Refusal :=
  effect (fun s => s.writeFrom o .chnRsv x.val 0 v) s

/-- RETRAIN (R373). -/
def execRetrain (n : Fin 16) (o : Origin) (s : State) : Host.Outcome State Fault Refusal :=
  effect (fun s => s.writeFrom o .dramCtrl n.val 0 1) s

/-- RETIRE (R370). -/
def execRetire (n : Fin 16) (o : Origin) (s : State) : Host.Outcome State Fault Refusal :=
  effect (fun s => s.writeFrom o .dramCtrl n.val 0 2) s

/-- TW_GO (R387). -/
def execTwGo (n : Fin 4) (h : Fin 2) (o : Origin) (v : Word) (s : State) : Host.Outcome State Fault Refusal :=
  effect (fun s => s.writeFrom o .twbXfer n.val h.val (v ||| 0x10000)) s

/-! ### Power, reset, fuses and errors -/

/-- PARK (R411). -/
def execPark (o : Origin) (v : Word) (s : State) : Host.Outcome State Fault Refusal :=
  effect (fun s => s.writeFrom o .pwrCtrl 0 0 (v ||| 1)) s

/-- PARK_EXIT (R411). -/
def execParkExit (o : Origin) (v : Word) (s : State) : Host.Outcome State Fault Refusal :=
  effect (fun s => s.writeFrom o .pwrCtrl 0 0 (clearEn v)) s

/-- DEVRST (R420): GLB_CTRL is written with DEVRST and the key. -/
def execDevrst (o : Origin) (v : Word) (s : State) : Host.Outcome State Fault Refusal :=
  effect (fun s => s.writeFrom o .glbCtrl 0 0 ((v &&& 0xFFFF00FE) ||| 0xA501)) s

/-- FUSE_PROGRAM (R428): `verified` is how the slot verifies. -/
def execFuseProgram (o : Origin) (v : Word) (verified : Bool) (s : State) : Host.Outcome State Fault Refusal :=
  effect (fun s => s.writeFrom o .glbFuseCtl 0 0 (v ||| 1) { verified := some verified }) s

/-- CLR_FATAL (R452). -/
def execClrFatal (o : Origin) (v : Word) (s : State) : Host.Outcome State Fault Refusal :=
  effect (fun s => s.writeFrom o .errCtrl 0 0 (v ||| 1)) s

/-! ### The mark log -/

/-- MARK_READ_SELECT (R445). -/
def execMarkReadSelect (o : Origin) (v : Word) (s : State) : Host.Outcome State Fault Refusal :=
  effect (fun s => s.writeFrom o .markRdSeq 0 0 v) s

/-- MIRROR_ENABLE (R446). -/
def execMirrorEnable (o : Origin) (v : Word) (s : State) : Host.Outcome State Fault Refusal :=
  effect (fun s => s.writeFrom o .markMirCtl 0 0 (v ||| 1)) s

/-- MIRROR_DISABLE (R448). -/
def execMirrorDisable (o : Origin) (v : Word) (s : State) : Host.Outcome State Fault Refusal :=
  effect (fun s => s.writeFrom o .markMirCtl 0 0 (clearEn v)) s

/-- MIRROR_CONSUMER_WRITE (R446). -/
def execMirrorConsumerWrite (o : Origin) (v : Word) (s : State) : Host.Outcome State Fault Refusal :=
  effect (fun s => s.writeFrom o .markMirCons 0 0 v) s

end Sys2Proof.Machine
end

