-- ==== Sys2Proof/Machine/Release.lean ====
section
/-!
DEFINITION. The end of a tick: frames whose work is incomplete miss their deadline (R74), and each staged wall that has a
frame takes its stones into its buffer (R59, R219 to R225).
-/
namespace Sys2Proof.Machine

/-! ### Deadlines (R74, R150) -/

/-- Whether a frame's work is incomplete at the end of tick k, its release tick or a later one. -/
def Frame.overdue (f : Frame) (k : Nat) : Bool :=
  f.bound && !f.processed && !f.missing && !f.missed && f.tick + f.bind.lag ≤ k

/-- A frame misses its deadline: the rest of its work is discarded. A slice of it that is in service is completed (R124). -/
def State.missFrame (s : State) (i : Nat) (f : Frame) : State :=
  (s.setFrame i { f with missed := true }).addCause i 5 (f.number + 1)

/-- A frame that is still open at the end of its release tick, behind its close deadline, closes as there (row 13 of R107).
Log entry 100: DEDUCED, unsafe. -/
def State.closeLate (s : State) (i k : Nat) : State :=
  match s.openFrame i with
  | some f => if f.overdue k then s.closeFrame i 32 else s
  | none => s

/-- Every frame overdue at the end of tick k. -/
def State.missFrames (s : State) (k : Nat) : State :=
  (s.ports.map (·.1)).foldl (fun s i =>
    let s := s.closeLate i k
    ((s.port i).frames.filter (·.overdue k)).foldl (fun s f => s.missFrame i f) s) s

/-! ### What the entries place (R225) -/

/-- What an entry brings to a wall frame. -/
inductive Placing where
  | stone (m : StoneMark)
  | fill (c : FillCause)
  /-- A remote frame that is not whole at the end of the tick. -/
  | late
  deriving DecidableEq, Repr

/-- The frame of port i released at tick k. -/
def State.released (s : State) (i k : Nat) : Option Frame :=
  (s.port i).frames.find? fun f => f.bound && f.tick + f.bind.lag = k

/-- What entry e brings to the frame of tick k of wall w. -/
def State.placing (s : State) (w : Nat) (b : Bank) (k : Nat) (e : Nat × Stone) : Placing :=
  if e.2.remote then
    match s.remoteFor w e.2 k with
    | some r => if r.headed && !r.fits b e.2 then .fill .remoteMismatch else if r.whole then .stone (r.mark e.1) else .late
    | none => .late
  else match s.released e.2.port k with
    | none =>
      if (s.port e.2.port).periods.any fun q => q.tick + q.bind.lag = k then .fill .sourceMissing else .fill .portIdle
    | some f =>
      if f.missing then .fill .sourceMissing
      else if f.missed || !f.processed then .fill .deadline
      else if (s.wall w).overflows.contains (e.1, k) then .fill .holdOverflow
      else .stone (f.mark e.1 e.2.port)

/-- Tick k ends for staged wall w, which has a frame: its stones are in its buffer, and the frame waits for its output
slot (R186, R220). -/
def State.stageWall (s : State) (w k : Nat) : State :=
  let (b, g) := s.wallAt w k
  let buf := bufferNo k (s.wallPeriod b k)
  let ps := (stonesOf b).map fun e => (e, s.placing w b k e)
  let d : WallDue :=
    { tick := k, bank := b, gen := g, addr := (s.bufferAddr w buf).getD 0, buf := buf
      marks := ps.filterMap fun p => match p.2 with
        | .stone m => some m
        | _ => none
      fills := ps.filterMap fun p => match p.2 with
        | .fill c => some (p.1.1, c)
        | _ => none
      late := ps.filterMap fun p => match p.2 with
        | .late => some p.1.1
        | _ => none
      shed := s.tick.shedSeen || s.tick.shed || s.reduced, unsync := s.tick.edgeTag.toNat.testBit 5
      time := timeValue s.tick.edgeTb1 s.tick.edgeTag.toNat }
  s.setWall w { s.wall w with due := some d }

/-- The delivery tick of a wall frame that has not been delivered ends: nothing comes of it, and what its buffer held back is
written (R221).
Log entry 93: DEDUCED, unsafe. -/
def State.dropDue (s : State) (w k : Nat) : State :=
  match (s.wall w).due with
  | some d => if d.tick < k then (s.setWall w { s.wall w with due := none }).flushHeld w else s
  | none => s

/-- What a wall no longer needs once tick k has ended.
Log entry 52: DEDUCED, unsafe. -/
def State.wallPast (s : State) (w k : Nat) : State :=
  let x := s.wall w
  s.setWall w { x with overflows := x.overflows.filter fun o => decide (k < o.2)
                       remotes := x.remotes.filter fun r => decide (k < r.tick + s.hops r.orig) }

/-- The end of tick k for every enabled wall.
Log entry 52: DEDUCED, unsafe. -/
def State.stageWalls (s : State) (k : Nat) : State :=
  ((s.trays.filter fun e => decide (576 ≤ e.1)).map (·.1 - 576)).foldl (fun s w =>
    let b := s.wBank w
    let s := s.dropDue w k
    let s := if s.wallEn w && !isStreaming b && s.wallFrameAt b k then s.stageWall w k else s
    s.wallPast w k) s

/-- The tick in force ends.
Log entry 49: DEDUCED, unsafe. -/
def State.endTick (s : State) : State := (s.missFrames s.now).recallFlush.stageWalls s.now

end Sys2Proof.Machine
end

