-- ==== Sys2Proof/Machine/Handover.lean ====
section
/-!
DEFINITION. The hand-over edge (R182 to R187): swaps and landings with their marks, what a port's swap changes (R150, R204),
the DRAM regions and the remap edge (R370, R371, R496), and the recall store at an edge (R238, R242, R244).
-/
namespace Sys2Proof.Machine

/-! ### Swaps -/

/-- Whether a swap restarts the port's temporal history (R150, cause 4). -/
def reconfigures (old new : Bank) : Bool :=
  (bankDiff 0 (old.length + new.length) old new).any fun d =>
    (PW.dt ≤ d.1 && d.1 ≤ PW.h) || (PW.cfa ≤ d.1 && d.1 ≤ PW.linGain) || (d.1 = PW.tnrEn && d.2.2 ≠ 0)

/-- A port is enabled (R150, R207). -/
def State.enablePort (s : State) (i : Nat) : State :=
  let p := s.port i
  let n := p.nextNumber
  let s := s.setPort i { p with enableNumber := n, enableGen := p.reqGen }
  let s := if s.power.returned && !s.power.returnDone.contains i then s.addCause i 1 n else s
  s.addCause i 2 n

/-- A port is disabled: its bound requests are discarded (R204), and the loss of its replay ring is over (R79). -/
def State.disablePort (s : State) (i : Nat) : State :=
  let s := s.discardBound i
  s.setPort i { s.port i with stranded := false }

/-- The swap of a port tray, with what a change of EN or of the frame's form brings (R150, R204).
Log entry 95: DEDUCED, unsafe. -/
def State.swapPort (s : State) (i : Nat) (o : Origin) : State :=
  let old := s.pBank i
  let was := s.portEn i
  let s := s.swapTray i o
  let now := s.portEn i
  let s := if !was && now then s.enablePort i else if was && !now then s.disablePort i else s
  if reconfigures old (s.pBank i) then s.addCause i 4 (s.port i).nextNumber else s

/-- The swap of any tray.
Log entry 95: DEDUCED, unsafe. -/
def State.swapAny (s : State) (t : Nat) (o : Origin) : State := if t < 512 then s.swapPort t o else s.swapTray t o

/-- Swaps trays in ascending tray number (R440, R444), each with the domain of its commit.
Log entry 95: DEDUCED, unsafe. -/
def State.swapMany (s : State) (xs : List (Nat × Fin 16)) : State :=
  (sortBy (fun a b => decide (a.1 ≤ b.1)) xs).foldl (fun s x => s.swapAny x.1 (.domain x.2)) s

/-- Q_max of a wall tray's new generation (R186). -/
def State.landingLag (s : State) (b : Bank) : Nat := ((localStones b).map fun e => s.lagOf e.2.port).foldl max 0

/-- Every tray of a commit has swapped: event 0x0401.
Log entry 95: DEDUCED, unsafe. -/
def State.swapDone (s : State) (c : CommitRec) : State :=
  s.commitEvent c 0x0401 [(2, c.ring), (1, c.trays.length), (1, 0), (4, s.now % 2 ^ 32)]

/-- The commits whose common edge this is swap, and the walls that land here (R186, R187). Answers whether any did. -/
def State.swapCommits (s : State) : Bool × State :=
  let all := s.tick.armed.map fun (c : CommitRec) => { c with edges := c.edges - 1 }
  let go := all.filter (·.edges = 0)
  let s := { s with tick := { s.tick with armed := all.filter (·.edges ≠ 0) } }
  let s := if go.any (·.ends) then s.unshed else s
  let s := s.swapMany (go.flatMap fun c => (c.trays.filter (· < 576)).map fun t => (t, c.dom))
  let new := go.flatMap fun c => (c.trays.filter (576 ≤ ·)).map fun t =>
    Landing.mk (t - 576) (s.landingLag (s.tray t).staged) c
  let land := s.tick.landings.map (fun (x : Landing) => { x with edges := x.edges - 1 }) ++ new
  let here := land.filter (·.edges = 0)
  let later := land.filter (·.edges ≠ 0)
  let s := { s with tick := { s.tick with landings := later } }
  let s := s.swapMany (here.map fun x => (576 + x.wall, x.owner.dom))
  let s := here.foldl (fun s x => s.setWall x.wall
    { s.wall x.wall with streamed := max (s.wall x.wall).streamed (s.now - 1) }) s
  let done := (go ++ here.map (·.owner)).eraseDups.filter fun c => !later.any (·.owner = c)
  (!go.isEmpty || !here.isEmpty, done.foldl State.swapDone s)

/-! ### DRAM regions (R496) -/

/-- The pieces that wait to go out of chain port x are dropped (R345, R371). -/
def State.dropRelay (s : State) (x : Nat) : State :=
  let ps := (s.cport x).relay
  ps.foldl (fun s r => s.relayPiece x false r) (s.setCport x { s.cport x with relay := [] })

/-- The region that a need has from this edge on: the plan's, else the one in force. -/
def State.regionFor (s : State) (remap : Bool) (n : Need) : Option Region :=
  let plan := s.tick.nextRegions.getD []
  match plan.find? fun r => r.kind = n.1 && r.owner = n.2.1 && r.size = n.2.2 with
  | some r => some r
  | none =>
    match (if remap then none else regionOf s.tick.regions n.1 n.2.1) with
    | some r => some r
    | none => regionOf plan n.1 n.2.1

/-- A TNR port whose reference lies elsewhere restarts with cause 3 from its next frame period on. -/
def State.lostReference (s : State) (i : Nat) : State := s.addCause i 3 (s.port i).nextNumber

/-- The content of a region that has moved (R496).
Log entry 78: DEDUCED, unsafe. -/
def State.regionMoved (s : State) (old new : Region) : State :=
  if old.addr = new.addr then s
  else match old.kind with
    | 0 => s.lostReference old.owner
    | 2 => s.dropRelay old.owner
    | 3 => s.contentLost 3
    | _ => s

/-- A recall store that shedding has shrunk keeps only the entries that lie within it (R73). -/
def State.shrinkStore (s : State) (size : Nat) : State :=
  let es := s.rcl.entries
  let kept := if es.any (fun e => size < e.offset + entrySpace e.len) then
      dropOldest size (es.foldl (fun a e => max a (e.offset + entrySpace e.len)) 0) es else es
  { s with rcl := { s.rcl with entries := kept } }

/-- The ports whose trays have TNR_EN = 1, shed or not (R150). -/
def State.tnrTrays (s : State) : List Nat := s.enabledPorts.filter fun i => pGet (s.pBank i) PW.tnrEn ≠ 0

/-- The ports that shedding had stripped of their reference, and that have one again, restart with cause 3 (R73, R150): `was`
names those shed before. -/
def State.regained (s : State) (was : List Nat) : State :=
  (was.filter fun i => !s.tick.shedPorts.contains i && (s.region 0 i).isSome).foldl State.lostReference s

/-- Every unit of DRAM lies elsewhere from a remap edge on (R371).
Log entry 78: DEDUCED, unsafe. -/
def State.allMoved (s : State) : State :=
  let s := s.tnrTrays.foldl State.lostReference s
  let s := (s.contentLost 1).dropRelay 0 |>.dropRelay 1
  let s := s.activeNow.foldl (fun s n => s.setReg .dramScrubPos n 0 0) s
  (s.walls.map (·.1)).foldl (fun s w =>
    match (s.wall w).due with
    | some d => s.setWall w { s.wall w with due := some { d with moved := true } }
    | none => s) s

/-- The regions of the configuration now active come into force.
Log entry 78: DEDUCED, unsafe. -/
def State.takeRegions (s : State) (remap : Bool) : State :=
  let old := s.tick.regions
  let new := s.regionNeeds.filterMap (s.regionFor remap)
  let rest := s.tick.armed.isEmpty && s.tick.landings.isEmpty
  let s := { s with tick := { s.tick with regions := new, placeNow := false
                                          nextRegions := if rest then none else s.tick.nextRegions } }
  let s := if remap then s.allMoved
    else old.foldl (fun s r => match regionOf new r.kind r.owner with
      | some q => s.regionMoved r q
      | none => s) s
  match regionOf new 3 0 with
  | some r => s.shrinkStore r.size
  | none => s

/-- The remap edge (R370, R396): running service DMA ends, and ACTIVE loses the retired channels. -/
def State.remapChannels (s : State) : State :=
  let s := (List.range 8).foldl State.sdmaRemap s
  { s with active := s.activeNow, tick := { s.tick with remap := false } }

/-! ### The recall store at an edge -/

/-- Whether an enabled wall has RECALL = 1 and the store has a place (11).
Log entry 53: DEDUCED, unsafe. -/
def State.recallWanted (s : State) : Bool :=
  s.recallCharged && (s.region 3 0).isSome && s.wallsOn.any fun w => wGet (s.wBank w) WW.rclEn ≠ 0

/-- The store goes OFF: without a place its content goes with it.
Log entries 25: DESIGN CHOICE, safe; 53: DEDUCED, unsafe. -/
def State.recallOff (s : State) : State :=
  let s := s.exportStop
  let s := { s with rcl := { s.rcl with state := .off, pend := false, restart := false } }.releasesDone
  if s.recallCharged then s else { s with rcl := { s.rcl with entries := [], writeAt := 0, exported := 0 } }

/-- STATE at an edge: OFF and RECORDING as the walls and the size say, and the restart after a release or a loss. -/
def State.recallEdge (s : State) : State :=
  let c := s.rcl
  if c.state = .off then
    if s.recallWanted then { s with rcl := { c with state := .recording, restart := false } } else s
  else if !s.recallCharged then s.recallOff
  else if c.restart then
    if s.recallWanted then { s with rcl := { c with state := .recording, restart := false } } else s.recallOff
  else if c.state = .recording && !s.recallWanted then s.recallOff
  else s

/-! ### The edge -/

/-- Swaps, landings, the remap edge, the regions and the schedule (R72) at a tick edge.
Log entry 49: DEDUCED, unsafe. -/
def State.handoverEdge (s : State) : State :=
  let was := s.tick.shedPorts
  let (changed, s) := s.swapCommits
  let place := s.tick.placeNow && decide (s.tick.placeClock < s.clock)
  let remap := place && s.tick.remap
  let s := if remap then s.remapChannels else s
  let s := if changed || place then (s.takeRegions remap).regained was else s
  let s := s.recallEdge
  if changed || place then
    { s with tick := { s.tick with cycle := (s.asIf (s.tick.landings.map (576 + ·.wall))).cycleLength } }
  else s

end Sys2Proof.Machine
end

