-- ==== Sys2Proof/Machine/Tick.lean ====
section
/-!
DEFINITION. The tick edge (R53 to R57, R79, R184, R185, R203 to R205, R270): when it comes, the number it gives the tick,
triggers and frame periods, replay records, and the meaning of TICK_EDGE.
-/
namespace Sys2Proof.Machine

/-! ### The tick that begins (R54, R55) -/

/-- N of the tick that begins now (R54); while replay rings hold the ticks back, each follows the one before (R79). -/
def State.numberNow (s : State) : Nat :=
  if s.stepping then s.now + 1 else ((s.tickNs - s.tickPhase) / s.tickP) % 2 ^ 64

/-- A replay ring whose first tick was still to come takes it from the tick that begins, whatever its number (R270). -/
def State.shiftFirst (s : State) (n : Nat) : State :=
  s.replayRings.foldl (fun s r =>
    let x := s.ring r
    match x.n0 with
    | some m => if s.now < m then s.setRing r { x with n0 := some (n + (m - (s.now + 1))) } else s
    | none => s) s

/-- The new tick: its number, its instant in every base, and event 0x0104 where the number jumps with no port enabled (R55).
The courses run again behind an accepted change, and none of the output slots has been used (R61).
Log entry 32: DEDUCED, unsafe. -/
def State.nextTick (s : State) : State :=
  let n := s.numberNow
  let jump := s.tick.started && n ≠ s.now + 1
  let at0 := if s.stepping then s.tick.edgeNs + s.tickP else s.tickNs
  let s := if n ≠ s.now + 1 then s.shiftFirst n else s
  let s := { s with tick := { s.tick with num := BitVec.ofNat 64 n, started := true, edgeNs := at0, edgeTb1 := s.tb1.subns
                                          edgeTag := BitVec.ofNat 16 (s.tb1.tag 1), edgeClock := s.clock
                                          edgeTb0Ns := s.tb0.ns, halted := false, slotAt := none
                                          shedSeen := s.tick.shed || s.reduced } }
  if jump && !s.anyPortEnabled then s.raise 0x0104 [(8, n)] else s

/-! ### Triggers and frame periods -/

/-- The ports whose frame period begins at this edge (R57, R184), ascending. -/
def State.duePorts (s : State) : List Nat := s.enabledPorts.filter fun i => triggersAt (s.pBank i) s.now

/-- Numbers of one lane's ports as a mask. -/
def portMask (ports : List Nat) : Nat := orAll (ports.map fun i => 2 ^ (i % 8))

/-- Whether port i's frames are triggered on its lane: its mill neither replays (R269) nor has lost its replay ring (R79).
Log entry 102: DEDUCED, unsafe. -/
def State.triggered (s : State) (i : Nat) : Bool := !s.replaying (i / 8) && !(s.port i).stranded

/-- The TRIGGER packet of each lane (R57, R94, R99).
Log entry 35: DEDUCED, unsafe. -/
def State.sendTriggers (s : State) (due : List Nat) : State :=
  let due := due.filter s.triggered
  (due.map (· / 8)).eraseDups.foldl (fun s l =>
    let m := portMask (due.filter fun i => i / 8 = l)
    s.emitBack l (csiPacket 0x34 0 ([BitVec.ofNat 8 m, BitVec.ofNat 8 (255 - m)] ++ leBytes 6 s.now))) s

/-- A frame that opened before this edge is a stray where no period begins, or its start lies in no window (R107 row 3,
R184). -/
def State.withdrawEarly (s : State) (i : Nat) : State :=
  let p := s.port i
  let s := s.setPort i { p with frames := p.frames.filter (·.bound) }
  (s.bump .sxlPstray (i / 8) (i % 8)).raise 0x0211 [(2, s.portAddr i), (6, s.now)]

/-- The frame that opened before this edge binds the trays of the edge (R185).
Log entry 36: DEDUCED, unsafe. -/
def State.bindEarly (s : State) (i : Nat) (q : Period) (f : Frame) : State :=
  let g := { f with tick := q.tick, number := q.number, bound := true, bind := q.bind, reqGen := q.reqGen
                    reqNew := q.reqNew, replay := q.replay }
  let s := s.setPeriod i { q with opened := true }
  let p := s.port i
  let s := (s.setPort i { p with frames := p.frames.map fun x => if x.bound then x else g }).spendCauses i g
  let s := if f.isOpen then s
    else match (s.port i).frames.find? fun x => x.tick = q.tick with
      | some g => s.reportClose i g
      | none => s
  s.finishIfDone i

/-- The frame of port i that opened before this edge.
Log entry 36: DEDUCED, unsafe. -/
def State.earlyFrame (s : State) (i : Nat) : Option Frame := (s.port i).frames.find? fun f => !f.bound

/-- The frame periods that a port still needs at tick n: those whose frame is to come or whose stones are to be released, and
those whose requested generation an open frame may yet take (R207). -/
def Port.keptPeriods (p : Port) (n : Nat) : List Period :=
  let undone := fun (q : Period) => !q.opened && !q.missing
  let live := ((p.periods.filter undone).map fun q => q.number.toNat) ++ ((p.frames.filter (·.isOpen)).map fun f => f.number.toNat)
  let oldest := live.foldl min p.nextNumber.toNat
  p.periods.filter fun q => undone q || decide (n ≤ q.tick + q.bind.lag + 1) || decide (oldest ≤ q.number.toNat + 16)

/-- A frame period of port i begins (R25, R185, R203, R205). -/
def State.beginPeriod (s : State) (i : Nat) : State :=
  let replay := s.replaying (i / 8)
  let (sent, s) := if s.triggered i && s.mbxRuns i then s.sendBound i else (false, s)
  let p := s.port i
  let q : Period := { tick := s.now, number := p.nextNumber, bind := s.bindingAt i s.tick.edgeNs, reqGen := p.reqGen
                      reqNew := sent, replay := replay }
  let s := s.setPort i { p with periods := q :: p.keptPeriods s.now, nextNumber := p.nextNumber + 1 }
  match s.earlyFrame i with
  | some f => if q.bind.lo ≤ f.early && f.early < q.bind.hi then s.bindEarly i q f else s.withdrawEarly i
  | none => s

/-- Bound requests come one edge nearer to their trigger (R203). -/
def State.countWaits (s : State) : State :=
  (s.ports.map (·.1)).foldl (fun s i =>
    let p := s.port i
    s.setPort i { p with queue := p.queue.map fun r => { r with wait := r.wait - 1 } }) s

/-- The ports that enabled or ARMED walls name. -/
def State.namedPorts (s : State) : List Nat :=
  ((s.trays.filter fun e => decide (576 ≤ e.1)).flatMap fun e =>
    let on := fun (b : Bank) => if wGet b WW.en ≠ 0 then localStones b else []
    (on e.2.active ++ if e.2.state = .armed then on e.2.staged else []).map (·.2.port)).eraseDups

/-- The phase of a disabled port that a wall names falls on this edge (R219). -/
def State.noteIdles (s : State) : State :=
  s.namedPorts.foldl (fun s i =>
    let b := s.pBank i
    if s.portEn i || s.now % max 1 (pGet b PW.frameTicks) ≠ pGet b PW.framePhase then s
    else
      let p := s.port i
      s.setPort i { p with idles := p.idles ++ [(s.now, s.now + s.lagOf i)] }) s

/-! ### The rest of the edge -/

/-- The records of a replay ring for this tick: those of a port in ring order (R270), a lower port's first, so that its frame
completes first (R201).
Log entry 39: DEDUCED, unsafe. -/
def State.replayEdge (s : State) (r : Nat) : State :=
  let x := s.ring r
  match x.n0 with
  | none => s
  | some n =>
    let due := x.replays.filter fun y => decide (n + y.tickOff = s.now)
    let s := s.setRing r { x with replays := x.replays.filter fun y => decide (s.now < n + y.tickOff)
                                  eots := x.eots.filter fun o => decide (s.now ≤ n + o) }
    (sortBy (fun a b => decide (a.port ≤ b.port)) due).foldl (fun s y => s.applyRecord s.now y) s

/-- Whether a streaming frame in progress may still take lines of a frame (R227). -/
def State.streamUses (s : State) (f : Frame) : Bool :=
  s.walls.any fun e => match e.2.stream with
    | some d => decide (d.tick ≤ f.tick + f.bind.lag)
    | none => false

/-- What a port no longer needs: frames behind the tick after their release tick, and idle periods released. -/
def State.portPast (s : State) (i : Nat) : State :=
  let p := s.port i
  s.setPort i { p with
    idles := p.idles.filter fun e => decide (s.now ≤ e.2)
    frames := p.frames.filter fun f => f.isOpen || !f.bound || (f.missed && !f.missTold)
      || s.streamUses f || decide (s.now ≤ f.tick + f.bind.lag + 1) }

/-- A streaming frame whose header left before its tick has its TIME from now on (R227, R229). -/
def State.timeStreams (s : State) : State :=
  (s.walls.map (·.1)).foldl (fun s w =>
    match (s.wall w).stream with
    | some d =>
      if !d.timed && d.tick = s.now then
        s.setWall w { s.wall w with stream := some { d with timed := true, unsync := s.tick.edgeTag.toNat.testBit 5
                                                            time := timeValue s.tick.edgeTb1 s.tick.edgeTag.toNat } }
      else s
    | none => s) s

/-- What the data plane does at an edge: triggers, frame periods, records, and the order of service (R61, R124).
Log entry 49: DEDUCED, unsafe. -/
def State.runTick (s : State) : State :=
  let due := s.duePorts
  let s := s.timeStreams.noteIdles.sendTriggers due
  let s := (due.foldl State.beginPeriod s).flushBack
  let s := (s.ports.map (·.1)).foldl (fun s i => if (s.earlyFrame i).isSome then s.withdrawEarly i else s) s
  let s := (s.ports.map (·.1)).foldl State.portPast s
  let s := (List.range 64).foldl (fun s m => s.setMill m { s.mill m with reload := true }) s
  let s := s.replayRings.foldl State.replayEdge s
  (List.range 64).foldl State.decideMill s

/-- A tick edge.
Log entries 32: DEDUCED, unsafe; 33: DEDUCED, unsafe; 49: DEDUCED, unsafe. -/
def State.tickEdge (s : State) : State :=
  let s := (s.elapse s.clocksToEdge).deliverCaptures
  let s := if s.dark then s else s.endTick
  let s := s.nextTick.handoverEdge.countWaits
  if s.dark then s else s.runTick

/-- TICK_EDGE (R53): no tick runs while the main rails are down or the device is in RESET, and in step mode none starts
before its replay rings allow it (R79). -/
def execTickEdge (s : State) : Host.Outcome State Fault Refusal :=
  effect (fun s =>
    if s.power.pstate = .keep || s.power.pstate = .reset || !s.tickMayStart then s else s.tickEdge) s

end Sys2Proof.Machine
end

