-- ==== Sys2Proof/Machine/Tw0.lean ====
section
/-!
DEFINITION. The TW0 target (R377 to R385): its byte space, the latch of a window read, the gathering of a window write, write
pages, and sleep.
-/
namespace Sys2Proof.Machine

/-- Whether TW0 has power and an address (R379): the main rails are in range and power-on reset has ended. -/
def State.tw0Up (s : State) : Bool := s.power.pstate ≠ .keep && s.power.supplied && !s.power.por

/-- Whether TW0 acknowledges nothing because it sleeps or has not yet woken (R385). -/
def State.tw0Asleep (s : State) : Bool := s.tw0.waking || (s.power.pstate = .park && !s.tw0.awake)

/-- The BAR0 offset behind pointer p of the window, at the word that holds it (R380). -/
def State.tw0Offset (s : State) (p : Nat) : Nat := s.field .twbT0Win 0 0 15 11 * 2 ^ 15 + (p - 0x8000) / 4 * 4

/-- The identity page (R380). -/
def State.identity (s : State) : List Byte :=
  leBytes 2 0x7064 ++ [0xB1, 1] ++ leBytes 4 (s.regValue ⟨.chnDevidLo, 0, 0⟩).toNat
    ++ leBytes 4 (s.regValue ⟨.chnDevidHi, 0, 0⟩).toNat ++ leBytes 2 s.power.tj.toNat
    ++ [BitVec.ofNat 8 s.power.pstate.code, BitVec.ofNat 8 s.boot.win.toNat]

/-- A transaction ends: a window word that lacks bytes is discarded and counted (R378, R383). -/
def State.tw0End (s : State) : State :=
  let s := if s.tw0.word.isEmpty then s else s.bump .twbT0Part
  { s with tw0 := { s.tw0 with phase := 0, word := [], latch := none, page := none, nacked := false } }

/-- An address byte: TW0's own is acknowledged, or wakes a sleeping TW0 unacknowledged (R377, R379, R385).
Log entry 60: DEDUCED, unsafe. -/
def State.tw0Address (s : State) (b : Byte) : State :=
  let s := s.tw0End
  if !s.tw0Up || b.toNat / 2 ≠ 0x58 + s.tw0.address.toNat then s
  else if s.tw0Asleep then { s with tw0 := { s.tw0 with waking := true } }.emit (.twAck false)
  else { s with tw0 := { s.tw0 with phase := if b.toNat % 2 = 1 then 4 else 1 } }.emit (.twAck true)

/-- TW0_ADDRESS_BYTE. -/
def execTw0AddressByte (b : Byte) (s : State) : Host.Outcome State Fault Refusal := effect (fun s => s.tw0Address b) s

/-- TW0_WAKE (R385). -/
def execTw0Wake (s : State) : Host.Outcome State Fault Refusal :=
  effect (fun s =>
    if s.tw0Up && s.tw0.waking then
      ({ s with tw0 := { s.tw0 with awake := true, waking := false } }.bump .twbT0Wake).raise 0x0A04 [(8, 0)]
    else s) s

/-- TW0_TRANSACTION_END: a STOP or a repeated start. -/
def execTw0TransactionEnd (s : State) : Host.Outcome State Fault Refusal := effect State.tw0End s

/-! ### Reading -/

/-- The byte at pointer p, with the latch of its word where it lies in the window (R380, R382).
Log entry 60: DEDUCED, unsafe. -/
def State.tw0Byte (s : State) (p : Nat) : Byte × State :=
  if p < 0x8000 then (byteAt s.identity p, s)
  else
    let key := BitVec.ofNat 16 (p / 4)
    let (v, s) := match s.tw0.latch with
      | some (k, v) => if k = key then (v, s) else s.readReg .tw0 (s.tw0Offset p)
      | none => s.readReg .tw0 (s.tw0Offset p)
    (byteAt (leBytes 4 v.toNat) (p % 4), { s with tw0 := { s.tw0 with latch := some (key, v) } })

/-- TW0_READ_BYTE (R381, R382): a byte is clocked out. -/
def execTw0ReadByte (s : State) : Host.Outcome State Fault Refusal :=
  effect (fun s =>
    if !s.tw0Up || s.tw0.phase ≠ 4 then s
    else
      let (b, s) := s.tw0Byte s.tw0.pointer.toNat
      { s with tw0 := { s.tw0 with pointer := s.tw0.pointer + 1 } }.emit (.twByte b)) s

/-! ### Writing -/

/-- A whole word for the window at pointer p (R383): cause 1 the boot window is open, 2 no register window grants it.
Log entry 60: DEDUCED, unsafe. -/
def State.tw0Store (s : State) (p : Nat) (v : Word) : State :=
  let off := s.tw0Offset p
  let cause := match locate off, s.verdict .tw0 off v with
    | none, _ => 0
    | _, .unmapped => 0
    | _, .ignored => 0
    | some r, _ => if s.boot.win = 0 then 1 else if !r.msix && !s.writeGranted .tw0 off then 2 else 0
  if cause = 0 then s.writeNow .tw0 off v
  else
    let old := match locate off with
      | some r => s.regValue r
      | none => 0
    ((s.markReg .tw0 off old v true).bump .twbT0Refuse).raise 0x0A05
      [(2, p / 4 * 4), (1, cause), (1, 0), (4, off)]

/-- A data byte joins the word of its pointer; behind byte 3 the word is written, or discarded where it began late. -/
def State.tw0Gather (s : State) (p : Nat) (b : Byte) : State :=
  let ws := if p % 4 = 0 then [b] else s.tw0.word ++ [b]
  if p % 4 ≠ 3 then { s with tw0 := { s.tw0 with word := ws } }
  else
    let s := { s with tw0 := { s.tw0 with word := [] } }
    if ws.length = 4 then s.tw0Store p (BitVec.ofNat 32 (ofLe ws)) else s.bump .twbT0Part

/-- A data byte (R380, R383, R384).
Log entry 60: DEDUCED, unsafe. -/
def State.tw0Data (s : State) (b : Byte) : State :=
  let p := s.tw0.pointer
  let page := (s.tw0.page).getD (BitVec.ofNat 11 (p.toNat / 32))
  if s.tw0.nacked then s.emit (.twAck false)
  else if page ≠ BitVec.ofNat 11 (p.toNat / 32) then
    ({ s with tw0 := { s.tw0 with nacked := true } }.bump .twbT0Page).emit (.twAck false)
  else
    let s := { s with tw0 := { s.tw0 with page := some page, pointer := p + 1 } }.emit (.twAck true)
    if p.toNat < 0x8000 then s.unmapped else s.tw0Gather p.toNat b

/-- A written byte: the pointer's two bytes, then data (R381). -/
def State.tw0Write (s : State) (b : Byte) : State :=
  match s.tw0.phase with
  | 1 => { s with tw0 := { s.tw0 with high := b, phase := 2 } }.emit (.twAck true)
  | 2 => { s with tw0 := { s.tw0 with pointer := s.tw0.high ++ b, phase := 3 } }.emit (.twAck true)
  | 3 => s.tw0Data b
  | _ => s

/-- TW0_WRITE_BYTE. -/
def execTw0WriteByte (b : Byte) (s : State) : Host.Outcome State Fault Refusal :=
  regEffect (fun s => some (if s.tw0Up then s.tw0Write b else s)) s

end Sys2Proof.Machine
end

