-- ==== Sys2Proof/Machine/Dispatch.lean ====
section
/-!
DEFINITION. One arm for each command: the one call of its meaning.
-/
namespace Sys2Proof.Machine

def exec (i : Instr) (s : State) : Host.Outcome State Fault Refusal :=
  match i with
  | .tickEdge => Sys2Proof.Machine.execTickEdge s
  | .timeSourceUpdate b offset logInterval srcErr dt => Sys2Proof.Machine.execTimeSourceUpdate b offset logInterval srcErr dt s
  | .sourceTimeout b => Sys2Proof.Machine.execSourceTimeout b s
  | .tb1FollowSample dt => Sys2Proof.Machine.execTb1FollowSample dt s
  | .ptmRequest => Sys2Proof.Machine.execPtmRequest s
  | .manualSet b o v => Sys2Proof.Machine.execManualSet b o v s
  | .snap o => Sys2Proof.Machine.execSnap o s
  | .timeReadLatch a b => Sys2Proof.Machine.execTimeReadLatch a b s
  | .edgeTransition e rising samples dt => Sys2Proof.Machine.execEdgeTransition e rising samples dt s
  | .readLo a off => Sys2Proof.Machine.execReadLo a off s
  | .rcRead a off => Sys2Proof.Machine.execRcRead a off s
  | .registerWrite o off v form => Sys2Proof.Machine.execRegisterWrite o off v form s
  | .laneEnable l o v => Sys2Proof.Machine.execLaneEnable l o v s
  | .laneDisable l o v => Sys2Proof.Machine.execLaneDisable l o v s
  | .codewordReceived l mode symbols dt => Sys2Proof.Machine.execCodewordReceived l mode symbols dt s
  | .switchTimeout l => Sys2Proof.Machine.execSwitchTimeout l s
  | .restartWaitEnd l => Sys2Proof.Machine.execRestartWaitEnd l s
  | .downShiftIntervalEnd l => Sys2Proof.Machine.execDownShiftIntervalEnd l s
  | .reneg l o => Sys2Proof.Machine.execReneg l o s
  | .fs l k count dt => Sys2Proof.Machine.execFs l k count dt s
  | .fe l k count => Sys2Proof.Machine.execFe l k count s
  | .ls l k line => Sys2Proof.Machine.execLs l k line s
  | .le l k line => Sys2Proof.Machine.execLe l k line s
  | .idle l vc wc => Sys2Proof.Machine.execIdle l vc wc s
  | .pixelPacket l k dataType payload crc => Sys2Proof.Machine.execPixelPacket l k dataType payload crc s
  | .frameTag l k payload crc => Sys2Proof.Machine.execFrameTag l k payload crc s
  | .mbxRsp l k payload crc => Sys2Proof.Machine.execMbxRsp l k payload crc s
  | .hubStatus l k payload crc => Sys2Proof.Machine.execHubStatus l k payload crc s
  | .unknownDataType l k dataType => Sys2Proof.Machine.execUnknownDataType l k dataType s
  | .closeDeadline l k => Sys2Proof.Machine.execCloseDeadline l k s
  | .frameMissing l k => Sys2Proof.Machine.execFrameMissing l k s
  | .mbxReq l k => Sys2Proof.Machine.execMbxReq l k s
  | .mbxTimeout l k => Sys2Proof.Machine.execMbxTimeout l k s
  | .sliceComplete m ue => Sys2Proof.Machine.execSliceComplete m ue s
  | .funnelDeliver m f => Sys2Proof.Machine.execFunnelDeliver m f s
  | .deadlineMiss m k => Sys2Proof.Machine.execDeadlineMiss m k s
  | .nop r d => Sys2Proof.Machine.execNop r d s
  | .stage r d => Sys2Proof.Machine.execStage r d s
  | .stageInd r d words bad => Sys2Proof.Machine.execStageInd r d words bad s
  | .commit r d => Sys2Proof.Machine.execCommit r d s
  | .admissionRun => Sys2Proof.Machine.execAdmissionRun s
  | .sensor r d body bad => Sys2Proof.Machine.execSensor r d body bad s
  | .trayRead r d => Sys2Proof.Machine.execTrayRead r d s
  | .freeze r d => Sys2Proof.Machine.execFreeze r d s
  | .exportStart r d => Sys2Proof.Machine.execExportStart r d s
  | .release r d => Sys2Proof.Machine.execRelease r d s
  | .obuf r d => Sys2Proof.Machine.execObuf r d s
  | .data r d bytes bad => Sys2Proof.Machine.execData r d bytes bad s
  | .eot r d => Sys2Proof.Machine.execEot r d s
  | .outputSlot u => Sys2Proof.Machine.execOutputSlot u s
  | .writeUnit => Sys2Proof.Machine.execWriteUnit s
  | .ringSlackDrop r => Sys2Proof.Machine.execRingSlackDrop r s
  | .faultDeadlineDrop r => Sys2Proof.Machine.execFaultDeadlineDrop r s
  | .streamLineSend w => Sys2Proof.Machine.execStreamLineSend w s
  | .remoteLate w e => Sys2Proof.Machine.execRemoteLate w e s
  | .freezeTickEnd => Sys2Proof.Machine.execFreezeTickEnd s
  | .doorbellWrite d slot word v => Sys2Proof.Machine.execDoorbellWrite d slot word v s
  | .ringEnable r o v => Sys2Proof.Machine.execRingEnable r o v s
  | .ringDisable r o v => Sys2Proof.Machine.execRingDisable r o v s
  | .drainEnd r => Sys2Proof.Machine.execDrainEnd r s
  | .hostCompletion r status descriptorRead => Sys2Proof.Machine.execHostCompletion r status descriptorRead s
  | .completionTimeout r => Sys2Proof.Machine.execCompletionTimeout r s
  | .atsCompletion pv pasid addr size taddr rd wr => Sys2Proof.Machine.execAtsCompletion pv pasid addr size taddr rd wr s
  | .invalidateRequest tag pv pasid addr size => Sys2Proof.Machine.execInvalidateRequest tag pv pasid addr size s
  | .invalidateCompletion tag => Sys2Proof.Machine.execInvalidateCompletion tag s
  | .pageRequestResponse prg code => Sys2Proof.Machine.execPageRequestResponse prg code s
  | .pageRequestTimeout prg => Sys2Proof.Machine.execPageRequestTimeout prg s
  | .flush o v => Sys2Proof.Machine.execFlush o v s
  | .configRequest c => Sys2Proof.Machine.execConfigRequest c s
  | .functionReset k => Sys2Proof.Machine.execFunctionReset k s
  | .d3hotEntry => Sys2Proof.Machine.execD3hotEntry s
  | .d0Return => Sys2Proof.Machine.execD0Return s
  | .linkChange width rate flit up => Sys2Proof.Machine.execLinkChange width rate flit up s
  | .consumerCountWrite q o v => Sys2Proof.Machine.execConsumerCountWrite q o v s
  | .mqEnable o v => Sys2Proof.Machine.execMqEnable o v s
  | .mqDisable o v => Sys2Proof.Machine.execMqDisable o v s
  | .coalescingTimeout q => Sys2Proof.Machine.execCoalescingTimeout q s
  | .splitPortUp p => Sys2Proof.Machine.execSplitPortUp p s
  | .splitPortDown p => Sys2Proof.Machine.execSplitPortDown p s
  | .ethFrameReceived p frame fcsOk dt => Sys2Proof.Machine.execEthFrameReceived p frame fcsOk dt s
  | .gptpMessageSend kind body dt => Sys2Proof.Machine.execGptpMessageSend kind body dt s
  | .pduTransmit p => Sys2Proof.Machine.execPduTransmit p s
  | .streamTruncate n => Sys2Proof.Machine.execStreamTruncate n s
  | .gateListChange p o v => Sys2Proof.Machine.execGateListChange p o v s
  | .gateListTakeEffect p => Sys2Proof.Machine.execGateListTakeEffect p s
  | .chainLinkChange x locked => Sys2Proof.Machine.execChainLinkChange x locked s
  | .chainCodewordReceived x lane symbols dt => Sys2Proof.Machine.execChainCodewordReceived x lane symbols dt s
  | .helloSend => Sys2Proof.Machine.execHelloSend s
  | .helloReceived x payload => Sys2Proof.Machine.execHelloReceived x payload s
  | .helloTimeout x => Sys2Proof.Machine.execHelloTimeout x s
  | .inaugSend => Sys2Proof.Machine.execInaugSend s
  | .inaugReceived x hdr payload => Sys2Proof.Machine.execInaugReceived x hdr payload s
  | .inaugTimeout => Sys2Proof.Machine.execInaugTimeout s
  | .becomeKeystone => Sys2Proof.Machine.execBecomeKeystone s
  | .epochApply => Sys2Proof.Machine.execEpochApply s
  | .timeSend => Sys2Proof.Machine.execTimeSend s
  | .timeReceived x hdr payload dt => Sys2Proof.Machine.execTimeReceived x hdr payload dt s
  | .delayReqSend dt => Sys2Proof.Machine.execDelayReqSend dt s
  | .delayReqReceived x dt => Sys2Proof.Machine.execDelayReqReceived x dt s
  | .delayRspReceived x payload dt => Sys2Proof.Machine.execDelayRspReceived x payload dt s
  | .framePieceReceived x hdr payload => Sys2Proof.Machine.execFramePieceReceived x hdr payload s
  | .chainRelay x => Sys2Proof.Machine.execChainRelay x s
  | .alarmReceived x hdr payload => Sys2Proof.Machine.execAlarmReceived x hdr payload s
  | .readinessTimeout => Sys2Proof.Machine.execReadinessTimeout s
  | .chnRsvWrite x o v => Sys2Proof.Machine.execChnRsvWrite x o v s
  | .dramReadData n unit flips => Sys2Proof.Machine.execDramReadData n unit flips s
  | .ceSecondEnd n => Sys2Proof.Machine.execCeSecondEnd n s
  | .patrolScrubRead n => Sys2Proof.Machine.execPatrolScrubRead n s
  | .refresh n bank => Sys2Proof.Machine.execRefresh n bank s
  | .temperaturePoll n hot => Sys2Proof.Machine.execTemperaturePoll n hot s
  | .alertLow n => Sys2Proof.Machine.execAlertLow n s
  | .alertHigh n => Sys2Proof.Machine.execAlertHigh n s
  | .replayRetired n => Sys2Proof.Machine.execReplayRetired n s
  | .retrainingSlotStart => Sys2Proof.Machine.execRetrainingSlotStart s
  | .retrainingSlotEnd n moves narrow => Sys2Proof.Machine.execRetrainingSlotEnd n moves narrow s
  | .recoveryComplete n us => Sys2Proof.Machine.execRecoveryComplete n us s
  | .recoveryTimeout n => Sys2Proof.Machine.execRecoveryTimeout n s
  | .retrain n o => Sys2Proof.Machine.execRetrain n o s
  | .retire n o => Sys2Proof.Machine.execRetire n o s
  | .trainingHelperGo n v flips => Sys2Proof.Machine.execTrainingHelperGo n v flips s
  | .tw0AddressByte b => Sys2Proof.Machine.execTw0AddressByte b s
  | .tw0WriteByte b => Sys2Proof.Machine.execTw0WriteByte b s
  | .tw0ReadByte => Sys2Proof.Machine.execTw0ReadByte s
  | .tw0TransactionEnd => Sys2Proof.Machine.execTw0TransactionEnd s
  | .tw0Wake => Sys2Proof.Machine.execTw0Wake s
  | .twGo n h o v => Sys2Proof.Machine.execTwGo n h o v s
  | .transferStart n bus => Sys2Proof.Machine.execTransferStart n bus s
  | .sclTimeout n => Sys2Proof.Machine.execSclTimeout n s
  | .hangRecovery n res => Sys2Proof.Machine.execHangRecovery n res s
  | .targetTransaction n read bytes => Sys2Proof.Machine.execTargetTransaction n read bytes s
  | .sdmaGo c o => Sys2Proof.Machine.execSdmaGo c o s
  | .sdmaStop c o done => Sys2Proof.Machine.execSdmaStop c o done s
  | .sdmaDone c => Sys2Proof.Machine.execSdmaDone c s
  | .sdmaLanded c => Sys2Proof.Machine.execSdmaLanded c s
  | .mainRailLoss => Sys2Proof.Machine.execMainRailLoss s
  | .clkRefLoss => Sys2Proof.Machine.execClkRefLoss s
  | .mainRailReturn clocks => Sys2Proof.Machine.execMainRailReturn clocks s
  | .powerOnResetEnd straps => Sys2Proof.Machine.execPowerOnResetEnd straps s
  | .coldStart => Sys2Proof.Machine.execColdStart s
  | .switchToBack => Sys2Proof.Machine.execSwitchToBack s
  | .switchToMain => Sys2Proof.Machine.execSwitchToMain s
  | .vkaBackLost => Sys2Proof.Machine.execVkaBackLost s
  | .vkaBackRegained => Sys2Proof.Machine.execVkaBackRegained s
  | .temperatureSample readings => Sys2Proof.Machine.execTemperatureSample readings s
  | .trip => Sys2Proof.Machine.execTrip s
  | .park o v => Sys2Proof.Machine.execPark o v s
  | .parkExit o v => Sys2Proof.Machine.execParkExit o v s
  | .perstAssert => Sys2Proof.Machine.execPerstAssert s
  | .devrst o v => Sys2Proof.Machine.execDevrst o v s
  | .watchdogExpiry => Sys2Proof.Machine.execWatchdogExpiry s
  | .bootStart b => Sys2Proof.Machine.execBootStart b s
  | .bootTimeout => Sys2Proof.Machine.execBootTimeout s
  | .lock => Sys2Proof.Machine.execLock s
  | .fuseProgram o v verified => Sys2Proof.Machine.execFuseProgram o v verified s
  | .clrFatal o v => Sys2Proof.Machine.execClrFatal o v s
  | .markReadSelect o v => Sys2Proof.Machine.execMarkReadSelect o v s
  | .mirrorEnable o v => Sys2Proof.Machine.execMirrorEnable o v s
  | .mirrorDisable o v => Sys2Proof.Machine.execMirrorDisable o v s
  | .mirrorWrite => Sys2Proof.Machine.execMirrorWrite s
  | .mirrorConsumerWrite o v => Sys2Proof.Machine.execMirrorConsumerWrite o v s
  | .holdoverErrbSet b => Sys2Proof.Machine.execHoldoverErrbSet b s
  | .keepAliveSupplyLoss => Sys2Proof.Machine.execKeepAliveSupplyLoss s

end Sys2Proof.Machine
end

