-- ==== Sys2Proof/Machine/Step.lean ====
section
/-!
DEFINITION. One step: the command at the front of the queue is executed with the rest of the queue; with no command
waiting, one time clock passes (notes/assumptions/2.md).
-/
namespace Sys2Proof.Machine

/-- Takes the front command, or lets one time clock (R31) pass.
Log entries 2: DESIGN CHOICE, unsafe; 91: DESIGN CHOICE, unsafe. -/
def step (s : State) : Host.Outcome State Fault Refusal :=
  match s.pending with
  | [] => .next (s.elapse 1)
  | c :: rest => exec c { s with pending := rest }

/-- The state with the command that the word spells in front of the queue.
Log entries 1: DESIGN CHOICE, safe; 91: DESIGN CHOICE, unsafe. -/
def State.withFetchWord (s : State) (nbits w : Nat) : State :=
  match decodeTableWord nbits w with
  | some c => { s with pending := c :: s.pending }
  | none => s

end Sys2Proof.Machine
end

