-- ==== Sys2Proof/Safety.lean ====
section
/-!
DEFINITION. The terms that claims use: what holds of the device between two commands, when a command completes, and what a
command leaves alone.
-/
namespace Sys2Proof

/-- Accessors that read whole aligned words of the register space. The others read the doorbell page (R255), or less than a
word (R464). -/
def Accessor.wholeWords : Accessor → Bool
  | .bar2 | .bar2Part | .bar0Part => false
  | _ => true

end Sys2Proof

namespace Sys2Proof.Machine

/-- Between commands every event raised has been offered to its queues (R298, R300), the log holds the latest 4,096 marks
(R441), and the service flags are those last reported by event 0x0C21 (R454). -/
def State.Sound (s : State) : Prop := s.raised = [] ∧ s.marks.length ≤ 4096 ∧ s.service = s.serviceNow

/-- The command answers a next state, with a property. -/
def Completes (c : Instr) (s : State) (P : State → Prop) : Prop := ∃ t, exec c s = .next t ∧ P t

/-- The register offsets that the delivery of events may write: XLAT_HIT, EVT_SEQ and EVT_LOST, MSIX_PBA, and STATUS and
DROP of the rings. -/
def deliveryReg (off : Nat) : Bool :=
  off = 0x340010 || (0x380010 ≤ off && off < 0x380230 && (off % 32 = 16 || off % 32 = 20))
    || (0x328000 ≤ off && off < 0x328100) || (0x300010 ≤ off && off < 0x308000 && (off % 32 = 16 || off % 32 = 28))

/-- `t` holds what `s` holds but for what the delivery of events changes: the event queues, the rings that carry them, the
translation cache with its lookups, the registers of `deliveryReg` (STATUS and DROP of those rings alone), the events held in
the island and the events raised. What has left the device has left it. -/
structure State.Kept (s t : State) : Prop where
  clock : t.clock = s.clock
  latches : t.latches = s.latches
  tb0 : t.tb0 = s.tb0
  tb1 : t.tb1 = s.tb1
  tb2 : t.tb2 = s.tb2
  tb3 : t.tb3 = s.tb3
  ptm : t.ptm = s.ptm
  edges : t.edges = s.edges
  tick : t.tick = s.tick
  trays : t.trays = s.trays
  lanes : t.lanes = s.lanes
  ports : t.ports = s.ports
  mills : t.mills = s.mills
  backWait : t.backWait = s.backWait
  funnels : t.funnels = s.funnels
  walls : t.walls = s.walls
  rcl : t.rcl = s.rcl
  offered : t.offered = s.offered
  engine : t.engine = s.engine
  prqs : t.prqs = s.prqs
  invals : t.invals = s.invals
  atsOn : t.atsOn = s.atsOn
  priOn : t.priOn = s.priOn
  relaxedOn : t.relaxedOn = s.relaxedOn
  priStop : t.priStop = s.priStop
  pci : t.pci = s.pci
  splits : t.splits = s.splits
  streams : t.streams = s.streams
  syncLog : t.syncLog = s.syncLog
  chain : t.chain = s.chain
  cports : t.cports = s.cports
  dram : t.dram = s.dram
  upsets : t.upsets = s.upsets
  chans : t.chans = s.chans
  active : t.active = s.active
  lastSlot : t.lastSlot = s.lastSlot
  reduced : t.reduced = s.reduced
  tw0 : t.tw0 = s.tw0
  twPorts : t.twPorts = s.twPorts
  sdma : t.sdma = s.sdma
  power : t.power = s.power
  fuses : t.fuses = s.fuses
  boot : t.boot = s.boot
  marks : t.marks = s.marks
  markSeq : t.markSeq = s.markSeq
  markSelected : t.markSelected = s.markSelected
  mirror : t.mirror = s.mirror
  fatal : t.fatal = s.fatal
  free : t.free = s.free
  pending : t.pending = s.pending
  service : t.service = s.service
  regs : ∀ (d : Word) (off : Nat), deliveryReg off = false → Store.get d t.regs off = Store.get d s.regs off
  status : ∀ (d : Word) (r : Fin 1024), s.kind r ≠ 3 →
    Store.get d t.regs (RegName.ringStatus.off r) = Store.get d s.regs (RegName.ringStatus.off r)
  drop : ∀ (d : Word) (r : Fin 1024), s.kind r ≠ 3 →
    Store.get d t.regs (RegName.ringDrop.off r) = Store.get d s.regs (RegName.ringDrop.off r)
  rings : ∀ r, s.kind r ≠ 3 → t.ring r = s.ring r
  out : ∃ l, t.out = l ++ s.out

/-- The frame of a command that ends in `t`, where `u` is the state before it with what the command changes as it is in `t`:
beside the delivery of its events and the report of the service flags (R454), nothing changes. -/
def State.Frame (u t : State) : Prop := State.Kept { u with service := t.service } t

/-- A write of v by an origin to register r reaches it and is accepted (R433, R443, R469). -/
def State.Accepts (s : State) (o : Origin) (r : RegAt) (v : Word) : Prop :=
  s.writeReaches o = true ∧ locate (r.name.off r.i r.j) = some r ∧ s.verdict o (r.name.off r.i r.j) v = .accepted

/-- Packets of port i are taken from its lane (R79, R92, R107, R269, R452): the lane is UP and the data plane runs, the port is
enabled, and its mill takes no replay and has lost none. -/
def State.TakesPackets (s : State) (i : Nat) : Prop := s.laneTakes (i / 8) = true ∧ s.portTakes i = true

/-- What has left the device ends, oldest first, with `e`, but for what the delivery of events sends. -/
def State.Sent (s t : State) (e : Emission) : Prop := ∃ xs, t.out = xs ++ e :: s.out

/-- A packet goes out on the back-channel of lane l: at once, or in the 200 ns before a tick edge behind the packets that wait for
it (R57). -/
def State.SentBack (s t : State) (l : Nat) (p : List Byte) : Prop :=
  if s.backHeld then t.backWait = s.backWait ++ [(l, p)] else s.Sent t (.backChannel l p)

/-- Ring r reads its next entry, descriptor d, a command of opcode op (R252): `u` is the state once the entry has been read. -/
def State.Fetches (s : State) (r op : Nat) (d : BitVec 512) (u : State) : Prop :=
  s.otherOp r op d = false ∧ s.reads r d = true ∧ (s.ring r).fetched = none ∧
  ∃ ps v, s.prepare r (s.entryAddr r (s.readCount r)) 64 false = (.go ps, v) ∧
    u = v.issueRead r (s.entryAddr r (s.readCount r)) 64 ps

/-- The first field of descriptor d that makes it MALFORMED on ring r (R257). -/
def State.offends (s : State) (r : Nat) (d : BitVec 512) (checks : List Check) : Option Nat :=
  firstBad (commonChecks d ((opsOf (s.kind r)).contains (dOp d)) ++ checks)

/-- Ring r reads descriptor d, a command of opcode op, and finds nothing wrong with it (R252, R257). -/
def State.Reads (s : State) (r op : Nat) (d : BitVec 512) (checks : List Check) (u : State) : Prop :=
  s.Fetches r op d u ∧ s.offends r d checks = none

/-- Ring r goes on with descriptor d, of opcode op, which it has read and judged and whose indirect data it still reads (R280). -/
def State.Holds (s : State) (r op : Nat) (d : BitVec 512) : Prop :=
  s.otherOp r op d = false ∧ s.reads r d = true ∧ (s.ring r).fetched = some d ∧ (s.ring r).writes = []

/-- Ring r reads descriptor d, of opcode op, or goes on with it: `u` is the state in which it turns to the descriptor's data. -/
def State.Takes (s : State) (r op : Nat) (d : BitVec 512) (checks : List Check) (u : State) : Prop :=
  s.Reads r op d checks u ∨ (s.Holds r op d ∧ u = s)

/-- What is still to be read of the indirect data of a descriptor can be read (R279): `u` is the state once every page has
been. -/
def State.ReadsData (s : State) (r addr len : Nat) (u : State) : Prop :=
  ∃ ps v, s.readPages r ((pagePieces addr len len).drop (s.ring r).unitsRead) = (.go ps, v) ∧
    u = v.setRing r { v.ring r with fetched := none, unitsRead := 0 }

/-- Ring r has halted, or drains and met the cause of a halt: an access outside its windows (R253). -/
def State.Struck (t : State) (r : Nat) : Prop :=
  (t.ring r).state = .halt ∨ ((t.ring r).state = .drain ∧ t.field .ringStatus r 0 8 4 = 2)

/-- Bytes go out for ring r: written to host memory page by page, or waiting for their page, unless the ring is struck (R293). -/
def State.WritesOut (t : State) (r : Nat) (b : List Byte) : Prop :=
  t.Struck r ∨ (∃ w ∈ (t.ring r).writes, w.bytes = b) ∨
  ∃ a n x, 0 < n ∧ .hostWrite r a (b.take n) x ∈ t.out

/-- A descriptor of ring r is answered (R257): its completion goes out, and C passes it once it is written. -/
def State.Answered (s t : State) (r status detail result : Nat) : Prop :=
  t.WritesOut r (completionBytes status detail result) ∧
  (¬ t.Struck r → (t.ring r).writes = [] → t.cons r = s.cons r + 1)

/-- Registers whose accepted write does nothing but store its value: no other action, no rule of its own for the value. -/
def RegName.plain (n : RegName) : Bool :=
  match n with
  | .glbCtrl | .glbFuseCtl | .protLock | .timeCtrl | .timeCfg | .timeBoundNs | .timeSetNs | .tickCfg | .tickPeriodNs | .tickPhaseNs
  | .millInNote | .sxlCfg | .sxlCtrl | .ringCfg | .msixTable | .xlatCfg | .evtMqCtl | .evtMqCons | .ethCfg | .ethCbs | .ethGclCtl | .chnCfg | .chnRsv
  | .dramCtrl | .dramTrnCtl | .dramTrnSet | .twbXfer | .sdmaCtrl | .pwrCtrl | .markRdSeq | .markMirCtl | .markMirCons
  | .errCtrl => false
  | _ => true

/-- No service DMA channel has been told to stop and not yet ended. -/
def State.NoStop (s : State) : Prop := ∀ c, (s.sdmaChan c).stop = none

/-- Channel c is about to move its first word from one range of DRAM to another that it does not meet, every channel serves, and
no stored beat is upset. -/
def State.CopyReady (s : State) (c : Nat) : Prop :=
  let n := s.sdmaCount c
  let a := s.sdmaSrc c
  let b := s.sdmaDst c
  (s.sdmaChan c).busy = true ∧ (s.sdmaChan c).moved = 0 ∧ s.NoStop ∧ a.isReg = false ∧ b.isReg = false ∧ a.inc = true ∧
  b.inc = true ∧ a.addr % 4 = 0 ∧ b.addr % 4 = 0 ∧ n % 4 = 0 ∧ a.addr + n ≤ s.dramSize ∧ b.addr + n ≤ s.dramSize ∧
  (a.addr + n ≤ b.addr ∨ b.addr + n ≤ a.addr) ∧ s.active.Nodup ∧ (∀ k ∈ s.active, (s.chan k).state ≠ .retired) ∧
  s.upsets = []

/-- What a device reset with a cause leaves of `s` (R419, R420, R436): the bases but for their read sets, the registers of the island, the fuses and TW0's
side stay; every other register holds its reset value, DRAM, trays, lanes, ports and rings are as new, and nothing runs. -/
structure State.ResetTo (s t : State) (cause : Nat) : Prop where
  pstate : t.power.pstate = .reset
  cause : t.boot.rstCause = BitVec.ofNat 3 cause
  trip : t.boot.rstTrip = s.power.tripped
  win : t.boot.win = 0
  base : ∀ b : Fin 4, t.base b = (s.base b).island s.clock
  clock : t.clock = s.clock
  regs : ∀ (d : Word) (off : Nat), deliveryReg off = false →
    Store.get d t.regs off = if islandReg off then Store.get d s.regs off else d
  dram : t.dram = [] ∧ t.upsets = [] ∧ t.chans = [] ∧ t.active = []
  units : t.trays = [] ∧ t.lanes = [] ∧ t.ports = [] ∧ t.mills = [] ∧ t.walls = [] ∧ t.rings = [] ∧ t.splits = [] ∧ t.cports = []
  tick : t.tick = {}
  tw0 : t.tw0 = s.tw0
  fuses : t.fuses = s.fuses
  out : t.out = s.out

end Sys2Proof.Machine
end

