-- ==== Sys2Proof/Certificates/Slice0/Obligations.lean ====
section
/-!
DEFINITION. The statements for the provers.
-/
open Sys2Proof Sys2Proof.Machine

/-! ### The queue and the whole machine -/

/-- One step runs the command in front of the queue with the rest of the queue.
Choices of the model on which it rests: notes/assumptions/91.md. -/
def Obligations.StepRunsFrontCommand : Prop :=
  ∀ (c : Instr) (rest : List Instr) (s : State),
    step { s with pending := c :: rest } = exec c { s with pending := rest }

/-- On an empty queue one time clock passes (notes/assumptions/2.md): TB2 gains 0.8 ns (R31), the other bases gain their
rates, and their error estimates grow outside LOCKED, and in a gap of the main rails (R40, R41); nothing else changes. -/
def Obligations.EmptyQueueLetsOneClockPass : Prop :=
  ∀ s : State, s.pending = [] → ∃ t, step s = .next t ∧ t.clock = s.clock + 1 ∧ t.tb2.acc = s.tb2.acc + 262144 * 2 ^ 40 ∧
    (∀ b : Fin 4, t.base b = { s.base b with
      acc := (s.base b).acc + s.rate b
      growth := (s.base b).growth + (if s.power.pstate = .keep then 5000
        else if (s.base b).state = .locked then 0 else s.field .timeHoldPpb 0 0 0 20) }) ∧
    t = { s with clock := t.clock, tb0 := t.tb0, tb1 := t.tb1, tb2 := t.tb2, tb3 := t.tb3 }

/-- What holds between commands holds at the end of every step that starts from such a state.
Whatever command runs, the commands behind it wait as they were: none is dropped, added or moved. -/
def Obligations.StepKeepsSound : Prop :=
  (∀ s t : State, s.Sound → step s = .next t → t.Sound) ∧
  (∀ (c : Instr) (s t : State), exec c s = .next t → t.pending = s.pending)

/-! ### Reset -/

/-- The machine at reset (R34, R38, R402, R419, R436): nothing waits, every register holds its reset value, the bases are FREE at 0 with
ERRB but for TB2, DRAM lists nothing, the boot window is open, and what holds between commands holds.
Choices of the model on which it rests: notes/assumptions/4.md, notes/assumptions/5.md, notes/assumptions/6.md. -/
def Obligations.ResetIsAsNew : Prop :=
  State.reset.Sound ∧ State.reset.pending = [] ∧ Memory.wf State.reset.dram = true ∧
  (∀ (n : RegName) (i j : Nat), State.reset.reg n i j = RegAt.reset ⟨n, i, j⟩) ∧
  (∀ b : Fin 4, (State.reset.base b).acc = 0 ∧ (State.reset.base b).state = .free ∧ (State.reset.base b).errb = decide (b ≠ 2)) ∧
  State.reset.boot.win = 0 ∧ State.reset.boot.rstCause = 5 ∧ State.reset.power.pstate = .boot

/-! ### Registers -/

/-- Every register answers at its own offset: no two registers of the map share one. -/
def Obligations.RegisterMapUnambiguous : Prop :=
  ∀ (n : RegName) (i j : Nat), i < n.row.n1 → j < n.row.n2 → locate (n.off i j) = some ⟨n, i, j⟩

/-- A write that the device refuses changes no register: it appends one mark with REFUSED, the old value and the value
written (R443).
An accepted write of a whole word to a register that only holds a value (R7, R437, R439): its RW bits and the bits set take the
word's, no other register changes, and the write is marked where its register is (R439).
A write that is no whole word, or is poisoned, changes no register but the count of ERR_UNMAPPED (R10, R453, R464); a poisoned one
is reported on the bus.
Choices of the model on which it rests: notes/assumptions/68.md. -/
def Obligations.RegisterWrites : Prop :=
  (∀ (o : Origin) (off : BitVec 26) (v : Word) (r : RegAt) (s : State), s.Sound →
    (∀ c, (s.sdmaChan c).stop = none) → s.writeReaches o = true → locate off.toNat = some r →
    s.verdict o off.toNat v = .refused →
    Completes (.registerWrite o off v .whole) s fun t =>
      t.regs = s.regs ∧ t.markSeq = s.markSeq + 1 ∧
      (∃ m, t.marks = (m :: s.marks).take 4096 ∧ m.time = s.stamp ∧ m.seq = s.markSeq ∧ m.old = s.regValue r ∧ m.new = v ∧
        m.who = BitVec.ofNat 32 (off.toNat / 4 % 2 ^ 21 + 2 ^ 25 + originCode o * 2 ^ 26)) ∧
      t = { s with marks := t.marks, markSeq := t.markSeq }) ∧
  (∀ (o : Origin) (off : BitVec 26) (v : Word) (r : RegAt) (s : State), s.Sound → s.NoStop → r.name.plain = true →
    locate off.toNat = some r → r.name.off r.i r.j = off.toNat → s.Accepts o r v →
    Completes (.registerWrite o off v .whole) s fun t =>
      t.reg r.name r.i r.j = r.name.row.merge (s.reg r.name r.i r.j) v ∧
      (∀ (d : Word) (k : Nat), k ≠ off.toNat → Store.get d t.regs k = Store.get d s.regs k) ∧
      (r.marked = false → t.marks = s.marks ∧ t.markSeq = s.markSeq) ∧
      (r.marked = true → t.markSeq = s.markSeq + 1 ∧ ∃ m, t.marks = (m :: s.marks).take 4096 ∧ m.time = s.stamp ∧
        m.seq = s.markSeq ∧ m.old = s.regValue r ∧ m.new = v ∧
        m.who = BitVec.ofNat 32 (off.toNat / 4 % 2 ^ 21 + originCode o * 2 ^ 26)) ∧
      t = { s with regs := t.regs, marks := t.marks, markSeq := t.markSeq }) ∧
  (∀ (o : Origin) (off : BitVec 26) (v : Word) (f : WriteForm) (s : State), s.Sound → s.NoStop → s.writeReaches o = true →
    f ≠ .whole → Completes (.registerWrite o off v f) s fun t =>
      t.reg .errUnmapped = satAdd (s.reg .errUnmapped) 1 ∧
      (∀ (d : Word) (k : Nat), k ≠ RegName.errUnmapped.off → Store.get d t.regs k = Store.get d s.regs k) ∧
      t.out = (if f = .poisoned then [Emission.aer aerPoisoned] else []) ++ s.out ∧ t = { s with regs := t.regs, out := t.out })

/-! ### Register writes and the mark log -/

/-- An access to an offset at which no register lies (R10): a read answers 0, a write is ignored, and each is counted in
ERR_UNMAPPED; nothing else changes.
The registers that only boot code sets (R468) are the PROT block, but for the
reserved word of a PROT_RWIN entry, DRAM_MAP and TWB_T0_WIN. Once the boot window is closed a write to one
of them, whoever makes it, is refused and marked.
Choices of the model on which it rests: notes/assumptions/69.md. -/
def Obligations.UnmappedAndLockedRegisters : Prop :=
  (∀ (a : Accessor) (o : Origin) (off : BitVec 26) (v : Word) (s : State), s.Sound → s.NoStop → locate off.toNat = none →
    (a ≠ .bar2 → a ≠ .bar2Part → s.reaches a = true → ∀ c ∈ [Instr.readLo a off, .rcRead a off], Completes c s fun t =>
      t = { (s.setReg .errUnmapped 0 0 (satAdd (s.reg .errUnmapped) 1)) with
        out := .readData a off.toNat 0 :: s.out }) ∧
    (s.writeReaches o = true → Completes (.registerWrite o off v .whole) s fun t =>
      t = s.setReg .errUnmapped 0 0 (satAdd (s.reg .errUnmapped) 1))) ∧
  (∀ n : RegName, n.row.bw ≠ 0 ↔
    (0x10000 ≤ n.row.base ∧ n.row.base < 0x20000 ∧ n ≠ .protRwinRsv) ∨ n = .dramMap ∨ n = .twbT0Win) ∧
  (∀ (o : Origin) (off : BitVec 26) (v : Word) (r : RegAt) (s : State), s.Sound → s.NoStop → s.boot.win = 1 →
    s.writeReaches o = true → locate off.toNat = some r → r.name.row.bw ≠ 0 →
    Completes (.registerWrite o off v .whole) s fun t => ∃ m, t.marks = (m :: s.marks).take 4096 ∧ m.time = s.stamp ∧
      m.seq = s.markSeq ∧ m.old = s.regValue r ∧ m.new = v ∧
      m.who = BitVec.ofNat 32 (off.toNat / 4 % 2 ^ 21 + 2 ^ 25 + originCode o * 2 ^ 26) ∧
      t = { s with marks := t.marks, markSeq := s.markSeq + 1 })

/-! ### Time -/

/-- A read of a `_LO` register latches the whole value for the reader (R5, R465): the answer is `_LO`, and the reader's next
read of `_HI` answers the value that `_HI` had then, whatever has been written since. Another reader's latch stays. The read of `_HI` consumes
the latch; without one it answers the current value. The TIME read sets have no such latch: every reader sees the same set.
A read answers a register's value and clears its fields of type RC (R7), and those alone; a PEAK field shows
the present level from then on (R130).
A BAR0 read of less than a whole aligned word answers 0 and is counted as unmapped, whatever its offset (R464).
A read of the doorbell page (R255) answers the word of the slot's ring; one that is not a whole aligned word, or of a slot with no
enabled ring, answers 0 and is counted in HOST_DB_BAD.
Choices of the model on which it rests: notes/assumptions/69.md. -/
def Obligations.RegisterReads : Prop :=
  ((RegName.timeRdSecLo.hi = none) ∧
  (∀ (a : Accessor) (off : BitVec 26) (r : RegAt) (h : RegName) (s : State), s.Sound → a.wholeWords = true → s.reaches a = true →
    s.deadOffset off.toNat = false → locate off.toNat = some r → r.name.hi = some h → s.latched a off.toNat = none →
    Completes (.readLo a off) s fun t =>
      t.out = .readData a off.toNat (s.regValue r) :: s.out ∧
      t.latched a (h.off r.i r.j) = some (s.regValue ⟨h, r.i, r.j⟩) ∧
      (∀ c o, ¬ (c = a ∧ o = h.off r.i r.j) → t.latched c o = s.latched c o) ∧
      (r.name.row.rc = 0 → t.regs = s.regs) ∧ t = { s with latches := t.latches, regs := t.regs, out := t.out }) ∧
  (∀ (a : Accessor) (off : BitVec 26) (r : RegAt) (s : State), s.Sound → a.wholeWords = true → s.reaches a = true →
    s.deadOffset off.toNat = false → locate off.toNat = some r → (∃ n : RegName, n.hi = some r.name) →
    Completes (.readLo a off) s fun t =>
      (∀ v, s.latched a off.toNat = some v → t.out = .readData a off.toNat v :: s.out ∧ t.latched a off.toNat = none ∧
        (∀ c o, ¬ (c = a ∧ o = off.toNat) → t.latched c o = s.latched c o) ∧ t = { s with latches := t.latches, out := t.out }) ∧
      (s.latched a off.toNat = none → t.out = .readData a off.toNat (s.regValue r) :: s.out))) ∧
  (∀ (a : Accessor) (off : BitVec 26) (r : RegAt) (s : State), s.Sound → a.wholeWords = true → s.reaches a = true →
    s.deadOffset off.toNat = false → locate off.toNat = some r → r.name.row.rc ≠ 0 → r.name.off r.i r.j = off.toNat →
    s.latched a off.toNat = none →
    Completes (.rcRead a off) s fun t =>
      t.out = .readData a off.toNat (s.regValue r) :: s.out ∧
      t.reg r.name r.i r.j =
        (s.reg r.name r.i r.j &&& BitVec.ofNat 32 (0xFFFFFFFF - r.name.row.rc)) ||| BitVec.ofNat 32 (s.peakLevel r) ∧
      (∀ d o, o ≠ off.toNat → Store.get d t.regs o = Store.get d s.regs o) ∧
      t = { s with regs := t.regs, out := t.out }) ∧
  (∀ (off : BitVec 26) (s : State), s.Sound → s.reaches .bar0Part = true → ∀ c ∈ [Instr.readLo .bar0Part off, .rcRead .bar0Part off],
    Completes c s fun t => t = { s.setReg .errUnmapped 0 0 (satAdd (s.reg .errUnmapped) 1) with
      out := .readData .bar0Part off.toNat 0 :: s.out }) ∧
  (∀ (a : Accessor) (off : BitVec 26) (s : State), s.Sound → a = .bar2 ∨ a = .bar2Part → s.reaches a = true → s.boot.win ≠ 2 →
    let d := off.toNat / 0x10000 % 16
    let slot := off.toNat / 0x400 % 64
    let word := off.toNat % 0x400
    ∀ c ∈ [Instr.readLo a off, .rcRead a off], Completes c s fun t =>
      (∀ r, a = .bar2 → word % 4 = 0 → s.slotRing d slot = some r →
        t = { s with out := .bar2Data d slot word (s.doorbellWord r word) :: s.out }) ∧
      (a = .bar2Part ∨ word % 4 ≠ 0 ∨ s.slotRing d slot = none →
        t.reg .hostDbBad = satAdd (s.reg .hostDbBad) 1 ∧ s.Sent t (.bar2Data d slot word 0) ∧
        State.Frame { s with regs := t.regs, out := t.out } t))

/-- SNAP latches the four read sets at one time clock (R49); nothing else changes. A read of TIME_RD_SUBNS latches the base's
read set unless a snapshot is held, and answers SUBNS of the set. The set stays held until TIME_RD_SEC_HI is read, which answers the
set's value and frees it.
EDGE_TRANSITION: a transition of an input that is off, of a direction that is off, or that has not stayed for the filter's time is not
counted (R46, R52). An accepted one raises the input's number by one (R47). It is missed within 16 ns of the capture before it, and when
the queue, once what is due has been delivered, holds 16 captures; a missed one is counted. Every other one is captured: the input
remembers its clock, and its capture waits in the queue until its turn comes (R48).
Choices of the model on which it rests: notes/assumptions/30.md, notes/assumptions/99.md. -/
def Obligations.TimeReadSets : Prop :=
  (∀ (o : Origin) (s : State), s.Sound → s.Accepts o ⟨.timeCtrl, 0, 0⟩ 1 →
    Completes (.snap o) s fun t =>
      (∀ b : Fin 4, t.base b = { s.base b with rdHeld := true, rdSnap := true, rdAcc := (s.base b).acc,
                                               rdTag := BitVec.ofNat 16 ((s.base b).tag b) }) ∧
      t = { s with tb0 := t.tb0, tb1 := t.tb1, tb2 := t.tb2, tb3 := t.tb3, regs := t.regs }) ∧
  (∀ (a : Accessor) (b : Fin 4) (s : State), s.Sound → a.wholeWords = true → s.reaches a = true →
    s.boot.win ≠ 2 → s.latched a (RegName.timeRdSubns.off b) = none →
    Completes (.timeReadLatch a b) s fun t =>
      t.base b = (if (s.base b).rdSnap then s.base b else
        { s.base b with rdHeld := true, rdSnap := false, rdAcc := (s.base b).acc, rdTag := BitVec.ofNat 16 ((s.base b).tag b) }) ∧
      t.out = .readData a (RegName.timeRdSubns.off b) (BitVec.ofNat 32 ((t.base b).rdSub % 65536)) :: s.out ∧
      t = { s with tb0 := t.tb0, tb1 := t.tb1, tb2 := t.tb2, tb3 := t.tb3, out := t.out }) ∧
  (∀ (a : Accessor) (b : Fin 4) (s : State), s.Sound → a.wholeWords = true → s.reaches a = true →
    s.boot.win ≠ 2 → s.latched a (RegName.timeRdSecHi.off b) = none →
    Completes (.readLo a (BitVec.ofNat 26 (RegName.timeRdSecHi.off b))) s fun t =>
      t.base b = { s.base b with rdHeld := false, rdSnap := false } ∧
      t.out = .readData a (RegName.timeRdSecHi.off b) (BitVec.ofNat 32 ((s.base b).rdSub / 65536 / 1000000000 / 2 ^ 32)) :: s.out ∧
      t = { s with tb0 := t.tb0, tb1 := t.tb1, tb2 := t.tb2, tb3 := t.tb3, out := t.out }) ∧
  (∀ (e : Fin 16) (rising : Bool) (samples dt : Nat) (s : State), s.Sound →
    let accepted : Prop := s.power.pstate ≠ .keep ∧ s.power.pstate ≠ .reset ∧ s.flag .timeEdgeCfg e 0 0 = true ∧
      s.flag .timeEdgeCfg e 0 (if rising then 1 else 2) = true ∧ s.field .timeEdgeCfg e 0 8 8 ≤ samples
    let missed : Prop := (∃ c, (s.edge e).last = some c ∧ s.clock + dt ≤ c + 20) ∨
      16 ≤ ((s.elapse dt).deliverCaptures.edge e).queue.length
    Completes (.edgeTransition e rising samples dt) s fun t =>
      t.clock = s.clock + dt ∧
      (¬ accepted → t.reg .timeEdgeSeq e = s.reg .timeEdgeSeq e ∧ t.reg .timeEdgeMiss e = s.reg .timeEdgeMiss e ∧
        (t.edge e).last = (s.edge e).last) ∧
      (accepted → t.reg .timeEdgeSeq e = BitVec.ofNat 32 (((s.reg .timeEdgeSeq e).toNat + 1) % 65536)) ∧
      (accepted → missed → t.reg .timeEdgeMiss e = satAdd (s.reg .timeEdgeMiss e) 1 ∧ (t.edge e).last = (s.edge e).last) ∧
      (accepted → ¬ missed → t.reg .timeEdgeMiss e = s.reg .timeEdgeMiss e ∧ (t.edge e).last = some (s.clock + dt) ∧
        let x := ((s.elapse dt).edgeCapture e rising (((s.reg .timeEdgeSeq e).toNat + 1) % 65536))
        (t.captureDue e x = false → x ∈ (t.edge e).queue)) ∧
      (s.flag .wallRclCfg 0 0 e = false → t.marks = s.marks))

/-- A valid source update that steps a base (R36, R37): after `dt` time clocks the base moves by the measured offset, with a new
EPOCH and no offset left, and the update's instant and its source's error are held; TB3 has stamped the response of its PTM
dialogue (R44).
A valid source update that does not step the base filters the offset by one quarter (R493); the base runs on. A LOCKED base stays
LOCKED; one in ACQUIRING becomes LOCKED at the eighth update in a row within the bound; any other begins ACQUIRING.
An update of a base that does not take it, and a sample of TB1 while it follows no base, only let the time pass (R39, R42).
TB1 that follows a base of the device takes the difference of the two at one time clock as its offset (R42).
PTM_REQUEST sends a PTM request while TB3 takes PTM and the function may issue requests (R39), and stamps it in TB3 (R44); it changes
nothing else.
Choices of the model on which it rests: notes/assumptions/31.md. -/
def Obligations.SourceUpdates : Prop :=
  (∀ (b : Fin 4) (o : Int) (l : Option Int) (e : Word) (dt : Nat) (s : State),
    (s.elapse dt).takesUpdates b = true → (s.elapse dt).steps b o = true →
    Completes (.timeSourceUpdate b o l e dt) s fun t =>
      (t.base b).acc = (((s.elapse dt).base b).acc + o * subnsUnits).toNat ∧ (t.base b).fo = 0 ∧
      (t.base b).epoch = (s.base b).epoch + 1 ∧ (t.base b).lastUpdate = some (s.clock + dt) ∧
      (t.base b).srcErr = e.toNat ∧ t.clock = s.clock + dt ∧ (b = 3 → t.ptm.response = (s.elapse dt).stamp 3)) ∧
  (∀ (b : Fin 4) (o : Int) (l : Option Int) (e : Word) (dt : Nat) (s : State),
    (s.elapse dt).takesUpdates b = true → (s.elapse dt).steps b o = false →
    Completes (.timeSourceUpdate b o l e dt) s fun t =>
      (t.base b).fo = (s.base b).fo + rnd (o - (s.base b).fo) 2 ∧ (t.base b).acc = ((s.elapse dt).base b).acc ∧
      (t.base b).epoch = (s.base b).epoch ∧ (t.base b).lastUpdate = some (s.clock + dt) ∧
      (t.base b).state = (match (s.base b).state with
        | .locked => .locked
        | .acquiring => if 7 ≤ (s.base b).lockCount ∧ (t.base b).foNs ≤ (s.reg .timeBoundNs b).toNat then .locked else .acquiring
        | _ => .acquiring)) ∧
  (∀ (b : Fin 4) (o : Int) (l : Option Int) (e : Word) (dt : Nat) (s : State), (s.elapse dt).takesUpdates b = false →
    s.Sound → Completes (.timeSourceUpdate b o l e dt) s fun t => State.Frame (s.elapse dt) t) ∧
  (∀ (dt : Nat) (s : State), (s.elapse dt).follows = none →
    s.Sound → Completes (.tb1FollowSample dt) s fun t => State.Frame (s.elapse dt) t) ∧
  (∀ (dt f : Nat) (s : State), (s.elapse dt).follows = some f →
    (s.elapse dt).steps 1 (((s.elapse dt).base f).subns - ((s.elapse dt).tb1.subns : Int)) = true →
    Completes (.tb1FollowSample dt) s fun t =>
      (t.tb1.acc : Int) = (s.elapse dt).tb1.acc
        + (((s.elapse dt).base f).subns - ((s.elapse dt).tb1.subns : Int)) * subnsUnits ∧
      t.tb1.epoch = s.tb1.epoch + 1 ∧ t.tb1.fo = 0) ∧
  (∀ s : State, s.Sound → s.field .timeCfg 3 0 0 3 = 3 → s.busUp = true →
    Completes .ptmRequest s fun t => t = { s with
      ptm := { s.ptm with request := s.stamp 3 }, out := .ptmRequest (s.stamp 3) :: s.out })

/-- A source that falls silent (R39, R50): once TMO update intervals, two at the least, have passed since the last valid update, a LOCKED
base goes to HOLDOVER with the frequency it last filtered while LOCKED, one in ACQUIRING to HOLDOVER if it has been LOCKED and else to
FREE; FREE and HOLDOVER stay. No base moves. Before that, and while TB1 follows a base of the device, no
base changes its state.
HOLDOVER_ERRB_SET (R40, R51): a base in HOLDOVER whose error estimate has passed its bound carries ERRB. -/
def Obligations.SourceLost : Prop :=
  ((∀ (b : Fin 4) (s : State), b = 2 ∨ (b = 1 ∧ s.follows.isSome) ∨ s.timedOut b = false →
    Completes (.sourceTimeout b) s fun t => ∀ c : Fin 4, t.base c = s.base c) ∧
  ∀ (b : Fin 4) (s : State), b ≠ 2 → (b = 1 → s.follows = none) →
    max 2 (s.field .timeCfg b 0 8 4) * s.updateInterval b * 5 ≤ (s.clock - (s.base b).since) * 4 →
    Completes (.sourceTimeout b) s fun t =>
    (t.base b).state = (match (s.base b).state with
      | .locked => .holdover
      | .acquiring => if (s.base b).everLocked then .holdover else .free
      | st => st) ∧
    ((s.base b).state = .locked → (t.base b).fr = (s.base b).fr ∧ (t.base b).growth = 0) ∧
    (∀ c : Fin 4, (t.base c).acc = (s.base c).acc ∧ (t.base c).epoch = (s.base c).epoch) ∧
    State.Frame { s with tb0 := t.tb0, tb1 := t.tb1, tb3 := t.tb3, chain := t.chain, marks := t.marks } t) ∧
  (∀ (b : Fin 4) (s : State), (s.base b).state = .holdover → (s.reg .timeBoundNs b).toNat < s.errNs b →
    Completes (.holdoverErrbSet b) s fun t =>
      (t.base b).errb = true ∧ (∀ c : Fin 4, (t.base c).acc = (s.base c).acc ∧ (t.base c).state = (s.base c).state) ∧
      t.reg .timeBoundNs b = s.reg .timeBoundNs b)

/-- A manual set (R37): the base takes the value in TIME_SET, goes to FREE with a new EPOCH and no offset left, and is no
longer counted as locked once; TIME_CFG stores the value written without SET. Two marks follow, the write and action 10, and their TIME is
TB1 as the set leaves it (R36, R43, R444). No other base moves. -/
def Obligations.ManualSetTakesValue : Prop :=
  ∀ (b : Fin 4) (o : Origin) (v : Word) (s : State), s.Accepts o ⟨.timeCfg, b.val, 0⟩ (v ||| 0x80) →
    Completes (.manualSet b o v) s fun t =>
      (t.base b).acc = ((s.reg .timeSetNs b).toNat
        + ((s.reg .timeSetSecLo b).toNat + (s.reg .timeSetSecHi b).toNat * 2 ^ 32) * 1000000000) * nsUnits ∧
      (t.base b).state = .free ∧ (t.base b).fo = 0 ∧ (t.base b).epoch = (s.base b).epoch + 1 ∧
      (t.base b).everLocked = false ∧ t.reg .timeCfg b = RegName.timeCfg.row.merge (s.reg .timeCfg b) (v ||| 0x80) ∧
      (∃ m n, t.marks = (n :: m :: s.marks).take 4096 ∧ t.markSeq = s.markSeq + 2 ∧ m.time = t.stamp ∧ n.time = t.stamp ∧
        m.new = v ||| 0x80 ∧
        m.who = BitVec.ofNat 32 (RegName.timeCfg.off b / 4 % 2 ^ 21 + originCode o * 2 ^ 26) ∧
        n.who = BitVec.ofNat 32 (10 + 3 * 2 ^ 23 + originCode o * 2 ^ 26)) ∧
      (∀ c : Fin 4, c ≠ b → (t.base c).acc = (s.base c).acc ∧ (t.base c).epoch = (s.base c).epoch)

/-! ### The tick and admission -/

/-- TICK_EDGE (R53, R54, R57): the clocks up to the edge pass, the tick takes the number that the tick base gives it, and the bases
stand as time has moved them. Where no commit is due and nothing is to be placed, the trays stay as they are, and each lane that serves no
replay sends a TRIGGER that names its ports whose frame period begins and carries the tick's number; a port that has lost its
replay ring is not named (R79).
The common edge of a commit (R182, R187): each of its port and mill trays swaps, with the next generation, OPEN again, and the other
trays stay as they are.
While the main rails are down, in RESET, and while the replay rings hold the tick back (R79), no tick begins.
Choices of the model on which it rests: notes/assumptions/33.md, notes/assumptions/49.md, notes/assumptions/95.md,
notes/assumptions/102.md. -/
def Obligations.TickEdgeBeginsTick : Prop :=
  (∀ s : State, s.power.pstate ≠ .keep → s.power.pstate ≠ .reset → s.tickMayStart = true → s.tick.placeNow = false →
    Completes .tickEdge s fun t =>
      let u := s.elapse s.clocksToEdge
      t.clock = s.clock + s.clocksToEdge ∧ (∀ b : Fin 4, (t.base b).acc = (u.base b).acc) ∧
      t.tick.num = BitVec.ofNat 64 u.numberNow ∧ t.tick.started = true ∧ t.tick.edgeClock = u.clock ∧
      t.tick.edgeTb1 = u.tb1.subns ∧ (u.stepping = false → t.tick.edgeNs = u.tickNs) ∧
      (s.tick.armed = [] → s.tick.landings = [] → s.rcl.state ≠ .exporting → t.trays = s.trays ∧ t.tick.cycle = s.tick.cycle ∧
        ∀ l : Fin 64, s.dark = false → s.replaying l = false → s.flag .sxlCfg l 0 0 = true →
          let due := (s.enabledPorts.filter fun i => triggersAt (s.pBank i) t.tick.num.toNat).filter fun i =>
            i / 8 = l.val && !(s.port i).stranded
          due ≠ [] → .backChannel l (csiPacket 0x34 0
            ([BitVec.ofNat 8 (portMask due), BitVec.ofNat 8 (255 - portMask due)] ++ leBytes 6 t.tick.num.toNat)) ∈ t.out)) ∧
  (∀ (c : CommitRec) (s : State), s.power.pstate ≠ .keep → s.power.pstate ≠ .reset → s.tickMayStart = true →
    s.tick.placeNow = false → s.tick.armed = [c] → c.edges = 1 → s.tick.landings = [] → c.trays.Nodup →
    (∀ x ∈ c.trays, x < 576) → Completes .tickEdge s fun t =>
      (∀ x ∈ c.trays, t.tray x = { s.tray x with active := (s.tray x).staged, gen := (s.tray x).gen + 1
                                                 state := .openTray, group := false }) ∧
      (∀ x, x ∉ c.trays → t.tray x = s.tray x) ∧ t.tick.armed = []) ∧
  (∀ s : State, s.Sound → s.power.pstate = .keep ∨ s.power.pstate = .reset ∨ s.tickMayStart = false →
    Completes .tickEdge s fun t => t = s)

/-- ADMISSION_RUN (R71, R73, R79, R81, R187). The oldest commit that waits is judged: where nothing fails, every mill that step mode
asks for has its replay ring, and a common edge exists, its trays are ARMED for that edge; else they are OPEN again. RESULT says
which, and the banks in force, the other trays and the commits behind it stay as they are.
A change of capacity goes first: one that fits places the regions anew from the next edge on; where it does not fit, shedding makes it
fit (R73), or nothing is placed. With nothing to judge, nothing happens.
Choices of the model on which it rests: notes/assumptions/40.md, notes/assumptions/78.md, notes/assumptions/105.md. -/
def Obligations.AdmissionJudges : Prop :=
  (∀ (c : CommitRec) (cs : List CommitRec) (s : State), s.power.pstate ≠ .keep → s.power.pstate ≠ .reset →
    s.tick.gateRuns = [] → s.tick.capacity = false → s.tick.judging = c :: cs →
    let u : State := { s with tick := { s.tick with judging := cs } }
    let cfg := u.commitConfig c
    Completes .admissionRun s fun t =>
      t.tick.judging = cs ∧ (∀ x, (t.tray x).active = (s.tray x).active) ∧ (∀ x, x ∉ c.trays → t.tray x = s.tray x) ∧
      (∀ e, u.lacksReplay cfg = false → cfg.failure = none → u.commonEdge (c.trays.filter (· < 512)) = some e →
        (∀ x ∈ c.trays, (t.tray x).state = .armed ∧ (t.tray x).staged = (s.tray x).staged) ∧
        t.tick.armed = s.tick.armed ++ [{ c with edges := e, ends := true }] ∧ t.field .tickAdmStatus 0 0 0 4 = 1) ∧
      (u.lacksReplay cfg = true ∨ cfg.failure ≠ none ∨ u.commonEdge (c.trays.filter (· < 512)) = none →
        (∀ x ∈ c.trays, (t.tray x).state = .openTray ∧ (t.tray x).staged = (s.tray x).staged) ∧
        t.tick.armed = s.tick.armed ∧ t.field .tickAdmStatus 0 0 0 4 = 2)) ∧
  (∀ s : State, s.power.pstate ≠ .keep → s.power.pstate ≠ .reset → s.tick.gateRuns = [] → s.tick.capacity = true →
    s.tick.armed = [] →
    let u : State := { s with tick := { s.tick with capacity := false } }
    Completes .admissionRun s fun t =>
      t.tick.capacity = false ∧ t.trays = s.trays ∧ t.tick.judging = s.tick.judging ∧
      (u.standing.failure = none → t.tick.placeNow = true ∧ t.tick.nextRegions = some (u.place u.standing) ∧
        t.field .tickAdmStatus 0 0 0 4 = if s.tick.shed then 3 else 1) ∧
      (u.standing.failure ≠ none →
        (t.tick.shed = true ∧ t.tick.placeNow = true ∧ t.field .tickAdmStatus 0 0 0 4 = 3) ∨
        (t.tick.placeNow = s.tick.placeNow ∧ t.field .tickAdmStatus 0 0 0 4 = 2))) ∧
  (∀ s : State, s.Sound → s.tick.gateRuns = [] → s.tick.capacity = false → s.tick.judging = [] →
    Completes .admissionRun s fun t => t = s)

/-! ### The Swixia Link -/

/-- EN of a lane set from 0 starts bring-up at step 1 (R90): a search for codewords of mode 0, with K28.5 on the
back-channel. EN that was 1 starts nothing. The other lanes stay as they are.
EN of a lane cleared from 1 takes the lane to DOWN and its back-channel silent (R112). In TRIP either write is stored and acts on no
lane (R416).
Choices of the model on which it rests: notes/assumptions/66.md. -/
def Obligations.LaneEnableAndDisable : Prop :=
  (∀ (l : Fin 64) (o : Origin) (v : Word) (s : State), s.power.pstate ≠ .trip → s.Accepts o ⟨.sxlCfg, l.val, 0⟩ (v ||| 1) →
    Completes (.laneEnable l o v) s fun t =>
      (s.flag .sxlCfg l 0 0 = false → (t.lane l).step = .search ∧ (t.lane l).mode = 0 ∧ (t.lane l).lock = false ∧
        (t.lane l).hubOk = false ∧ (t.lane l).fresh = true ∧ s.Sent t (.backIdle l true)) ∧
      (s.flag .sxlCfg l 0 0 = true → t.lane l = s.lane l) ∧ (∀ j, j ≠ l.val → t.lane j = s.lane j) ∧
      t.flag .sxlCfg l 0 0 = true ∧ t.markSeq = s.markSeq + 1) ∧
  (∀ (l : Fin 64) (o : Origin) (v : Word) (s : State), s.power.pstate ≠ .trip → s.flag .sxlCfg l 0 0 = true →
    s.Accepts o ⟨.sxlCfg, l.val, 0⟩ (clearEn v) →
    Completes (.laneDisable l o v) s fun t =>
      (t.lane l).step = .down ∧ (t.lane l).mode = 0 ∧ (t.lane l).lock = false ∧ (t.lane l).hubOk = false ∧
      s.Sent t (.backIdle l false) ∧ (∀ j, j ≠ l.val → t.lane j = s.lane j) ∧ t.flag .sxlCfg l 0 0 = false) ∧
  (∀ (l : Fin 64) (o : Origin) (v : Word) (s : State), s.power.pstate = .trip →
    (s.Accepts o ⟨.sxlCfg, l.val, 0⟩ (v ||| 1) → Completes (.laneEnable l o v) s fun t =>
      t.lanes = s.lanes ∧ t.flag .sxlCfg l 0 0 = true) ∧
    (s.Accepts o ⟨.sxlCfg, l.val, 0⟩ (clearEn v) → Completes (.laneDisable l o v) s fun t =>
      t.lanes = s.lanes ∧ t.flag .sxlCfg l 0 0 = false))

/-- The instants of bring-up: SWITCH unanswered at mode m leads to the next lower mode, and at mode 0 to RESTART and a wait
(R90); the end of the wait leads to step 1 (R90); RENEG repeats step 3 on a lane that is UP and does nothing on another
(R91). A SWITCH to the mode the lane already holds lock at leaves it UP.
One second of a lane that is UP ends (R91): its count of uncorrectable codewords starts anew, and where down-shift is on
and the count passes the threshold above mode 0, the device switches one mode lower and counts a down-shift. At an instant that is
not the lane's own, nothing happens. -/
def Obligations.LaneBringUp : Prop :=
  ((∀ (l : Fin 64) (m : BitVec 2) (s : State), (s.lane l).step = .switching m → Completes (.switchTimeout l) s fun t =>
    (m = 0 → (t.lane l).step = .waiting ∧ (t.lane l).lock = false) ∧
    (m ≠ 0 → (t.lane l).step = (if (s.lane l).mode = m - 1 ∧ (s.lane l).lock then .up else .switching (m - 1)) ∧
      (t.lane l).lock = (s.lane l).lock ∧ (t.lane l).mode = (s.lane l).mode)) ∧
  (∀ (l : Fin 64) (s : State), (s.lane l).step = .waiting → Completes (.restartWaitEnd l) s fun t =>
    (t.lane l).step = .search ∧ (t.lane l).mode = 0 ∧ s.Sent t (.backIdle l true) ∧ (∀ j, j ≠ l.val → t.lane j = s.lane j)) ∧
  (∀ (l : Fin 64) (o : Origin) (s : State), s.Accepts o ⟨.sxlCtrl, l.val, 0⟩ 1 → s.dark = false →
    Completes (.reneg l o) s fun t =>
      ((s.lane l).step = .up → (t.lane l).step =
        (if (s.lane l).mode.toNat = s.switchMode l ∧ (s.lane l).lock then .up else .switching (BitVec.ofNat 2 (s.switchMode l)))) ∧
      ((s.lane l).step ≠ .up → t.lanes = s.lanes))) ∧
  (∀ (l : Fin 64) (s : State), (s.lane l).step = .up → Completes (.downShiftIntervalEnd l) s fun t =>
    (s.flag .sxlCfg l 0 4 = true → max 1 (s.field .sxlCfg l 0 8 8) < (s.lane l).uncorrectable → (s.lane l).mode ≠ 0 →
      (t.lane l).step = .switching ((s.lane l).mode - 1) ∧
      (t.lane l).downs.toNat = min 65535 ((s.lane l).downs.toNat + 1) ∧ (t.lane l).uncorrectable = 0) ∧
    (s.flag .sxlCfg l 0 4 = false ∨ (s.lane l).uncorrectable ≤ max 1 (s.field .sxlCfg l 0 8 8) ∨ (s.lane l).mode = 0 →
      t.lane l = { s.lane l with uncorrectable := 0 }) ∧
    State.Frame { s with lanes := t.lanes, out := t.out, backWait := t.backWait, marks := t.marks } t) ∧
  (∀ (l : Fin 64) (s : State), s.Sound →
    ((∀ m, (s.lane l).step ≠ .switching m) → Completes (.switchTimeout l) s fun t => t = s) ∧
    ((s.lane l).step ≠ .waiting → Completes (.restartWaitEnd l) s fun t => t = s) ∧
    ((s.lane l).step ≠ .up → Completes (.downShiftIntervalEnd l) s fun t => t = s))

/-- A codeword at the receiver's mode (R85, R88). One that does not decode is counted, ends the run of good ones, and the
eighth in a row takes the lock. Without lock, three that decode with rising SEQ give it; with lock, the third in a row that decodes
with a SEQ that does not follow takes it. A list of another length is no codeword.
A codeword at a mode that the receiver is neither set to nor told to switch to is counted as one that does not decode. A lane that is
DOWN, or one of a device whose data plane has stopped, takes none.
A chain codeword (R325): on a lane without lock a second in sequence counts, a third gives the lane its lock, and the port is
LINKED once both lanes hold it. The eighth that does not decode takes the lock. A list of another length is no codeword.
Choices of the model on which it rests: notes/assumptions/23.md, notes/assumptions/90.md. -/
def Obligations.CodewordLock : Prop :=
  (∀ (l : Fin 64) (mode : Fin 4) (symbols : List (BitVec 10)) (dt : Nat) (s : State),
    (symbols.length ≠ 544 → exec (.codewordReceived l mode symbols dt) s = .refused .illFormed) ∧
    (symbols.length = 544 → (s.lane l).step ≠ .down → s.dark = false → (s.lane l).mode = BitVec.ofNat 2 mode →
      Completes (.codewordReceived l mode symbols dt) s fun t =>
        ((receiveCodeword (s.lane l).scrambler.toNat symbols).1 = none →
          t.reg .sxlFecUnc l = satAdd (s.reg .sxlFecUnc l) 1 ∧ (t.lane l).good = 0 ∧
          ((s.lane l).lock = true → (t.lane l).lock = decide ((s.lane l).badRun < 7)) ∧
          ((s.lane l).step = .up → (s.lane l).lock = true → 7 ≤ (s.lane l).badRun →
            (t.lane l).step = .search ∧ (t.lane l).mode = 0)) ∧
        (∀ p n, (receiveCodeword (s.lane l).scrambler.toNat symbols).1 = some (p, n) → (s.lane l).lock = false →
          ((s.lane l).lastSeq.map (· + 1) ≠ some p.seq →
            (t.lane l).lastSeq = some p.seq ∧ (t.lane l).good = 1 ∧ (t.lane l).lock = false) ∧
          ((s.lane l).lastSeq.map (· + 1) = some p.seq → (s.lane l).good = 1 →
            (t.lane l).lastSeq = some p.seq ∧ (t.lane l).good = 2 ∧ (t.lane l).lock = false) ∧
          ((s.lane l).lastSeq.map (· + 1) = some p.seq → (s.lane l).good = 2 → p.first = none →
            (s.lane l).partialPacket = none → (t.lane l).lastSeq = some p.seq ∧ (t.lane l).lock = true)) ∧
        (∀ p n, (receiveCodeword (s.lane l).scrambler.toNat symbols).1 = some (p, n) → (s.lane l).lock = true →
          ((s.lane l).lastSeq.map (· + 1) = some p.seq → p.first = none → (s.lane l).partialPacket = none →
            (t.lane l).lastSeq = some p.seq ∧ (t.lane l).lock = true ∧ (t.lane l).seqRun = 0 ∧ (t.lane l).badRun = 0) ∧
          ((s.lane l).lastSeq.map (· + 1) ≠ some p.seq → (s.lane l).seqRun < 2 → p.first = none →
            (s.lane l).partialPacket = none → (t.lane l).lock = true ∧ (t.lane l).seqRun = (s.lane l).seqRun + 1) ∧
          ((s.lane l).lastSeq.map (· + 1) ≠ some p.seq → 2 ≤ (s.lane l).seqRun →
            (t.lane l).lock = false ∧ ((s.lane l).step = .up → (t.lane l).step = .search ∧ (t.lane l).mode = 0)))) ∧
    (symbols.length = 544 → (s.lane l).step ≠ .down → s.dark = false → (s.lane l).mode ≠ BitVec.ofNat 2 mode →
      (s.lane l).step ≠ .switching (BitVec.ofNat 2 mode) → Completes (.codewordReceived l mode symbols dt) s fun t =>
        t.reg .sxlFecUnc l = satAdd (s.reg .sxlFecUnc l) 1 ∧ (t.lane l).good = 0 ∧ (t.lane l).scrambler = (s.lane l).scrambler) ∧
    (symbols.length = 544 → s.Sound → (s.lane l).step = .down ∨ s.dark = true →
      Completes (.codewordReceived l mode symbols dt) s fun t => t = s.elapse dt)) ∧
  (∀ (x lane : Fin 2) (symbols : List (BitVec 10)) (dt : Nat) (s : State),
    (symbols.length ≠ 544 → exec (.chainCodewordReceived x lane symbols dt) s = .refused .illFormed) ∧
    (symbols.length = 544 → s.chainOn = true → Completes (.chainCodewordReceived x lane symbols dt) s fun t =>
      (∀ w n, (receiveCodeword (Store.get {} (s.cport x).lanes lane.val).scrambler.toNat symbols).1 = some (w, n) →
        (s.cport x).linked = false → (Store.get {} (s.cport x).lanes lane.val).lock = false →
        (Store.get {} (s.cport x).lanes lane.val).lastSeq.map (· + 2) = some w.seq →
        ((Store.get {} (s.cport x).lanes lane.val).good = 1 → (Store.get {} (t.cport x).lanes lane.val).good = 2 ∧
          (Store.get {} (t.cport x).lanes lane.val).lock = false ∧ (t.cport x).linked = false) ∧
        ((Store.get {} (s.cport x).lanes lane.val).good = 2 → (Store.get {} (s.cport x).lanes (1 - lane.val)).lock = true →
          w.seq.toNat % 2 = 1 → (Store.get {} (t.cport x).lanes lane.val).lock = true ∧ (t.cport x).linked = true)) ∧
      ((receiveCodeword (Store.get {} (s.cport x).lanes lane.val).scrambler.toNat symbols).1 = none →
        (Store.get {} (s.cport x).lanes lane.val).lock = true → 7 ≤ (Store.get {} (s.cport x).lanes lane.val).badRun →
        (Store.get {} (t.cport x).lanes lane.val).lock = false ∧ (t.cport x).linked = false)))

/-- A valid HUB_STATUS on VC 0 of a lane with codeword lock is taken (R92, R103): the SXL_HUB registers show it, and the lane
knows the hub's version and mode. One on another VC, of another length or whose CRC fails changes nothing, and so does one without
lock. On a lane that is UP while its mill replays it is dropped and counted (R269).
Choices of the model on which it rests: notes/assumptions/38.md. -/
def Obligations.HubStatusIsTaken : Prop :=
  ∀ (l : Fin 64) (k : Fin 8) (payload : List Byte) (crc : BitVec 16) (s : State),
    ((s.lane l).lock = true → s.dark = false → ((s.lane l).step = .up → s.replaying l = false) →
      k = 0 → payload.length = 16 → crc16 payload = crc → Completes (.hubStatus l k payload crc) s fun t =>
        t.reg .sxlHubInfo l = BitVec.ofNat 32 (leAt payload 0 4) ∧ t.reg .sxlHubIdLo l = BitVec.ofNat 32 (leAt payload 8 4) ∧
        t.reg .sxlHubIdHi l = BitVec.ofNat 32 (leAt payload 12 4) ∧ (t.lane l).hubOk = true ∧
        (t.lane l).hubVersion = byteAt payload 0 ∧ (t.lane l).hubMode = BitVec.ofNat 2 (byteAt payload 1).toNat ∧
        (t.lane l).hubClock = some s.clock) ∧
    (s.Sound → k ≠ 0 ∨ payload.length ≠ 16 ∨ crc16 payload ≠ crc → ((s.lane l).step = .up → s.replaying l = false) →
      Completes (.hubStatus l k payload crc) s fun t => t = s) ∧
    (s.Sound → (s.lane l).lock = false ∨ s.dark = true → Completes (.hubStatus l k payload crc) s fun t => t = s) ∧
    (s.Sound → (s.lane l).lock = true → s.dark = false → (s.lane l).step = .up → s.replaying l = true →
      Completes (.hubStatus l k payload crc) s fun t => t = s.bump .sxlUnexp l)

/-! ### Frames -/

/-- A packet of a lane that is UP to a port that is not enabled, or whose mill takes a replay or has lost it, is dropped and
counted in SXL_UNEXP (R79, R107, R269). So is an FS, at its instant, and an MBX_RSP while the mill takes a replay.
Packets of a lane that is not UP, or of a device whose data plane has stopped, change nothing (R92, R452).
IDLE is discarded, and LE is ignored on a port that takes packets (R97).
Choices of the model on which it rests: notes/assumptions/55.md, notes/assumptions/102.md. -/
def Obligations.PacketsThatChangeNoFrame : Prop :=
  (∀ (l : Fin 64) (k : Fin 8) (n : BitVec 16) (dt : BitVec 6) (p : List Byte) (crc : BitVec 16) (c : Instr) (s : State),
    s.Sound → c ∈ [Instr.fe l k n, .ls l k n, .le l k n, .pixelPacket l k dt p crc, .frameTag l k p crc, .unknownDataType l k dt] →
    s.laneTakes l = true → s.portTakes (portIx l k) = false →
    Completes c s fun t => t = s.bump .sxlUnexp l) ∧
  (∀ (l : Fin 64) (k : Fin 8) (n : BitVec 16) (dt : Nat) (s : State), s.Sound → s.laneTakes l = true →
    s.portTakes (portIx l k) = false →
    Completes (.fs l k n dt) s fun t => t = (s.elapse dt).bump .sxlUnexp l) ∧
  (∀ (l : Fin 64) (k : Fin 8) (p : List Byte) (crc : BitVec 16) (s : State), s.Sound → s.laneTakes l = true →
    s.replaying l = true → Completes (.mbxRsp l k p crc) s fun t => t = s.bump .sxlUnexp l) ∧
  (∀ (l : Fin 64) (k : Fin 8) (n : BitVec 16) (dt : BitVec 6) (p : List Byte) (crc : BitVec 16) (c : Instr) (s : State),
    s.Sound → c ∈ [Instr.fe l k n, .ls l k n, .le l k n, .pixelPacket l k dt p crc, .frameTag l k p crc, .unknownDataType l k dt,
      .mbxRsp l k p crc] → s.laneTakes l = false → Completes c s fun t => t = s) ∧
  (∀ (l : Fin 64) (k : Fin 8) (n : BitVec 16) (dt : Nat) (s : State), s.Sound → s.laneTakes l = false →
    Completes (.fs l k n dt) s fun t => t = s.elapse dt) ∧
  ((∀ (l : Fin 64) (vc : Fin 8) (wc : BitVec 16) (s : State), s.Sound → Completes (.idle l vc wc) s fun t => t = s) ∧
  (∀ (l : Fin 64) (k : Fin 8) (line : BitVec 16) (s : State), s.Sound → s.TakesPackets (portIx l k) →
    Completes (.le l k line) s fun t => t = s))

/-- FS inside the window of a period for which nothing has opened yet opens its frame (R106, row 1 of R107): the newest frame of the
port is open, bears the period's tick, number and binding, the TB1 stamp of the FS and the hub's frame count, and holds no line yet. An
FS in a window whose frame has opened, and one outside every window, close the open frame with bit 4 (rows 2 and 3); the latter is
counted in SXL_PSTRAY.
FE closes the open frame (rows 11 and 12 of R107): a line still arriving is filled out with bit 3, lines that are missing are filled
with bit 2, and a frame without a matching FRAME_TAG gets bit 6 (R108). With no frame open FE changes nothing.
Choices of the model on which it rests: notes/assumptions/36.md, notes/assumptions/55.md, notes/assumptions/100.md. -/
def Obligations.FrameStartAndEnd : Prop :=
  (∀ (l : Fin 64) (k : Fin 8) (n : BitVec 16) (dt : Nat) (s : State), s.TakesPackets (portIx l k) →
    let i := portIx l k
    let u := s.elapse dt
    let inside := (s.port i).periods.filter fun q => decide (q.bind.lo ≤ (u.tickNs : Int)) && decide ((u.tickNs : Int) < q.bind.hi)
    (∀ q, (inside.find? fun q => !q.opened && !q.missing) = some q → Completes (.fs l k n dt) s fun t =>
      (∃ f, (t.port i).frames.getLast? = some f ∧ f.isOpen = true ∧ f.tick = q.tick ∧ f.number = q.number ∧
        f.bind = q.bind ∧ f.stamp = u.stamp ∧ f.hubCount = n ∧ f.lines = [] ∧ f.status = 0) ∧ t.clock = s.clock + dt) ∧
    ((inside.all fun q => q.opened || q.missing) = true → (inside.any (·.opened)) = true →
      Completes (.fs l k n dt) s fun t =>
        (∀ f, s.openFrame i = some f → ∀ g ∈ (t.port i).frames, g.tick = f.tick → g.isOpen = false ∧ g.status &&& 16 = 16) ∧
        (s.openFrame i = none → t.ports = s.ports)) ∧
    ((inside.all (·.missing)) = true → (inside.any (·.opened)) = false → u.earlyBinding i u.tickNs = none →
      Completes (.fs l k n dt) s fun t => t.reg .sxlPstray l k = satAdd (s.reg .sxlPstray l k) 1 ∧
        (∀ f, s.openFrame i = some f → ∀ g ∈ (t.port i).frames, g.tick = f.tick → g.isOpen = false ∧ g.status &&& 16 = 16) ∧
        (s.openFrame i = none → t.ports = s.ports))) ∧
  (∀ (l : Fin 64) (k : Fin 8) (n : BitVec 16) (s : State), s.TakesPackets (portIx l k) →
    Completes (.fe l k n) s fun t =>
      (∀ f, s.openFrame (portIx l k) = some f → ∀ g ∈ (t.port (portIx l k)).frames, g.tick = f.tick →
        let es := f.lines.map (LineEntry.ended (trayDt f.bind.ptray) (lineBytes f.bind.ptray))
        g.isOpen = false ∧ (g.processed = false →
          g.lines = es.map (·.1) ++ List.replicate (trayH f.bind.ptray - f.lines.length) .filled) ∧
        g.status = (f.status ||| (if trayH f.bind.ptray - f.lines.length = 0 then 0 else 4)
          ||| (if (f.tag.map (·.matching)) = some true then 0 else 64) ||| (if es.any (·.2) then 8 else 0))) ∧
      (s.openFrame (portIx l k) = none → t.ports = s.ports))

/-- LS of line n with c lines behind it (row 6 of R107): n ≤ c changes nothing; a later line within the frame fills the lines
between with status bit 2; a line beyond the frame also sets bit 4. With no frame open LS changes nothing.
A pixel packet of the frame's data type becomes the next line (row 7 of R107): with a credit its bytes, cut or filled to
the line's length, bad CRC, short and long setting bits 0, 3 and 4; without one the line overruns (R119). A packet of
another type sets bit 7 (row 9), one past the last line bit 4 (row 8), and with no frame open it is late (row 10). -/
def Obligations.FrameLines : Prop :=
  (∀ (l : Fin 64) (k : Fin 8) (line : BitVec 16) (f : Frame) (s : State), s.TakesPackets (portIx l k) →
    s.openFrame (portIx l k) = some f →
    Completes (.ls l k line) s fun t =>
      (line.toNat ≤ f.lines.length → t.ports = s.ports) ∧
      (f.lines.length < line.toNat → t.openFrame (portIx l k) = some { f with
        lines := f.lines ++ List.replicate (min line.toNat (trayH f.bind.ptray) - f.lines.length) .filled
        status := f.status ||| ((if min line.toNat (trayH f.bind.ptray) - f.lines.length = 0 then 0 else 4)
          ||| (if trayH f.bind.ptray < line.toNat then 16 else 0)) })) ∧
  (∀ (l : Fin 64) (k : Fin 8) (line : BitVec 16) (s : State), s.Sound → s.TakesPackets (portIx l k) →
    s.openFrame (portIx l k) = none → Completes (.ls l k line) s fun t => t = s) ∧
  (∀ (l : Fin 64) (k : Fin 8) (dt : BitVec 6) (p : List Byte) (crc : BitVec 16) (s : State), s.TakesPackets (portIx l k) →
    Completes (.pixelPacket l k dt p crc) s fun t =>
      (s.openFrame (portIx l k) = none → t.ports = s.ports ∧ t.reg .sxlPlate l k = satAdd (s.reg .sxlPlate l k) 1) ∧
      (∀ f, s.openFrame (portIx l k) = some f →
        (dt.toNat ≠ trayDt f.bind.ptray → t.openFrame (portIx l k) = some { f with status := f.status ||| 128 }) ∧
        (dt.toNat = trayDt f.bind.ptray → trayH f.bind.ptray ≤ f.lines.length →
          t.openFrame (portIx l k) = some { f with status := f.status ||| 16 }) ∧
        (dt.toNat = trayDt f.bind.ptray → f.lines.length < trayH f.bind.ptray →
          (s.hasCredit (portIx l k) = true → t.openFrame (portIx l k) = some { f with
            lines := f.lines ++ [.got (fitLine (trayDt f.bind.ptray) (lineBytes f.bind.ptray) p) (slotWords f.bind.ptray)]
            status := f.status ||| ((if p.length < lineBytes f.bind.ptray then 8 else 0)
              ||| (if lineBytes f.bind.ptray < p.length then 16 else 0) ||| (if crc16 p = crc then 0 else 1)) }) ∧
          (s.hasCredit (portIx l k) = false → t.openFrame (portIx l k) = some { f with
            lines := f.lines ++ [.filled], status := f.status ||| 4, overrun := true }))))

/-- A FRAME_TAG of 16 bytes before the first line is recorded, with bit 6 where its TICK is not the trigger's (rows 4 and 5
of R107); a later one, one of another length and a packet of an unlisted type set bit 7 (R97). Null, blanking and embedded
data change nothing, and with no frame open none of these packets does.
The instants that end a frame period. At C_N an open, bound frame is closed with bit 5 (row 13 of R107). At the end of
W_N a period for which nothing opened gets a missing frame, counted in SXL_PMISS (row 14). A missed deadline is counted in
TICK_DL_MISS, and told once (R74). Before its instant each of them changes nothing.
Choices of the model on which it rests: notes/assumptions/20.md, notes/assumptions/26.md. -/
def Obligations.FrameTagsAndDeadlines : Prop :=
  (∀ (l : Fin 64) (k : Fin 8) (dt : BitVec 6) (p : List Byte) (crc : BitVec 16) (f : Frame) (s : State),
    s.TakesPackets (portIx l k) → s.openFrame (portIx l k) = some f →
    Completes (.frameTag l k p crc) s (fun t =>
      (p.length = 16 → f.lines = [] → ∃ g,
        t.openFrame (portIx l k) = some { f with tag := some g, status := f.status ||| (if g.matching then 0 else 64) } ∧
        g.agen = BitVec.ofNat 16 (leAt p 0 2) ∧ g.exp = BitVec.ofNat 32 (leAt p 4 4) ∧
        g.gain = BitVec.ofNat 16 (leAt p 8 2) ∧ g.agenValid = (leAt p 2 1).testBit 0 ∧
        g.matching = decide (leAt p 10 6 = f.tick % 2 ^ 48)) ∧
      (p.length ≠ 16 ∨ f.lines ≠ [] → t.openFrame (portIx l k) = some { f with status := f.status ||| 128 })) ∧
    Completes (.unknownDataType l k dt) s fun t =>
      (dt = 0x10 ∨ dt = 0x11 ∨ dt = 0x12 → t.ports = s.ports) ∧
      (dt ≠ 0x10 → dt ≠ 0x11 → dt ≠ 0x12 → t.openFrame (portIx l k) = some { f with status := f.status ||| 128 })) ∧
  (∀ (l : Fin 64) (k : Fin 8) (dt : BitVec 6) (p : List Byte) (crc : BitVec 16) (s : State), s.Sound → s.TakesPackets (portIx l k) →
    s.openFrame (portIx l k) = none →
    Completes (.frameTag l k p crc) s (fun t => t = s) ∧ Completes (.unknownDataType l k dt) s fun t => t = s) ∧
  ((∀ (l : Fin 64) (k : Fin 8) (f : Frame) (s : State), s.dark = false → s.openFrame (portIx l k) = some f → f.bound = true →
    f.bind.close ≤ s.judgeNs → Completes (.closeDeadline l k) s fun t =>
      ∀ g ∈ (t.port (portIx l k)).frames, g.tick = f.tick → g.isOpen = false ∧ g.status &&& 32 = 32) ∧
  (∀ (l : Fin 64) (k : Fin 8) (q : Period) (s : State), s.dark = false →
    ((s.port (portIx l k)).periods.reverse.find? fun q => !q.opened && !q.missing && q.bind.hi ≤ s.judgeNs) = some q →
    Completes (.frameMissing l k) s fun t =>
      t.reg .sxlPmiss l k = satAdd (s.reg .sxlPmiss l k) 1 ∧
      ∃ f, (t.port (portIx l k)).frames = (s.port (portIx l k)).frames ++ [f] ∧ f.missing = true ∧ f.isOpen = false ∧
        f.tick = q.tick ∧ f.number = q.number) ∧
  (∀ (m : Fin 64) (k : Fin 8) (f : Frame) (s : State), s.dark = false →
    ((s.port (portIx m k)).frames.find? fun f => f.missed && !f.missTold) = some f →
    Completes (.deadlineMiss m k) s fun t =>
      t.reg .tickDlMiss = satAdd (s.reg .tickDlMiss) 1 ∧
      ∀ g ∈ (t.port (portIx m k)).frames, g.tick = f.tick → g.missTold = true) ∧
  (∀ (l : Fin 64) (k : Fin 8) (s : State), s.Sound →
    ((∀ f, s.openFrame (portIx l k) = some f → f.bound = false ∨ s.judgeNs < f.bind.close) →
      Completes (.closeDeadline l k) s fun t => t = s) ∧
    (((s.port (portIx l k)).periods.all fun q => q.opened || q.missing || decide (s.judgeNs < q.bind.hi)) = true →
      Completes (.frameMissing l k) s fun t => t = s) ∧
    (((s.port (portIx l k)).frames.all fun f => !f.missed || f.missTold) = true →
      Completes (.deadlineMiss l k) s fun t => t = s)))

/-- A slice of port k is served (R122, R124), where its frame has not missed its deadline meanwhile. Before the last slice of its
line the mill counts it; with the last the line is served and its slot returns, where the frame has more to come.
What the on-chip code finds meanwhile (R451): a corrected word is counted, and reported where
software has unmasked Corrected Internal Error (R453). An uncorrectable word of the frame's data is counted and
poisons the frame; one of a streaming wall's line store, and one of the translation cache, whose entry is dropped, are counted too. One
of a device-wide structure is a fatal internal error (R452): ERR_FATAL holds its place, the error is reported, and the data plane stops,
so that no slice is served any more.
Choices of the model on which it rests: notes/assumptions/94.md. -/
def Obligations.SliceIsServed : Prop :=
  (∀ (m : Fin 64) (k : Fin 8) (f : Frame) (ue : OnChip) (s : State), s.dark = false → (s.mill m).service = some k →
    s.workFrame (8 * m + k) = some f → f.tick = (s.mill m).serviceTick → ue = .none ∨ ue = .corrected →
    Completes (.sliceComplete m ue) s fun t =>
      t.reg .errMemCe = (if ue = .corrected then satAdd (s.reg .errMemCe) 1 else s.reg .errMemCe) ∧
      (ue = .corrected → s.pci.correctedMask = false → .aer aerCorrected ∈ t.out) ∧
      (f.servedSlices + 1 < slicesOf f.bind.ptray →
        t.port (8 * m + k) = { s.port (8 * m + k) with frames := (s.port (8 * m + k)).frames.map fun g =>
          if g.tick = f.tick then { f with servedSlices := f.servedSlices + 1 } else g }) ∧
      (slicesOf f.bind.ptray ≤ f.servedSlices + 1 → f.isOpen = true →
        t.port (8 * m + k) = { s.port (8 * m + k) with frames := (s.port (8 * m + k)).frames.map fun g =>
          if g.tick = f.tick then { f with servedSlices := 0, servedLines := f.servedLines + 1 } else g })) ∧
  (∀ (m : Fin 64) (k : Fin 8) (f : Frame) (s : State), s.dark = false → (s.mill m).service = some k →
    s.workFrame (8 * m + k) = some f → f.tick = (s.mill m).serviceTick → f.isOpen = true →
    Completes (.sliceComplete m (.path k)) s fun t => t.reg .errMemUe = satAdd (s.reg .errMemUe) 1 ∧
      ∀ g ∈ (t.port (8 * m + k)).frames, g.tick = f.tick → g.poison = true ∧ g.ueLines = f.ueLines ++ [f.servedLines]) ∧
  (∀ (m : Fin 64) (w : Fin 256) (e : Nat) (s : State), s.dark = false → (s.mill m).service = none →
    Completes (.sliceComplete m (.lineStore w)) s (fun t => t.reg .errMemUe = satAdd (s.reg .errMemUe) 1 ∧ t.ports = s.ports) ∧
    (s.Sound → Completes (.sliceComplete m (.cache e)) s fun t => t.reg .errMemUe = satAdd (s.reg .errMemUe) 1 ∧
      t.ports = s.ports ∧ (∀ x ∈ t.xcache, x ∈ s.xcache) ∧ (s.xcache.Nodup → ∀ x, s.xcache[e]? = some x → x ∉ t.xcache))) ∧
  (∀ (m : Fin 64) (place : Fin 5) (n : BitVec 15) (s : State), Completes (.sliceComplete m (.fatal place n)) s fun t =>
    t.reg .errFatal = BitVec.ofNat 32 (place + 1 + n.toNat * 2 ^ 16 + 2 ^ 31) ∧ t.fatal = true ∧ t.dark = true ∧
    t.reg .errMemUe = satAdd (s.reg .errMemUe) 1 ∧ s.Sent t (.aer 0) ∧ t.ports = s.ports ∧ t.mills = s.mills)

/-! ### The mailbox -/

/-- The mailbox of a port (R101, R104). MBX_REQ sends the next unbound request with its GEN, SEQ and flags and takes it off
the queue; with REPLY it then waits. An MBX_RSP with its GEN and SEQ ends the wait; one that matches nothing changes no port, and one
of another length or with a bad CRC changes nothing.
A request whose time is up is sent again while it has been sent no more than RETRY times, and is then counted as failed.
Where the lane's EN is 0, and where no request may go or waits, neither instant changes anything. A packet that would start in the
200 ns before a tick edge waits for the edge (R57).
Choices of the model on which it rests: notes/assumptions/21.md, notes/assumptions/102.md. -/
def Obligations.MailboxRequests : Prop :=
  (∀ (l : Fin 64) (k : Fin 8) (r : MbxReq) (s : State), s.mbxRuns (portIx l k) = true →
    (s.port (portIx l k)).nextUnbound = some r →
    Completes (.mbxReq l k) s fun t =>
      s.SentBack t l (csiPacket 0x35 k
        (leBytes 2 r.gen.toNat ++ [r.seq, BitVec.ofNat 8 (bit r.bound + 2 * bit r.reply)] ++ r.body)) ∧
      (t.port (portIx l k)).queue = (s.port (portIx l k)).queue.filter (fun q => q.order ≠ r.order) ∧
      (t.port (portIx l k)).waiting = (s.port (portIx l k)).waiting
        ++ (if r.reply then [{ r with attempts := r.attempts + 1 }] else [])) ∧
  (∀ (l : Fin 64) (k : Fin 8) (p : List Byte) (crc : BitVec 16) (s : State), s.laneTakes l = true → s.replaying l = false →
    Completes (.mbxRsp l k p crc) s fun t =>
      (4 ≤ p.length → p.length ≤ 64 → crc16 p = crc →
        (∀ r, ((s.port (portIx l k)).waiting.find? fun r => r.seq = byteAt p 2 && r.gen = BitVec.ofNat 16 (leAt p 0 2)) = some r →
          t.port (portIx l k) = { s.port (portIx l k) with
            waiting := (s.port (portIx l k)).waiting.filter fun q => q.order ≠ r.order }) ∧
        (((s.port (portIx l k)).waiting.all fun r => r.seq ≠ byteAt p 2 || r.gen ≠ BitVec.ofNat 16 (leAt p 0 2)) = true →
          t.ports = s.ports)) ∧
      (p.length < 4 ∨ 64 < p.length ∨ crc16 p ≠ crc → s.Sound → t = s)) ∧
  (∀ (l : Fin 64) (k : Fin 8) (r : MbxReq) (rs : List MbxReq) (s : State), s.mbxRuns (portIx l k) = true →
    (s.port (portIx l k)).waiting = r :: rs → (∀ q ∈ rs, q.order ≠ r.order) →
    Completes (.mbxTimeout l k) s fun t =>
      (r.attempts ≤ s.field .sxlMbxCfg l 0 16 2 → (t.port (portIx l k)).waiting =
          rs ++ (if r.reply then [{ r with attempts := r.attempts + 1 }] else []) ∧
        s.SentBack t l (csiPacket 0x35 k
          (leBytes 2 r.gen.toNat ++ [r.seq, BitVec.ofNat 8 (bit r.bound + 2 * bit r.reply)] ++ r.body))) ∧
      (s.field .sxlMbxCfg l 0 16 2 < r.attempts → (t.port (portIx l k)).waiting = rs ∧
        t.reg .sxlPmbxf l k = satAdd (s.reg .sxlPmbxf l k) 1)) ∧
  (∀ (l : Fin 64) (k : Fin 8) (s : State), s.Sound →
    (s.mbxRuns (portIx l k) = false ∨ (s.port (portIx l k)).nextUnbound = none →
      Completes (.mbxReq l k) s fun t => t = s) ∧
    (s.mbxRuns (portIx l k) = false ∨ (s.port (portIx l k)).waiting = [] → Completes (.mbxTimeout l k) s fun t => t = s))

/-! ### Descriptors -/

/-- NOP completes with status OK and changes nothing else of the device (R260).
STAGE and STAGE_IND of an open tray of the ring's domain, within the tray's words, write the words into its staged bank
from WORD on, and complete OK (R178, R260, R261). The active bank, the generation and every other tray stay. One that goes beyond the
tray completes with RANGE, and indirect data that came bad with DATAERR; neither changes a tray.
Either of a tray that a commit holds is refused with LOCKED (R179, R181, R258): no tray changes, and the refusal is marked.
STAGE_IND whose data cannot yet all be read waits with its descriptor, which is read once (R280, R291), and changes no tray. A number of
words other than COUNT is no such command.
Choices of the model on which it rests: notes/assumptions/22.md, notes/assumptions/37.md. -/
def Obligations.StageDescriptors : Prop :=
  (∀ (r : Fin 1024) (d : BitVec 512) (s u : State), s.Sound → s.Reads r 1 d (unused d 4 56) u →
    Completes (.nop r d) s fun t => s.Answered t r 0 0 0 ∧ t.trays = s.trays ∧ t.ports = s.ports ∧ t.lanes = s.lanes ∧
      t.mills = s.mills ∧ t.walls = s.walls ∧ t.tick = s.tick ∧ t.dram = s.dram ∧ t.power = s.power ∧ t.chain = s.chain ∧
      t.tb1 = s.tb1 ∧ t.boot = s.boot ∧ t.marks = s.marks) ∧
  (∀ (r : Fin 1024) (d : BitVec 512) (c : Instr) (ws : List Word) (size : Nat) (s : State),
    ((c = .stage r d ∧ ws = stageData d ∧ size = dField d 8 1 ∧ ∃ u, s.Reads r 2 d (stageChecks d) u) ∨
      (c = .stageInd r d ws false ∧ size = dField d 16 4 ∧ ws.length = size ∧
        ∃ u v, s.Takes r 3 d (stageIndChecks d) u ∧ u.ReadsData r (dField d 8 8) (4 * size) v)) →
    s.domTray ((s.ringDomain r).getD 0) (dTray d) = true → outOfRange d size = false → Completes c s fun t =>
      ((s.tray (dTray d)).state = .openTray → s.Answered t r 0 0 0 ∧
        t.tray (dTray d) = { s.tray (dTray d) with staged := bankWrite (dTray d) (dWord d) ws (s.tray (dTray d)).staged } ∧
        ∀ n, n ≠ dTray d → t.tray n = s.tray n) ∧
      ((s.tray (dTray d)).state ≠ .openTray → s.Answered t r 3 (dField d 4 2) 0 ∧ t.trays = s.trays ∧
        t.markSeq = s.markSeq + 1)) ∧
  (∀ (r : Fin 1024) (d : BitVec 512) (c : Instr) (ws : List Word) (s : State),
    ((c = .stage r d ∧ outOfRange d (dField d 8 1) = true ∧ ∃ u, s.Reads r 2 d (stageChecks d) u) ∨
      (c = .stageInd r d ws false ∧ ws.length = dField d 16 4 ∧ outOfRange d (dField d 16 4) = true ∧
        (∃ u, s.Takes r 3 d (stageIndChecks d) u))) →
    s.domTray ((s.ringDomain r).getD 0) (dTray d) = true →
    Completes c s fun t => s.Answered t r 5 (trayKind (dTray d)).size 0 ∧ t.trays = s.trays) ∧
  (∀ (r : Fin 1024) (d : BitVec 512) (ws : List Word) (s u : State), s.Takes r 3 d (stageIndChecks d) u →
    s.domTray ((s.ringDomain r).getD 0) (dTray d) = true → outOfRange d (dField d 16 4) = false →
    (∀ v, u.ReadsData r (dField d 8 8) (4 * dField d 16 4) v → Completes (.stageInd r d ws true) s fun t =>
      s.Answered t r 8 0 0 ∧ t.trays = s.trays) ∧
    (∀ v, ws.length = dField d 16 4 →
      u.readPages r ((pagePieces (dField d 8 8) (4 * dField d 16 4) (4 * dField d 16 4)).drop (u.ring r).unitsRead) = (.wait, v) →
      Completes (.stageInd r d ws false) s fun t => t.trays = s.trays ∧ (t.ring r).fetched = some d ∧ t.cons r = s.cons r)) ∧
  (∀ (r : Fin 1024) (d : BitVec 512) (ws : List Word) (s : State), ws.length ≠ dField d 16 4 →
    exec (.stageInd r d ws false) s = .refused .illFormed)

/-- A descriptor that names what its domain may not touch is refused with DENIED and a mark (R250, R443): no tray, port or
recall state changes. One with a field out of its range is MALFORMED, with that field's offset, and does nothing (R257, R258). A
descriptor that carries another opcode of its ring is another command.
COMMIT of open trays of its domain makes them PENDING and waits for admission behind the commits read before it, its ring
busy (R71, R179, R263). One that names a tray twice, or a tray that a commit holds, is refused with LOCKED (R180).
Choices of the model on which it rests: notes/assumptions/37.md, notes/assumptions/105.md. -/
def Obligations.CommitDescriptors : Prop :=
  (∀ (r : Fin 1024) (d : BitVec 512) (ws : List Word) (body : List Byte) (c : Instr) (checks : List Check) (s u : State),
    s.Reads r (dOp d) d checks u → s.rcl.state ≠ .exporting →
    ((s.domTray ((s.ringDomain r).getD 0) (dTray d) = false ∧ ws.length = dField d 16 4 ∧
        (c, dOp d, checks) ∈ [(Instr.stage r d, 2, stageChecks d), (.stageInd r d ws false, 3, stageIndChecks d),
          (.trayRead r d, 6, trayReadChecks d)]) ∨
      (s.domPort ((s.ringDomain r).getD 0) (dPort d) = false ∧ body.length = dField d 9 1 ∧
        (c, dOp d, checks) = (.sensor r d body false, 5, sensorChecks d)) ∨
      (s.domFreeze ((s.ringDomain r).getD 0) = false ∧ (c, dOp d, checks) ∈ [(Instr.freeze r d, 7, unused d 4 56),
        (.exportStart r d, 8, (4, !s.exportRingOk r (dField d 4 2)) :: unused d 6 56), (.release r d, 9, unused d 4 56)]) ∨
      ((∃ id ∈ commitIds d, s.domTray ((s.ringDomain r).getD 0) ((trayOfId id).getD 0) = false) ∧
        (c, dOp d, checks) = (.commit r d, 4, commitChecks d))) →
    Completes c s fun t => s.Answered t r 2 0 0 ∧ t.trays = s.trays ∧ t.ports = s.ports ∧ t.rcl = s.rcl ∧
      t.markSeq = s.markSeq + 1) ∧
  (∀ (r : Fin 1024) (d : BitVec 512) (ws : List Word) (body : List Byte) (c : Instr) (checks : List Check) (off : Nat) (s u : State),
    s.Fetches r (dOp d) d u → s.kind r = 0 → s.offends r d checks = some off → s.rcl.state ≠ .exporting →
    ws.length = dField d 16 4 → body.length = dField d 9 1 →
    (c, dOp d, checks) ∈ [(Instr.nop r d, 1, unused d 4 56), (.stage r d, 2, stageChecks d), (.stageInd r d ws false, 3, stageIndChecks d),
      (.commit r d, 4, commitChecks d), (.sensor r d body false, 5, sensorChecks d), (.trayRead r d, 6, trayReadChecks d),
      (.freeze r d, 7, unused d 4 56), (.exportStart r d, 8, (4, !s.exportRingOk r (dField d 4 2)) :: unused d 6 56),
      (.release r d, 9, unused d 4 56)] →
    Completes c s fun t => s.Answered t r 1 off 0 ∧ t.trays = s.trays ∧ t.ports = s.ports ∧ t.rcl = s.rcl ∧ t.tick = s.tick) ∧
  (∀ (r : Fin 1024) (d : BitVec 512) (ws : List Word) (body : List Byte) (bad : Bool) (c : Instr) (op : Nat) (s : State),
    (c, op) ∈ [(Instr.nop r d, 1), (.stage r d, 2), (.stageInd r d ws bad, 3), (.commit r d, 4), (.sensor r d body bad, 5),
      (.trayRead r d, 6), (.freeze r d, 7), (.exportStart r d, 8), (.release r d, 9), (.obuf r d, 0x20), (.data r d body bad, 0x30),
      (.eot r d, 0x31)] → s.otherOp r op d = true → exec c s = .refused .illFormed) ∧
  (∀ (r : Fin 1024) (d : BitVec 512) (s u : State), s.Reads r 4 d (commitChecks d) u →
    (∀ id ∈ commitIds d, s.domTray ((s.ringDomain r).getD 0) ((trayOfId id).getD 0) = true) →
    Completes (.commit r d) s fun t =>
      (s.commitFault [] (commitIds d) = none →
        (∃ c, t.tick = { s.tick with judging := s.tick.judging ++ [c] } ∧ c.ring = r ∧
          c.trays = (commitIds d).map (fun id => (trayOfId id).getD 0) ∧ c.opTag = BitVec.ofNat 16 (dTag d)) ∧
        (∀ id ∈ commitIds d, (t.tray ((trayOfId id).getD 0)).state = .pending) ∧
        (∀ n, t.tray n = { s.tray n with state := (t.tray n).state, group := (t.tray n).group }) ∧
        (∀ n, n ∉ (commitIds d).map (fun id => (trayOfId id).getD 0) → t.tray n = s.tray n) ∧
        (t.ring r).busy = true ∧ t.cons r = s.cons r) ∧
      (∀ id cause, s.commitFault [] (commitIds d) = some (id, cause) → s.Answered t r 3 id 0 ∧ t.trays = s.trays ∧
        t.tick = s.tick))

/-- SENSOR queues a request on its port, the next in SEQ (R203, R264), and completes with that SEQ; its body stands in the descriptor
or is read from host memory. A body that came bad completes with DATAERR and queues nothing.
TRAY_READ writes the words of the bank it names to host memory and completes with the tray's generation (R260); no
tray changes. One that goes beyond the tray completes with RANGE.
Choices of the model on which it rests: notes/assumptions/22.md, notes/assumptions/37.md. -/
def Obligations.SensorAndTrayRead : Prop :=
  (∀ (r : Fin 1024) (d : BitVec 512) (body : List Byte) (s : State),
    s.domPort ((s.ringDomain r).getD 0) (dPort d) = true →
    ((sensorInd d = false ∧ ∃ u, s.Reads r 5 d (sensorChecks d) u) ∨
      (sensorInd d = true ∧ body.length = dField d 9 1 ∧
        ∃ u v, s.Takes r 5 d (sensorChecks d) u ∧ u.ReadsData r (dField d 24 8) (dField d 9 1) v)) →
    Completes (.sensor r d body false) s fun t =>
      s.Answered t r 0 0 ((s.port (dPort d)).seq + 1).toNat ∧
      (t.port (dPort d)).seq = (s.port (dPort d)).seq + 1 ∧
      (∃ q, (t.port (dPort d)).queue = (s.port (dPort d)).queue ++ [q] ∧ q.seq = (s.port (dPort d)).seq + 1 ∧
        q.gen = BitVec.ofNat 16 (dField d 6 2) ∧ q.bound = sensorBound d ∧ q.reply = sensorReply d ∧
        q.body = if sensorInd d then body else dBytes d 24 (dField d 9 1)) ∧
      ∀ i, i ≠ dPort d → t.port i = s.port i) ∧
  (∀ (r : Fin 1024) (d : BitVec 512) (body : List Byte) (s u v : State),
    s.domPort ((s.ringDomain r).getD 0) (dPort d) = true → sensorInd d = true → s.Takes r 5 d (sensorChecks d) u →
    u.ReadsData r (dField d 24 8) (dField d 9 1) v →
    Completes (.sensor r d body true) s fun t => s.Answered t r 8 0 0 ∧ t.ports = s.ports) ∧
  (∀ (r : Fin 1024) (d : BitVec 512) (s u : State), s.Reads r 6 d (trayReadChecks d) u →
    s.domTray ((s.ringDomain r).getD 0) (dTray d) = true →
    Completes (.trayRead r d) s fun t => t.trays = s.trays ∧
      (outOfRange d (dField d 24 4) = true → s.Answered t r 5 (trayKind (dTray d)).size 0) ∧
      (outOfRange d (dField d 24 4) = false →
        t.WritesOut r ((bankRead (dTray d) (dWord d) (dField d 24 4) (if dField d 8 1 = 0 then (s.tray (dTray d)).staged
          else (s.tray (dTray d)).active)).flatMap fun w => leBytes 4 w.toNat) ∧
        s.Answered t r 0 0 (s.tray (dTray d)).gen.toNat))

/-- FREEZE, EXPORT and RELEASE of a domain with freeze permission act on the recall store by its state (R240 to R242). A
FREEZE while it records sets the freeze tick; one while a freeze is pending, or in OFF or FROZEN, is counted as ignored. EXPORT of frozen
content starts the export of its entries, the oldest first; in another state it completes with STATE. RELEASE cancels a pending freeze,
in FROZEN has recording start again, and in an export with an entry in progress waits for that entry; without a freeze or a content it
completes with STATE.
OBUF posts one empty buffer behind those its ring holds (R266); nothing completes.
Choices of the model on which it rests: notes/assumptions/45.md. -/
def Obligations.RecallAndBuffers : Prop :=
  (∀ (r : Fin 1024) (d : BitVec 512) (s u : State), s.domFreeze ((s.ringDomain r).getD 0) = true →
    (s.Reads r 7 d (unused d 4 56) u → Completes (.freeze r d) s fun t =>
      (s.rcl.state = .recording → s.rcl.pend = false → t.rcl.pend = true ∧ t.rcl.kind = 2 ∧
        t.rcl.tf = BitVec.ofNat 64 (s.now + 1 + s.field .wallRclCfg 0 0 16 12) ∧ t.markSeq = s.markSeq + 1 ∧
        s.Answered t r 0 0 (t.rcl.tf.toNat % 2 ^ 32)) ∧
      (s.rcl.state = .frozen ∨ s.rcl.state = .off ∨ (s.rcl.state = .recording ∧ s.rcl.pend = true) →
        t.rcl = s.rcl ∧ t.reg .wallRclIgn = satAdd (s.reg .wallRclIgn) 1 ∧ s.Answered t r 6 s.recallDetail 0)) ∧
    (s.Reads r 8 d ((4, !s.exportRingOk r (dField d 4 2)) :: unused d 6 56) u → Completes (.exportStart r d) s fun t =>
      (s.rcl.state = .frozen → s.rcl.entries ≠ [] → t.rcl.state = .exporting ∧ t.rcl.exportRing = dField d 4 2 ∧
        t.rcl.exported = 0 ∧ t.rcl.entries = s.rcl.entries.map (fun e => { e with sent := false }) ∧
        s.Answered t r 0 0 s.rcl.entries.length) ∧
      (s.rcl.state = .recording ∨ s.rcl.state = .off → t.rcl = s.rcl ∧ s.Answered t r 6 s.recallDetail 0)) ∧
    (s.Reads r 9 d (unused d 4 56) u → Completes (.release r d) s fun t =>
      (s.rcl.state = .recording → s.rcl.pend = true → t.rcl = { s.rcl with pend := false, lost := false } ∧
        s.Answered t r 0 0 0) ∧
      (s.rcl.state = .frozen → t.rcl.entries = [] ∧ t.rcl.restart = true ∧ s.Answered t r 0 0 0) ∧
      (s.rcl.state = .exporting → ((s.ring s.rcl.exportRing).records.any (·.oclass = 3)) = true →
        (∃ c, t.rcl = { s.rcl with releasing := s.rcl.releasing ++ [c] } ∧ c.ring = r ∧ c.opTag = dTag d) ∧
        (t.ring r).busy = true ∧ t.cons r = s.cons r) ∧
      (s.rcl.state = .off ∨ (s.rcl.state = .recording ∧ s.rcl.pend = false) → t.rcl = s.rcl ∧ s.Answered t r 6 s.recallDetail 0))) ∧
  (∀ (r : Fin 1024) (d : BitVec 512) (s u : State), s.Reads r 0x20 d (obufChecks d) u →
    Completes (.obuf r d) s fun t =>
      (∃ b, t.ring r = { s.ring r with bufs := (s.ring r).bufs ++ [b] } ∧ b.addr = dField d 8 8 ∧ b.len = dField d 16 4 ∧
        b.written = 0 ∧ b.bad = none) ∧ t.cons r = s.cons r)

/-- A replay ring (R269, R270). Its first descriptor to take effect fixes N0, the next tick whose edge is still to come. A DATA for a tick
still to come waits for it and completes OK; one behind its tick completes with LATE in live mode, and in step mode is applied at once.
EOT ends the records of its tick. A DATA of a port that the domain may not touch is refused with DENIED and a mark (R250), one whose data
came bad completes with DATAERR, and one with more than one FS is MALFORMED; none of these is kept. A number of bytes other than the
record's is no such command.
Choices of the model on which it rests: notes/assumptions/38.md, notes/assumptions/39.md. -/
def Obligations.ReplayDescriptors : Prop :=
  (∀ (r : Fin 1024) (d : BitVec 512) (bytes : List Byte) (s u v : State),
    s.Takes r 0x30 d (dataChecks d (s.replayMill r) (s.ring r).lastOff) u → s.kind r = 2 →
    s.domPort ((s.ringDomain r).getD 0) (dPort d) = true → u.ReadsData r (dField d 32 8) (dField d 40 4) v →
    let n0 := (s.ring r).n0.getD (s.now + 1 + bit (s.edgeNow && !s.stepping))
    (bytes.length = dField d 40 4 → countFs (bytes.length + 1) bytes ≤ 1 → Completes (.data r d bytes false) s fun t =>
      (t.ring r).n0 = some n0 ∧
      (s.now < n0 + dTickOff d → s.Answered t r 0 0 0 ∧
        ∃ y, (t.ring r).replays = (s.ring r).replays ++ [y] ∧ y.port = dPort d ∧ y.tickOff = dTickOff d ∧ y.bytes = bytes) ∧
      (n0 + dTickOff d ≤ s.now → s.stepMode = false →
        s.Answered t r 9 0 0 ∧ (t.ring r).replays = (s.ring r).replays ∧ t.ports = s.ports) ∧
      (n0 + dTickOff d ≤ s.now → s.stepMode = true → s.Answered t r 0 0 0 ∧ (t.ring r).replays = (s.ring r).replays)) ∧
    (bytes.length = dField d 40 4 → 1 < countFs (bytes.length + 1) bytes → Completes (.data r d bytes false) s fun t =>
      s.Answered t r 1 32 0 ∧ (t.ring r).replays = (s.ring r).replays ∧ t.ports = s.ports) ∧
    Completes (.data r d bytes true) s fun t =>
      s.Answered t r 8 0 0 ∧ (t.ring r).replays = (s.ring r).replays ∧ t.ports = s.ports) ∧
  (∀ (r : Fin 1024) (d : BitVec 512) (bytes : List Byte) (s u : State),
    s.Reads r 0x30 d (dataChecks d (s.replayMill r) (s.ring r).lastOff) u → bytes.length = dField d 40 4 →
    s.domPort ((s.ringDomain r).getD 0) (dPort d) = false → Completes (.data r d bytes false) s fun t =>
      s.Answered t r 2 0 0 ∧ (t.ring r).replays = (s.ring r).replays ∧ t.ports = s.ports ∧ t.markSeq = s.markSeq + 1) ∧
  (∀ (r : Fin 1024) (d : BitVec 512) (bytes : List Byte) (s : State), bytes.length ≠ dField d 40 4 →
    exec (.data r d bytes false) s = .refused .illFormed) ∧
  (∀ (r : Fin 1024) (d : BitVec 512) (s u : State), s.Reads r 0x31 d (eotChecks d (s.ring r).lastOff) u → s.kind r = 2 →
    Completes (.eot r d) s fun t => s.Answered t r 0 0 0 ∧ (t.ring r).lastOff = dTickOff d ∧
      (t.ring r).n0 = some ((s.ring r).n0.getD (s.now + 1 + bit (s.edgeNow && !s.stepping))) ∧
      (t.ring r).eots = (s.ring r).eots ++ [dTickOff d])

/-! ### Rings, doorbells and event queues -/

/-- EN of a ring set from 0 enables it (R252, R254, R268): it runs with P = C = 0 and RSEQ 0 and holds nothing of what it held.
EN cleared on a ring that runs or waits drains it, with its records dropped and its replay discarded, and nothing of a response
block is left to write; on a halted ring it leads to OFF (R253).
A draining ring is OFF once nothing of it is in execution, and not before (R253). -/
def Obligations.RingEnableAndDisable : Prop :=
  ((∀ (r : Fin 1024) (o : Origin) (v : Word) (s : State), s.Sound → s.Accepts o ⟨.ringCfg, r.val, 0⟩ (v ||| 1) →
    s.flag .ringCfg r 0 0 = false →
    Completes (.ringEnable r o v) s fun t => t.ring r = { state := .run, inc := (s.ring r).inc + 1 } ∧ t.cons r = 0 ∧
      t.prod r = 0 ∧ t.reg .ringSeq r = 0 ∧ (∀ q, q ≠ r.val → t.ring q = s.ring q) ∧
      (∀ d, bitsOf v 2 2 = 3 → s.ringDomain r = some d → t.queue d = {} ∧ t.reg .evtSeq d = 0)) ∧
  (∀ (r : Fin 1024) (o : Origin) (v : Word) (s : State), s.Accepts o ⟨.ringCfg, r.val, 0⟩ (clearEn v) →
    s.flag .ringCfg r 0 0 = true →
    bitsOf v 2 2 ≠ 3 ∨ (s.Sound ∧ (s.ring r).records = [] ∧ s.rcl.state ≠ .exporting) →
    Completes (.ringDisable r o v) s fun t =>
      ((s.ring r).state = .run ∨ (s.ring r).state = .wait → (t.ring r).state = .drain ∧ (t.ring r).records = [] ∧
        (t.ring r).bufs = [] ∧ (t.ring r).replays = [] ∧ (t.ring r).eots = [] ∧
        (s.rcl.state ≠ .exporting → ∀ w ∈ (t.ring r).writes, w ∈ (s.ring r).writes ∧ w.response = false)) ∧
      ((s.ring r).state = .halt → (t.ring r).state = .off))) ∧
  (∀ (r : Fin 1024) (s : State), s.Sound →
    Completes (.drainEnd r) s fun t =>
      (s.drained r = true → t.ring r = { s.ring r with state := .off, replays := [], eots := [] } ∧
        t = { s with rings := t.rings }) ∧
      (s.drained r = false → t = s))

/-- A doorbell write (R255, R256). A producer count that posts no fewer descriptors than before and no more than the ring holds
is taken; any other, a write that is no whole aligned word, and one to a slot with no enabled ring are ignored, and counted in
HOST_DB_BAD. A write of another word of a slot changes nothing, and a poisoned one is discarded, counted and reported (R453).
The consumer count of a queue (R301): one that frees no more entries than are written is taken, and leaves the records in
the ring as they are; one that would free more is ignored and counted.
Choices of the model on which it rests: notes/assumptions/41.md. -/
def Obligations.RingCounts : Prop :=
  ((∀ (d : Fin 16) (slot : Fin 64) (v : Word) (r : Nat) (s : State), s.Sound → s.hostUp = true →
    s.slotRing d slot = some r → r < 1024 → s.kind r ≠ 3 →
    Completes (.doorbellWrite d slot { byte := 0 } v) s fun t =>
      ((s.ring r).state = .run ∨ (s.ring r).state = .wait → (v - s.cons r).toNat ≤ 2 ^ s.log2s r →
        (s.prod r - s.cons r).toNat ≤ (v - s.cons r).toNat → t = s.setReg .ringProd r 0 v) ∧
      ((s.ring r).state = .halt ∨ (s.ring r).state = .drain ∨ 2 ^ s.log2s r < (v - s.cons r).toNat ∨
        (v - s.cons r).toNat < (s.prod r - s.cons r).toNat →
        t.prod r = s.prod r ∧ t.reg .hostDbBad = satAdd (s.reg .hostDbBad) 1)) ∧
  (∀ (d : Fin 16) (slot : Fin 64) (word : SlotWord) (v : Word) (s : State), s.hostUp = true →
    Completes (.doorbellWrite d slot word v) s fun t =>
      (word.poisoned = true → t.reg .errUnmapped = satAdd (s.reg .errUnmapped) 1 ∧ s.Sent t (.aer aerPoisoned) ∧
        State.Frame { s with regs := t.regs, out := t.out, marks := t.marks } t) ∧
      (word.poisoned = false → s.slotRing d slot = none ∨ word.whole = false ∨ word.byte.toNat % 4 ≠ 0 →
        t.reg .hostDbBad = satAdd (s.reg .hostDbBad) 1 ∧ State.Frame { s with regs := t.regs, marks := t.marks } t) ∧
      (s.Sound → word.poisoned = false → (s.slotRing d slot).isSome = true → word.whole = true →
        word.byte.toNat % 4 = 0 → word.byte ≠ 0 → t = s))) ∧
  ((∀ (d : Fin 16) (slot : Fin 64) (o : Origin) (v : Word) (r q : Nat) (s : State), s.hostUp = true →
    s.slotRing d slot = some r → s.queueOf r = some q →
    Completes (.consumerCountWrite (.slot d slot) o v) s fun t =>
      ((v - (s.queue q).ch).toNat ≤ ((s.queue q).pd - (s.queue q).ch).toNat → (t.queue q).ch = v ∧
        (s.Sound → (s.queue q).hold = [] → (s.queue q).overflow = false →
          t = s.setQueue q { s.queue q with ch := v })) ∧
      (((s.queue q).pd - (s.queue q).ch).toNat < (v - (s.queue q).ch).toNat →
        (t.queue q).ch = (s.queue q).ch ∧ t.reg .hostDbBad = satAdd (s.reg .hostDbBad) 1)) ∧
  (∀ (o : Origin) (v : Word) (s : State), s.Accepts o ⟨.evtMqCons, 0, 0⟩ v →
    Completes (.consumerCountWrite .management o v) s fun t =>
      ((v - (s.queue 16).ch).toNat ≤ ((s.queue 16).pd - (s.queue 16).ch).toNat →
        (t.queue 16).ch = v ∧ t.reg .evtMqCons = v ∧
        (s.Sound → (s.queue 16).hold = [] → (s.queue 16).overflow = false →
          t = (s.setQueue 16 { s.queue 16 with ch := v }).setReg .evtMqCons 0 0 v)) ∧
      (((s.queue 16).pd - (s.queue 16).ch).toNat < (v - (s.queue 16).ch).toNat →
        (t.queue 16).ch = (s.queue 16).ch ∧ t.reg .hostDbBad = satAdd (s.reg .hostDbBad) 1)))

/-- What a completion to a request of a ring does (R253, R453): one that ended in UR or CA, or none in time, halts the ring with
cause 1, and a poisoned descriptor with cause 3; a ring that drains shows the cause and goes on draining, with nothing left in
execution. Poisoned data and timeouts are reported under AER. Good data, and anything for a ring that can have no request
outstanding, change nothing here.
Choices of the model on which it rests: notes/assumptions/22.md. -/
def Obligations.HostErrorsHaltRing : Prop :=
  (∀ (r : Fin 1024) (st : HostStatus) (dr : Bool) (s : State), s.kind r ≠ 3 → s.ringBusy r = true →
    Completes (.hostCompletion r st dr) s (fun t =>
      (st = .ok ∨ dr = false → t.ring r = s.ring r) ∧ (st = .poison → s.Sent t (.aer aerPoisoned)) ∧
      (dr = true → st ≠ .ok → t.field .ringStatus r 0 8 4 = (if st = .poison then 3 else 1) ∧
        ((s.ring r).state ≠ .drain → (t.ring r).state = .halt ∧ (t.ring r).records = []) ∧
        ((s.ring r).state = .drain → (t.ring r).state = .drain ∧ (t.ring r).writes = []))) ∧
    Completes (.completionTimeout r) s fun t => t.field .ringStatus r 0 8 4 = 1 ∧ s.Sent t (.aer aerTimeout) ∧
      ((s.ring r).state ≠ .drain → (t.ring r).state = .halt ∧ (t.ring r).records = []) ∧
      ((s.ring r).state = .drain → (t.ring r).state = .drain ∧ (t.ring r).writes = [])) ∧
  (∀ (r : Fin 1024) (st : HostStatus) (dr : Bool) (s : State), s.Sound → s.ringBusy r = false →
    Completes (.hostCompletion r st dr) s (fun t => t = s) ∧ Completes (.completionTimeout r) s fun t => t = s)

/-- EN of the management queue set from 0 while no event is held for it starts it anew, at count 0 and sequence number 0. EN
cleared turns it OFF once the record in progress is written: at once where it holds none; a queue that waits for a page keeps
the one in progress and loses, and counts, the other records that it held (R307).
The coalescing time of a queue with records not yet announced ends (R306): its MSI-X message goes out, or its pending bit
is set while the vector is masked, and the count of records since the last message starts anew. With no such time running
nothing changes.
Choices of the model on which it rests: notes/assumptions/8.md. -/
def Obligations.EventQueueSignals : Prop :=
  ((∀ (o : Origin) (v : Word) (s : State), s.Accepts o ⟨.evtMqCtl, 0, 0⟩ (v ||| 1) → s.flag .evtMqCtl 0 0 0 = false →
    s.held = [] → s.Sound →
    Completes (.mqEnable o v) s fun t => t.ring mqRing = { state := .run, inc := (s.ring mqRing).inc + 1 } ∧
      t.queue 16 = {} ∧ t.reg .evtSeq 16 = 0 ∧ t.flag .evtMqCtl 0 0 0 = true ∧ t.markSeq = s.markSeq + 1) ∧
  (∀ (o : Origin) (v : Word) (s : State), s.Accepts o ⟨.evtMqCtl, 0, 0⟩ (clearEn v) → s.flag .evtMqCtl 0 0 0 = true →
    s.Sound →
    Completes (.mqDisable o v) s fun t => t.flag .evtMqCtl 0 0 0 = false ∧
      (((s.ring mqRing).state ≠ .run ∧ (s.ring mqRing).state ≠ .wait) ∨ (s.queue 16).hold = [] →
        t.ring mqRing = { inc := (s.ring mqRing).inc } ∧ (t.queue 16).hold = []) ∧
      ((s.ring mqRing).state = .run → (s.queue 16).hold ≠ [] →
        (t.ring mqRing).state = .drain ∧ t.queue 16 = s.queue 16) ∧
      ((s.ring mqRing).state = .wait → (s.queue 16).hold ≠ [] →
        (t.ring mqRing).state = .drain ∧ (t.queue 16).hold = (s.queue 16).hold.take 1 ∧
        t.reg .evtLost 16 =
          satAdd (s.reg .evtLost 16) (((s.queue 16).hold.drop 1).filter fun b => !ownBytes b).length))) ∧
  (∀ (q : Fin 17) (s : State), s.Sound →
    Completes (.coalescingTimeout q) s fun t =>
      ((s.queue q).timer = false ∨ s.flag .evtMsi q 0 11 = false ∨ s.field .evtCoal q 0 0 16 = 0 ∨
        s.power.d3hot = true → t = s) ∧
      ((s.queue q).timer = true → s.flag .evtMsi q 0 11 = true → s.field .evtCoal q 0 0 16 ≠ 0 → s.power.d3hot = false →
        t.queue q = { s.queue q with sinceMsg := 0, timer := false } ∧
        (s.flag .msixTable (s.field .evtMsi q 0 0 11) 3 0 = false → t.out = .msix (s.field .evtMsi q 0 0 11) :: s.out) ∧
        (s.flag .msixTable (s.field .evtMsi q 0 0 11) 3 0 = true →
          t.flag .msixPba (s.field .evtMsi q 0 0 11 / 32) 0 (s.field .evtMsi q 0 0 11 % 32) = true ∧ t.out = s.out) ∧
        t = { s with queues := t.queues, regs := t.regs, out := t.out }))

/-! ### Translation -/

/-- An invalidation removes what it names from the cache at once, and its completion is sent when what was issued under it has
left (R274). A FLUSH empties the cache (R295).
A completed translation (R272, R273): the cache holds its page under the lookup's key with the permissions granted, whether it
covers 4 KiB or 2 MiB, and the lookup is no longer outstanding. A ring that waited for that page alone runs again (R277). For
no lookup outstanding it changes nothing; without ATS it ends its lookups and no more. -/
def Obligations.TranslationCache : Prop :=
  ((∀ (tag : Fin 32) (pv : Bool) (pasid : BitVec 20) (addr : BitVec 64) (size : Nat) (s : State), s.Sound →
    Completes (.invalidateRequest tag pv pasid addr size) s fun t =>
      t.xcache = s.xcache.filter (fun e => !e.overlaps pv pasid addr.toNat size) ∧
      t.invals = s.invals ++ [⟨tag, pv, pasid, addr.toNat, size⟩] ∧ t.reg .xlatInv = satAdd (s.reg .xlatInv) 1 ∧
      t = { s with xcache := t.xcache, invals := t.invals, regs := t.regs }) ∧
  (∀ (tag : Fin 32) (s : State), s.Sound →
    Completes (.invalidateCompletion tag) s fun t =>
      (∀ v, s.power.d3hot = false → (s.invals.find? fun v => v.opTag = tag.val) = some v →
        t = { s with invals := s.invals.erase v, out := Emission.invalidateDone tag :: s.out }) ∧
      (s.power.d3hot = true ∨ (s.invals.find? fun v => v.opTag = tag.val) = none → t = s)) ∧
  (∀ (o : Origin) (v : Word) (s : State), s.Sound → s.Accepts o ⟨.xlatCfg, 0, 0⟩ (v ||| 2) →
    Completes (.flush o v) s fun t => t.xcache = [] ∧
      t = { s with xcache := [], regs := t.regs, marks := t.marks, markSeq := t.markSeq })) ∧
  (∀ (pv : Bool) (pasid : BitVec 20) (addr : BitVec 64) (size : Nat) (taddr : BitVec 64) (rd wr : Bool) (s : State), s.Sound →
    Completes (.atsCompletion pv pasid addr size taddr rd wr) s fun t =>
      (s.atsOn = false → t = { s with lookups := t.lookups } ∧ ∀ q ∈ t.lookups, q ∈ s.lookups) ∧
      ((s.lookups.all fun q => q.pv ≠ pv || q.pasid ≠ pasid) = true → t = s)) ∧
  (∀ (q : PageReq) (taddr : BitVec 64) (rd wr : Bool) (s : State), s.lookups = [q] → q.rings = [] → s.Sound →
    q.page < 2 ^ 52 → s.atsOn = true → rd = true ∨ wr = true →
    Completes (.atsCompletion q.pv q.pasid (BitVec.ofNat 64 (q.page * 4096)) 4096 taddr rd wr) s (fun t =>
      t.lookups = [] ∧ t.reg .xlatMiss = satAdd (s.reg .xlatMiss) 1 ∧
      ∃ e, t.xcache.head? = some e ∧ e.holds q.pv q.pasid q.page = true ∧ e.big = false ∧
        e.target = taddr.toNat / 4096 ∧ e.rd = rd ∧ e.wr = wr) ∧
    Completes (.atsCompletion q.pv q.pasid (BitVec.ofNat 64 (q.page / 512 * 2097152)) 2097152 taddr rd wr) s fun t =>
      t.lookups = [] ∧ t.reg .xlatMiss = satAdd (s.reg .xlatMiss) 1 ∧
      ∃ e, t.xcache.head? = some e ∧ e.holds q.pv q.pasid q.page = true ∧ e.big = true ∧
        e.target = taddr.toNat / 4096 ∧ e.rd = rd ∧ e.wr = wr) ∧
  (∀ (q : PageReq) (r : Fin 1024) (w : PageWait) (taddr : BitVec 64) (rd wr : Bool) (s : State), s.lookups = [q] →
    q.rings = [r.val] → s.Sound → q.page < 2 ^ 52 → s.atsOn = true → (if q.write then wr else rd) = true → s.kind r ≠ 3 →
    (s.ring r).state = .wait → (s.ring r).preempted = false → (s.ring r).writes = [] → (s.ring r).halting = none →
    (s.ring r).waits = [w] → w.page = q.page → w.write = q.write →
    Completes (.atsCompletion q.pv q.pasid (BitVec.ofNat 64 (q.page * 4096)) 4096 taddr rd wr) s fun t =>
      (t.ring r).state = .run ∧ (t.ring r).waits = [] ∧ t.lookups = [])

/-- The end of a page request that no ring waits on any more (R276, R277): a success, a response INVALID and a timeout free its
index; a response FAILURE also stops page requests. A response to an index with no request outstanding is discarded.
A ring that waits on a page request: its success makes the device translate the page again, with the permission that the ring
needs, and its end without the page counts a failure and halts the ring with cause 4 (R277, R278).
Choices of the model on which it rests: notes/assumptions/48.md. -/
def Obligations.PageRequests : Prop :=
  ((∀ (prg : Fin 512) (q : PageReq) (c : PriCode) (s : State), s.Sound →
    (s.prqs.find? fun q => q.prg = prg.val) = some q → q.rings = [] →
    (s.rings.all fun e => e.2.waits.all fun w => !w.place) = true →
    Completes (.pageRequestResponse prg c) s (fun t =>
      t.prqs = s.prqs.filter (fun y => y.prg ≠ q.prg) ∧ t.priStop = (if c = .failure then true else s.priStop) ∧
      State.Frame { s with prqs := t.prqs, priStop := t.priStop } t) ∧
    Completes (.pageRequestTimeout prg) s fun t => t.prqs = s.prqs.filter (fun y => y.prg ≠ q.prg) ∧
      State.Frame { s with prqs := t.prqs } t) ∧
  (∀ (prg : Fin 512) (c : PriCode) (s : State), s.Sound → (s.prqs.all fun q => q.prg ≠ prg.val) = true →
    Completes (.pageRequestResponse prg c) s (fun t => t = s) ∧ Completes (.pageRequestTimeout prg) s fun t => t = s)) ∧
  (∀ (prg : Fin 512) (q : PageReq) (w : PageWait) (r : Fin 1024) (s : State),
    (s.prqs.find? fun q => q.prg = prg.val) = some q →
    q.rings = [r.val] → s.kind r = 0 → (s.ring r).state = .wait → (s.ring r).waits = [w] → w.on q = true →
    (s.rings.all fun e => e.2.waits.all fun w => !w.place) = true →
    Completes (.pageRequestResponse prg .success) s (fun t => t.prqs = s.prqs.filter (fun y => y.prg ≠ q.prg) ∧
      (t.ring r).state = .wait ∧ s.Sent t (.translationRequest q.pv q.pasid q.page) ∧
      (s.Sound → t.lookups = s.lookups ++ [{ q with write := w.write, rings := [r.val] }])) ∧
    (∀ c, c ≠ .success → Completes (.pageRequestResponse prg c) s fun t =>
      (t.ring r).state = .halt ∧ t.field .ringStatus r 0 8 4 = 4 ∧ t.reg .xlatFail = satAdd (s.reg .xlatFail) 1) ∧
    Completes (.pageRequestTimeout prg) s fun t =>
      (t.ring r).state = .halt ∧ t.field .ringStatus r 0 8 4 = 4 ∧ t.reg .xlatFail = satAdd (s.reg .xlatFail) 1)

/-! ### The function and the link -/

/-- Configuration requests (R246, R248, R273, R293, R422): Request Retry Status while the boot window is open; afterwards a read
returns its item, a write sets the enables, where one that turns ATS off empties the cache, and a write of a base address
register is held.
D3hot (R410, R412): on entry the data plane runs on in PSTATE D3 and the output records that wait are dropped; the return
to D0 takes the device back to RUN; neither does anything where it is so already. A change of the link's rate or width is a
change of capacity (R247).
A function reset (R418, R419, R421) after the boot window: rings, queues, translations and the host-facing registers lose
what they held, a commit in flight completes nowhere, the enabled ports of mills that replayed lose their frames (R79), an
export ends, and the tick, trays, lanes, walls and time bases go on as they were. It leaves one mark. With the window not
closed it does nothing.
Choices of the model on which it rests: notes/assumptions/45.md, notes/assumptions/46.md, notes/assumptions/106.md. -/
def Obligations.FunctionState : Prop :=
  (∀ (c : ConfigAccess) (s : State), s.Sound →
    Completes (.configRequest c) s fun t =>
      (s.power.pstate = .keep ∨ s.power.pstate = .reset → t = s) ∧
      (s.power.pstate ≠ .keep → s.power.pstate ≠ .reset →
        (s.boot.win = 0 → t = { s with out := Emission.configStatus true :: s.out }) ∧
        (s.boot.win ≠ 0 →
          (∀ i, c = .read i → t = { s with out := .configData i (s.configRead i) :: .configStatus false :: s.out }) ∧
          (∀ n v, c = .writeBar n v → t = { s with out := .configStatus false :: s.out, pci := t.pci } ∧
            t.configRead (.bar n) = ((v &&& (barMask n.val).1) ||| (barMask n.val).2)) ∧
          (∀ e, c = .write e → t.atsOn = e.ats ∧ t.priOn = e.pri ∧ t.relaxedOn = e.relaxed ∧
            t.pci = { bars := s.pci.bars, pasid := e.pasid, msix := e.msix, msixMask := e.msixMask, tags10 := e.tags10
                      maxPayload := e.maxPayload, maxRead := e.maxRead,
                      correctedMask := e.correctedMask } ∧ (e.ats = false → t.xcache = [] ∧ t.lookups = []) ∧
            t = { s with out := .configStatus false :: s.out, atsOn := e.ats, priOn := e.pri, relaxedOn := e.relaxed
                         pci := t.pci, priStop := t.priStop, xcache := t.xcache, lookups := t.lookups })))) ∧
  ((∀ s : State, s.boot.win = 1 → s.power.d3hot = false → s.power.pstate = .run ∨ s.power.pstate = .park →
    Completes .d3hotEntry s fun t =>
      t.power = { s.power with d3hot := true, pstate := if s.power.pstate = .run then .d3 else .park } ∧
      (∀ r : Fin 1024, s.kind r = 1 → ∀ y ∈ (t.ring r).records, y.oclass = 3) ∧ t.tick = s.tick ∧ t.trays = s.trays) ∧
  (∀ s : State, s.power.d3hot = true → Completes .d0Return s fun t =>
    t.power = { s.power with d3hot := false, pstate := if s.power.pstate = .d3 then .run else s.power.pstate }) ∧
  (∀ s : State, s.Sound → (s.boot.win ≠ 1 ∨ s.power.d3hot = true → Completes .d3hotEntry s fun t => t = s) ∧
    (s.power.d3hot = false → Completes .d0Return s fun t => t = s)) ∧
  (∀ (w : BitVec 5) (rate : BitVec 3) (flit up : Bool) (s : State), s.Sound →
    Completes (.linkChange w rate flit up) s fun t =>
      t.reg .hostLink = (if up then BitVec.ofNat 32 (w.toNat + rate.toNat * 256 + bit flit * 4096 + 8192) else 0) ∧
      (t.tick.capacity = true ↔ s.tick.capacity = true ∨
        (s.reg .hostLink).toNat % 4096 ≠ (t.reg .hostLink).toNat % 4096) ∧
      t.tick = { s.tick with capacity := t.tick.capacity } ∧
      t = { s with regs := t.regs, tick := t.tick })) ∧
  (∀ (k : FunctionResetKind) (s : State), s.Sound → s.power.pstate ≠ .keep → s.power.pstate ≠ .reset → s.boot.win = 1 →
    k ≠ .linkLoss ∨ s.power.d3hot = false →
    Completes (.functionReset k) s fun t =>
      (∀ r, (t.ring r).state = .off ∧ (t.ring r).writes = [] ∧ (t.ring r).records = [] ∧ (t.ring r).bufs = []) ∧
      t.xcache = [] ∧ t.prqs = [] ∧ t.lookups = [] ∧ t.queues = [] ∧ t.atsOn = false ∧ t.priOn = false ∧ t.pci = {} ∧
      t.power = { s.power with d3hot := false, pstate := if s.power.pstate = .d3 then .run else s.power.pstate } ∧
      (∀ r : Fin 1024, t.cons r = 0 ∧ t.prod r = 0) ∧ (k = .flr → t.reg .hostLink = s.reg .hostLink) ∧
      (∀ c ∈ t.tick.judging ++ t.tick.armed, c.mute = true) ∧ t.tick.num = s.tick.num ∧ t.trays = s.trays ∧
      t.lanes = s.lanes ∧ (∀ i : Fin 512, t.port i =
        if i.val ∈ s.enabledPorts ∧ s.replaying (i / 8) = true then { s.port i with stranded := true } else s.port i) ∧
      t.walls = s.walls ∧ (s.rcl.state ≠ .exporting → t.rcl = s.rcl) ∧ (s.rcl.state = .exporting → t.rcl.state = .frozen) ∧
      t.tb0 = s.tb0 ∧ t.tb1 = s.tb1 ∧ t.dram = s.dram ∧ t.markSeq = s.markSeq + 1) ∧
  (∀ (k : FunctionResetKind) (s : State), s.Sound → s.boot.win ≠ 1 ∨ (k = .linkLoss ∧ s.power.d3hot = true) →
    Completes (.functionReset k) s fun t => t = s)

/-! ### Outputs -/

/-- A funnel passes its oldest item (R126, R267, R268), a statistics record not before its tick (R201). A ring that takes its
class and has room gets it as a record, with its RSEQ at byte 56; a ring that takes it and has no room leaves it; for a ring
that does not take it the item is dropped and counted.
The output slot of a mill's statistics or of a tap passes the items that are due (R201); one not yet due stays, and a slot that
comes behind its place in the order of the tick passes nothing (R61).
Choices of the model on which it rests: notes/assumptions/42.md, notes/assumptions/93.md. -/
def Obligations.FunnelsPassItems : Prop :=
  (∀ (m : Fin 64) (f : Fin 5) (x : FunItem) (q : List FunItem) (s : State), s.Sound → s.dark = false →
    s.tick.halted = false → s.funnel (8 * m + f) = x :: q → x.ring < 1024 →
    Completes (.funnelDeliver m f) s fun t =>
      (s.now < x.due → t = s) ∧
      (x.due ≤ s.now → s.ringTakes x.ring (funnelClass f) = true → (s.ring x.ring).room x.bytes.length = true →
        t.funnel (8 * m + f) = q ∧ ∃ y, (t.ring x.ring).records = (s.ring x.ring).records ++ [y] ∧
          y.bytes = putSeq x.bytes 56 x.rseq ∧ y.rseq = x.rseq ∧ y.slot = s.now) ∧
      (x.due ≤ s.now → s.ringTakes x.ring (funnelClass f) = true → (s.ring x.ring).room x.bytes.length = false → t = s) ∧
      (x.due ≤ s.now → s.ringTakes x.ring (funnelClass f) = false → t.funnel (8 * m + f) = q ∧
        (s.kind x.ring ≠ 3 → t.ring x.ring = s.ring x.ring ∧
          t.reg .ringDrop x.ring = satAdd (s.reg .ringDrop x.ring) 1))) ∧
  (∀ (u : SlotUnit) (m : Fin 64) (f : Fin 5) (x : FunItem) (q : List FunItem) (k : Nat × Nat × Nat) (s : State), s.Sound →
    s.dark = false → s.tick.halted = false → (u = .stats m ∧ f = 4) ∨ (∃ t : Fin 4, u = .tap m t ∧ f.val = t.val) →
    s.funnel (8 * m + f) = x :: q → x.ring < 1024 → s.slotKey u = some k →
    Completes (.outputSlot u) s fun t =>
      (s.slotInOrder k = false → t = s) ∧
      (s.slotInOrder k = true → s.now < x.due → t = { s with tick := { s.tick with slotAt := some k } }) ∧
      (s.slotInOrder k = true → x.due ≤ s.now → s.ringTakes x.ring (funnelClass f) = true →
        (s.ring x.ring).room x.bytes.length = true →
        ∃ y ys, (t.ring x.ring).records = (s.ring x.ring).records ++ y :: ys ∧ y.rseq = x.rseq ∧
          y.bytes = putSeq x.bytes 56 x.rseq))

/-- The output slot of a wall takes its due frame and offers it to the ring that its tray names (R59, R267, R268): one record
of OCLASS wall with the ring's next RSEQ. The frame is due no longer, whatever becomes of it. With nothing due, or behind the
slot's place in the order of the tick (R61), nothing changes.
The recall export's slot (R242, R243): with no entry on its ring the oldest entry not yet taken is offered there as a record of
OCLASS recall export with the ring's next RSEQ; behind the last entry the export ends and the store is FROZEN, or released
where it is set so.
Choices of the model on which it rests: notes/assumptions/93.md. -/
def Obligations.OutputSlots : Prop :=
  ((∀ (w : Fin 256) (d : WallDue) (s : State), s.dark = false → s.tick.halted = false → (s.wall w).due = some d →
    s.slotInOrder (0, 3 - wGet d.bank WW.prio, w.val) = true → s.tick.shedWalls.contains w.val = false →
    Completes (.outputSlot (.wall w)) s fun t => (t.wall w).due = none ∧
      ∀ r, ringOf d.bank = some r → t.reg .ringSeq r = s.reg .ringSeq r + 1 ∧
        (s.ringTakes r 0 = true → ∃ y, (t.ring r).records = (s.ring r).records ++ [y] ∧ y.rseq = s.reg .ringSeq r ∧
          y.oclass = 0 ∧ y.slot = s.now)) ∧
  (∀ (u : SlotUnit) (s : State), s.Sound → s.dark = true ∨ s.tick.halted = true ∨ s.slotKey u = none ∨
    (∃ k, s.slotKey u = some k ∧ s.slotInOrder k = false) → Completes (.outputSlot u) s fun t => t = s)) ∧
  (∀ s : State, s.dark = false → s.tick.halted = false → s.rcl.state = .exporting → s.rcl.releasing = [] →
    s.slotInOrder (1, s.rcl.exportRing, 0) = true → s.rcl.exportRing < 1024 →
    (s.ring s.rcl.exportRing).records = [] → (s.ring s.rcl.exportRing).halting = none →
    s.ringTakes s.rcl.exportRing 3 = true →
    Completes (.outputSlot .recallExport) s fun t =>
      (∀ i e, (s.rcl.entries.findIdx? fun e => !e.sent) = some i → s.rcl.entries[i]? = some e → (s.region 3 0).isSome = true →
        ∃ y, (t.ring s.rcl.exportRing).records = [y] ∧ y.oclass = 3 ∧ y.rseq = s.reg .ringSeq s.rcl.exportRing ∧
          t.reg .ringSeq s.rcl.exportRing = s.reg .ringSeq s.rcl.exportRing + 1 ∧ t.rcl.state = .exporting ∧
          t.rcl.entries = s.rcl.entries.set i { e with sent := true }) ∧
      ((s.rcl.entries.all fun e => e.sent) = true → t.rcl.state = .frozen ∧
        (s.flag .wallRclCfg 0 0 28 = true → t.rcl.restart = true ∧ t.rcl.entries = []) ∧
        (s.flag .wallRclCfg 0 0 28 = false → t.rcl.entries = s.rcl.entries)))

/-- The write engine takes the first ring in its order and writes the next unit of its front record where its buffers stand
(R279, R286): the first bytes go to the first buffer behind what it holds, under the ring's attributes (R290, R293), and the
ring goes on by one unit, or is done with the record. A ring of lower PCLASS whose unit was the last, and which has another
ready, waits for it (R287). With no ring ready nothing is written.
Records dropped at the end of a tick. One that found no buffers by the end of its slot's tick goes with a count in
HOST_RING_DROP (R267). The front record of a ring that still waits when tick k + FB ends goes too, and the buffers it had
begun complete (R283, R284). With no such record nothing changes.
Choices of the model on which it rests: notes/assumptions/49.md. -/
def Obligations.RecordsAreWrittenOrDropped : Prop :=
  ((∀ (r : Nat) (rs : List Nat) (b : OutBuf) (bs : List OutBuf) (y : Record) (ys : List Record) (n p : Nat) (ps : List Nat)
    (s u : State), s.busUp = true → s.engineOrder = r :: rs → s.kind r = 1 →
    (s.ring r).bufs = b :: bs → b.bad = none → b.written < b.len → (s.ring r).records = y :: ys →
    (s.ring r).nextUnit = some n → 0 < n → s.preparePieces r true (piecesOf (b :: bs) n) = (.go (p :: ps), u) →
    Completes .writeUnit s fun t => t.engine = some r ∧
      (∃ xs bytes, t.out = xs ++ .hostWrite r (p * 4096 + (b.addr + b.written) % 4096) bytes (s.hostAttr r true) :: s.out ∧
        bytes = (((y.bytes.drop (s.ring r).done).take n).take (min (b.len - b.written) n)).take
          (4096 - (b.addr + b.written) % 4096)) ∧
      ((t.ring r).state ≠ .halt → y.oclass ≠ 3 → y.bytes.length ≤ (s.ring r).done + n →
        (t.ring r).records = ys ∧ (t.ring r).done = 0) ∧
      ((t.ring r).state ≠ .halt → (s.ring r).done + n < y.bytes.length → (t.ring r).records = y :: ys ∧
        (t.ring r).done = (s.ring r).done + n ∧ (t.ring r).unitsDone = (s.ring r).unitsDone + 1) ∧
      (∀ r0, (t.ring r).state ≠ .halt → y.oclass ≠ 3 → s.engine = some r0 → r0 ≠ r → s.kind r0 = 1 →
        (s.ring r0).state = .run → s.unitReady r0 = true → s.pclass r0 < s.pclass r →
        (t.ring r0).state = .wait ∧ (t.ring r0).preempted = true ∧
          t.reg .xlatPreempt = satAdd (s.reg .xlatPreempt) 1)) ∧
  (∀ s : State, s.Sound → s.busUp = false ∨ s.engineOrder = [] → Completes .writeUnit s fun t => t = s)) ∧
  ((∀ (r : Fin 1024) (s : State), s.Sound →
    Completes (.ringSlackDrop r) s fun t =>
      (∀ i, s.kind r = 1 → s.lacking r = some i → t.ring r = { s.ring r with records := (s.ring r).records.eraseIdx i } ∧
        t.reg .ringDrop r = satAdd (s.reg .ringDrop r) 1) ∧
      (s.lacking r = none → t = s)) ∧
  (∀ (r : Fin 1024) (y : Record) (ys : List Record) (s : State), s.kind r = 1 → (s.ring r).records = y :: ys →
    y.oclass ≠ 3 → y.slot + s.field .xlatRingFb r 0 0 2 < s.now → (s.ring r).unitsDone ≠ 0 → (s.ring r).halting = none →
    (s.ring r).state = .run ∨ (s.ring r).state = .wait →
    Completes (.faultDeadlineDrop r) s fun t => (t.ring r).state = .halt ∨
      ((t.ring r).records = ys ∧ (t.ring r).done = 0 ∧ (t.ring r).unitsDone = 0 ∧ (t.ring r).state = .run ∧
        t.reg .ringDrop r = satAdd (s.reg .ringDrop r) 1 ∧ ∀ b ∈ (t.ring r).bufs, b.written = 0)) ∧
  (∀ (r : Fin 1024) (s : State), s.Sound → (s.ring r).records = [] ∨
    (∃ y ys, (s.ring r).records = y :: ys ∧ (y.oclass = 3 ∨ s.now ≤ y.slot + s.field .xlatRingFb r 0 0 2)) →
    Completes (.faultDeadlineDrop r) s fun t => t = s))

/-- A remote frame that has not come by its edge is filled with the cause remote late (R223); tick T_f of a pending freeze ends
with the store FROZEN, one mark of its trigger's origin, and its entries as they are (R241). Where neither is so, nothing
changes.
A streaming wall sends its lines in order (R227): a line for which some stone is not yet there waits; otherwise it leaves, and
behind the last line the frame is done. The next frame begins with line 0, and with no frame to begin nothing leaves.
Choices of the model on which it rests: notes/assumptions/24.md, notes/assumptions/54.md. -/
def Obligations.WallsStreamAndFreeze : Prop :=
  ((∀ (w : Fin 256) (e : Fin 64) (s : State), s.Sound →
    Completes (.remoteLate w e) s fun t =>
      (∀ d, (s.wall w).due = some d → d.late.contains e.val = true →
        t = s.setWall w { s.wall w with due := some { d with
          late := d.late.filter (· ≠ e.val), fills := d.fills ++ [(e.val, FillCause.remoteLate)] } }) ∧
      (((s.wall w).due.all fun d => !d.late.contains e.val) = true → t = s)) ∧
  (∀ s : State, s.rcl.state = .recording → s.rcl.pend = true → s.rcl.tf.toNat < s.now →
    Completes .freezeTickEnd s fun t => t.rcl = { s.rcl with state := .frozen, pend := false, lost := false } ∧
      t.markSeq = s.markSeq + 1 ∧ State.Frame { s with rcl := t.rcl, marks := t.marks, markSeq := t.markSeq } t) ∧
  (∀ s : State, s.Sound → s.rcl.state ≠ .recording ∨ s.rcl.pend = false ∨ s.now ≤ s.rcl.tf.toNat →
    Completes .freezeTickEnd s fun t => t = s)) ∧
  ((∀ (w : Fin 256) (d : WallDue) (e : Nat × Stone) (es : List (Nat × Stone)) (s : State), s.Sound →
    s.dark = false → s.tick.halted = false → s.tick.shedWalls.contains w.val = false → (s.wall w).stream = some d →
    localStones d.bank = e :: es →
    Completes (.streamLineSend w) s fun t =>
      (e.2.py ≤ (s.wall w).streamLine → (s.wall w).streamLine < e.2.py + e.2.oh →
        (∃ x ∈ e :: es, s.lineNow d.bank d d.addr ((s.wall w).streamLine - e.2.py) x = .waits) → t = s) ∧
      (((s.wall w).streamLine < e.2.py ∨ e.2.py + e.2.oh ≤ (s.wall w).streamLine ∨
          ∀ x ∈ e :: es, s.lineNow d.bank d d.addr ((s.wall w).streamLine - e.2.py) x ≠ .waits) →
        ((s.wall w).streamLine + 1 ≠ wallH d.bank → (t.wall w).streamLine = (s.wall w).streamLine + 1 ∧
          ((t.wall w).stream.map (·.tick)) = some d.tick) ∧
        ((s.wall w).streamLine + 1 = wallH d.bank → (t.wall w).stream = none ∧ (t.wall w).streamLine = 0))) ∧
  (∀ (w : Fin 256) (k j : Nat) (s : State), s.Sound → s.dark = false → s.tick.halted = false →
    s.tick.shedWalls.contains w.val = false → (s.wall w).stream = none → s.nextTrigger w = some (k, j) →
    Completes (.streamLineSend w) s fun t =>
      (((s.linesAt (s.newStream w k j) 0).any fun l => l.2 = .waits) = true → t = s) ∧
      (((s.linesAt (s.newStream w k j) 0).any fun l => l.2 = .waits) = false → (t.wall w).streamed = j ∧
        (1 ≠ wallH (s.wallAt w j).1 → (t.wall w).streamLine = 1 ∧ ((t.wall w).stream.map (·.tick)) = some j))) ∧
  (∀ (w : Fin 256) (s : State), s.Sound → s.dark = true ∨ s.tick.halted = true ∨
    s.tick.shedWalls.contains w.val = true ∨ ((s.wall w).stream = none ∧ s.nextTrigger w = none) →
    Completes (.streamLineSend w) s fun t => t = s))

/-! ### Ethernet -/

/-- Split ports (R309, R317). Link-up brings up a split port that MODE creates while EN is 1. When it goes down, every stream
that it carries loses what it has begun, each counted as one drop, and no PDU of it remains. A port that is so already stays
as it is.
A frame received on a split port that is up is counted (R310): gPTP messages of the PTP port in ETH_RX_PTP, all others,
which are dropped, in ETH_RX_OTHER. A gPTP event message is stamped in TB0, with DLY_RX subtracted (R321). On a split port that
is down nothing is counted or stamped.
Choices of the model on which it rests: notes/assumptions/12.md, notes/assumptions/80.md, notes/assumptions/104.md. -/
def Obligations.EthernetPorts : Prop :=
  ((∀ (x : Fin 8) (s : State), s.splitExists x = true → s.flag .ethCfg (x / 4) 0 0 = true → (s.split x).up = false →
    Completes (.splitPortUp x) s fun t => t.split x = { s.split x with up := true } ∧
      State.Frame { s with splits := t.splits, marks := t.marks } t) ∧
  (∀ (x : Fin 8) (s : State), (s.split x).up = true → Completes (.splitPortDown x) s fun t =>
    (t.split x).up = false ∧ (t.split x).credits = [] ∧
    ∀ n : Fin 256, s.streamSub n = x →
      (∀ p ∈ (t.split x).queued, p.stream ≠ n.val) ∧
      ((s.begun x n).isSome = true → t.reg .ethStrDrop n = satAdd (s.reg .ethStrDrop n) 1)) ∧
  (∀ (x : Fin 8) (s : State), s.Sound →
    (s.splitExists x = false ∨ s.flag .ethCfg (x / 4) 0 0 = false ∨ (s.split x).up = true →
      Completes (.splitPortUp x) s fun t => t = s) ∧
    ((s.split x).up = false → Completes (.splitPortDown x) s fun t => t = s))) ∧
  (∀ (x : Fin 8) (frame : List Byte) (ok : Bool) (dt : Nat) (s : State), s.Sound →
    Completes (.ethFrameReceived x frame ok dt) s fun t =>
      ((s.split x).up = true →
        t.reg .ethRxPtp x = (if s.isGptp x frame ok then satAdd (s.reg .ethRxPtp x) 1 else s.reg .ethRxPtp x) ∧
        t.reg .ethRxOther x = (if s.isGptp x frame ok then s.reg .ethRxOther x else satAdd (s.reg .ethRxOther x) 1) ∧
        t.out = (if s.isGptp x frame ok && isEventFrame frame then
          [Emission.gptpStamp x (s.inDomain (frame.drop 14)) (timeValue
            ((s.elapse dt).tb0.subns - (s.reg .ethPtpDlyRx x).toNat) ((s.elapse dt).tb0.tag 0))] else []) ++ (s.elapse dt).out ∧
        State.Frame { s.elapse dt with regs := t.regs, out := t.out } t) ∧
      ((s.split x).up = false → t = s.elapse dt))

/-- The device's gPTP messages leave on the PTP port while it is up (R310, R321, R322): to the gPTP address, from the port's own,
with the domain of the instance. An event message bears the TB0 time of its start with DLY_TX added; a one-step Sync holds
that time in its body, and a two-step one leaves it to the Follow_Up behind it.
The queue of highest priority whose gate and shaper allow it sends its oldest PDU (R314, R316), with the stream's next
sequence_num; nothing else leaves the port's queues, and where none may start nothing changes.
A staged wall frame of tick k whose PDUs remain unsent at the edge of tick k + 2 is truncated (R317): no PDU of its stream
stays queued, and the drop is counted. One that is in time is left alone.
Choices of the model on which it rests: notes/assumptions/12.md, notes/assumptions/13.md, notes/assumptions/79.md,
notes/assumptions/80.md, notes/assumptions/104.md. -/
def Obligations.EthernetSends : Prop :=
  (∀ (k : GptpKind) (body : List Byte) (dt x : Nat) (s : State), s.Sound → x = s.field .ethPtpCfg 0 0 0 3 →
    Completes (.gptpMessageSend k body dt) s fun t =>
      ((s.split x).up = true → body.length ≤ 1504 → ∃ (st : BitVec 128) (b : List Byte),
        st = timeValue ((s.elapse dt).tb0.subns + (s.reg .ethPtpDlyTx x).toNat) ((s.elapse dt).tb0.tag 0) ∧
        t.out = .gptp x gptpAddress (macAddress (s.reg .ethMacLo x) (s.reg .ethMacHi x)) k b
          (if isEventMessage k then st else 0) :: s.out ∧
        (k = .sync → s.flag .ethPtpCfg 0 0 3 = true → ∃ n, b = withCorrection (withOrigin (s.withDomain body) st) n) ∧
        (k = .sync → s.flag .ethPtpCfg 0 0 3 = false → b = s.withDomain body ∧ (t.split x).syncStamp = st) ∧
        (k = .followUp → s.flag .ethPtpCfg 0 0 3 = false → b = withOrigin (s.withDomain body) (s.split x).syncStamp) ∧
        (k ≠ .sync → k ≠ .followUp ∨ s.flag .ethPtpCfg 0 0 3 = true → b = s.withDomain body) ∧
        t = { s.elapse dt with out := t.out, splits := t.splits, free := t.free }) ∧
      ((s.split x).up = false ∨ 1504 < body.length → t = s.elapse dt)) ∧
  (∀ (x : Fin 8) (s : State), s.Sound →
    Completes (.pduTransmit x) s fun t =>
      (∀ p, (s.split x).up = true → s.dark = false →
        ([7, 6, 5, 4, 3, 2, 1, 0].findSome? fun q => s.mayStart x q) = some p →
        t.out = .ethPdu x (s.ethHead x p) p :: s.out ∧ (t.split x).queued = (s.split x).queued.erase p ∧
        (t.stream p.stream).seq = (s.stream p.stream).seq + 1 ∧ t.reg .ethTxPdu x = satAdd (s.reg .ethTxPdu x) 1 ∧
        t = { s with splits := t.splits, streams := t.streams, regs := t.regs, out := t.out }) ∧
      ((s.split x).up = false ∨ s.dark = true ∨
        ([7, 6, 5, 4, 3, 2, 1, 0].findSome? fun q => s.mayStart x q) = none → t = s)) ∧
  (∀ (n : Fin 256) (s : State), s.Sound → Completes (.streamTruncate n) s fun t =>
    (((s.split (s.streamSub n)).queued.any fun p => p.stream = n.val && !p.streaming && decide (p.tick + 2 ≤ s.now)) = true →
      (∀ p ∈ (t.split (s.streamSub n)).queued, p.stream ≠ n.val) ∧ (t.stream n).live = none ∧
      t.reg .ethStrDrop n = satAdd (s.reg .ethStrDrop n) 1) ∧
    (((s.split (s.streamSub n)).queued.all fun p => p.stream ≠ n.val || p.streaming || decide (s.now < p.tick + 2)) = true →
      t = s))

/-- A gate list (R320). CHANGE asks admission to judge the admin list. Once it is accepted and its instant has come, the
operational list is the admin list with its cycle based there, CHANGE reads 0, and one mark tells it.
A write of CHN_RSV is a change of capacity (R347): the register holds the value, and admission is to run.
Choices of the model on which it rests: notes/assumptions/76.md. -/
def Obligations.CapacityChanges : Prop :=
  ((∀ (x : Fin 8) (o : Origin) (v : Word) (s : State), s.Accepts o ⟨.ethGclCtl, x.val, 0⟩ (v ||| 2) →
    s.flag .ethGclCtl x 0 1 = false →
    Completes (.gateListChange x o v) s fun t => t.tick = { s.tick with gateRuns := s.tick.gateRuns ++ [x.val] } ∧
      t.flag .ethGclCtl x 0 1 = true ∧ t.split x = { s.split x with changeOrigin := o, changeResult := 0 }) ∧
  (∀ (x : Fin 8) (s : State), s.flag .ethGclCtl x 0 1 = true → (s.split x).changeResult ≠ 0 →
    (s.split x).effectAt ≤ s.tb0.ns →
    Completes (.gateListTakeEffect x) s fun t =>
      t.split x = { s.split x with operational := s.adminList x, cycleBase := (s.split x).effectAt } ∧
      t.flag .ethGclCtl x 0 1 = false ∧ t.markSeq = s.markSeq + 1 ∧
      State.Frame { s with splits := t.splits, regs := t.regs, marks := t.marks, markSeq := t.markSeq } t)) ∧
  (∀ (x : Fin 2) (o : Origin) (v : Word) (s : State), s.Accepts o ⟨.chnRsv, x.val, 0⟩ v →
    Completes (.chnRsvWrite x o v) s fun t => t.reg .chnRsv x = RegName.chnRsv.row.merge (s.reg .chnRsv x) v ∧
      t.tick = { s.tick with capacity := true } ∧ t.markSeq = s.markSeq + 1 ∧
      State.Frame { s with regs := t.regs, tick := t.tick, marks := t.marks, markSeq := t.markSeq } t)

/-! ### The chain -/

/-- What the device sends of itself (R327, R328, R331, R337, R343): HELLO on every LINKED port; a keystone's INAUG on every open
one, with address 1 upward and NA + 1 downward, and an isolated lead's with ISO; the keystone's TIME on both, a member's on
the port facing away from it. Nothing but what leaves the device changes, and of any other device nothing leaves.
The measurement of a port's delay (R337). The request leaves the port that faces the keystone and its TB1 instant t1 is
held; the answer gives the TB1 instant of arrival and its own; and the response sets CHN_DELAY to half of the round trip
less the peer's part.
Links and peers (R326). A port whose lanes both lock is LINKED; one whose lock goes is not, is no PEER and not blocked. A valid
HELLO on a LINKED port makes it PEER and is held; 10 ms without one end that, and no time short of it does.
Isolation (R331, R334, R343): a member that takes no INAUG for 100 ms isolates itself with cause 4, loses its address from the
next tick on and leaves one mark, and no time short of that isolates it. An INAUG of its own key that comes back to a lead, and
one that has come on the other port, closes that port against a ring. The readiness time of an epoch ends once.
Choices of the model on which it rests: notes/assumptions/81.md, notes/assumptions/85.md, notes/assumptions/89.md. -/
def Obligations.ChainLinks : Prop :=
  (∀ s : State, s.Sound →
    (s.chainOn = true → Completes .helloSend s fun t => t = { s with out := t.out } ∧
      ∀ x : Fin 2, (s.cport x).linked = true →
        .chainPacket x (chainBytes 1 0 s.orig 0 s.now (s.helloFor x)) ∈ t.out) ∧
    (s.chainOn = true → s.isKey = true ∨ (s.chain.role = 3 ∧ s.leads = true) →
      Completes .inaugSend s fun t => t = { s with out := t.out } ∧ ∀ x : Fin 2, s.chainOpen x = true →
        .chainPacket x (chainBytes 2 0 s.orig 0 s.now (s.inaugBody { s.chain.told with key := Config.deviceId }
          (if x = 0 then 1 else s.chain.told.na.toNat + 1) (!s.isKey) x s.digest.toNat)) ∈ t.out) ∧
    (s.chainOn = true → s.chain.role = 1 ∨ s.chain.role = 2 → Completes .timeSend s fun t => t = { s with out := t.out } ∧
      ∀ x : Fin 2, s.chain.role = 1 ∨ x.val ≠ s.chain.toward → s.chainOpen x = true →
        .chainPacket x (chainBytes 3 (s.hops 0) s.orig 0 s.now
          (bytesOf 16 s.stamp ++ leBytes 4 (s.errNs 1) ++ [BitVec.ofNat 8 s.clevel] ++ leBytes 11 0)) ∈ t.out) ∧
    (s.chainOn = false → Completes .helloSend s fun t => t = s) ∧
    (s.chainOn = false ∨ (s.isKey = false ∧ (s.chain.role ≠ 3 ∨ s.leads = false)) →
      Completes .inaugSend s fun t => t = s) ∧
    (s.chainOn = false ∨ (s.chain.role ≠ 1 ∧ s.chain.role ≠ 2) → Completes .timeSend s fun t => t = s)) ∧
  ((∀ (dt : Nat) (s : State), s.Sound →
    Completes (.delayReqSend dt) s fun t =>
      (s.chainOn = true → s.chain.role ≠ 1 → s.chain.taken = true → (s.cport s.chain.toward).linked = true →
        (t.cport s.chain.toward).t1 = some (s.elapse dt).tb1.subns ∧
        t.out = .chainPacket s.chain.toward (chainBytes 4 0 s.orig 0 s.now []) :: s.out) ∧
      (s.chainOn = false ∨ s.chain.role = 1 ∨ s.chain.taken = false ∨ (s.cport s.chain.toward).linked = false →
        t = s.elapse dt)) ∧
  (∀ (x : Fin 2) (dt : Nat) (s : State), s.Sound →
    Completes (.delayReqReceived x dt) s fun t =>
      (s.chainOn = true → (s.cport x).linked = true → t = (s.elapse dt).emit (.chainPacket x (chainBytes 5 0 s.orig 0 s.now
        (bytesOf 16 (s.elapse dt).stamp ++ bytesOf 16 (s.elapse dt).stamp)))) ∧
      (s.chainOn = false ∨ (s.cport x).linked = false → t = s.elapse dt)) ∧
  (∀ (x : Fin 2) (p : BitVec 256) (dt : Nat) (s : State), s.Sound →
    Completes (.delayRspReceived x p dt) s fun t =>
      (∀ t1, s.chainOn = true → (s.cport x).linked = true → (s.cport x).t1 = some t1 →
        (t.cport x).t1 = none ∧
        t.reg .chnDelay x = BitVec.ofInt 32 (quot ((((s.elapse dt).tb1.subns : Int) - t1)
          - ((stampSubns (BitVec.ofNat 128 (numAt p 16 16)) : Int) - stampSubns (BitVec.ofNat 128 (numAt p 0 16)))) 2) ∧
        State.Frame { s.elapse dt with cports := t.cports, regs := t.regs } t) ∧
      (s.chainOn = false ∨ (s.cport x).linked = false ∨ (s.cport x).t1 = none → t = s.elapse dt))) ∧
  (∀ (x : Fin 2) (s : State),
    (s.chainOn = true → Completes (.chainLinkChange x true) s (fun t => (t.cport x).linked = true ∧
      ((s.cport x).linked = false → (t.cport x).skew = [] ∧ (t.cport x).nextSeq = none)) ∧
    ((s.cport x).linked = true → Completes (.chainLinkChange x false) s fun t => (t.cport x).linked = false ∧
      (t.cport x).peer = false ∧ (t.cport x).blocked = false ∧ (t.cport x).t1 = none) ∧
    (∀ p : BitVec 256, (s.cport x).linked = true → Completes (.helloReceived x p) s fun t =>
      (t.cport x).hello = p ∧ (t.cport x).peer = true ∧ (t.cport x).linked = true)) ∧
    ((s.cport x).peer = true → 12500000 ≤ s.clock - (s.cport x).helloClock →
      Completes (.helloTimeout x) s fun t => (t.cport x).peer = false ∧ (t.cport x).linked = (s.cport x).linked) ∧
    (s.Sound → (s.cport x).peer = false ∨ s.clock - (s.cport x).helloClock < 12500000 →
      Completes (.helloTimeout x) s fun t => t = s) ∧
    (∀ p, s.Sound → s.chainOn = false ∨ (s.cport x).linked = false →
      Completes (.helloReceived x p) s fun t => t = s)) ∧
  ((∀ s : State, s.chainOn = true → s.chain.role = 2 → 125000000 ≤ s.clock - s.chain.takenClock →
    Completes .inaugTimeout s fun t =>
      t.chain.role = 3 ∧ t.chain.icause = 4 ∧ t.chain.applyAt = none ∧ t.devAt (s.now + 1) = 0 ∧ t.markSeq = s.markSeq + 1) ∧
  (∀ s : State, s.Sound → s.chainOn = false ∨ s.chain.role ≠ 2 ∨ s.clock - s.chain.takenClock < 125000000 →
    Completes .inaugTimeout s fun t => t = s) ∧
  (∀ (x : Fin 2) (hdr : BitVec 128) (p : BitVec 256) (s : State), s.chainOn = true → s.chainOpen x = true →
    (s.Sound → s.leads = true → BitVec.ofNat 64 (numAt p 0 8) = Config.deviceId →
      Completes (.inaugReceived x hdr p) s fun t => t = s.setCport x { s.cport x with blocked := true }) ∧
    (BitVec.ofNat 64 (numAt p 0 8) ≠ Config.deviceId → s.inaugLoops x p = true →
      Completes (.inaugReceived x hdr p) s fun t => (t.cport x).blocked = true)) ∧
  (∀ s : State, s.chainOn = true → s.chain.readyTimer = true → s.clevel < 4 → s.field .chnCfg 0 0 8 8 ≠ 0 →
    s.field .chnCfg 0 0 8 8 * 1250000000 ≤ s.clock - s.chain.epochClock →
    Completes .readinessTimeout s fun t => t.chain = { s.chain with readyTimer := false } ∧
      State.Frame { s with chain := t.chain, marks := t.marks } t) ∧
  (∀ s : State, s.Sound → s.chainOn = false ∨ s.chain.readyTimer = false ∨ 4 ≤ s.clevel ∨ s.field .chnCfg 0 0 8 8 = 0 ∨
    s.clock - s.chain.epochClock < s.field .chnCfg 0 0 8 8 * 1250000000 →
    Completes .readinessTimeout s fun t => t = s))

/-- Epochs (R329, R331 to R335, R340, R341, R343). A lead that has heard no other keystone for 100 ms starts its epoch, in force
two ticks on, when it takes the role; one whose floor exceeds the agreed versions isolates itself with cause 2. A member that
takes an agreeing INAUG knows the epoch and its address, and when to apply it; one that disagrees with the digest isolates
itself with cause 1. At its tick the epoch is in force: role, EPOCH, NMEM, NA and address are the INAUG's, with one mark, and
before it nothing changes.
TIME from the keystone's side (R337, R338): a member whose TB1 takes chain time and is LOCKED filters the offset between the
time received, with the port's delay, and its own; the keystone's level is held. An isolated device passes it on with the
port's delay and its residence time, which nothing fixes, added.
Choices of the model on which it rests: notes/assumptions/82.md, notes/assumptions/83.md, notes/assumptions/85.md,
notes/assumptions/87.md. -/
def Obligations.ChainEpochs : Prop :=
  ((∀ s : State, s.chainOn = true → s.leads = true → s.isKey = false → s.keysHeard = [] →
    (∀ c, s.chain.foreign = some c → 125000000 ≤ s.clock - c) → (∀ x : Fin 2, (s.cport x).blocked = false) →
    Completes .becomeKeystone s fun t =>
      (floorAbove s.boot.floor s.agreed = false → t.chain.role = s.chain.role ∧ t.isKey = true ∧
        t.chain.told.key = Config.deviceId ∧ t.chain.told.role = 1 ∧ t.chain.told.epoch = s.chain.told.epoch + 1 ∧
        t.chain.told.nEff = BitVec.ofNat 64 (s.now + 2) ∧ t.chain.applyAt = some (s.now + 2)) ∧
      (floorAbove s.boot.floor s.agreed = true → t.chain.role = 3 ∧ t.chain.icause = 2)) ∧
  (∀ s : State, s.Sound → s.chainOn = false ∨ s.leads = false ∨ s.isKey = true ∨ s.keysHeard ≠ [] ∨
    (∃ c, s.chain.foreign = some c ∧ s.clock - c < 125000000) → Completes .becomeKeystone s fun t => t = s) ∧
  (∀ (x : Fin 2) (hdr : BitVec 128) (p : BitVec 256) (s : State), s.chainOn = true → s.chainOpen x = true →
    s.leads = false → s.chain.heard = [] → s.chain.applyAt = none → s.inaugLoops x p = false →
    BitVec.ofNat 64 (numAt p 0 8) ≠ Config.deviceId → (numAt p 11 1).testBit 0 = false → numAt p 10 1 < 32 →
    floorAbove s.boot.floor (BitVec.ofNat 32 (numAt p 16 4)) = false → s.chain.role = 0 ∨ s.chain.role = 3 →
    Completes (.inaugReceived x hdr p) s fun t => t.chain.taken = true ∧ t.chain.slot = BitVec.ofNat 8 (numAt p 10 1) ∧
      t.chain.orient = decide (x = 1) ∧ t.chain.told.addr = BitVec.ofNat 5 (numAt p 10 1) ∧
      t.chain.told.epoch = BitVec.ofNat 16 (numAt p 8 2) ∧ t.chain.told.role = 2 ∧
      t.chain.aver = some (BitVec.ofNat 32 (numAt p 16 4)) ∧ t.reg .chnKdigest = BitVec.ofNat 32 (numAt p 12 4) ∧
      (crc32 (leBytes 4 (s.reg .tickPeriodNs).toNat ++ leBytes 4 (s.reg .tickPhaseNs).toNat
        ++ [BitVec.ofNat 8 (s.field .tickCfg 0 0 0 2), 0] ++ leBytes 4 (BitVec.ofNat 32 (numAt p 16 4)).toNat ++ [0, 0])
        = BitVec.ofNat 32 (numAt p 12 4) →
        t.chain.applyAt = some (max (numAt p 20 8) (s.now + 1)) ∧ t.chain.role = s.chain.role) ∧
      (crc32 (leBytes 4 (s.reg .tickPeriodNs).toNat ++ leBytes 4 (s.reg .tickPhaseNs).toNat
        ++ [BitVec.ofNat 8 (s.field .tickCfg 0 0 0 2), 0] ++ leBytes 4 (BitVec.ofNat 32 (numAt p 16 4)).toNat ++ [0, 0])
        ≠ BitVec.ofNat 32 (numAt p 12 4) → t.chain.role = 3 ∧ t.chain.icause = 1 ∧ t.chain.applyAt = none)) ∧
  (∀ (n : Nat) (s : State), s.chainOn = true → s.chain.applyAt = some n → n ≤ s.now → s.chain.role ≠ 3 →
    Completes .epochApply s fun t =>
      (s.chain.told.role = 2 → t.chain.role = 2 ∧ t.chain.epoch = s.chain.told.epoch ∧
        t.chain.nmem = s.chain.told.nmem ∧ t.chain.na = s.chain.told.na ∧ t.chain.addr = s.chain.told.addr ∧
        t.chain.applyAt = none ∧ t.reg .chnVerAgreed = s.chain.told.agreed ∧ t.devAt s.now = s.chain.told.addr.toNat ∧
        t.markSeq = s.markSeq + 1) ∧
      (s.chain.told.role = 1 → floorAbove s.boot.floor s.agreed = false → (∀ x : Fin 2, (s.cport x).blocked = false) →
        t.chain.role = 1 ∧ t.chain.slot = 0 ∧ t.chain.slotValid = true ∧ t.chain.epoch = s.chain.told.epoch ∧ t.chain.addr = s.chain.told.addr ∧
        t.reg .chnVerAgreed = s.boot.version ∧ t.devAt s.now = s.chain.told.addr.toNat ∧
        t.markSeq = s.markSeq + 1)) ∧
  (∀ s : State, s.Sound → s.chainOn = false ∨ (s.isKey = false ∧ ∀ n, s.chain.applyAt = some n → s.now < n) →
    Completes .epochApply s fun t => t = s)) ∧
  ((∀ (x : Fin 2) (hdr : BitVec 128) (p : BitVec 256) (dt : Nat) (s : State), s.chainOn = true → s.chainOpen x = true →
    s.chain.toward = x → s.chain.role = 2 → s.takesUpdates 1 = true → s.tb1.state = .locked →
    (s.elapse dt).steps 1 ((stampSubns (BitVec.ofNat 128 (numAt p 0 16)) : Int) + s.delayIn x - (s.elapse dt).tb1.subns)
      = false →
    Completes (.timeReceived x hdr p dt) s fun t => t.chain.clevel = BitVec.ofNat 3 (numAt p 20 1) ∧
      t.tb1.fo = s.tb1.fo + rnd ((stampSubns (BitVec.ofNat 128 (numAt p 0 16)) : Int) + s.delayIn x
        - (s.elapse dt).tb1.subns - s.tb1.fo) 2 ∧
      t.tb1.srcErr = numAt p 16 4 + 1 ∧ t.tb1.lastUpdate = some (s.clock + dt) ∧ t.tb1.state = .locked) ∧
  (∀ (x : Fin 2) (hdr : BitVec 128) (p : BitVec 256) (dt : Nat) (s : State), s.Sound → s.chainOn = true →
    s.chainOpen x = true → s.chain.role = 3 →
    Completes (.timeReceived x hdr p dt) s fun t => t.chain.clevel = BitVec.ofNat 3 (numAt p 20 1) ∧ t.tb1 = (s.elapse dt).tb1 ∧
      (s.chainOpen (1 - x) = true → ∃ n : Nat, t.out = .chainPacket (1 - x.val)
        (chainBytes 3 (hdrHop hdr + 1) (hdrOrig hdr) (numAt hdr 3 1) (hdrTick hdr)
          (bytesOf 16 (timeValue ((stampSubns (BitVec.ofNat 128 (numAt p 0 16)) : Int) + s.delayIn x + n).toNat (numAt p 6 2))
            ++ leBytes 4 (min 0xFFFFFFFF (numAt p 16 4 + 1)) ++ (leBytes 32 p.toNat).drop 20)) :: s.out)) ∧
  (∀ (x : Fin 2) (hdr : BitVec 128) (p : BitVec 256) (dt : Nat) (s : State), s.Sound →
    s.chainOn = false ∨ s.chainOpen x = false ∨ (s.chain.role = 2 ∧ s.chain.toward ≠ x) ∨
      (s.chain.role ≠ 2 ∧ s.chain.role ≠ 3) → Completes (.timeReceived x hdr p dt) s fun t => t = s.elapse dt))

/-- Remote frames (R344 to R346). A piece for this device's walls joins their arrivals while its wall frame has still to end, and
is counted as discarded when it comes too late or no wall has a frame for it; every piece waits to go on out of the other LINKED port. At its edge a piece
of a frame that came whole goes on with HOP + 1 within the reservation, and is dropped and counted otherwise. On a port that
is not open a piece changes nothing.
An ALARM is acted on once for each ORIG and TF (R348): it goes on out of the other PEER port, and where the device takes chain
alarms it is a trigger of the recall store. The same alarm again, and the device's own, change nothing.
Choices of the model on which it rests: notes/assumptions/86.md, notes/assumptions/87.md. -/
def Obligations.ChainFramesAndAlarms : Prop :=
  ((∀ (x : Fin 2) (hdr : BitVec 128) (p : List Byte) (s : State), s.chainOn = true → s.chainOpen x = true →
    Completes (.framePieceReceived x hdr p) s fun t =>
      ((s.cport (1 - x.val)).linked = true → (t.cport (1 - x.val)).relay =
        (s.cport (1 - x.val)).relay ++ [{ hdr := hdr, payload := p, arrived := s.now }]) ∧
      (s.chain.role = 1 ∨ s.chain.role = 2 → ∀ w ∈ s.takers (hdrOrig hdr) (byteAt p 0).toNat (hdrTick hdr),
        (s.now ≤ hdrTick hdr + s.hops (hdrOrig hdr) → hdrTick hdr + s.hops (hdrOrig hdr) ≤ s.now + 1 →
          s.pieceDue w (hdrOrig hdr) (hdrTick hdr) = true → (t.wall w).remotes = addPiece (s.wall w).remotes (hdrOrig hdr) (byteAt p 0).toNat (hdrTick hdr) (leAt p 2 2)
            (p.drop 8) (hdrLast hdr)) ∧
        (hdrTick hdr + s.hops (hdrOrig hdr) < s.now ∨
            (∀ v ∈ s.takers (hdrOrig hdr) (byteAt p 0).toNat (hdrTick hdr),
              s.pieceDue v (hdrOrig hdr) (hdrTick hdr) = false) → t.walls = s.walls ∧
          t.reg .chnRemoteDisc = satAdd (s.reg .chnRemoteDisc) 1))) ∧
  (∀ (x : Fin 2) (hdr : BitVec 128) (p : List Byte) (s : State), s.Sound → s.chainOn = false ∨ s.chainOpen x = false →
    Completes (.framePieceReceived x hdr p) s fun t => t = s) ∧
  (∀ (x : Fin 2) (q : RelayPiece) (s : State), s.chainOn = true → (s.cport x).relay = [q] →
    Completes (.chainRelay x) s fun t =>
      (s.now < q.due → (t.cport x).relay = [q]) ∧ (q.due ≤ s.now → (t.cport x).relay = []) ∧
      (q.due ≤ s.now → (s.cport x).counts = true → wholeBefore [q] q = true → (s.cport x).relayTick ≠ s.now →
        q.payload.length + 20 ≤ (s.reg .chnRsv x).toNat → (∀ n ∈ s.active, (s.chan n).state ≠ .retired) →
        s.Sent t (.chainPacket x (chainBytes 6 (hdrHop q.hdr + 1) (hdrOrig q.hdr) (numAt q.hdr 3 1) (hdrTick q.hdr) q.payload))) ∧
      (q.due ≤ s.now → (s.cport x).counts = false ∨ wholeBefore [q] q = false ∨
          (s.reg .chnRsv x).toNat < q.payload.length + 20 →
        t.reg .chnRelayDrop x = satAdd (s.reg .chnRelayDrop x) 1))) ∧
  (∀ (x : Fin 2) (hdr p : BitVec 128) (s : State), s.Sound → s.chainOn = true → s.chainOpen x = true →
    Completes (.alarmReceived x hdr p) s fun t =>
      (s.chain.alarms.contains (hdrOrig hdr, numAt p 0 8) = true ∨ (hdrOrig hdr = s.orig ∧ s.orig ≠ 0xFF) → t = s) ∧
      (s.chain.alarms.contains (hdrOrig hdr, numAt p 0 8) = false → hdrOrig hdr ≠ s.orig ∨ s.orig = 0xFF →
        t.chain.alarms = (hdrOrig hdr, numAt p 0 8) :: s.chain.alarms ∧
        ((s.cport (1 - x.val)).counts = true → s.Sent t (.chainPacket (1 - x.val) (chainBytes 7 (hdrHop hdr + 1) (hdrOrig hdr)
          (numAt hdr 3 1) (hdrTick hdr) (leBytes 16 p.toNat)))) ∧
        (2 ≤ s.level → s.flag .wallRclCfg 0 0 30 = true → s.rcl.state = .recording → s.rcl.pend = false →
          t.rcl.pend = true ∧ t.rcl.kind = 3 ∧ t.rcl.tf = BitVec.ofNat 64 (max (numAt p 0 8) s.now))))

/-! ### DRAM -/

/-- DRAM behind its address split (R351, R357, R360): what is written is what is read back, no unit of it poisoned; no other
byte of any channel changes; and every operation keeps the memory's canonical form. In each address order (R352) no two beats of a
channel share a cell.
Choices of the model on which it rests: notes/assumptions/6.md. -/
def Obligations.DramHoldsWhatIsWritten : Prop :=
  (∀ (s : State) (a : Nat) (bs : List Byte), s.active.Nodup → (∀ n ∈ s.active, (s.chan n).state ≠ .retired) →
    bs ≠ [] → a + bs.length ≤ s.dramSize → ((s.writeDram a bs).readDram a bs.length).1 = (bs, [])) ∧
  (∀ (s : State) (a q : Nat) (bs : List Byte),
    (∀ k, k < bs.length → (s.dramSplit (a + k)).map (fun c => phys c.1 c.2) ≠ some q) →
    Memory.read (s.writeDram a bs).dram q = Memory.read s.dram q) ∧
  (∀ (s : State) (a : Nat) (bs : List Byte), Memory.wf s.dram = true → Memory.wf (s.writeDram a bs).dram = true) ∧
  (∀ (s : State) (a len : Nat), Memory.wf s.dram = true → Memory.wf (s.readDram a len).2.dram = true) ∧
  (∀ (s : State) (l m : Nat), l < 2 ^ 33 → m < 2 ^ 33 → s.dramCell l = s.dramCell m → l / 8 = m / 8)

/-- A demand read of one unit (R359 to R362): each beat corrected is counted, in DRAM_CE and for the second in progress. A unit
with a beat that cannot be corrected is counted in DRAM_UE, its unit held in DRAM_UE_ADDR, and poisoned; a corrected unit is written
back whole. No other channel, and no byte outside the unit, changes; a channel that does not serve reads nothing.
The clocks of a channel: the second in which it counts (R362) ends and its count of corrected beats starts anew; the patrol goes to the next
unit and leaves a clean one alone (R363); a same-bank refresh goes out while the channel is not off, retired or in self-refresh
(R356), and so does a temperature poll, whose answer the channel holds. Where it may not, nothing changes.
Choices of the model on which it rests: notes/assumptions/19.md. -/
def Obligations.DramReads : Prop :=
  (∀ (n : Fin 16) (unit : BitVec 27) (flips : List (BitVec 80)) (s : State), (s.chan n).serves = true →
    let p := phys n (64 * unit.toNat)
    let bs := s.receivedBeats p flips
    let rs := bs.mapIdx fun b r => bchDecode r (64 * unit.toNat + 8 * b)
    let ces := (rs.filter fun r => match r.1 with
      | .ce _ => true
      | _ => false).length
    bs.all isMarker = false →
    Completes (.dramReadData n unit flips) s fun t =>
      t.reg .dramCe n = satAdd (s.reg .dramCe n) ces ∧ (t.chan n).second = (s.chan n).second + ces ∧
      ((rs.any fun r => r.1 = .ue || r.1 = .address) = true →
        t.reg .dramUe n = satAdd (s.reg .dramUe n) 1 ∧ t.reg .dramUeAddr n = BitVec.ofNat 32 (unit.toNat + 2 ^ 31) ∧
        ∀ b, b < 8 → Store.get 0 t.upsets (p / 8 + b) = poisonMask) ∧
      ((rs.any fun r => r.1 = .ue || r.1 = .address) = false → t.reg .dramUe n = s.reg .dramUe n ∧
        (ces = 0 → t.dram = s.dram ∧ t.upsets = s.upsets) ∧
        (ces ≠ 0 → Memory.readBytes t.dram p 64 = beatBytes (rs.map (·.2)) ∧
          ∀ b, b < 8 → Store.get 0 t.upsets (p / 8 + b) = 0)) ∧
      (∀ q, q < p ∨ p + 64 ≤ q → Memory.read t.dram q = Memory.read s.dram q) ∧
      (∀ k, k ≠ n.val → t.chan k = s.chan k)) ∧
  (∀ (n : Fin 16) (unit : BitVec 27) (flips : List (BitVec 80)) (s : State), s.Sound → (s.chan n).serves = false →
    Completes (.dramReadData n unit flips) s fun t => t = s) ∧
  ((∀ (n : Fin 16) (s : State), s.Sound → Completes (.ceSecondEnd n) s fun t =>
    t.chan n = { s.chan n with second := 0 } ∧ (∀ k, k ≠ n.val → t.chan k = s.chan k) ∧ State.Frame { s with chans := t.chans } t) ∧
  (∀ (n : Fin 16) (s : State), (s.chan n).serves = true → (s.chan n).alert = 0 → s.flag .dramScrub 0 0 8 = true →
    s.selfRefresh = false → Completes (.patrolScrubRead n) s fun t =>
      t.reg .dramScrubPos n = BitVec.ofNat 32 (((s.reg .dramScrubPos n).toNat + 1) % 2 ^ 27) ∧
      (s.unitUpset (phys n (64 * (s.reg .dramScrubPos n).toNat)) = false →
        t.dram = s.dram ∧ t.upsets = s.upsets ∧ t.chans = s.chans)) ∧
  (∀ (n : Fin 16) (s : State), s.Sound →
    (s.chan n).serves = false ∨ (s.chan n).alert ≠ 0 ∨ s.flag .dramScrub 0 0 8 = false ∨ s.selfRefresh = true →
    Completes (.patrolScrubRead n) s fun t => t = s) ∧
  (∀ (n : Fin 16) (bank : Fin 4) (s : State), s.Sound → s.selfRefresh = false → (s.chan n).state ≠ .off →
    (s.chan n).state ≠ .retired → Completes (.refresh n bank) s fun t => t = { s with out := Emission.refresh n bank :: s.out }) ∧
  (∀ (n : Fin 16) (hot : Bool) (s : State), s.Sound → s.selfRefresh = false → (s.chan n).state ≠ .off →
    (s.chan n).state ≠ .retired → Completes (.temperaturePoll n hot) s fun t =>
      t.chan n = { s.chan n with hot := hot } ∧ State.Frame { s with chans := t.chans } t) ∧
  (∀ (n : Fin 16) (bank : Fin 4) (hot : Bool) (s : State), s.Sound →
    s.selfRefresh = true ∨ (s.chan n).state = .off ∨ (s.chan n).state = .retired →
    Completes (.refresh n bank) s (fun t => t = s) ∧ Completes (.temperaturePoll n hot) s fun t => t = s))

/-- Command parity (R364): an alert is counted and starts a further attempt, the fourth of one incident sends the channel into
recovery with cause 2, in a retraining slot at its end (R457); the end of the alert counts the commands issued again; and the incident ends as the last of them retires.
Retraining and recovery (R368 to R373). The slot serves the channel whose turn it is; at its end its moves are applied and
it is counted, and a narrow lane, an escalation of command parity or a RETRAIN that waited (R457) sends the channel into recovery. RETRAIN sends a serving channel there with
cause 3, or waits for its slot's end. A recovery ends in service and is counted.
A channel is retired by the host with cause 3, or as its recovery fails with cause 2 (R370): it waits in that state for the
remap edge, admission is to judge the capacity again, and the third retirement begins reduced service (R372). A recovery
completes within RECOV_MS and fails after it (R369), and what comes to a channel in another state changes nothing.
Choices of the model on which it rests: notes/assumptions/19.md, notes/assumptions/58.md, notes/assumptions/78.md,
notes/assumptions/89.md. -/
def Obligations.ChannelRecovery : Prop :=
  ((∀ (n : Fin 16) (s : State), (s.chan n).state = .service ∨ (s.chan n).state = .training →
    Completes (.alertLow n) s fun t =>
      t.reg .dramPar n = satAdd (s.reg .dramPar n) 1 ∧
      ((s.chan n).att ≠ 3 → (s.chan n).parityAfter = false → (t.chan n).alert = 1 ∧ (t.chan n).att = (s.chan n).att + 1 ∧ (t.chan n).retry.toNat ≤ 64 ∧
        (t.chan n).state = (s.chan n).state) ∧
      ((s.chan n).att = 3 → (s.chan n).parityAfter = false → (s.chan n).inSlot = false →
        (t.chan n).state = .recovery ∧ (t.chan n).rcause = 2 ∧ (t.chan n).att = 0 ∧ (t.chan n).alert = 0) ∧
      ((s.chan n).att = 3 → (s.chan n).inSlot = true → (t.chan n).state = (s.chan n).state ∧ (t.chan n).parityAfter = true) ∧
      ∀ k, k ≠ n.val → t.chan k = s.chan k) ∧
  (∀ (n : Fin 16) (s : State), s.Sound → (s.chan n).alert = 1 → Completes (.alertHigh n) s fun t =>
    (t.chan n).alert = 2 ∧ t.reg .dramReplay n = satAdd (s.reg .dramReplay n) (s.chan n).retry.toNat ∧
    State.Frame { s with chans := t.chans, regs := t.regs } t) ∧
  (∀ (n : Fin 16) (s : State), s.Sound → (s.chan n).alert = 2 → Completes (.replayRetired n) s fun t =>
    t.chan n = { s.chan n with alert := 0, att := 0, retry := 0 } ∧ State.Frame { s with chans := t.chans } t) ∧
  (∀ (n : Fin 16) (s : State), s.Sound →
    ((s.chan n).state = .off ∨ (s.chan n).state = .retired → Completes (.alertLow n) s fun t => t = s) ∧
    ((s.chan n).alert ≠ 1 → Completes (.alertHigh n) s fun t => t = s) ∧
    ((s.chan n).alert ≠ 2 → Completes (.replayRetired n) s fun t => t = s))) ∧
  ((∀ (n : Nat) (s : State), s.Sound → s.flag .dramRt 0 0 0 = true → s.selfRefresh = false → s.tick.started = true →
    s.tick.halted = false → s.now % max 1 s.tick.cycle = 0 → s.slotTurn = some n → (s.chan n).state = .service → (s.chan n).alert = 0 →
    (s.chan n).att = 0 →
    Completes .retrainingSlotStart s fun t =>
      t.chan n = { s.chan n with inSlot := true } ∧ State.Frame { s with chans := t.chans } t) ∧
  (∀ s : State, s.Sound → s.flag .dramRt 0 0 0 = false ∨ s.selfRefresh = true ∨ s.tick.started = false ∨
    s.tick.halted = true ∨ s.now % max 1 s.tick.cycle ≠ 0 ∨ s.slotTurn = none →
    Completes .retrainingSlotStart s fun t => t = s) ∧
  (∀ (n : Fin 16) (moves : List LaneSetting) (narrow : Bool) (s : State), s.Sound → (s.chan n).inSlot = false →
    Completes (.retrainingSlotEnd n moves narrow) s fun t => t = s) ∧
  (∀ (n : Fin 16) (moves : List LaneSetting) (narrow : Bool) (s : State), (s.chan n).inSlot = true →
    Completes (.retrainingSlotEnd n moves narrow) s fun t =>
      (t.chan n).inSlot = false ∧ (t.chan n).slots.toNat = min 65535 ((s.chan n).slots.toNat + 1) ∧ t.lastSlot = some n.val ∧
      (narrow = true → (t.chan n).state = .recovery ∧ (t.chan n).rcause = 1) ∧
      (narrow = false → (s.chan n).parityAfter = true → (t.chan n).state = .recovery ∧ (t.chan n).rcause = 2) ∧
      (narrow = false → (s.chan n).parityAfter = false → (s.chan n).retrainAfter = true → (t.chan n).state = .recovery ∧ (t.chan n).rcause = 3) ∧
      (narrow = false → (s.chan n).parityAfter = false → (s.chan n).retrainAfter = false → (t.chan n).state = (s.chan n).state)) ∧
  (∀ (n : Fin 16) (o : Origin) (s : State), s.Accepts o ⟨.dramCtrl, n.val, 0⟩ 1 → Completes (.retrain n o) s fun t =>
    ((s.chan n).inSlot = true → t.chan n = { s.chan n with retrainAfter := true }) ∧
    ((s.chan n).inSlot = false → (t.chan n).state = .recovery ∧ (t.chan n).rcause = 3 ∧ (t.chan n).att = 0) ∧
    t.markSeq = s.markSeq + 1) ∧
  (∀ (n : Fin 16) (us : Word) (s : State), s.Sound → (s.chan n).state ≠ .recovery ∨ s.recoveryOver n = true →
    Completes (.recoveryComplete n us) s fun t => t = s) ∧
  (∀ (n : Fin 16) (us : Word) (s : State), (s.chan n).state = .recovery → s.recoveryOver n = false →
    Completes (.recoveryComplete n us) s fun t =>
    (t.chan n).state = .service ∧ (t.chan n).second = 0 ∧ t.reg .dramRecov n = satAdd (s.reg .dramRecov n) 1 ∧
    ∀ k, k ≠ n.val → t.chan k = s.chan k)) ∧
  ((∀ (n : Fin 16) (o : Origin) (s : State), s.Accepts o ⟨.dramCtrl, n.val, 0⟩ 2 → Completes (.retire n o) s fun t =>
    (t.chan n).state = .retired ∧ (t.chan n).xcause = 3 ∧ (∀ k, k ≠ n.val → t.chan k = s.chan k) ∧
    t.active = s.active ∧ t.tick.capacity = true ∧ t.tick.remap = true ∧ t.reduced = (s.reduced || decide (3 ≤ t.retired))) ∧
  (∀ (n : Fin 16) (s : State), s.Sound → (s.chan n).state ≠ .recovery ∨ s.recoveryOver n = false →
    Completes (.recoveryTimeout n) s fun t => t = s) ∧
  (∀ (n : Fin 16) (s : State), (s.chan n).state = .recovery → s.recoveryOver n = true →
    Completes (.recoveryTimeout n) s fun t =>
    (t.chan n).state = .retired ∧ (t.chan n).xcause = 2 ∧ (∀ k, k ≠ n.val → t.chan k = s.chan k) ∧
    t.active = s.active ∧ t.tick.capacity = true ∧ t.tick.remap = true ∧ t.reduced = (s.reduced || decide (3 ≤ t.retired))))

/-- The training helper (R365, R376). Without GO, or on a channel that is off or retired, nothing happens. A run that would
leave the DRAM that exists has no effect stated (notes/assumptions/61.md). A run that writes and then compares a pattern finds no error
where nothing is received wrong; outside TRAINING the bytes it wrote over come back. -/
def Obligations.TrainingHelper : Prop :=
  (∀ (n : Fin 16) (v : Word) (flips : List (BitVec 80)) (s : State), s.Sound →
    bitOf v 12 = false ∨ (s.chan n).state = .off ∨ (s.chan n).state = .retired →
    Completes (.trainingHelperGo n v flips) s fun t => t = s) ∧
  (∀ (n : Fin 16) (v : Word) (flips : List (BitVec 80)) (s : State), bitOf v 12 = true → (s.chan n).state ≠ .off →
    (s.chan n).state ≠ .retired → 2 ^ 26 < (s.reg .dramTrnAddr n).toNat + bitsOf v 4 6 + 1 →
    exec (.trainingHelperGo n v flips) s = .fault .dramPastEnd) ∧
  (∀ (n : Fin 16) (v : Word) (flips : List (BitVec 80)) (s : State), s.Sound → bitOf v 12 = true →
    (s.chan n).state ≠ .off → (s.chan n).state ≠ .retired → (s.reg .dramTrnAddr n).toNat + bitsOf v 4 6 + 1 ≤ 2 ^ 26 →
    Completes (.trainingHelperGo n v flips) s fun t =>
      ((∀ f ∈ flips, f = 0) → bitOf v 3 = false → (t.chan n).trnErrs = [] ∧ (t.chan n).trnFirst = none) ∧
      ((s.chan n).state ≠ .training → t.dram = s.dram ∧ t.upsets = s.upsets) ∧
      (∀ q, q < phys n (128 * (s.reg .dramTrnAddr n).toNat) ∨
        phys n (128 * ((s.reg .dramTrnAddr n).toNat + bitsOf v 4 6 + 1)) ≤ q → Memory.read t.dram q = Memory.read s.dram q) ∧
      State.Frame { s with chans := t.chans, dram := t.dram, upsets := t.upsets, regs := t.regs } t)

/-! ### The two-wire ports -/

/-- TW0 (R377 to R385). Its own address byte is acknowledged and begins a write or a read; another is not answered; while it sleeps,
its own wakes it unacknowledged. Waking is counted. The end of a transaction drops the latch and the page, and a window word that lacks
bytes is counted.
A byte that TW0 clocks out (R380 to R382): in the identity page the byte at the pointer, in the window the byte of a word that
one register read gave and that stays latched for its other bytes. The pointer goes on.
A byte written to TW0 (R380 to R384): the pointer's two bytes, then data. Data behind the end of the 32-byte page in which the
write began is refused; below the window a byte is counted as unmapped; in the window four bytes make one write, which a register
window must grant. A write of SDMA_CTRL is left to the statements on service DMA. Without power or an address TW0 does none of this.
Choices of the model on which it rests: notes/assumptions/60.md, notes/assumptions/67.md. -/
def Obligations.Tw0Target : Prop :=
  ((∀ (b : Byte) (s : State), s.Sound → s.tw0Up = true → s.tw0Asleep = false → s.tw0.word = [] →
    Completes (.tw0AddressByte b) s fun t =>
      (b.toNat / 2 = 0x58 + s.tw0.address.toNat → t = { s with
        tw0 := { s.tw0 with phase := if b.toNat % 2 = 1 then 4 else 1, word := [], latch := none, page := none, nacked := false }
        out := Emission.twAck true :: s.out }) ∧
      (b.toNat / 2 ≠ 0x58 + s.tw0.address.toNat → t.tw0.phase = 0 ∧ t.out = s.out)) ∧
  (∀ (b : Byte) (s : State), s.tw0Up = true → s.tw0Asleep = true → b.toNat / 2 = 0x58 + s.tw0.address.toNat →
    Completes (.tw0AddressByte b) s fun t => t.tw0.waking = true ∧ t.tw0.phase = 0 ∧ s.Sent t (.twAck false)) ∧
  (∀ s : State, s.Sound →
    (s.tw0Up = true → s.tw0.waking = true → Completes .tw0Wake s fun t =>
      t.tw0 = { s.tw0 with awake := true, waking := false } ∧ t.reg .twbT0Wake = satAdd (s.reg .twbT0Wake) 1 ∧
      State.Frame { s with tw0 := t.tw0, regs := t.regs } t) ∧
    (s.tw0Up = false ∨ s.tw0.waking = false → Completes .tw0Wake s fun t => t = s) ∧
    (s.tw0Up = false ∨ s.tw0.phase ≠ 4 → Completes .tw0ReadByte s fun t => t = s) ∧
    (s.NoStop → s.tw0Up = false → ∀ b, Completes (.tw0WriteByte b) s fun t => t = s)) ∧
  (∀ s : State, s.Sound → Completes .tw0TransactionEnd s fun t =>
    t.tw0 = { s.tw0 with phase := 0, word := [], latch := none, page := none, nacked := false } ∧
    t.reg .twbT0Part = (if s.tw0.word = [] then s.reg .twbT0Part else satAdd (s.reg .twbT0Part) 1) ∧
    t = { s with tw0 := t.tw0, regs := t.regs })) ∧
  (∀ s : State, s.Sound → s.tw0Up = true → s.tw0.phase = 4 →
    Completes .tw0ReadByte s fun t =>
      t.tw0.pointer = s.tw0.pointer + 1 ∧
      (s.tw0.pointer.toNat < 0x8000 → t = { s with tw0 := { s.tw0 with pointer := s.tw0.pointer + 1 }
                                                   out := Emission.twByte (byteAt s.identity s.tw0.pointer.toNat) :: s.out }) ∧
      (∀ v, s.tw0.latch = some (BitVec.ofNat 16 (s.tw0.pointer.toNat / 4), v) → 0x8000 ≤ s.tw0.pointer.toNat →
        t = { s with tw0 := { s.tw0 with pointer := s.tw0.pointer + 1 }
                     out := Emission.twByte (byteAt (leBytes 4 v.toNat) (s.tw0.pointer.toNat % 4)) :: s.out }) ∧
      (s.tw0.latch = none → 0x8000 ≤ s.tw0.pointer.toNat → ∃ v, v = (s.readReg .tw0 (s.tw0Offset s.tw0.pointer.toNat)).1 ∧
        t.tw0.latch = some (BitVec.ofNat 16 (s.tw0.pointer.toNat / 4), v) ∧
        s.Sent t (.twByte (byteAt (leBytes 4 v.toNat) (s.tw0.pointer.toNat % 4))))) ∧
  (∀ (b : Byte) (s : State), s.Sound → s.NoStop → s.tw0Up = true → Completes (.tw0WriteByte b) s fun t =>
    let p := s.tw0.pointer
    let pg := BitVec.ofNat 11 (p.toNat / 32)
    (s.tw0.phase = 1 → t = { s with tw0 := { s.tw0 with high := b, phase := 2 }, out := Emission.twAck true :: s.out }) ∧
    (s.tw0.phase = 2 → t = { s with tw0 := { s.tw0 with pointer := s.tw0.high ++ b, phase := 3 }
                                    out := Emission.twAck true :: s.out }) ∧
    (s.tw0.phase = 3 → s.tw0.nacked = true → t = { s with out := Emission.twAck false :: s.out }) ∧
    (s.tw0.phase = 3 → s.tw0.nacked = false →
      ((∃ q, s.tw0.page = some q ∧ q ≠ pg) → t = { (s.setReg .twbT0Page 0 0 (satAdd (s.reg .twbT0Page) 1)) with
        tw0 := { s.tw0 with nacked := true }, out := Emission.twAck false :: s.out }) ∧
      ((s.tw0.page = none ∨ s.tw0.page = some pg) →
        (∀ r, locate (s.tw0Offset p.toNat) = some r → r.name ≠ .sdmaCtrl) →
        t.tw0.pointer = p + 1 ∧ t.tw0.page = some pg ∧ s.Sent t (.twAck true) ∧
        (p.toNat < 0x8000 → t.reg .errUnmapped = satAdd (s.reg .errUnmapped) 1) ∧
        (0x8000 ≤ p.toNat → p.toNat % 4 ≠ 3 → t.regs = s.regs ∧
          t.tw0.word = if p.toNat % 4 = 0 then [b] else s.tw0.word ++ [b]) ∧
        (0x8000 ≤ p.toNat → p.toNat % 4 = 3 → s.tw0.word.length ≠ 3 → t.tw0.word = [] ∧
          t.reg .twbT0Part = satAdd (s.reg .twbT0Part) 1) ∧
        (0x8000 ≤ p.toNat → p.toNat % 4 = 3 → s.tw0.word.length = 3 → s.boot.win ≠ 0 →
          ∀ r, locate (s.tw0Offset p.toNat) = some r → r.name.off r.i r.j = s.tw0Offset p.toNat →
            (s.verdict .tw0 (s.tw0Offset p.toNat) (BitVec.ofNat 32 (ofLe (s.tw0.word ++ [b]))) = .accepted → r.name.plain = true →
              s.writeGranted .tw0 (s.tw0Offset p.toNat) = true →
              t.reg r.name r.i r.j = r.name.row.merge (s.reg r.name r.i r.j) (BitVec.ofNat 32 (ofLe (s.tw0.word ++ [b])))) ∧
            (s.verdict .tw0 (s.tw0Offset p.toNat) (BitVec.ofNat 32 (ofLe (s.tw0.word ++ [b]))) = .refused → r.msix = false →
              s.writeGranted .tw0 (s.tw0Offset p.toNat) = false →
              t.reg .twbT0Refuse = satAdd (s.reg .twbT0Refuse) 1 ∧ t.markSeq = s.markSeq + 1)))))

/-- A GO written to a set of a two-wire port (R387, R391): the set joins those that wait, an invalid pointer length ends it at once
with CODE 7, and a set that is BUSY ignores it.
A transfer of a two-wire port (R386 to R388, R391): the bus carries its bytes, and it ends with its CODE and the bytes that were
acknowledged; the data of a read lies in the set's registers. A port that loses the bus to an address of its own takes the target role
where it may.
Time-outs, recovery and the target role of a two-wire port (R387, R389, R390): SCL held low ends the transfer with CODE 6; a
recovered bus is counted and the transfer waits on; a bus that does not recover ends it with CODE 5 or 6 and HUNG; a transaction taken
as target leaves its bytes in the receive registers and ends the role. How many bytes were acknowledged at a time-out is open, up to the
length (notes/assumptions/56.md). Where no transfer of the port can run, and for a port in no target role, nothing changes.
Choices of the model on which it rests: notes/assumptions/59.md. -/
def Obligations.TwoWireControllers : Prop :=
  (∀ (n : Fin 4) (h : Fin 2) (o : Origin) (v : Word) (s : State), s.Accepts o ⟨.twbXfer, n.val, h.val⟩ (v ||| 0x10000) →
    Completes (.twGo n h o v) s fun t =>
      (h ∈ (s.twPort n).pending → t.twPort n = s.twPort n) ∧
      (h ∉ (s.twPort n).pending → bitsOf v 8 2 ≠ 3 → t.twPort n = { s.twPort n with pending := (s.twPort n).pending ++ [h] }) ∧
      (h ∉ (s.twPort n).pending → bitsOf v 8 2 = 3 → (t.twPort n).pending = (s.twPort n).pending ∧
        bitsOf (t.reg .twbRes n h) 0 4 = 7) ∧
      t.xferAddr n h = bitsOf v 0 7 ∧ t.markSeq = s.markSeq) ∧
  (∀ (n : Fin 4) (bus : TwBus) (h : Fin 2) (s : State), s.twNext n = some h →
    Completes (.transferStart n bus) s fun t =>
      let res := fun (code bytes : Nat) => t.reg .twbRes n h
        = BitVec.ofNat 32 (code + bytes * 16 + (bitsOf (s.reg .twbRes n h) 16 8 + 1) % 256 * 2 ^ 16)
      s.Sent t (.twTransfer (n + 1) (s.twSent n h)) ∧ (t.twPort n).pending = (s.twPort n).pending.erase h ∧
      (∀ data, bus = .done data → res 1 (s.xferLen n h) ∧ (t.twPort n).busBusy = false ∧
        (s.xferRead n h = true → t.twBytes (twData h) n (s.xferLen n h) = padTo (s.xferLen n h) data)) ∧
      (bus = .addressNack → res 2 0) ∧
      (∀ k, bus = .dataNack k → res 3 (min k (s.xferLen n h))) ∧
      (∀ ph i bitNo k data addressed, bus = .lost ph i bitNo k data addressed → res 4 (min k (s.xferLen n h)) ∧
        t.reg .twbArb n = satAdd (s.reg .twbArb n) 1 ∧ (t.twPort n).busBusy = true ∧
        (t.twPort n).target = (ph = 1 && addressed && s.flag .twbCfg n 0 3))) ∧
  ((∀ (n : Fin 4) (h : Fin 2) (s : State), s.twNext n = some h → Completes (.sclTimeout n) s fun t =>
    (∃ k, k ≤ s.xferLen n h ∧ t.reg .twbRes n h
      = BitVec.ofNat 32 (6 + k * 16 + (bitsOf (s.reg .twbRes n h) 16 8 + 1) % 256 * 2 ^ 16)) ∧
    (t.twPort n).pending = (s.twPort n).pending.erase h ∧ (t.twPort n).busBusy = true) ∧
  (∀ (n : Fin 4) (h : Fin 2) (res : HangResult) (s : State), s.twNext n = some h → Completes (.hangRecovery n res) s fun t =>
    (∀ p, res = .freed p → t.twPort n = { s.twPort n with hung := false, busBusy := false } ∧
      t.reg .twbRecov n = satAdd (s.reg .twbRecov n) 1 ∧ t.reg .twbRes n h = s.reg .twbRes n h) ∧
    (res = .sdaHeld → (t.twPort n).hung = true ∧ bitsOf (t.reg .twbRes n h) 0 4 = 5 ∧
      (t.twPort n).pending = (s.twPort n).pending.erase h) ∧
    (res = .sclHeld → (t.twPort n).hung = true ∧ bitsOf (t.reg .twbRes n h) 0 4 = 6 ∧
      (t.twPort n).pending = (s.twPort n).pending.erase h)) ∧
  (∀ (n : Fin 4) (read : Bool) (bytes : List Byte) (s : State), (s.twPort n).target = true →
    Completes (.targetTransaction n read bytes) s fun t =>
      (t.twPort n).target = false ∧ (t.twPort n).busBusy = false ∧ (t.twPort n).pending = (s.twPort n).pending ∧
      (read = false → (t.twPort n).rxLen = min 32 bytes.length ∧ t.twBytes .twbRx n (min 32 bytes.length) = bytes.take 32) ∧
      (read = true → (t.twPort n).rxLen = 0 ∧ t.twBytes .twbRx n 32 = s.twBytes .twbRx n 32)) ∧
  (∀ (n : Fin 4) (s : State), s.Sound →
    (s.twNext n = none → (∀ bus, Completes (.transferStart n bus) s fun t => t = s) ∧
      (Completes (.sclTimeout n) s fun t => t = s) ∧ ∀ res, Completes (.hangRecovery n res) s fun t => t = s) ∧
    ((s.twPort n).target = false → ∀ read bytes, Completes (.targetTransaction n read bytes) s fun t => t = s)))

/-! ### Service DMA -/

/-- GO and the landing of a service DMA channel (R393, R394, R397): GO starts a transfer that no rule refuses, ends one that a rule
refuses with its CODE, and is ignored while the channel is BUSY; LANDED follows a transfer that wrote. -/
def Obligations.ServiceDmaStarts : Prop :=
  (∀ (c : Fin 8) (o : Origin) (s : State), s.NoStop → s.Accepts o ⟨.sdmaCtrl, c.val, 0⟩ 1 → Completes (.sdmaGo c o) s fun t =>
    ((s.sdmaChan c).busy = true → t.sdma = s.sdma) ∧
    ((s.sdmaChan c).busy = false → s.sdmaRefusal c = none → t.sdmaChan c = { busy := true, origin := o } ∧
      t.reg .sdmaBytes c = 0) ∧
    (∀ code, (s.sdmaChan c).busy = false → s.sdmaRefusal c = some code →
      t.sdmaChan c = { done := true, code := BitVec.ofNat 4 code, origin := o } ∧ t.reg .sdmaBytes c = 0) ∧
    (∀ k : Fin 8, k ≠ c → t.sdmaChan k = s.sdmaChan k) ∧ t.dram = s.dram ∧ t.markSeq = s.markSeq) ∧
  (∀ (c : Fin 8) (s : State), s.Sound → (s.sdmaChan c).done = true →
    (s.sdmaChan c).code = 1 ∨ (s.sdmaChan c).code = 3 ∨ (s.sdmaChan c).code = 7 ∨ (s.sdmaChan c).code = 8 →
    Completes (.sdmaLanded c) s fun t =>
      t.sdmaChan c = { s.sdmaChan c with landed := true } ∧ State.Frame { s with sdma := t.sdma } t) ∧
  (∀ (c : Fin 8) (s : State), s.Sound → (s.sdmaChan c).done = false → Completes (.sdmaLanded c) s fun t => t = s)

/-- A transfer from one range of DRAM to another (R392, R393, R397): at its end the destination holds what the source held, with CODE 1
and all bytes counted; a STOP leaves CODE 3 and the whole words that had moved, those beyond them untouched.
Choices of the model on which it rests: notes/assumptions/62.md. -/
def Obligations.ServiceDmaCopies : Prop :=
  (∀ (c : Fin 8) (s : State), s.CopyReady c → s.selfRefresh = false → Completes (.sdmaDone c) s fun t =>
    (t.readDram (s.sdmaDst c).addr (s.sdmaCount c)).1 = ((s.readDram (s.sdmaSrc c).addr (s.sdmaCount c)).1.1, []) ∧
    (t.sdmaChan c).busy = false ∧ (t.sdmaChan c).done = true ∧ (t.sdmaChan c).code = 1 ∧
    t.reg .sdmaBytes c = BitVec.ofNat 32 (s.sdmaCount c)) ∧
  (∀ (c : Fin 8) (o : Origin) (n : Nat) (s : State), s.CopyReady c → s.Accepts o ⟨.sdmaCtrl, c.val, 0⟩ 2 →
    Completes (.sdmaStop c o n) s fun t =>
      let k := 4 * (min n (s.sdmaCount c) / 4)
      (t.readDram (s.sdmaDst c).addr k).1 = ((s.readDram (s.sdmaSrc c).addr k).1.1, []) ∧
      (t.readDram ((s.sdmaDst c).addr + k) (s.sdmaCount c - k)).1.1
        = (s.readDram ((s.sdmaDst c).addr + k) (s.sdmaCount c - k)).1.1 ∧
      (t.sdmaChan c).busy = false ∧ (t.sdmaChan c).done = true ∧ (t.sdmaChan c).code = 3 ∧
      t.reg .sdmaBytes c = BitVec.ofNat 32 k)

/-! ### Power and reset -/

/-- The main rails fall, or CLK_REF is lost (R403, R404, R485): the device is in KEEP, one mark is made, the bases run on from where
they are, and of the registers only the island's are left; what DRAM, trays, lanes, ports and rings held is gone.
The main rails are back (R41, R408): after the clocks that the island counted each base but TB2 carries GAP, one that was LOCKED
is in HOLDOVER, the gap is counted and its length held, and the device waits in RESET. A loss in KEEP and a return outside it change
nothing.
Choices of the model on which it rests: notes/assumptions/63.md. -/
def Obligations.RailsFallAndReturn : Prop :=
  (∀ s : State, s.power.pstate ≠ .keep → ∀ c, c = .mainRailLoss ∨ c = .clkRefLoss → Completes c s fun t =>
    t.power.pstate = .keep ∧ t.power.por = true ∧ t.power.gapClock = s.clock ∧ t.clock = s.clock ∧
    t.markSeq = s.markSeq + 1 ∧ (∀ b : Fin 4, (t.base b).acc = (s.base b).acc ∧ (t.base b).state = (s.base b).state) ∧
    (∀ (d : Word) (off : Nat), deliveryReg off = false →
      Store.get d t.regs off = if islandReg off then Store.get d s.regs off else d) ∧
    t.fuses = s.fuses ∧ t.dram = [] ∧ t.trays = [] ∧ t.lanes = [] ∧ t.ports = [] ∧ t.rings = [] ∧ t.rcl = {}) ∧
  (∀ (clocks : Nat) (s : State), s.power.pstate = .keep → s.power.supplied = true →
    Completes (.mainRailReturn clocks) s fun t =>
      t.clock = s.clock + clocks ∧
      (∀ b : Fin 4, (t.base b).acc = (s.base b).acc + clocks * s.rate b) ∧
      (∀ b : Fin 4, b ≠ 2 → (t.base b).gap = true ∧
        (t.base b).state = if (s.base b).state = .locked then .holdover else (s.base b).state) ∧
      t.reg .pwrGaps = satAdd (s.reg .pwrGaps) 1 ∧
      t.reg .pwrGapLast = BitVec.ofNat 32 (min 0xFFFFFFFF ((s.clock + clocks - s.power.gapClock) / 1250000)) ∧
      t.markSeq = s.markSeq + 1 ∧ t.power.pstate = .reset ∧ t.power.returned = true) ∧
  (∀ (clocks : Nat) (s : State), s.Sound →
    (s.power.pstate = .keep → ∀ c, c = .mainRailLoss ∨ c = .clkRefLoss → Completes c s fun t => t = s) ∧
    (s.power.pstate ≠ .keep ∨ s.power.supplied = false → Completes (.mainRailReturn clocks) s fun t => t = s))

/-- The end of power-on reset (R379, R402, R436): TW0 takes its address from the straps, the cause is a cold start or a power-on
reset, and the device boots unless PERST_N holds it.
The island's supply (R34, R402, R405). Without one nothing is left but the fuses; with one again the device is as new, and its
clock begins at 0.
Switches of the island's supply (R405 to R407): each completed switch is counted and marked, to VKA_BACK only while BACK_OK holds;
and VKA_BACK leaving or regaining its range while the island is on VKA_MAIN changes BACK_OK. Where that is not so, nothing
changes.
Choices of the model on which it rests: notes/assumptions/63.md, notes/assumptions/65.md. -/
def Obligations.IslandAndPowerOnReset : Prop :=
  (∀ (straps : BitVec 3) (s : State), s.Sound → s.power.por = true → s.power.pstate = .reset → s.power.supplied = true →
    Completes (.powerOnResetEnd straps) s fun t =>
      t = { s with
        tw0 := { s.tw0 with address := straps }
        power := { s.power with por := false, cold := false, pstate := if s.power.perst then .reset else .boot }
        boot := { s.boot with rstCause := if s.power.cold then 5 else 0, rstTrip := false } }) ∧
  ((∀ s : State, Completes .keepAliveSupplyLoss s fun t =>
    t = { pending := s.pending, fuses := s.fuses, free := s.free, out := s.out
          power := { pstate := .reset, supplied := false, por := true, cold := true, perst := s.power.perst } }) ∧
  (∀ s : State, Completes .coldStart s fun t =>
    t = { pending := s.pending, fuses := s.fuses, free := s.free, out := s.out
          power := { pstate := .reset, supplied := true, por := true, cold := true, perst := s.power.perst } })) ∧
  ((∀ s : State, s.power.supplied = true → s.power.onBack = false → s.power.backOk = true → Completes .switchToBack s fun t =>
    t.power.onBack = true ∧ t.power.mainOk = false ∧ t.reg .pwrSwBack = satAdd (s.reg .pwrSwBack) 1 ∧ t.markSeq = s.markSeq + 1) ∧
  (∀ s : State, s.power.supplied = true → s.power.onBack = true → Completes .switchToMain s fun t =>
    t.power.onBack = false ∧ t.power.mainOk = true ∧ t.reg .pwrSwMain = satAdd (s.reg .pwrSwMain) 1 ∧ t.markSeq = s.markSeq + 1) ∧
  (∀ s : State, s.Sound → s.power.supplied = true → s.power.onBack = false →
    (s.power.backOk = true → Completes .vkaBackLost s fun t =>
      t.power = { s.power with backOk := false } ∧ State.Frame { s with power := t.power } t) ∧
    (s.power.backOk = false → Completes .vkaBackRegained s fun t =>
      t.power = { s.power with backOk := true } ∧ State.Frame { s with power := t.power } t)) ∧
  (∀ s : State, s.Sound →
    (s.power.supplied = false ∨ s.power.onBack = true ∨ s.power.backOk = false →
      Completes .switchToBack s (fun t => t = s) ∧ Completes .vkaBackLost s fun t => t = s) ∧
    (s.power.supplied = false ∨ s.power.onBack = false → Completes .switchToMain s fun t => t = s) ∧
    (s.power.supplied = false ∨ s.power.onBack = true ∨ s.power.backOk = true →
      Completes .vkaBackRegained s fun t => t = s)))

/-- A sample of the eight sensors (R415): each is held, TJ is the highest of them, the peak never falls, and the warning begins at
its threshold and ends 5 °C below it. A list of another length is no sample, and in KEEP and RESET nothing is sampled.
TRIP and PARK (R411, R416): at 120 °C the device trips, once, with one mark; below that it does not. PARK is entered by an accepted write, with two marks,
and TW0 sleeps; it is left by the write of 0, to the state that the function's power state gives, each active channel trained anew.
Choices of the model on which it rests: notes/assumptions/90.md. -/
def Obligations.TemperatureTripAndPark : Prop :=
  (∀ (xs : List (BitVec 16)) (s : State), s.power.pstate ≠ .keep → s.power.pstate ≠ .reset →
    (xs.length ≠ 8 → exec (.temperatureSample xs) s = .refused .illFormed) ∧
    (xs.length = 8 → Completes (.temperatureSample xs) s fun t =>
      (∀ k : Fin 8, t.reg .pwrTs k = (xs.getD k 0).zeroExtend 32) ∧ t.power.tj ∈ xs ∧ (∀ x ∈ xs, x.toInt ≤ t.power.tj.toInt) ∧
      t.reg .pwrTj = t.power.tj.zeroExtend 32 ∧
      (t.reg .pwrTjPeak = s.reg .pwrTjPeak ∨ t.reg .pwrTjPeak = t.power.tj.zeroExtend 32) ∧
      t.power.tj.toInt ≤ (BitVec.ofNat 16 (t.reg .pwrTjPeak).toNat).toInt ∧
      ((s.field .pwrThermCfg 0 0 0 7 : Int) * 16 ≤ t.power.tj.toInt → t.power.warn = true) ∧
      (t.power.tj.toInt < ((s.field .pwrThermCfg 0 0 0 7 : Int) - 5) * 16 → t.power.warn = false) ∧
      t.power.pstate = s.power.pstate)) ∧
  ((∀ s : State, s.Sound →
    (s.power.pstate = .keep ∨ s.power.pstate = .reset ∨ s.power.pstate = .trip ∨ s.power.tj.toInt < 1920 →
      Completes .trip s fun t => t = s) ∧
    (s.power.pstate = .keep ∨ s.power.pstate = .reset → ∀ xs : List (BitVec 16), xs.length = 8 →
      Completes (.temperatureSample xs) s fun t => t = s)) ∧
  (∀ s : State, s.power.pstate ≠ .keep → s.power.pstate ≠ .reset → s.power.pstate ≠ .trip → 1920 ≤ s.power.tj.toInt →
    Completes .trip s fun t =>
      t.power = { s.power with pstate := .trip, tripped := true } ∧ t.markSeq = s.markSeq + 1 ∧
      State.Frame { s with power := t.power, marks := t.marks, markSeq := t.markSeq } t) ∧
  (∀ (o : Origin) (v : Word) (s : State), s.Accepts o ⟨.pwrCtrl, 0, 0⟩ (v ||| 1) → Completes (.park o v) s fun t =>
    t.power = { s.power with pstate := .park } ∧ t.tw0.awake = false ∧ t.tw0.waking = false ∧ t.flag .pwrCtrl 0 0 0 = true ∧
    t.markSeq = s.markSeq + 2 ∧ t.dram = s.dram) ∧
  (∀ (o : Origin) (v : Word) (s : State), s.power.pstate = .park → s.Accepts o ⟨.pwrCtrl, 0, 0⟩ (clearEn v) →
    Completes (.parkExit o v) s fun t =>
      t.power = { s.power with pstate := if s.power.d3hot then .d3 else .run } ∧ t.flag .pwrCtrl 0 0 0 = false ∧
      t.markSeq = s.markSeq + 2 ∧ t.dram = s.dram ∧ (∀ n, n ∉ s.active → t.chan n = s.chan n) ∧
      ∀ n ∈ s.active, (s.chan n).state ≠ .retired → (t.chan n).settings = [] ∧ (t.chan n).state = (s.chan n).state))

/-- The device resets (R418 to R420, R436): PERST_N outside a gap and power-on reset, the watchdog, and DEVRST, with its cause of 2
or 3. Beside what every device reset leaves, each makes its mark. In a gap or power-on reset PERST_N only holds the device, and the
watchdog does not run while the device is not. -/
def Obligations.DeviceResets : Prop :=
  (∀ s : State, s.power.pstate ≠ .keep → s.power.por = false → s.power.perst = false →
    Completes .perstAssert s fun t => s.ResetTo t 1 ∧ t.power.perst = true ∧ t.markSeq = s.markSeq + 1) ∧
  (∀ s : State, s.Sound →
    (s.power.pstate = .keep ∨ s.power.por = true ∨ s.power.perst = true → Completes .perstAssert s fun t =>
      t = { s with power := { s.power with perst := true } }) ∧
    (s.power.pstate = .keep ∨ s.power.pstate = .reset → Completes .watchdogExpiry s fun t => t = s)) ∧
  (∀ s : State, s.power.pstate ≠ .keep → s.power.pstate ≠ .reset →
    Completes .watchdogExpiry s fun t => s.ResetTo t 4 ∧ t.markSeq = s.markSeq + 1) ∧
  (∀ (o : Origin) (v : Word) (s : State), s.Accepts o ⟨.glbCtrl, 0, 0⟩ ((v &&& 0xFFFF00FE) ||| 0xA501) →
    Completes (.devrst o v) s fun t => s.ResetTo t (if o = .tw0 then 3 else 2) ∧ t.markSeq = s.markSeq + 2)

/-! ### Boot -/

/-- How boot ends (R422, R425, R426, R434): operands that give no whole slots are no boot; without flash, with nothing provisioned, and
with no valid slot it fails with causes 2, 1 and 3, and the results of the slots judged are held.
A boot from slot A whose image changes no fuse and sets nothing up (R425, R367): every channel that trains serves, zeroed, the
others are retired and out of the list in force, and the device is ready for LOCK.
The boot window ends (R422, R429, R435): a second after its start it fails with cause 5; LOCK closes it and the device runs, with
a mark for the write and one for the close. A window no longer open neither fails nor closes, nor does boot run twice.
The fuse command (R428): an empty slot that verifies takes the key hash of GLB_FUSE_DATA, with RESULT 1; one that does not verify
answers RESULT 2; a slot already programmed is left alone with RESULT 3.
Choices of the model on which it rests: notes/assumptions/11.md, notes/assumptions/70.md, notes/assumptions/71.md, notes/assumptions/90.md. -/
def Obligations.BootRuns : Prop :=
  (∀ (b : BootInput) (s : State),
    ((imageWhole b.slotA && imageWhole b.slotB) = false → exec (.bootStart b) s = .refused .illFormed) ∧
    ((imageWhole b.slotA && imageWhole b.slotB) = true → s.bootDue = true → Completes (.bootStart b) s fun t =>
      (b.flashOk = false → t.boot.win = 2 ∧ t.boot.cause = 2) ∧
      (b.flashOk = true → s.fuses.programmed = 0 → t.boot.win = 2 ∧ t.boot.cause = 1) ∧
      (b.flashOk = true → s.fuses.programmed ≠ 0 → s.judgeSlot b.slotA ≠ 1 → s.judgeSlot b.slotB ≠ 1 →
        t.boot.win = 2 ∧ t.boot.cause = 3 ∧ t.boot.resA = BitVec.ofNat 4 (s.judgeSlot b.slotA) ∧
        t.boot.resB = BitVec.ofNat 4 (s.judgeSlot b.slotB)))) ∧
  (∀ (b : BootInput) (s : State), (imageWhole b.slotA && imageWhole b.slotB) = true → s.bootDue = true → b.flashOk = true →
    s.fuses.programmed ≠ 0 → s.judgeSlot b.slotA = 1 → leAt b.slotA.header 7 1 % 4 = 0 → imagePairs b.slotA = [] →
    s.slotClash = false → s.windowCrossed = false → b.ms.toNat < 1000 →
    Completes (.bootStart b) s fun t =>
      t.boot.ready = true ∧ t.boot.slot = false ∧ t.boot.resA = 1 ∧ t.boot.ms = b.ms ∧ t.power.pstate = .boot ∧
      (∀ n : Fin 16, (t.chan n).state = if b.trained.toNat.testBit n then .service else .retired) ∧
      t.active = (List.range 16).filter (fun n => b.trained.toNat.testBit n) ∧ t.dram = [] ∧ t.fuses = s.fuses) ∧
  ((∀ s : State, s.power.pstate = .boot → s.boot.win = 0 → Completes .bootTimeout s fun t =>
    t.boot.win = 2 ∧ t.boot.cause = 5 ∧ t.markSeq = s.markSeq + 1 ∧
    State.Frame { s with boot := t.boot, marks := t.marks, markSeq := t.markSeq } t) ∧
  (∀ s : State, s.power.pstate = .boot → s.boot.win = 0 → s.boot.ready = true → Completes .lock s fun t =>
    t.boot = { s.boot with win := 1 } ∧ t.power = { s.power with pstate := .run } ∧ t.markSeq = s.markSeq + 2) ∧
  (∀ s : State, s.Sound →
    (s.power.pstate ≠ .boot ∨ s.boot.win ≠ 0 → Completes .bootTimeout s fun t => t = s) ∧
    (s.boot.win ≠ 0 ∨ s.boot.ready = false → Completes .lock s fun t => t = s) ∧
    (s.bootDue = false → ∀ b, (imageWhole b.slotA && imageWhole b.slotB) = true →
      Completes (.bootStart b) s fun t => t = s))) ∧
  (∀ (o : Origin) (v : Word) (ok : Bool) (s : State), s.Accepts o ⟨.glbFuseCtl, 0, 0⟩ (v ||| 1) →
    Completes (.fuseProgram o v ok) s fun t =>
      (s.fuses.programmed.toNat.testBit (bitsOf v 4 2) = true → t.fuses = s.fuses ∧ t.field .glbFuseCtl 0 0 8 2 = 3) ∧
      (s.fuses.programmed.toNat.testBit (bitsOf v 4 2) = false → ok = true →
        Store.get 0 t.fuses.keys (bitsOf v 4 2) = s.fuseData ∧ t.fuses.programmed.toNat.testBit (bitsOf v 4 2) = true ∧
        (∀ j, j ≠ bitsOf v 4 2 → Store.get 0 t.fuses.keys j = Store.get 0 s.fuses.keys j) ∧ t.field .glbFuseCtl 0 0 8 2 = 1) ∧
      (s.fuses.programmed.toNat.testBit (bitsOf v 4 2) = false → ok = false → t.field .glbFuseCtl 0 0 8 2 = 2) ∧
      t.fuses.revoked = s.fuses.revoked ∧ t.fuses.svn = s.fuses.svn)

/-! ### Register writes and the mark log -/

/-- The mark log's window and the error block (R445, R452): MARK_RD_SEQ selects a mark, and CLR_FATAL clears ERR_FATAL.
The mirror ring (R446 to R448): its enable begins at MARK_MIR_FROM, or at the oldest mark held; its disable leaves it OFF, or
in DRAIN where a record is in progress, after which it is OFF; the
consumer count frees no more than has been written, or is turned away and counted.
MIRROR_WRITE (R437, R446): the next mark held is written out, 32 bytes, where the ring runs, has a free entry and the entry can be
reached; the ring's count and the next mark go on by one. In DRAIN the ring is OFF behind that record.
Where the ring neither runs nor drains or is full, or no mark is due, nothing changes.
Choices of the model on which it rests: notes/assumptions/70.md, notes/assumptions/107.md. -/
def Obligations.MarkLogAndMirror : Prop :=
  ((∀ (o : Origin) (v : Word) (s : State), s.Accepts o ⟨.markRdSeq, 0, 0⟩ v → Completes (.markReadSelect o v) s fun t =>
    t.reg .markRdSeq = v ∧ t.markSelected = true ∧ t.markSeq = s.markSeq ∧
    (∀ m, s.markAt v = some m → s.marks.length ≤ 4096 → bitOf (t.regValue ⟨.markHeld, 0, 0⟩) 31 = true ∧
      ∀ i : Fin 8, t.regValue ⟨.markRdData, i, 0⟩ = BitVec.ofNat 32 (leAt m.bytes (4 * i) 4)) ∧
    (s.markHeldSeq v = false → s.marks.length ≤ 4096 → bitOf (t.regValue ⟨.markHeld, 0, 0⟩) 31 = false ∧
      ∀ i : Fin 8, t.regValue ⟨.markRdData, i, 0⟩ = 0)) ∧
  (∀ (o : Origin) (v : Word) (s : State), s.Accepts o ⟨.errCtrl, 0, 0⟩ (v ||| 1) → Completes (.clrFatal o v) s fun t =>
    t.reg .errFatal = 0 ∧ t.fatal = s.fatal ∧ t.markSeq = s.markSeq + 1)) ∧
  ((∀ (o : Origin) (v : Word) (s : State), s.flag .markMirCtl 0 0 0 = false → s.Accepts o ⟨.markMirCtl, 0, 0⟩ (v ||| 1) →
    Completes (.mirrorEnable o v) s fun t =>
      (t.ring mirrorRing).state = .run ∧ t.mirror.pd = 0 ∧ t.mirror.ch = 0 ∧ t.markSeq = s.markSeq + 1 ∧
      t.mirror.next = (if t.markHeldSeq (s.reg .markMirFrom) then s.reg .markMirFrom else t.oldestSeq) ∧
      t.flag .markMirCtl 0 0 0 = true) ∧
  (∀ (o : Origin) (v : Word) (s : State), s.flag .markMirCtl 0 0 0 = true → s.Accepts o ⟨.markMirCtl, 0, 0⟩ (clearEn v) →
    Completes (.mirrorDisable o v) s fun t =>
      (t.ring mirrorRing).state = (if s.mirrorBusy then .drain else .off) ∧ t.mirror = s.mirror ∧
      t.flag .markMirCtl 0 0 0 = false) ∧
  (∀ (o : Origin) (v : Word) (s : State), s.Accepts o ⟨.markMirCons, 0, 0⟩ v → Completes (.mirrorConsumerWrite o v) s fun t =>
    ((v - s.mirror.ch).toNat ≤ (s.mirror.pd - s.mirror.ch).toNat → t.mirror = { s.mirror with ch := v } ∧ t.reg .markMirCons = v) ∧
    ((s.mirror.pd - s.mirror.ch).toNat < (v - s.mirror.ch).toNat → t.mirror = s.mirror ∧
      t.reg .hostDbBad = satAdd (s.reg .hostDbBad) 1))) ∧
  (∀ (s u : State) (m : Mark) (ps : List Nat), (s.ring mirrorRing).state = .run →
    (s.mirror.pd - s.mirror.ch).toNat < 2 ^ s.log2s mirrorRing → s.mirror.next ≠ s.markSeq → s.markAt s.mirror.next = some m →
    s.prepare mirrorRing (s.ringBase mirrorRing + 32 * (s.mirror.pd.toNat % 2 ^ s.log2s mirrorRing)) 32 true = (.go ps, u) →
    Completes .mirrorWrite s fun t =>
      t.mirror = { s.mirror with pd := s.mirror.pd + 1, next := s.mirror.next + 1 } ∧ t.markSeq = s.markSeq ∧
      ∃ a n x, 0 < n ∧ .hostWrite mirrorRing a (m.bytes.take n) x ∈ t.out) ∧
  (∀ (s u : State) (m : Mark) (ps : List Nat), (s.ring mirrorRing).state = .drain →
    (s.mirror.pd - s.mirror.ch).toNat < 2 ^ s.log2s mirrorRing → s.mirror.next ≠ s.markSeq → s.markAt s.mirror.next = some m →
    s.prepare mirrorRing (s.ringBase mirrorRing + 32 * (s.mirror.pd.toNat % 2 ^ s.log2s mirrorRing)) 32 true = (.go ps, u) →
    Completes .mirrorWrite s fun t => (t.ring mirrorRing).state = .off ∧ t.mirror.next = s.mirror.next + 1) ∧
  (∀ s : State, s.Sound → s.mirrorWrites = false ∨
    2 ^ s.log2s mirrorRing ≤ (s.mirror.pd - s.mirror.ch).toNat ∨ s.mirror.next = s.markSeq →
    Completes .mirrorWrite s fun t => t = s)
end

