-- ==== Sys2Proof/Laws/Store.lean ====
section
/-!
SUPPORT. Laws of the sparse store: reading what was written, leaving every other index alone, and the canonical form, which
every memory operation keeps.
-/
namespace Sys2Proof

variable {α : Type}

/-! ### Reading -/

@[simp] theorem Store.get_nil (d : α) (k : Nat) : Store.get d [] k = d := rfl

theorem Store.get_insert (d : α) (m : Store α) (k i : Nat) (v : α) :
    Store.get d (Store.insert k v m) i = if i = k then v else Store.get d m i := by
  induction m with
  | nil => simp [Store.insert, Store.get, eq_comm]
  | cons e m ih =>
    obtain ⟨j, w⟩ := e
    unfold Store.insert
    split
    next hj => subst hj; by_cases h : i = j <;> simp [Store.get, h, eq_comm]
    next hj =>
      split
      · by_cases h : i = k
        · simp [Store.get, h]
        · have h' : k ≠ i := fun e => h e.symm
          simp [Store.get, h, h']
      · by_cases h : j = i
        · subst h; simp_all [Store.get]
        · simp [Store.get, h, ih]

theorem Store.get_erase (d : α) (m : Store α) (k i : Nat) :
    Store.get d (Store.erase k m) i = if i = k then d else Store.get d m i := by
  induction m with
  | nil => simp [Store.erase]
  | cons e m ih =>
    obtain ⟨j, w⟩ := e
    by_cases hj : j = k <;> by_cases h : j = i <;> simp_all [Store.erase, Store.get]

/-- Reading after a write: the value written, and at every other index what was there before. -/
theorem Store.get_put [DecidableEq α] (d : α) (m : Store α) (k i : Nat) (v : α) :
    Store.get d (Store.put d m k v) i = if i = k then v else Store.get d m i := by
  unfold Store.put
  split
  · subst_vars; exact Store.get_erase ..
  · exact Store.get_insert ..

@[simp] theorem Store.get_put_self [DecidableEq α] (d : α) (m : Store α) (k : Nat) (v : α) :
    Store.get d (Store.put d m k v) k = v := by simp [Store.get_put]

theorem Store.get_put_of_ne [DecidableEq α] (d : α) (m : Store α) {k i : Nat} (v : α) (h : i ≠ k) :
    Store.get d (Store.put d m k v) i = Store.get d m i := by simp [Store.get_put, h]

/-- Reading under another default: a write elsewhere changes nothing. -/
theorem Store.get_put_other [DecidableEq α] (d e : α) (m : Store α) {k i : Nat} (v : α) (h : i ≠ k) :
    Store.get e (Store.put d m k v) i = Store.get e m i := by
  unfold Store.put
  split
  · simp [Store.get_erase, h]
  · simp [Store.get_insert, h]

/-! ### The canonical form -/

theorem Store.sortedFrom_mono {lo hi : Nat} (m : Store α) (h : lo ≤ hi) (s : Store.sortedFrom hi m = true) :
    Store.sortedFrom lo m = true := by
  cases m with
  | nil => rfl
  | cons e m => simp_all [Store.sortedFrom]; omega

theorem Store.sortedFrom_insert {lo k : Nat} (m : Store α) (v : α) (h : lo ≤ k) (s : Store.sortedFrom lo m = true) :
    Store.sortedFrom lo (Store.insert k v m) = true := by
  induction m generalizing lo with
  | nil => simp [Store.insert, Store.sortedFrom, h]
  | cons e m ih =>
    obtain ⟨j, w⟩ := e
    simp only [Store.sortedFrom, Bool.and_eq_true, decide_eq_true_eq] at s
    unfold Store.insert
    split
    · subst_vars; simp [Store.sortedFrom, s]
    · split
      · simp [Store.sortedFrom, h, s]; omega
      · simp [Store.sortedFrom, s]; exact ih (by omega) s.2

theorem Store.sortedFrom_erase {lo : Nat} (k : Nat) (m : Store α) (s : Store.sortedFrom lo m = true) :
    Store.sortedFrom lo (Store.erase k m) = true := by
  induction m generalizing lo with
  | nil => rfl
  | cons e m ih =>
    obtain ⟨j, w⟩ := e
    simp only [Store.sortedFrom, Bool.and_eq_true, decide_eq_true_eq] at s
    unfold Store.erase
    split
    · exact Store.sortedFrom_mono _ (by omega) (ih s.2)
    · simp [Store.sortedFrom, s, ih s.2]

theorem Store.mem_insert {k : Nat} {v : α} {m : Store α} {e : Nat × α} (h : e ∈ Store.insert k v m) :
    e = (k, v) ∨ e ∈ m := by
  induction m with
  | nil => simpa [Store.insert] using h
  | cons f m ih =>
    obtain ⟨j, w⟩ := f
    unfold Store.insert at h
    split at h
    · simp_all; tauto
    · split at h
      · simp_all
      · simp only [List.mem_cons] at h ⊢; tauto

theorem Store.mem_erase {k : Nat} {m : Store α} {e : Nat × α} (h : e ∈ Store.erase k m) : e ∈ m := by
  induction m with
  | nil => simp [Store.erase] at h
  | cons f m ih =>
    obtain ⟨j, w⟩ := f
    unfold Store.erase at h
    split at h
    · exact List.mem_cons_of_mem _ (ih h)
    · simp only [List.mem_cons] at h ⊢; tauto

/-- A write keeps the canonical form. -/
theorem Store.put_wf [DecidableEq α] (d : α) (m : Store α) (k : Nat) (v : α) (h : Store.wf d m = true) :
    Store.wf d (Store.put d m k v) = true := by
  simp only [Store.wf, Bool.and_eq_true, List.all_eq_true, decide_eq_true_eq] at h ⊢
  unfold Store.put
  split
  · exact ⟨Store.sortedFrom_erase k m h.1, fun e he => h.2 e (Store.mem_erase he)⟩
  · refine ⟨Store.sortedFrom_insert m v (Nat.zero_le k) h.1, fun e he => ?_⟩
    rcases Store.mem_insert he with rfl | he
    · assumption
    · exact h.2 e he

/-! ### Memory -/

theorem Memory.read_write (m : Memory) (a b : Nat) (x : Byte) :
    (m.write a x).read b = if b = a then x else m.read b := Store.get_put 0 m a b x

theorem Memory.write_wf (m : Memory) (a : Nat) (x : Byte) (h : m.wf = true) : (m.write a x).wf = true :=
  Store.put_wf 0 m a x h

theorem Memory.writeBytes_wf (bs : List Byte) (m : Memory) (a : Nat) (h : m.wf = true) :
    (m.writeBytes a bs).wf = true := by
  induction bs generalizing m a with
  | nil => exact h
  | cons b bs ih => exact ih _ _ (Memory.write_wf m a b h)

/-- Every byte outside the bytes written reads as before. -/
theorem Memory.read_writeBytes_outside (bs : List Byte) (m : Memory) (a b : Nat) (h : b < a ∨ a + bs.length ≤ b) :
    (m.writeBytes a bs).read b = m.read b := by
  induction bs generalizing m a with
  | nil => rfl
  | cons x bs ih =>
    simp only [List.length_cons] at h
    show Memory.read (Memory.writeBytes (m.write a x) (a + 1) bs) b = m.read b
    rw [ih _ _ (by omega), Memory.read_write, if_neg (by omega)]

/-- Each byte written reads as written. -/
theorem Memory.read_writeBytes_inside (bs : List Byte) (m : Memory) (a n : Nat) (h : n < bs.length) :
    (m.writeBytes a bs).read (a + n) = bs.getD n 0 := by
  induction bs generalizing m a n with
  | nil => simp at h
  | cons x bs ih =>
    show Memory.read (Memory.writeBytes (m.write a x) (a + 1) bs) (a + n) = _
    cases n with
    | zero => rw [Memory.read_writeBytes_outside _ _ _ _ (by omega), Memory.read_write]; simp
    | succ n =>
      rw [show a + (n + 1) = a + 1 + n by omega, ih _ _ n (by simpa using h)]; simp

end Sys2Proof
end

