-- ==== Sys2Proof/Laws/State.lean ====
section
/-!
SUPPORT. The state's updates: what each operation leaves alone, field by field, and what a record or a register reads after
one was written.
-/
namespace Sys2Proof.Machine

/-! ### Fields that an update leaves alone -/

@[simp] theorem State.setReg_frame (s : State) (n : RegName) (i j : Nat) (v : Word) :
    (s.setReg n i j v).pending = s.pending ∧ (s.setReg n i j v).clock = s.clock ∧
    (s.setReg n i j v).latches = s.latches ∧ (s.setReg n i j v).ptm = s.ptm ∧ (s.setReg n i j v).backWait = s.backWait ∧
    (s.setReg n i j v).pci = s.pci ∧ (s.setReg n i j v).tb0 = s.tb0 ∧ (s.setReg n i j v).tb1 = s.tb1 ∧
    (s.setReg n i j v).tb2 = s.tb2 ∧ (s.setReg n i j v).tb3 = s.tb3 ∧ (s.setReg n i j v).edges = s.edges ∧
    (s.setReg n i j v).tick = s.tick ∧ (s.setReg n i j v).trays = s.trays ∧ (s.setReg n i j v).lanes = s.lanes ∧
    (s.setReg n i j v).ports = s.ports ∧ (s.setReg n i j v).mills = s.mills ∧ (s.setReg n i j v).funnels = s.funnels ∧
    (s.setReg n i j v).walls = s.walls ∧ (s.setReg n i j v).rcl = s.rcl ∧ (s.setReg n i j v).rings = s.rings ∧
    (s.setReg n i j v).offered = s.offered ∧ (s.setReg n i j v).engine = s.engine ∧
    (s.setReg n i j v).xcache = s.xcache ∧ (s.setReg n i j v).prqs = s.prqs ∧ (s.setReg n i j v).lookups = s.lookups ∧
    (s.setReg n i j v).invals = s.invals ∧ (s.setReg n i j v).atsOn = s.atsOn ∧ (s.setReg n i j v).priOn = s.priOn ∧
    (s.setReg n i j v).relaxedOn = s.relaxedOn ∧ (s.setReg n i j v).priStop = s.priStop ∧
    (s.setReg n i j v).queues = s.queues ∧ (s.setReg n i j v).held = s.held ∧ (s.setReg n i j v).splits = s.splits ∧
    (s.setReg n i j v).streams = s.streams ∧ (s.setReg n i j v).syncLog = s.syncLog ∧
    (s.setReg n i j v).chain = s.chain ∧ (s.setReg n i j v).cports = s.cports ∧ (s.setReg n i j v).dram = s.dram ∧
    (s.setReg n i j v).upsets = s.upsets ∧ (s.setReg n i j v).chans = s.chans ∧ (s.setReg n i j v).active = s.active ∧
    (s.setReg n i j v).lastSlot = s.lastSlot ∧ (s.setReg n i j v).reduced = s.reduced ∧ (s.setReg n i j v).tw0 = s.tw0 ∧
    (s.setReg n i j v).twPorts = s.twPorts ∧ (s.setReg n i j v).sdma = s.sdma ∧ (s.setReg n i j v).power = s.power ∧
    (s.setReg n i j v).fuses = s.fuses ∧ (s.setReg n i j v).boot = s.boot ∧ (s.setReg n i j v).marks = s.marks ∧
    (s.setReg n i j v).markSeq = s.markSeq ∧ (s.setReg n i j v).markSelected = s.markSelected ∧
    (s.setReg n i j v).mirror = s.mirror ∧ (s.setReg n i j v).fatal = s.fatal ∧ (s.setReg n i j v).service = s.service ∧
    (s.setReg n i j v).raised = s.raised ∧ (s.setReg n i j v).free = s.free ∧ (s.setReg n i j v).out = s.out := by
  repeat' constructor

@[simp] theorem State.emit_frame (s : State) (e : Emission) :
    (s.emit e).pending = s.pending ∧ (s.emit e).clock = s.clock ∧ (s.emit e).regs = s.regs ∧
    (s.emit e).latches = s.latches ∧ (s.emit e).ptm = s.ptm ∧ (s.emit e).backWait = s.backWait ∧
    (s.emit e).pci = s.pci ∧ (s.emit e).tb0 = s.tb0 ∧ (s.emit e).tb1 = s.tb1 ∧ (s.emit e).tb2 = s.tb2 ∧
    (s.emit e).tb3 = s.tb3 ∧ (s.emit e).edges = s.edges ∧ (s.emit e).tick = s.tick ∧ (s.emit e).trays = s.trays ∧
    (s.emit e).lanes = s.lanes ∧ (s.emit e).ports = s.ports ∧ (s.emit e).mills = s.mills ∧
    (s.emit e).funnels = s.funnels ∧ (s.emit e).walls = s.walls ∧ (s.emit e).rcl = s.rcl ∧ (s.emit e).rings = s.rings ∧
    (s.emit e).offered = s.offered ∧ (s.emit e).engine = s.engine ∧ (s.emit e).xcache = s.xcache ∧
    (s.emit e).prqs = s.prqs ∧ (s.emit e).lookups = s.lookups ∧ (s.emit e).invals = s.invals ∧
    (s.emit e).atsOn = s.atsOn ∧ (s.emit e).priOn = s.priOn ∧ (s.emit e).relaxedOn = s.relaxedOn ∧
    (s.emit e).priStop = s.priStop ∧ (s.emit e).queues = s.queues ∧ (s.emit e).held = s.held ∧
    (s.emit e).splits = s.splits ∧ (s.emit e).streams = s.streams ∧ (s.emit e).syncLog = s.syncLog ∧
    (s.emit e).chain = s.chain ∧ (s.emit e).cports = s.cports ∧ (s.emit e).dram = s.dram ∧
    (s.emit e).upsets = s.upsets ∧ (s.emit e).chans = s.chans ∧ (s.emit e).active = s.active ∧
    (s.emit e).lastSlot = s.lastSlot ∧ (s.emit e).reduced = s.reduced ∧ (s.emit e).tw0 = s.tw0 ∧
    (s.emit e).twPorts = s.twPorts ∧ (s.emit e).sdma = s.sdma ∧ (s.emit e).power = s.power ∧
    (s.emit e).fuses = s.fuses ∧ (s.emit e).boot = s.boot ∧ (s.emit e).marks = s.marks ∧
    (s.emit e).markSeq = s.markSeq ∧ (s.emit e).markSelected = s.markSelected ∧ (s.emit e).mirror = s.mirror ∧
    (s.emit e).fatal = s.fatal ∧ (s.emit e).service = s.service ∧ (s.emit e).raised = s.raised ∧
    (s.emit e).free = s.free := by
  repeat' constructor

@[simp] theorem State.raise_frame (s : State) (type : Nat) (fs : List (Nat × Nat)) (time : Option (BitVec 128)) :
    (s.raise type fs time).pending = s.pending ∧ (s.raise type fs time).clock = s.clock ∧
    (s.raise type fs time).regs = s.regs ∧ (s.raise type fs time).latches = s.latches ∧
    (s.raise type fs time).ptm = s.ptm ∧ (s.raise type fs time).backWait = s.backWait ∧
    (s.raise type fs time).pci = s.pci ∧ (s.raise type fs time).tb0 = s.tb0 ∧ (s.raise type fs time).tb1 = s.tb1 ∧
    (s.raise type fs time).tb2 = s.tb2 ∧ (s.raise type fs time).tb3 = s.tb3 ∧ (s.raise type fs time).edges = s.edges ∧
    (s.raise type fs time).tick = s.tick ∧ (s.raise type fs time).trays = s.trays ∧
    (s.raise type fs time).lanes = s.lanes ∧ (s.raise type fs time).ports = s.ports ∧
    (s.raise type fs time).mills = s.mills ∧ (s.raise type fs time).funnels = s.funnels ∧
    (s.raise type fs time).walls = s.walls ∧ (s.raise type fs time).rcl = s.rcl ∧
    (s.raise type fs time).rings = s.rings ∧ (s.raise type fs time).offered = s.offered ∧
    (s.raise type fs time).engine = s.engine ∧ (s.raise type fs time).xcache = s.xcache ∧
    (s.raise type fs time).prqs = s.prqs ∧ (s.raise type fs time).lookups = s.lookups ∧
    (s.raise type fs time).invals = s.invals ∧ (s.raise type fs time).atsOn = s.atsOn ∧
    (s.raise type fs time).priOn = s.priOn ∧ (s.raise type fs time).relaxedOn = s.relaxedOn ∧
    (s.raise type fs time).priStop = s.priStop ∧ (s.raise type fs time).queues = s.queues ∧
    (s.raise type fs time).held = s.held ∧ (s.raise type fs time).splits = s.splits ∧
    (s.raise type fs time).streams = s.streams ∧ (s.raise type fs time).syncLog = s.syncLog ∧
    (s.raise type fs time).chain = s.chain ∧ (s.raise type fs time).cports = s.cports ∧
    (s.raise type fs time).dram = s.dram ∧ (s.raise type fs time).upsets = s.upsets ∧
    (s.raise type fs time).chans = s.chans ∧ (s.raise type fs time).active = s.active ∧
    (s.raise type fs time).lastSlot = s.lastSlot ∧ (s.raise type fs time).reduced = s.reduced ∧
    (s.raise type fs time).tw0 = s.tw0 ∧ (s.raise type fs time).twPorts = s.twPorts ∧
    (s.raise type fs time).sdma = s.sdma ∧ (s.raise type fs time).power = s.power ∧
    (s.raise type fs time).fuses = s.fuses ∧ (s.raise type fs time).boot = s.boot ∧
    (s.raise type fs time).marks = s.marks ∧ (s.raise type fs time).markSeq = s.markSeq ∧
    (s.raise type fs time).markSelected = s.markSelected ∧ (s.raise type fs time).mirror = s.mirror ∧
    (s.raise type fs time).fatal = s.fatal ∧ (s.raise type fs time).service = s.service ∧
    (s.raise type fs time).free = s.free ∧ (s.raise type fs time).out = s.out := by
  repeat' constructor

@[simp] theorem State.mark_frame (s : State) (o : Origin) (kind target : Nat) (old new : Word) (refused : Bool) :
    (s.mark o kind target old new refused).pending = s.pending ∧
    (s.mark o kind target old new refused).clock = s.clock ∧ (s.mark o kind target old new refused).regs = s.regs ∧
    (s.mark o kind target old new refused).latches = s.latches ∧ (s.mark o kind target old new refused).ptm = s.ptm ∧
    (s.mark o kind target old new refused).backWait = s.backWait ∧ (s.mark o kind target old new refused).pci = s.pci ∧
    (s.mark o kind target old new refused).tb0 = s.tb0 ∧ (s.mark o kind target old new refused).tb1 = s.tb1 ∧
    (s.mark o kind target old new refused).tb2 = s.tb2 ∧ (s.mark o kind target old new refused).tb3 = s.tb3 ∧
    (s.mark o kind target old new refused).edges = s.edges ∧ (s.mark o kind target old new refused).tick = s.tick ∧
    (s.mark o kind target old new refused).trays = s.trays ∧ (s.mark o kind target old new refused).lanes = s.lanes ∧
    (s.mark o kind target old new refused).ports = s.ports ∧ (s.mark o kind target old new refused).mills = s.mills ∧
    (s.mark o kind target old new refused).funnels = s.funnels ∧
    (s.mark o kind target old new refused).walls = s.walls ∧ (s.mark o kind target old new refused).rcl = s.rcl ∧
    (s.mark o kind target old new refused).rings = s.rings ∧
    (s.mark o kind target old new refused).offered = s.offered ∧
    (s.mark o kind target old new refused).engine = s.engine ∧
    (s.mark o kind target old new refused).xcache = s.xcache ∧ (s.mark o kind target old new refused).prqs = s.prqs ∧
    (s.mark o kind target old new refused).lookups = s.lookups ∧
    (s.mark o kind target old new refused).invals = s.invals ∧ (s.mark o kind target old new refused).atsOn = s.atsOn ∧
    (s.mark o kind target old new refused).priOn = s.priOn ∧
    (s.mark o kind target old new refused).relaxedOn = s.relaxedOn ∧
    (s.mark o kind target old new refused).priStop = s.priStop ∧
    (s.mark o kind target old new refused).queues = s.queues ∧ (s.mark o kind target old new refused).held = s.held ∧
    (s.mark o kind target old new refused).splits = s.splits ∧
    (s.mark o kind target old new refused).streams = s.streams ∧
    (s.mark o kind target old new refused).syncLog = s.syncLog ∧
    (s.mark o kind target old new refused).chain = s.chain ∧ (s.mark o kind target old new refused).cports = s.cports ∧
    (s.mark o kind target old new refused).dram = s.dram ∧ (s.mark o kind target old new refused).upsets = s.upsets ∧
    (s.mark o kind target old new refused).chans = s.chans ∧ (s.mark o kind target old new refused).active = s.active ∧
    (s.mark o kind target old new refused).lastSlot = s.lastSlot ∧
    (s.mark o kind target old new refused).reduced = s.reduced ∧ (s.mark o kind target old new refused).tw0 = s.tw0 ∧
    (s.mark o kind target old new refused).twPorts = s.twPorts ∧ (s.mark o kind target old new refused).sdma = s.sdma ∧
    (s.mark o kind target old new refused).power = s.power ∧ (s.mark o kind target old new refused).fuses = s.fuses ∧
    (s.mark o kind target old new refused).boot = s.boot ∧
    (s.mark o kind target old new refused).markSelected = s.markSelected ∧
    (s.mark o kind target old new refused).mirror = s.mirror ∧ (s.mark o kind target old new refused).fatal = s.fatal ∧
    (s.mark o kind target old new refused).service = s.service ∧
    (s.mark o kind target old new refused).raised = s.raised ∧ (s.mark o kind target old new refused).free = s.free ∧
    (s.mark o kind target old new refused).out = s.out := by
  repeat' constructor

@[simp] theorem State.setLane_frame (s : State) (k : Nat) (x : Lane) :
    (s.setLane k x).pending = s.pending ∧ (s.setLane k x).clock = s.clock ∧ (s.setLane k x).regs = s.regs ∧
    (s.setLane k x).latches = s.latches ∧ (s.setLane k x).ptm = s.ptm ∧ (s.setLane k x).backWait = s.backWait ∧
    (s.setLane k x).pci = s.pci ∧ (s.setLane k x).tb0 = s.tb0 ∧ (s.setLane k x).tb1 = s.tb1 ∧
    (s.setLane k x).tb2 = s.tb2 ∧ (s.setLane k x).tb3 = s.tb3 ∧ (s.setLane k x).edges = s.edges ∧
    (s.setLane k x).tick = s.tick ∧ (s.setLane k x).trays = s.trays ∧ (s.setLane k x).ports = s.ports ∧
    (s.setLane k x).mills = s.mills ∧ (s.setLane k x).funnels = s.funnels ∧ (s.setLane k x).walls = s.walls ∧
    (s.setLane k x).rcl = s.rcl ∧ (s.setLane k x).rings = s.rings ∧ (s.setLane k x).offered = s.offered ∧
    (s.setLane k x).engine = s.engine ∧ (s.setLane k x).xcache = s.xcache ∧ (s.setLane k x).prqs = s.prqs ∧
    (s.setLane k x).lookups = s.lookups ∧ (s.setLane k x).invals = s.invals ∧ (s.setLane k x).atsOn = s.atsOn ∧
    (s.setLane k x).priOn = s.priOn ∧ (s.setLane k x).relaxedOn = s.relaxedOn ∧ (s.setLane k x).priStop = s.priStop ∧
    (s.setLane k x).queues = s.queues ∧ (s.setLane k x).held = s.held ∧ (s.setLane k x).splits = s.splits ∧
    (s.setLane k x).streams = s.streams ∧ (s.setLane k x).syncLog = s.syncLog ∧ (s.setLane k x).chain = s.chain ∧
    (s.setLane k x).cports = s.cports ∧ (s.setLane k x).dram = s.dram ∧ (s.setLane k x).upsets = s.upsets ∧
    (s.setLane k x).chans = s.chans ∧ (s.setLane k x).active = s.active ∧ (s.setLane k x).lastSlot = s.lastSlot ∧
    (s.setLane k x).reduced = s.reduced ∧ (s.setLane k x).tw0 = s.tw0 ∧ (s.setLane k x).twPorts = s.twPorts ∧
    (s.setLane k x).sdma = s.sdma ∧ (s.setLane k x).power = s.power ∧ (s.setLane k x).fuses = s.fuses ∧
    (s.setLane k x).boot = s.boot ∧ (s.setLane k x).marks = s.marks ∧ (s.setLane k x).markSeq = s.markSeq ∧
    (s.setLane k x).markSelected = s.markSelected ∧ (s.setLane k x).mirror = s.mirror ∧
    (s.setLane k x).fatal = s.fatal ∧ (s.setLane k x).service = s.service ∧ (s.setLane k x).raised = s.raised ∧
    (s.setLane k x).free = s.free ∧ (s.setLane k x).out = s.out := by
  repeat' constructor

@[simp] theorem State.setPort_frame (s : State) (k : Nat) (x : Port) :
    (s.setPort k x).pending = s.pending ∧ (s.setPort k x).clock = s.clock ∧ (s.setPort k x).regs = s.regs ∧
    (s.setPort k x).latches = s.latches ∧ (s.setPort k x).ptm = s.ptm ∧ (s.setPort k x).backWait = s.backWait ∧
    (s.setPort k x).pci = s.pci ∧ (s.setPort k x).tb0 = s.tb0 ∧ (s.setPort k x).tb1 = s.tb1 ∧
    (s.setPort k x).tb2 = s.tb2 ∧ (s.setPort k x).tb3 = s.tb3 ∧ (s.setPort k x).edges = s.edges ∧
    (s.setPort k x).tick = s.tick ∧ (s.setPort k x).trays = s.trays ∧ (s.setPort k x).lanes = s.lanes ∧
    (s.setPort k x).mills = s.mills ∧ (s.setPort k x).funnels = s.funnels ∧ (s.setPort k x).walls = s.walls ∧
    (s.setPort k x).rcl = s.rcl ∧ (s.setPort k x).rings = s.rings ∧ (s.setPort k x).offered = s.offered ∧
    (s.setPort k x).engine = s.engine ∧ (s.setPort k x).xcache = s.xcache ∧ (s.setPort k x).prqs = s.prqs ∧
    (s.setPort k x).lookups = s.lookups ∧ (s.setPort k x).invals = s.invals ∧ (s.setPort k x).atsOn = s.atsOn ∧
    (s.setPort k x).priOn = s.priOn ∧ (s.setPort k x).relaxedOn = s.relaxedOn ∧ (s.setPort k x).priStop = s.priStop ∧
    (s.setPort k x).queues = s.queues ∧ (s.setPort k x).held = s.held ∧ (s.setPort k x).splits = s.splits ∧
    (s.setPort k x).streams = s.streams ∧ (s.setPort k x).syncLog = s.syncLog ∧ (s.setPort k x).chain = s.chain ∧
    (s.setPort k x).cports = s.cports ∧ (s.setPort k x).dram = s.dram ∧ (s.setPort k x).upsets = s.upsets ∧
    (s.setPort k x).chans = s.chans ∧ (s.setPort k x).active = s.active ∧ (s.setPort k x).lastSlot = s.lastSlot ∧
    (s.setPort k x).reduced = s.reduced ∧ (s.setPort k x).tw0 = s.tw0 ∧ (s.setPort k x).twPorts = s.twPorts ∧
    (s.setPort k x).sdma = s.sdma ∧ (s.setPort k x).power = s.power ∧ (s.setPort k x).fuses = s.fuses ∧
    (s.setPort k x).boot = s.boot ∧ (s.setPort k x).marks = s.marks ∧ (s.setPort k x).markSeq = s.markSeq ∧
    (s.setPort k x).markSelected = s.markSelected ∧ (s.setPort k x).mirror = s.mirror ∧
    (s.setPort k x).fatal = s.fatal ∧ (s.setPort k x).service = s.service ∧ (s.setPort k x).raised = s.raised ∧
    (s.setPort k x).free = s.free ∧ (s.setPort k x).out = s.out := by
  repeat' constructor

@[simp] theorem State.setMill_frame (s : State) (k : Nat) (x : Mill) :
    (s.setMill k x).pending = s.pending ∧ (s.setMill k x).clock = s.clock ∧ (s.setMill k x).regs = s.regs ∧
    (s.setMill k x).latches = s.latches ∧ (s.setMill k x).ptm = s.ptm ∧ (s.setMill k x).backWait = s.backWait ∧
    (s.setMill k x).pci = s.pci ∧ (s.setMill k x).tb0 = s.tb0 ∧ (s.setMill k x).tb1 = s.tb1 ∧
    (s.setMill k x).tb2 = s.tb2 ∧ (s.setMill k x).tb3 = s.tb3 ∧ (s.setMill k x).edges = s.edges ∧
    (s.setMill k x).tick = s.tick ∧ (s.setMill k x).trays = s.trays ∧ (s.setMill k x).lanes = s.lanes ∧
    (s.setMill k x).ports = s.ports ∧ (s.setMill k x).funnels = s.funnels ∧ (s.setMill k x).walls = s.walls ∧
    (s.setMill k x).rcl = s.rcl ∧ (s.setMill k x).rings = s.rings ∧ (s.setMill k x).offered = s.offered ∧
    (s.setMill k x).engine = s.engine ∧ (s.setMill k x).xcache = s.xcache ∧ (s.setMill k x).prqs = s.prqs ∧
    (s.setMill k x).lookups = s.lookups ∧ (s.setMill k x).invals = s.invals ∧ (s.setMill k x).atsOn = s.atsOn ∧
    (s.setMill k x).priOn = s.priOn ∧ (s.setMill k x).relaxedOn = s.relaxedOn ∧ (s.setMill k x).priStop = s.priStop ∧
    (s.setMill k x).queues = s.queues ∧ (s.setMill k x).held = s.held ∧ (s.setMill k x).splits = s.splits ∧
    (s.setMill k x).streams = s.streams ∧ (s.setMill k x).syncLog = s.syncLog ∧ (s.setMill k x).chain = s.chain ∧
    (s.setMill k x).cports = s.cports ∧ (s.setMill k x).dram = s.dram ∧ (s.setMill k x).upsets = s.upsets ∧
    (s.setMill k x).chans = s.chans ∧ (s.setMill k x).active = s.active ∧ (s.setMill k x).lastSlot = s.lastSlot ∧
    (s.setMill k x).reduced = s.reduced ∧ (s.setMill k x).tw0 = s.tw0 ∧ (s.setMill k x).twPorts = s.twPorts ∧
    (s.setMill k x).sdma = s.sdma ∧ (s.setMill k x).power = s.power ∧ (s.setMill k x).fuses = s.fuses ∧
    (s.setMill k x).boot = s.boot ∧ (s.setMill k x).marks = s.marks ∧ (s.setMill k x).markSeq = s.markSeq ∧
    (s.setMill k x).markSelected = s.markSelected ∧ (s.setMill k x).mirror = s.mirror ∧
    (s.setMill k x).fatal = s.fatal ∧ (s.setMill k x).service = s.service ∧ (s.setMill k x).raised = s.raised ∧
    (s.setMill k x).free = s.free ∧ (s.setMill k x).out = s.out := by
  repeat' constructor

@[simp] theorem State.setFunnel_frame (s : State) (k : Nat) (x : List FunItem) :
    (s.setFunnel k x).pending = s.pending ∧ (s.setFunnel k x).clock = s.clock ∧ (s.setFunnel k x).regs = s.regs ∧
    (s.setFunnel k x).latches = s.latches ∧ (s.setFunnel k x).ptm = s.ptm ∧ (s.setFunnel k x).backWait = s.backWait ∧
    (s.setFunnel k x).pci = s.pci ∧ (s.setFunnel k x).tb0 = s.tb0 ∧ (s.setFunnel k x).tb1 = s.tb1 ∧
    (s.setFunnel k x).tb2 = s.tb2 ∧ (s.setFunnel k x).tb3 = s.tb3 ∧ (s.setFunnel k x).edges = s.edges ∧
    (s.setFunnel k x).tick = s.tick ∧ (s.setFunnel k x).trays = s.trays ∧ (s.setFunnel k x).lanes = s.lanes ∧
    (s.setFunnel k x).ports = s.ports ∧ (s.setFunnel k x).mills = s.mills ∧ (s.setFunnel k x).walls = s.walls ∧
    (s.setFunnel k x).rcl = s.rcl ∧ (s.setFunnel k x).rings = s.rings ∧ (s.setFunnel k x).offered = s.offered ∧
    (s.setFunnel k x).engine = s.engine ∧ (s.setFunnel k x).xcache = s.xcache ∧ (s.setFunnel k x).prqs = s.prqs ∧
    (s.setFunnel k x).lookups = s.lookups ∧ (s.setFunnel k x).invals = s.invals ∧ (s.setFunnel k x).atsOn = s.atsOn ∧
    (s.setFunnel k x).priOn = s.priOn ∧ (s.setFunnel k x).relaxedOn = s.relaxedOn ∧
    (s.setFunnel k x).priStop = s.priStop ∧ (s.setFunnel k x).queues = s.queues ∧ (s.setFunnel k x).held = s.held ∧
    (s.setFunnel k x).splits = s.splits ∧ (s.setFunnel k x).streams = s.streams ∧
    (s.setFunnel k x).syncLog = s.syncLog ∧ (s.setFunnel k x).chain = s.chain ∧ (s.setFunnel k x).cports = s.cports ∧
    (s.setFunnel k x).dram = s.dram ∧ (s.setFunnel k x).upsets = s.upsets ∧ (s.setFunnel k x).chans = s.chans ∧
    (s.setFunnel k x).active = s.active ∧ (s.setFunnel k x).lastSlot = s.lastSlot ∧
    (s.setFunnel k x).reduced = s.reduced ∧ (s.setFunnel k x).tw0 = s.tw0 ∧ (s.setFunnel k x).twPorts = s.twPorts ∧
    (s.setFunnel k x).sdma = s.sdma ∧ (s.setFunnel k x).power = s.power ∧ (s.setFunnel k x).fuses = s.fuses ∧
    (s.setFunnel k x).boot = s.boot ∧ (s.setFunnel k x).marks = s.marks ∧ (s.setFunnel k x).markSeq = s.markSeq ∧
    (s.setFunnel k x).markSelected = s.markSelected ∧ (s.setFunnel k x).mirror = s.mirror ∧
    (s.setFunnel k x).fatal = s.fatal ∧ (s.setFunnel k x).service = s.service ∧ (s.setFunnel k x).raised = s.raised ∧
    (s.setFunnel k x).free = s.free ∧ (s.setFunnel k x).out = s.out := by
  repeat' constructor

@[simp] theorem State.setWall_frame (s : State) (k : Nat) (x : Wall) :
    (s.setWall k x).pending = s.pending ∧ (s.setWall k x).clock = s.clock ∧ (s.setWall k x).regs = s.regs ∧
    (s.setWall k x).latches = s.latches ∧ (s.setWall k x).ptm = s.ptm ∧ (s.setWall k x).backWait = s.backWait ∧
    (s.setWall k x).pci = s.pci ∧ (s.setWall k x).tb0 = s.tb0 ∧ (s.setWall k x).tb1 = s.tb1 ∧
    (s.setWall k x).tb2 = s.tb2 ∧ (s.setWall k x).tb3 = s.tb3 ∧ (s.setWall k x).edges = s.edges ∧
    (s.setWall k x).tick = s.tick ∧ (s.setWall k x).trays = s.trays ∧ (s.setWall k x).lanes = s.lanes ∧
    (s.setWall k x).ports = s.ports ∧ (s.setWall k x).mills = s.mills ∧ (s.setWall k x).funnels = s.funnels ∧
    (s.setWall k x).rcl = s.rcl ∧ (s.setWall k x).rings = s.rings ∧ (s.setWall k x).offered = s.offered ∧
    (s.setWall k x).engine = s.engine ∧ (s.setWall k x).xcache = s.xcache ∧ (s.setWall k x).prqs = s.prqs ∧
    (s.setWall k x).lookups = s.lookups ∧ (s.setWall k x).invals = s.invals ∧ (s.setWall k x).atsOn = s.atsOn ∧
    (s.setWall k x).priOn = s.priOn ∧ (s.setWall k x).relaxedOn = s.relaxedOn ∧ (s.setWall k x).priStop = s.priStop ∧
    (s.setWall k x).queues = s.queues ∧ (s.setWall k x).held = s.held ∧ (s.setWall k x).splits = s.splits ∧
    (s.setWall k x).streams = s.streams ∧ (s.setWall k x).syncLog = s.syncLog ∧ (s.setWall k x).chain = s.chain ∧
    (s.setWall k x).cports = s.cports ∧ (s.setWall k x).dram = s.dram ∧ (s.setWall k x).upsets = s.upsets ∧
    (s.setWall k x).chans = s.chans ∧ (s.setWall k x).active = s.active ∧ (s.setWall k x).lastSlot = s.lastSlot ∧
    (s.setWall k x).reduced = s.reduced ∧ (s.setWall k x).tw0 = s.tw0 ∧ (s.setWall k x).twPorts = s.twPorts ∧
    (s.setWall k x).sdma = s.sdma ∧ (s.setWall k x).power = s.power ∧ (s.setWall k x).fuses = s.fuses ∧
    (s.setWall k x).boot = s.boot ∧ (s.setWall k x).marks = s.marks ∧ (s.setWall k x).markSeq = s.markSeq ∧
    (s.setWall k x).markSelected = s.markSelected ∧ (s.setWall k x).mirror = s.mirror ∧
    (s.setWall k x).fatal = s.fatal ∧ (s.setWall k x).service = s.service ∧ (s.setWall k x).raised = s.raised ∧
    (s.setWall k x).free = s.free ∧ (s.setWall k x).out = s.out := by
  repeat' constructor

@[simp] theorem State.setRing_frame (s : State) (k : Nat) (x : Ring) :
    (s.setRing k x).pending = s.pending ∧ (s.setRing k x).clock = s.clock ∧ (s.setRing k x).regs = s.regs ∧
    (s.setRing k x).latches = s.latches ∧ (s.setRing k x).ptm = s.ptm ∧ (s.setRing k x).backWait = s.backWait ∧
    (s.setRing k x).pci = s.pci ∧ (s.setRing k x).tb0 = s.tb0 ∧ (s.setRing k x).tb1 = s.tb1 ∧
    (s.setRing k x).tb2 = s.tb2 ∧ (s.setRing k x).tb3 = s.tb3 ∧ (s.setRing k x).edges = s.edges ∧
    (s.setRing k x).tick = s.tick ∧ (s.setRing k x).trays = s.trays ∧ (s.setRing k x).lanes = s.lanes ∧
    (s.setRing k x).ports = s.ports ∧ (s.setRing k x).mills = s.mills ∧ (s.setRing k x).funnels = s.funnels ∧
    (s.setRing k x).walls = s.walls ∧ (s.setRing k x).rcl = s.rcl ∧ (s.setRing k x).offered = s.offered ∧
    (s.setRing k x).engine = s.engine ∧ (s.setRing k x).xcache = s.xcache ∧ (s.setRing k x).prqs = s.prqs ∧
    (s.setRing k x).lookups = s.lookups ∧ (s.setRing k x).invals = s.invals ∧ (s.setRing k x).atsOn = s.atsOn ∧
    (s.setRing k x).priOn = s.priOn ∧ (s.setRing k x).relaxedOn = s.relaxedOn ∧ (s.setRing k x).priStop = s.priStop ∧
    (s.setRing k x).queues = s.queues ∧ (s.setRing k x).held = s.held ∧ (s.setRing k x).splits = s.splits ∧
    (s.setRing k x).streams = s.streams ∧ (s.setRing k x).syncLog = s.syncLog ∧ (s.setRing k x).chain = s.chain ∧
    (s.setRing k x).cports = s.cports ∧ (s.setRing k x).dram = s.dram ∧ (s.setRing k x).upsets = s.upsets ∧
    (s.setRing k x).chans = s.chans ∧ (s.setRing k x).active = s.active ∧ (s.setRing k x).lastSlot = s.lastSlot ∧
    (s.setRing k x).reduced = s.reduced ∧ (s.setRing k x).tw0 = s.tw0 ∧ (s.setRing k x).twPorts = s.twPorts ∧
    (s.setRing k x).sdma = s.sdma ∧ (s.setRing k x).power = s.power ∧ (s.setRing k x).fuses = s.fuses ∧
    (s.setRing k x).boot = s.boot ∧ (s.setRing k x).marks = s.marks ∧ (s.setRing k x).markSeq = s.markSeq ∧
    (s.setRing k x).markSelected = s.markSelected ∧ (s.setRing k x).mirror = s.mirror ∧
    (s.setRing k x).fatal = s.fatal ∧ (s.setRing k x).service = s.service ∧ (s.setRing k x).raised = s.raised ∧
    (s.setRing k x).free = s.free ∧ (s.setRing k x).out = s.out := by
  repeat' constructor

@[simp] theorem State.setQueue_frame (s : State) (k : Nat) (x : EvQueue) :
    (s.setQueue k x).pending = s.pending ∧ (s.setQueue k x).clock = s.clock ∧ (s.setQueue k x).regs = s.regs ∧
    (s.setQueue k x).latches = s.latches ∧ (s.setQueue k x).ptm = s.ptm ∧ (s.setQueue k x).backWait = s.backWait ∧
    (s.setQueue k x).pci = s.pci ∧ (s.setQueue k x).tb0 = s.tb0 ∧ (s.setQueue k x).tb1 = s.tb1 ∧
    (s.setQueue k x).tb2 = s.tb2 ∧ (s.setQueue k x).tb3 = s.tb3 ∧ (s.setQueue k x).edges = s.edges ∧
    (s.setQueue k x).tick = s.tick ∧ (s.setQueue k x).trays = s.trays ∧ (s.setQueue k x).lanes = s.lanes ∧
    (s.setQueue k x).ports = s.ports ∧ (s.setQueue k x).mills = s.mills ∧ (s.setQueue k x).funnels = s.funnels ∧
    (s.setQueue k x).walls = s.walls ∧ (s.setQueue k x).rcl = s.rcl ∧ (s.setQueue k x).rings = s.rings ∧
    (s.setQueue k x).offered = s.offered ∧ (s.setQueue k x).engine = s.engine ∧ (s.setQueue k x).xcache = s.xcache ∧
    (s.setQueue k x).prqs = s.prqs ∧ (s.setQueue k x).lookups = s.lookups ∧ (s.setQueue k x).invals = s.invals ∧
    (s.setQueue k x).atsOn = s.atsOn ∧ (s.setQueue k x).priOn = s.priOn ∧ (s.setQueue k x).relaxedOn = s.relaxedOn ∧
    (s.setQueue k x).priStop = s.priStop ∧ (s.setQueue k x).held = s.held ∧ (s.setQueue k x).splits = s.splits ∧
    (s.setQueue k x).streams = s.streams ∧ (s.setQueue k x).syncLog = s.syncLog ∧ (s.setQueue k x).chain = s.chain ∧
    (s.setQueue k x).cports = s.cports ∧ (s.setQueue k x).dram = s.dram ∧ (s.setQueue k x).upsets = s.upsets ∧
    (s.setQueue k x).chans = s.chans ∧ (s.setQueue k x).active = s.active ∧ (s.setQueue k x).lastSlot = s.lastSlot ∧
    (s.setQueue k x).reduced = s.reduced ∧ (s.setQueue k x).tw0 = s.tw0 ∧ (s.setQueue k x).twPorts = s.twPorts ∧
    (s.setQueue k x).sdma = s.sdma ∧ (s.setQueue k x).power = s.power ∧ (s.setQueue k x).fuses = s.fuses ∧
    (s.setQueue k x).boot = s.boot ∧ (s.setQueue k x).marks = s.marks ∧ (s.setQueue k x).markSeq = s.markSeq ∧
    (s.setQueue k x).markSelected = s.markSelected ∧ (s.setQueue k x).mirror = s.mirror ∧
    (s.setQueue k x).fatal = s.fatal ∧ (s.setQueue k x).service = s.service ∧ (s.setQueue k x).raised = s.raised ∧
    (s.setQueue k x).free = s.free ∧ (s.setQueue k x).out = s.out := by
  repeat' constructor

@[simp] theorem State.setTray_frame (s : State) (k : Nat) (x : Tray) :
    (s.setTray k x).pending = s.pending ∧ (s.setTray k x).clock = s.clock ∧ (s.setTray k x).regs = s.regs ∧
    (s.setTray k x).latches = s.latches ∧ (s.setTray k x).ptm = s.ptm ∧ (s.setTray k x).backWait = s.backWait ∧
    (s.setTray k x).pci = s.pci ∧ (s.setTray k x).tb0 = s.tb0 ∧ (s.setTray k x).tb1 = s.tb1 ∧
    (s.setTray k x).tb2 = s.tb2 ∧ (s.setTray k x).tb3 = s.tb3 ∧ (s.setTray k x).edges = s.edges ∧
    (s.setTray k x).tick = s.tick ∧ (s.setTray k x).lanes = s.lanes ∧ (s.setTray k x).ports = s.ports ∧
    (s.setTray k x).mills = s.mills ∧ (s.setTray k x).funnels = s.funnels ∧ (s.setTray k x).walls = s.walls ∧
    (s.setTray k x).rcl = s.rcl ∧ (s.setTray k x).rings = s.rings ∧ (s.setTray k x).offered = s.offered ∧
    (s.setTray k x).engine = s.engine ∧ (s.setTray k x).xcache = s.xcache ∧ (s.setTray k x).prqs = s.prqs ∧
    (s.setTray k x).lookups = s.lookups ∧ (s.setTray k x).invals = s.invals ∧ (s.setTray k x).atsOn = s.atsOn ∧
    (s.setTray k x).priOn = s.priOn ∧ (s.setTray k x).relaxedOn = s.relaxedOn ∧ (s.setTray k x).priStop = s.priStop ∧
    (s.setTray k x).queues = s.queues ∧ (s.setTray k x).held = s.held ∧ (s.setTray k x).splits = s.splits ∧
    (s.setTray k x).streams = s.streams ∧ (s.setTray k x).syncLog = s.syncLog ∧ (s.setTray k x).chain = s.chain ∧
    (s.setTray k x).cports = s.cports ∧ (s.setTray k x).dram = s.dram ∧ (s.setTray k x).upsets = s.upsets ∧
    (s.setTray k x).chans = s.chans ∧ (s.setTray k x).active = s.active ∧ (s.setTray k x).lastSlot = s.lastSlot ∧
    (s.setTray k x).reduced = s.reduced ∧ (s.setTray k x).tw0 = s.tw0 ∧ (s.setTray k x).twPorts = s.twPorts ∧
    (s.setTray k x).sdma = s.sdma ∧ (s.setTray k x).power = s.power ∧ (s.setTray k x).fuses = s.fuses ∧
    (s.setTray k x).boot = s.boot ∧ (s.setTray k x).marks = s.marks ∧ (s.setTray k x).markSeq = s.markSeq ∧
    (s.setTray k x).markSelected = s.markSelected ∧ (s.setTray k x).mirror = s.mirror ∧
    (s.setTray k x).fatal = s.fatal ∧ (s.setTray k x).service = s.service ∧ (s.setTray k x).raised = s.raised ∧
    (s.setTray k x).free = s.free ∧ (s.setTray k x).out = s.out := by
  repeat' constructor

@[simp] theorem State.setEdge_frame (s : State) (k : Nat) (x : EdgeIn) :
    (s.setEdge k x).pending = s.pending ∧ (s.setEdge k x).clock = s.clock ∧ (s.setEdge k x).regs = s.regs ∧
    (s.setEdge k x).latches = s.latches ∧ (s.setEdge k x).ptm = s.ptm ∧ (s.setEdge k x).backWait = s.backWait ∧
    (s.setEdge k x).pci = s.pci ∧ (s.setEdge k x).tb0 = s.tb0 ∧ (s.setEdge k x).tb1 = s.tb1 ∧
    (s.setEdge k x).tb2 = s.tb2 ∧ (s.setEdge k x).tb3 = s.tb3 ∧ (s.setEdge k x).tick = s.tick ∧
    (s.setEdge k x).trays = s.trays ∧ (s.setEdge k x).lanes = s.lanes ∧ (s.setEdge k x).ports = s.ports ∧
    (s.setEdge k x).mills = s.mills ∧ (s.setEdge k x).funnels = s.funnels ∧ (s.setEdge k x).walls = s.walls ∧
    (s.setEdge k x).rcl = s.rcl ∧ (s.setEdge k x).rings = s.rings ∧ (s.setEdge k x).offered = s.offered ∧
    (s.setEdge k x).engine = s.engine ∧ (s.setEdge k x).xcache = s.xcache ∧ (s.setEdge k x).prqs = s.prqs ∧
    (s.setEdge k x).lookups = s.lookups ∧ (s.setEdge k x).invals = s.invals ∧ (s.setEdge k x).atsOn = s.atsOn ∧
    (s.setEdge k x).priOn = s.priOn ∧ (s.setEdge k x).relaxedOn = s.relaxedOn ∧ (s.setEdge k x).priStop = s.priStop ∧
    (s.setEdge k x).queues = s.queues ∧ (s.setEdge k x).held = s.held ∧ (s.setEdge k x).splits = s.splits ∧
    (s.setEdge k x).streams = s.streams ∧ (s.setEdge k x).syncLog = s.syncLog ∧ (s.setEdge k x).chain = s.chain ∧
    (s.setEdge k x).cports = s.cports ∧ (s.setEdge k x).dram = s.dram ∧ (s.setEdge k x).upsets = s.upsets ∧
    (s.setEdge k x).chans = s.chans ∧ (s.setEdge k x).active = s.active ∧ (s.setEdge k x).lastSlot = s.lastSlot ∧
    (s.setEdge k x).reduced = s.reduced ∧ (s.setEdge k x).tw0 = s.tw0 ∧ (s.setEdge k x).twPorts = s.twPorts ∧
    (s.setEdge k x).sdma = s.sdma ∧ (s.setEdge k x).power = s.power ∧ (s.setEdge k x).fuses = s.fuses ∧
    (s.setEdge k x).boot = s.boot ∧ (s.setEdge k x).marks = s.marks ∧ (s.setEdge k x).markSeq = s.markSeq ∧
    (s.setEdge k x).markSelected = s.markSelected ∧ (s.setEdge k x).mirror = s.mirror ∧
    (s.setEdge k x).fatal = s.fatal ∧ (s.setEdge k x).service = s.service ∧ (s.setEdge k x).raised = s.raised ∧
    (s.setEdge k x).free = s.free ∧ (s.setEdge k x).out = s.out := by
  repeat' constructor

@[simp] theorem State.setSplit_frame (s : State) (k : Nat) (x : SplitPort) :
    (s.setSplit k x).pending = s.pending ∧ (s.setSplit k x).clock = s.clock ∧ (s.setSplit k x).regs = s.regs ∧
    (s.setSplit k x).latches = s.latches ∧ (s.setSplit k x).ptm = s.ptm ∧ (s.setSplit k x).backWait = s.backWait ∧
    (s.setSplit k x).pci = s.pci ∧ (s.setSplit k x).tb0 = s.tb0 ∧ (s.setSplit k x).tb1 = s.tb1 ∧
    (s.setSplit k x).tb2 = s.tb2 ∧ (s.setSplit k x).tb3 = s.tb3 ∧ (s.setSplit k x).edges = s.edges ∧
    (s.setSplit k x).tick = s.tick ∧ (s.setSplit k x).trays = s.trays ∧ (s.setSplit k x).lanes = s.lanes ∧
    (s.setSplit k x).ports = s.ports ∧ (s.setSplit k x).mills = s.mills ∧ (s.setSplit k x).funnels = s.funnels ∧
    (s.setSplit k x).walls = s.walls ∧ (s.setSplit k x).rcl = s.rcl ∧ (s.setSplit k x).rings = s.rings ∧
    (s.setSplit k x).offered = s.offered ∧ (s.setSplit k x).engine = s.engine ∧ (s.setSplit k x).xcache = s.xcache ∧
    (s.setSplit k x).prqs = s.prqs ∧ (s.setSplit k x).lookups = s.lookups ∧ (s.setSplit k x).invals = s.invals ∧
    (s.setSplit k x).atsOn = s.atsOn ∧ (s.setSplit k x).priOn = s.priOn ∧ (s.setSplit k x).relaxedOn = s.relaxedOn ∧
    (s.setSplit k x).priStop = s.priStop ∧ (s.setSplit k x).queues = s.queues ∧ (s.setSplit k x).held = s.held ∧
    (s.setSplit k x).streams = s.streams ∧ (s.setSplit k x).syncLog = s.syncLog ∧ (s.setSplit k x).chain = s.chain ∧
    (s.setSplit k x).cports = s.cports ∧ (s.setSplit k x).dram = s.dram ∧ (s.setSplit k x).upsets = s.upsets ∧
    (s.setSplit k x).chans = s.chans ∧ (s.setSplit k x).active = s.active ∧ (s.setSplit k x).lastSlot = s.lastSlot ∧
    (s.setSplit k x).reduced = s.reduced ∧ (s.setSplit k x).tw0 = s.tw0 ∧ (s.setSplit k x).twPorts = s.twPorts ∧
    (s.setSplit k x).sdma = s.sdma ∧ (s.setSplit k x).power = s.power ∧ (s.setSplit k x).fuses = s.fuses ∧
    (s.setSplit k x).boot = s.boot ∧ (s.setSplit k x).marks = s.marks ∧ (s.setSplit k x).markSeq = s.markSeq ∧
    (s.setSplit k x).markSelected = s.markSelected ∧ (s.setSplit k x).mirror = s.mirror ∧
    (s.setSplit k x).fatal = s.fatal ∧ (s.setSplit k x).service = s.service ∧ (s.setSplit k x).raised = s.raised ∧
    (s.setSplit k x).free = s.free ∧ (s.setSplit k x).out = s.out := by
  repeat' constructor

@[simp] theorem State.setStream_frame (s : State) (k : Nat) (x : Stream) :
    (s.setStream k x).pending = s.pending ∧ (s.setStream k x).clock = s.clock ∧ (s.setStream k x).regs = s.regs ∧
    (s.setStream k x).latches = s.latches ∧ (s.setStream k x).ptm = s.ptm ∧ (s.setStream k x).backWait = s.backWait ∧
    (s.setStream k x).pci = s.pci ∧ (s.setStream k x).tb0 = s.tb0 ∧ (s.setStream k x).tb1 = s.tb1 ∧
    (s.setStream k x).tb2 = s.tb2 ∧ (s.setStream k x).tb3 = s.tb3 ∧ (s.setStream k x).edges = s.edges ∧
    (s.setStream k x).tick = s.tick ∧ (s.setStream k x).trays = s.trays ∧ (s.setStream k x).lanes = s.lanes ∧
    (s.setStream k x).ports = s.ports ∧ (s.setStream k x).mills = s.mills ∧ (s.setStream k x).funnels = s.funnels ∧
    (s.setStream k x).walls = s.walls ∧ (s.setStream k x).rcl = s.rcl ∧ (s.setStream k x).rings = s.rings ∧
    (s.setStream k x).offered = s.offered ∧ (s.setStream k x).engine = s.engine ∧ (s.setStream k x).xcache = s.xcache ∧
    (s.setStream k x).prqs = s.prqs ∧ (s.setStream k x).lookups = s.lookups ∧ (s.setStream k x).invals = s.invals ∧
    (s.setStream k x).atsOn = s.atsOn ∧ (s.setStream k x).priOn = s.priOn ∧ (s.setStream k x).relaxedOn = s.relaxedOn ∧
    (s.setStream k x).priStop = s.priStop ∧ (s.setStream k x).queues = s.queues ∧ (s.setStream k x).held = s.held ∧
    (s.setStream k x).splits = s.splits ∧ (s.setStream k x).syncLog = s.syncLog ∧ (s.setStream k x).chain = s.chain ∧
    (s.setStream k x).cports = s.cports ∧ (s.setStream k x).dram = s.dram ∧ (s.setStream k x).upsets = s.upsets ∧
    (s.setStream k x).chans = s.chans ∧ (s.setStream k x).active = s.active ∧ (s.setStream k x).lastSlot = s.lastSlot ∧
    (s.setStream k x).reduced = s.reduced ∧ (s.setStream k x).tw0 = s.tw0 ∧ (s.setStream k x).twPorts = s.twPorts ∧
    (s.setStream k x).sdma = s.sdma ∧ (s.setStream k x).power = s.power ∧ (s.setStream k x).fuses = s.fuses ∧
    (s.setStream k x).boot = s.boot ∧ (s.setStream k x).marks = s.marks ∧ (s.setStream k x).markSeq = s.markSeq ∧
    (s.setStream k x).markSelected = s.markSelected ∧ (s.setStream k x).mirror = s.mirror ∧
    (s.setStream k x).fatal = s.fatal ∧ (s.setStream k x).service = s.service ∧ (s.setStream k x).raised = s.raised ∧
    (s.setStream k x).free = s.free ∧ (s.setStream k x).out = s.out := by
  repeat' constructor

@[simp] theorem State.setCport_frame (s : State) (k : Nat) (x : ChainPort) :
    (s.setCport k x).pending = s.pending ∧ (s.setCport k x).clock = s.clock ∧ (s.setCport k x).regs = s.regs ∧
    (s.setCport k x).latches = s.latches ∧ (s.setCport k x).ptm = s.ptm ∧ (s.setCport k x).backWait = s.backWait ∧
    (s.setCport k x).pci = s.pci ∧ (s.setCport k x).tb0 = s.tb0 ∧ (s.setCport k x).tb1 = s.tb1 ∧
    (s.setCport k x).tb2 = s.tb2 ∧ (s.setCport k x).tb3 = s.tb3 ∧ (s.setCport k x).edges = s.edges ∧
    (s.setCport k x).tick = s.tick ∧ (s.setCport k x).trays = s.trays ∧ (s.setCport k x).lanes = s.lanes ∧
    (s.setCport k x).ports = s.ports ∧ (s.setCport k x).mills = s.mills ∧ (s.setCport k x).funnels = s.funnels ∧
    (s.setCport k x).walls = s.walls ∧ (s.setCport k x).rcl = s.rcl ∧ (s.setCport k x).rings = s.rings ∧
    (s.setCport k x).offered = s.offered ∧ (s.setCport k x).engine = s.engine ∧ (s.setCport k x).xcache = s.xcache ∧
    (s.setCport k x).prqs = s.prqs ∧ (s.setCport k x).lookups = s.lookups ∧ (s.setCport k x).invals = s.invals ∧
    (s.setCport k x).atsOn = s.atsOn ∧ (s.setCport k x).priOn = s.priOn ∧ (s.setCport k x).relaxedOn = s.relaxedOn ∧
    (s.setCport k x).priStop = s.priStop ∧ (s.setCport k x).queues = s.queues ∧ (s.setCport k x).held = s.held ∧
    (s.setCport k x).splits = s.splits ∧ (s.setCport k x).streams = s.streams ∧ (s.setCport k x).syncLog = s.syncLog ∧
    (s.setCport k x).chain = s.chain ∧ (s.setCport k x).dram = s.dram ∧ (s.setCport k x).upsets = s.upsets ∧
    (s.setCport k x).chans = s.chans ∧ (s.setCport k x).active = s.active ∧ (s.setCport k x).lastSlot = s.lastSlot ∧
    (s.setCport k x).reduced = s.reduced ∧ (s.setCport k x).tw0 = s.tw0 ∧ (s.setCport k x).twPorts = s.twPorts ∧
    (s.setCport k x).sdma = s.sdma ∧ (s.setCport k x).power = s.power ∧ (s.setCport k x).fuses = s.fuses ∧
    (s.setCport k x).boot = s.boot ∧ (s.setCport k x).marks = s.marks ∧ (s.setCport k x).markSeq = s.markSeq ∧
    (s.setCport k x).markSelected = s.markSelected ∧ (s.setCport k x).mirror = s.mirror ∧
    (s.setCport k x).fatal = s.fatal ∧ (s.setCport k x).service = s.service ∧ (s.setCport k x).raised = s.raised ∧
    (s.setCport k x).free = s.free ∧ (s.setCport k x).out = s.out := by
  repeat' constructor

@[simp] theorem State.setChan_frame (s : State) (k : Nat) (x : Channel) :
    (s.setChan k x).pending = s.pending ∧ (s.setChan k x).clock = s.clock ∧ (s.setChan k x).regs = s.regs ∧
    (s.setChan k x).latches = s.latches ∧ (s.setChan k x).ptm = s.ptm ∧ (s.setChan k x).backWait = s.backWait ∧
    (s.setChan k x).pci = s.pci ∧ (s.setChan k x).tb0 = s.tb0 ∧ (s.setChan k x).tb1 = s.tb1 ∧
    (s.setChan k x).tb2 = s.tb2 ∧ (s.setChan k x).tb3 = s.tb3 ∧ (s.setChan k x).edges = s.edges ∧
    (s.setChan k x).tick = s.tick ∧ (s.setChan k x).trays = s.trays ∧ (s.setChan k x).lanes = s.lanes ∧
    (s.setChan k x).ports = s.ports ∧ (s.setChan k x).mills = s.mills ∧ (s.setChan k x).funnels = s.funnels ∧
    (s.setChan k x).walls = s.walls ∧ (s.setChan k x).rcl = s.rcl ∧ (s.setChan k x).rings = s.rings ∧
    (s.setChan k x).offered = s.offered ∧ (s.setChan k x).engine = s.engine ∧ (s.setChan k x).xcache = s.xcache ∧
    (s.setChan k x).prqs = s.prqs ∧ (s.setChan k x).lookups = s.lookups ∧ (s.setChan k x).invals = s.invals ∧
    (s.setChan k x).atsOn = s.atsOn ∧ (s.setChan k x).priOn = s.priOn ∧ (s.setChan k x).relaxedOn = s.relaxedOn ∧
    (s.setChan k x).priStop = s.priStop ∧ (s.setChan k x).queues = s.queues ∧ (s.setChan k x).held = s.held ∧
    (s.setChan k x).splits = s.splits ∧ (s.setChan k x).streams = s.streams ∧ (s.setChan k x).syncLog = s.syncLog ∧
    (s.setChan k x).chain = s.chain ∧ (s.setChan k x).cports = s.cports ∧ (s.setChan k x).dram = s.dram ∧
    (s.setChan k x).upsets = s.upsets ∧ (s.setChan k x).active = s.active ∧ (s.setChan k x).lastSlot = s.lastSlot ∧
    (s.setChan k x).reduced = s.reduced ∧ (s.setChan k x).tw0 = s.tw0 ∧ (s.setChan k x).twPorts = s.twPorts ∧
    (s.setChan k x).sdma = s.sdma ∧ (s.setChan k x).power = s.power ∧ (s.setChan k x).fuses = s.fuses ∧
    (s.setChan k x).boot = s.boot ∧ (s.setChan k x).marks = s.marks ∧ (s.setChan k x).markSeq = s.markSeq ∧
    (s.setChan k x).markSelected = s.markSelected ∧ (s.setChan k x).mirror = s.mirror ∧
    (s.setChan k x).fatal = s.fatal ∧ (s.setChan k x).service = s.service ∧ (s.setChan k x).raised = s.raised ∧
    (s.setChan k x).free = s.free ∧ (s.setChan k x).out = s.out := by
  repeat' constructor

@[simp] theorem State.setTwPort_frame (s : State) (k : Nat) (x : TwPort) :
    (s.setTwPort k x).pending = s.pending ∧ (s.setTwPort k x).clock = s.clock ∧ (s.setTwPort k x).regs = s.regs ∧
    (s.setTwPort k x).latches = s.latches ∧ (s.setTwPort k x).ptm = s.ptm ∧ (s.setTwPort k x).backWait = s.backWait ∧
    (s.setTwPort k x).pci = s.pci ∧ (s.setTwPort k x).tb0 = s.tb0 ∧ (s.setTwPort k x).tb1 = s.tb1 ∧
    (s.setTwPort k x).tb2 = s.tb2 ∧ (s.setTwPort k x).tb3 = s.tb3 ∧ (s.setTwPort k x).edges = s.edges ∧
    (s.setTwPort k x).tick = s.tick ∧ (s.setTwPort k x).trays = s.trays ∧ (s.setTwPort k x).lanes = s.lanes ∧
    (s.setTwPort k x).ports = s.ports ∧ (s.setTwPort k x).mills = s.mills ∧ (s.setTwPort k x).funnels = s.funnels ∧
    (s.setTwPort k x).walls = s.walls ∧ (s.setTwPort k x).rcl = s.rcl ∧ (s.setTwPort k x).rings = s.rings ∧
    (s.setTwPort k x).offered = s.offered ∧ (s.setTwPort k x).engine = s.engine ∧ (s.setTwPort k x).xcache = s.xcache ∧
    (s.setTwPort k x).prqs = s.prqs ∧ (s.setTwPort k x).lookups = s.lookups ∧ (s.setTwPort k x).invals = s.invals ∧
    (s.setTwPort k x).atsOn = s.atsOn ∧ (s.setTwPort k x).priOn = s.priOn ∧ (s.setTwPort k x).relaxedOn = s.relaxedOn ∧
    (s.setTwPort k x).priStop = s.priStop ∧ (s.setTwPort k x).queues = s.queues ∧ (s.setTwPort k x).held = s.held ∧
    (s.setTwPort k x).splits = s.splits ∧ (s.setTwPort k x).streams = s.streams ∧
    (s.setTwPort k x).syncLog = s.syncLog ∧ (s.setTwPort k x).chain = s.chain ∧ (s.setTwPort k x).cports = s.cports ∧
    (s.setTwPort k x).dram = s.dram ∧ (s.setTwPort k x).upsets = s.upsets ∧ (s.setTwPort k x).chans = s.chans ∧
    (s.setTwPort k x).active = s.active ∧ (s.setTwPort k x).lastSlot = s.lastSlot ∧
    (s.setTwPort k x).reduced = s.reduced ∧ (s.setTwPort k x).tw0 = s.tw0 ∧ (s.setTwPort k x).sdma = s.sdma ∧
    (s.setTwPort k x).power = s.power ∧ (s.setTwPort k x).fuses = s.fuses ∧ (s.setTwPort k x).boot = s.boot ∧
    (s.setTwPort k x).marks = s.marks ∧ (s.setTwPort k x).markSeq = s.markSeq ∧
    (s.setTwPort k x).markSelected = s.markSelected ∧ (s.setTwPort k x).mirror = s.mirror ∧
    (s.setTwPort k x).fatal = s.fatal ∧ (s.setTwPort k x).service = s.service ∧ (s.setTwPort k x).raised = s.raised ∧
    (s.setTwPort k x).free = s.free ∧ (s.setTwPort k x).out = s.out := by
  repeat' constructor

@[simp] theorem State.setSdma_frame (s : State) (k : Nat) (x : SdmaChan) :
    (s.setSdma k x).pending = s.pending ∧ (s.setSdma k x).clock = s.clock ∧ (s.setSdma k x).regs = s.regs ∧
    (s.setSdma k x).latches = s.latches ∧ (s.setSdma k x).ptm = s.ptm ∧ (s.setSdma k x).backWait = s.backWait ∧
    (s.setSdma k x).pci = s.pci ∧ (s.setSdma k x).tb0 = s.tb0 ∧ (s.setSdma k x).tb1 = s.tb1 ∧
    (s.setSdma k x).tb2 = s.tb2 ∧ (s.setSdma k x).tb3 = s.tb3 ∧ (s.setSdma k x).edges = s.edges ∧
    (s.setSdma k x).tick = s.tick ∧ (s.setSdma k x).trays = s.trays ∧ (s.setSdma k x).lanes = s.lanes ∧
    (s.setSdma k x).ports = s.ports ∧ (s.setSdma k x).mills = s.mills ∧ (s.setSdma k x).funnels = s.funnels ∧
    (s.setSdma k x).walls = s.walls ∧ (s.setSdma k x).rcl = s.rcl ∧ (s.setSdma k x).rings = s.rings ∧
    (s.setSdma k x).offered = s.offered ∧ (s.setSdma k x).engine = s.engine ∧ (s.setSdma k x).xcache = s.xcache ∧
    (s.setSdma k x).prqs = s.prqs ∧ (s.setSdma k x).lookups = s.lookups ∧ (s.setSdma k x).invals = s.invals ∧
    (s.setSdma k x).atsOn = s.atsOn ∧ (s.setSdma k x).priOn = s.priOn ∧ (s.setSdma k x).relaxedOn = s.relaxedOn ∧
    (s.setSdma k x).priStop = s.priStop ∧ (s.setSdma k x).queues = s.queues ∧ (s.setSdma k x).held = s.held ∧
    (s.setSdma k x).splits = s.splits ∧ (s.setSdma k x).streams = s.streams ∧ (s.setSdma k x).syncLog = s.syncLog ∧
    (s.setSdma k x).chain = s.chain ∧ (s.setSdma k x).cports = s.cports ∧ (s.setSdma k x).dram = s.dram ∧
    (s.setSdma k x).upsets = s.upsets ∧ (s.setSdma k x).chans = s.chans ∧ (s.setSdma k x).active = s.active ∧
    (s.setSdma k x).lastSlot = s.lastSlot ∧ (s.setSdma k x).reduced = s.reduced ∧ (s.setSdma k x).tw0 = s.tw0 ∧
    (s.setSdma k x).twPorts = s.twPorts ∧ (s.setSdma k x).power = s.power ∧ (s.setSdma k x).fuses = s.fuses ∧
    (s.setSdma k x).boot = s.boot ∧ (s.setSdma k x).marks = s.marks ∧ (s.setSdma k x).markSeq = s.markSeq ∧
    (s.setSdma k x).markSelected = s.markSelected ∧ (s.setSdma k x).mirror = s.mirror ∧
    (s.setSdma k x).fatal = s.fatal ∧ (s.setSdma k x).service = s.service ∧ (s.setSdma k x).raised = s.raised ∧
    (s.setSdma k x).free = s.free ∧ (s.setSdma k x).out = s.out := by
  repeat' constructor

@[simp] theorem State.elapse_frame (s : State) (n : Nat) :
    (s.elapse n).pending = s.pending ∧ (s.elapse n).regs = s.regs ∧ (s.elapse n).latches = s.latches ∧
    (s.elapse n).ptm = s.ptm ∧ (s.elapse n).backWait = s.backWait ∧ (s.elapse n).pci = s.pci ∧
    (s.elapse n).edges = s.edges ∧ (s.elapse n).tick = s.tick ∧ (s.elapse n).trays = s.trays ∧
    (s.elapse n).lanes = s.lanes ∧ (s.elapse n).ports = s.ports ∧ (s.elapse n).mills = s.mills ∧
    (s.elapse n).funnels = s.funnels ∧ (s.elapse n).walls = s.walls ∧ (s.elapse n).rcl = s.rcl ∧
    (s.elapse n).rings = s.rings ∧ (s.elapse n).offered = s.offered ∧ (s.elapse n).engine = s.engine ∧
    (s.elapse n).xcache = s.xcache ∧ (s.elapse n).prqs = s.prqs ∧ (s.elapse n).lookups = s.lookups ∧
    (s.elapse n).invals = s.invals ∧ (s.elapse n).atsOn = s.atsOn ∧ (s.elapse n).priOn = s.priOn ∧
    (s.elapse n).relaxedOn = s.relaxedOn ∧ (s.elapse n).priStop = s.priStop ∧ (s.elapse n).queues = s.queues ∧
    (s.elapse n).held = s.held ∧ (s.elapse n).splits = s.splits ∧ (s.elapse n).streams = s.streams ∧
    (s.elapse n).syncLog = s.syncLog ∧ (s.elapse n).chain = s.chain ∧ (s.elapse n).cports = s.cports ∧
    (s.elapse n).dram = s.dram ∧ (s.elapse n).upsets = s.upsets ∧ (s.elapse n).chans = s.chans ∧
    (s.elapse n).active = s.active ∧ (s.elapse n).lastSlot = s.lastSlot ∧ (s.elapse n).reduced = s.reduced ∧
    (s.elapse n).tw0 = s.tw0 ∧ (s.elapse n).twPorts = s.twPorts ∧ (s.elapse n).sdma = s.sdma ∧
    (s.elapse n).power = s.power ∧ (s.elapse n).fuses = s.fuses ∧ (s.elapse n).boot = s.boot ∧
    (s.elapse n).marks = s.marks ∧ (s.elapse n).markSeq = s.markSeq ∧ (s.elapse n).markSelected = s.markSelected ∧
    (s.elapse n).mirror = s.mirror ∧ (s.elapse n).fatal = s.fatal ∧ (s.elapse n).service = s.service ∧
    (s.elapse n).raised = s.raised ∧ (s.elapse n).free = s.free ∧ (s.elapse n).out = s.out := by
  repeat' constructor

/-! ### Records -/

@[simp] theorem State.lane_setLane (s : State) (k i : Nat) (x : Lane) :
    (s.setLane k x).lane i = if i = k then x else s.lane i := Store.get_put ..

@[simp] theorem State.port_setPort (s : State) (k i : Nat) (x : Port) :
    (s.setPort k x).port i = if i = k then x else s.port i := Store.get_put ..

@[simp] theorem State.mill_setMill (s : State) (k i : Nat) (x : Mill) :
    (s.setMill k x).mill i = if i = k then x else s.mill i := Store.get_put ..

@[simp] theorem State.funnel_setFunnel (s : State) (k i : Nat) (x : List FunItem) :
    (s.setFunnel k x).funnel i = if i = k then x else s.funnel i := Store.get_put ..

@[simp] theorem State.wall_setWall (s : State) (k i : Nat) (x : Wall) :
    (s.setWall k x).wall i = if i = k then x else s.wall i := Store.get_put ..

@[simp] theorem State.ring_setRing (s : State) (k i : Nat) (x : Ring) :
    (s.setRing k x).ring i = if i = k then x else s.ring i := Store.get_put ..

@[simp] theorem State.queue_setQueue (s : State) (k i : Nat) (x : EvQueue) :
    (s.setQueue k x).queue i = if i = k then x else s.queue i := Store.get_put ..

@[simp] theorem State.tray_setTray (s : State) (k i : Nat) (x : Tray) :
    (s.setTray k x).tray i = if i = k then x else s.tray i := Store.get_put ..

@[simp] theorem State.edge_setEdge (s : State) (k i : Nat) (x : EdgeIn) :
    (s.setEdge k x).edge i = if i = k then x else s.edge i := Store.get_put ..

@[simp] theorem State.split_setSplit (s : State) (k i : Nat) (x : SplitPort) :
    (s.setSplit k x).split i = if i = k then x else s.split i := Store.get_put ..

@[simp] theorem State.stream_setStream (s : State) (k i : Nat) (x : Stream) :
    (s.setStream k x).stream i = if i = k then x else s.stream i := Store.get_put ..

@[simp] theorem State.cport_setCport (s : State) (k i : Nat) (x : ChainPort) :
    (s.setCport k x).cport i = if i = k then x else s.cport i := Store.get_put ..

@[simp] theorem State.chan_setChan (s : State) (k i : Nat) (x : Channel) :
    (s.setChan k x).chan i = if i = k then x else s.chan i := Store.get_put ..

@[simp] theorem State.twPort_setTwPort (s : State) (k i : Nat) (x : TwPort) :
    (s.setTwPort k x).twPort i = if i = k then x else s.twPort i := Store.get_put ..

@[simp] theorem State.sdmaChan_setSdma (s : State) (k i : Nat) (x : SdmaChan) :
    (s.setSdma k x).sdmaChan i = if i = k then x else s.sdmaChan i := Store.get_put ..

/-! ### Registers -/

@[simp] theorem State.reg_setReg_self (s : State) (n : RegName) (i j : Nat) (v : Word) : (s.setReg n i j v).reg n i j = v :=
  Store.get_put_self ..

/-- A register at another offset keeps its value. -/
theorem State.reg_setReg_of_ne (s : State) (n m : RegName) (i j k l : Nat) (v : Word) (h : m.off k l ≠ n.off i j) :
    (s.setReg n i j v).reg m k l = s.reg m k l := Store.get_put_other _ _ _ _ h

/-- Reading the registers by their offsets: a write elsewhere changes nothing. -/
theorem State.get_setReg_of_ne (s : State) (n : RegName) (i j : Nat) (v d : Word) (off : Nat) (h : off ≠ n.off i j) :
    Store.get d (s.setReg n i j v).regs off = Store.get d s.regs off := Store.get_put_other _ _ _ _ h

/-! ### Time bases -/

theorem State.setBase_frame (s : State) (b : Nat) (t : TimeBase) :
    (s.setBase b t).regs = s.regs ∧ (s.setBase b t).clock = s.clock ∧ (s.setBase b t).marks = s.marks ∧
    (s.setBase b t).markSeq = s.markSeq ∧ (s.setBase b t).raised = s.raised := by
  unfold State.setBase
  split <;> simp

@[simp] theorem State.base_setBase (s : State) (b c : Nat) (t : TimeBase) :
    (s.setBase b t).base c = if c % 4 = b % 4 then t else s.base c := by
  have hb := Nat.mod_lt b (y := 4) (by omega)
  have hc := Nat.mod_lt c (y := 4) (by omega)
  unfold State.setBase State.base
  generalize b % 4 = x at *
  generalize c % 4 = y at *
  match x, y with
  | 0, 0 | 0, 1 | 0, 2 | 0, 3 | 1, 0 | 1, 1 | 1, 2 | 1, 3 | 2, 0 | 2, 1 | 2, 2 | 2, 3 | 3, 0 | 3, 1 | 3, 2 | 3, 3 => rfl

end Sys2Proof.Machine
end

