-- ==== Sys2Proof/Laws/Settle.lean ====
section
/-!
SUPPORT. What the end of a command leaves alone: `settle` reports service flags and delivers events, and everything beside
the event queues and the rings that carry them is as the command's effect left it.
-/
namespace Sys2Proof.Machine

namespace State.Kept

theorem refl (s : State) : s.Kept s := by
  (constructor <;> intros <;> first | rfl | exact ⟨[], rfl⟩)

theorem kind {s t : State} (h : s.Kept t) (r : Nat) : t.kind r = s.kind r := by
  unfold State.kind State.field State.reg
  split
  · rw [h.regs]
    simp [deliveryReg, RegName.off, RegName.row]; omega
  · rfl

theorem trans {s t u : State} (h : s.Kept t) (g : t.Kept u) : s.Kept u :=
  ⟨g.clock.trans h.clock, g.latches.trans h.latches, g.tb0.trans h.tb0, g.tb1.trans h.tb1, g.tb2.trans h.tb2,
    g.tb3.trans h.tb3, g.ptm.trans h.ptm, g.edges.trans h.edges, g.tick.trans h.tick, g.trays.trans h.trays, g.lanes.trans h.lanes,
    g.ports.trans h.ports, g.mills.trans h.mills, g.backWait.trans h.backWait, g.funnels.trans h.funnels, g.walls.trans h.walls,
    g.rcl.trans h.rcl, g.offered.trans
    h.offered, g.engine.trans h.engine, g.prqs.trans h.prqs, g.invals.trans h.invals, g.atsOn.trans h.atsOn,
    g.priOn.trans h.priOn, g.relaxedOn.trans h.relaxedOn, g.priStop.trans h.priStop, g.pci.trans h.pci, g.splits.trans h.splits,
    g.streams.trans h.streams, g.syncLog.trans h.syncLog, g.chain.trans h.chain, g.cports.trans h.cports,
    g.dram.trans h.dram, g.upsets.trans h.upsets, g.chans.trans h.chans, g.active.trans h.active, g.lastSlot.trans
    h.lastSlot, g.reduced.trans h.reduced, g.tw0.trans h.tw0, g.twPorts.trans h.twPorts, g.sdma.trans h.sdma,
    g.power.trans h.power, g.fuses.trans h.fuses, g.boot.trans h.boot, g.marks.trans h.marks, g.markSeq.trans
    h.markSeq, g.markSelected.trans h.markSelected, g.mirror.trans h.mirror, g.fatal.trans h.fatal, g.free.trans
    h.free, g.pending.trans h.pending, g.service.trans h.service, fun d off no => (g.regs d off no).trans (h.regs d off no),
    fun d r k => (g.status d r ((h.kind r).trans_ne k)).trans (h.status d r k),
    fun d r k => (g.drop d r ((h.kind r).trans_ne k)).trans (h.drop d r k), fun r k =>
    (g.rings r ((h.kind r).trans_ne k)).trans (h.rings r k), (have ⟨a, e⟩ := h.out; have ⟨b, e2⟩ := g.out; ⟨b ++ a, by rw [e2, e, List.append_assoc]⟩)⟩

theorem foldl {α : Type} (f : State → α → State) (l : List α) (s : State) (h : ∀ (s : State), ∀ a ∈ l, s.Kept (f s a)) :
    s.Kept (l.foldl f s) := by
  induction l generalizing s with
  | nil => exact refl s
  | cons a l ih =>
    exact (h s a (List.mem_cons_self ..)).trans (ih _ fun s b hb => h s b (List.mem_cons_of_mem _ hb))

/-! ### The parts of a delivery -/

theorem emit (s : State) (e : Emission) : s.Kept (s.emit e) := by (constructor <;> intros <;> first | rfl | exact ⟨[], rfl⟩ | exact ⟨[_], rfl⟩)

theorem raise (s : State) (type : Nat) (fs : List (Nat × Nat)) (time : Option (BitVec 128)) :
    s.Kept (s.raise type fs time) := by (constructor <;> intros <;> first | rfl | exact ⟨[], rfl⟩)

theorem setRing (s : State) (r : Nat) (x : Ring) (h : s.kind r = 3) : s.Kept (s.setRing r x) := by
  constructor
  case rings => exact fun k no => Store.get_put_of_ne _ _ _ (fun e => no (e ▸ h))
  case out => exact ⟨[], rfl⟩
  all_goals intros; rfl

theorem setQueue (s : State) (q : Nat) (x : EvQueue) : s.Kept (s.setQueue q x) := by (constructor <;> intros <;> first | rfl | exact ⟨[], rfl⟩)

theorem setReg (s : State) (n : RegName) (i j : Nat) (v : Word) (h : deliveryReg (n.off i j) = true)
    (g : ∀ r : Fin 1024, s.kind r ≠ 3 → RegName.ringStatus.off r ≠ n.off i j ∧ RegName.ringDrop.off r ≠ n.off i j) :
    s.Kept (s.setReg n i j v) := by
  constructor
  case regs =>
    intro d off no
    exact Store.get_put_other _ _ _ _ (fun e => by subst e; simp [h] at no)
  case status => exact fun d r k => Store.get_put_other _ _ _ _ (g r k).1
  case drop => exact fun d r k => Store.get_put_other _ _ _ _ (g r k).2
  case out => exact ⟨[], rfl⟩
  all_goals intros; rfl

theorem lookup (s : State) (r page : Nat) (write : Bool) : s.Kept (s.lookup r page write).2 := by
  unfold State.lookup
  split
  · exact refl s
  · dsimp only
    split
    · exact trans (by (constructor <;> intros <;> first | rfl | exact ⟨[], rfl⟩)) (setReg _ _ _ _ _ (by decide) fun r _ => by simp [RegName.off, RegName.row]; omega)
    · split <;> (constructor <;> intros <;> first | rfl | exact ⟨[], rfl⟩ | exact ⟨[_], rfl⟩)

theorem lookupAll (r : Nat) (write : Bool) (ps : List Nat) (s : State) : s.Kept (s.lookupAll r write ps).2 := by
  induction ps generalizing s with
  | nil => exact refl s
  | cons p ps ih => exact (lookup s r p write).trans (ih _)

theorem prepare (s : State) (r addr len : Nat) (write : Bool) : s.Kept (s.prepare r addr len write).2 := by
  unfold State.prepare
  have h := lookupAll r write (pagesOf addr len) s
  dsimp only
  generalize (if r < 1024 then _ else true) = ok
  split
  · exact refl s
  · split
    · exact refl s
    · split <;> simp_all

theorem issue (r : Nat) (relaxed : Bool) (ps : List Nat) (s : State) (addr : Nat) (bytes : List Byte) :
    s.Kept (s.issue r addr bytes relaxed ps) := by
  induction ps generalizing s addr bytes with
  | nil => exact refl s
  | cons p ps ih => exact (emit s _).trans (ih _ _ _)

theorem sendMsix (s : State) (v : Nat) (h : v < 2048) : s.Kept (s.sendMsix v) := by
  unfold State.sendMsix
  split
  · refine setReg _ _ _ _ _ ?_ fun r _ => ?_
    · simp [deliveryReg, RegName.off, RegName.row]; omega
    · simp [RegName.off, RegName.row]; omega
  · exact emit s _

theorem evtSeq (s : State) (q : Nat) (v : Word) (h : q ≤ 16) : s.Kept (s.setReg .evtSeq q 0 v) := by
  refine setReg s _ _ _ _ ?_ fun r _ => ?_
  · simp [deliveryReg, RegName.off, RegName.row]; omega
  · simp [RegName.off, RegName.row]; omega

theorem evtLost (s : State) (q k : Nat) (h : q ≤ 16) : s.Kept (s.bump .evtLost q 0 k) := by
  refine setReg s _ _ _ _ ?_ fun r _ => ?_
  · simp [deliveryReg, RegName.off, RegName.row]; omega
  · simp [RegName.off, RegName.row]; omega

theorem ringDrop (s : State) (r k : Nat) (h : r < 1024) (g : s.kind r = 3) : s.Kept (s.bump .ringDrop r 0 k) := by
  refine setReg s _ _ _ _ ?_ fun q no => ?_
  · simp [deliveryReg, RegName.off, RegName.row]; omega
  · have : q.val ≠ r := fun e => no (e ▸ g)
    simp [RegName.off, RegName.row]; omega

theorem ringStatus (s : State) (r v : Nat) (h : r < 1024) (g : s.kind r = 3) :
    s.Kept (s.setField .ringStatus r 0 8 4 v) := by
  refine setReg s _ _ _ _ ?_ fun q no => ?_
  · simp [deliveryReg, RegName.off, RegName.row]; omega
  · have : q.val ≠ r := fun e => no (e ▸ g)
    simp [RegName.off, RegName.row]; omega

theorem ite {p : Prop} [Decidable p] {s t u : State} (h : s.Kept t) (g : s.Kept u) : s.Kept (if p then t else u) := by
  split <;> assumption

theorem signal (s : State) (q sev : Nat) : s.Kept (s.signal q sev) := by
  unfold State.signal
  refine ite ((setQueue s q _).trans (sendMsix _ _ ?_)) (setQueue s q _)
  simp only [State.field, bitsOf]; omega

theorem dropRecord (s : State) (r : Nat) (x : Record) (k : s.kind r = 3) : s.Kept (s.dropRecord r x) := by
  refine trans ?_ (raise _ _ _ _)
  split
  · next h => exact ringDrop s r 1 h k
  · exact refl s

theorem queueOf_le {s : State} {r q : Nat} (h : s.queueOf r = some q) : q ≤ 16 := by
  unfold State.queueOf State.ringDomain bitsOf at h
  split at h
  · simp_all
  · split at h
    · dsimp only at h
      split at h <;> simp_all
      omega
    · simp at h

theorem dropHold (s : State) (r : Nat) : s.Kept (s.dropHold r) := by
  unfold State.dropHold
  split
  · exact refl s
  · next q h =>
    refine ite (refl s) ?_
    exact (evtLost s q _ (queueOf_le h)).trans (setQueue _ _ _)

theorem abandonRecords (s : State) (r : Nat) (k : s.kind r = 3) : s.Kept (s.abandonRecords r) := by
  have f : s.Kept ((s.ring r).records.foldl (fun s y => s.dropRecord r y) s) := by
    generalize (s.ring r).records = l
    induction l generalizing s with
    | nil => exact refl s
    | cons y l ih =>
      have d := dropRecord s r y k
      exact d.trans (ih _ ((d.kind r).trans k))
  exact f.trans (setRing _ r _ ((f.kind r).trans k))

theorem haltRing (s : State) (r cause : Nat) (k : s.kind r = 3) : s.Kept (s.haltRing r cause) := by
  unfold State.haltRing
  dsimp only
  refine ite ((setRing s r _ k).trans (raise _ _ _ _)) (trans ?_ (raise _ _ _ _))
  have h1 : s.Kept (if r < 1024 then s.setField .ringStatus r 0 8 4 cause else s) := by
    split
    · next h => exact ringStatus s r cause h k
    · exact refl s
  have h2 := h1.trans (dropHold _ r)
  have k2 := (h2.kind r).trans k
  refine h2.trans (ite (setRing _ r _ k2) ?_)
  exact (setRing _ r _ k2).trans (abandonRecords _ r ((setRing _ r _ k2).kind r |>.trans k2))

theorem writeRecord (s : State) (q r : Nat) (b : BitVec 256) (k : s.kind r = 3) : s.Kept (s.writeRecord q r b).2 := by
  unfold State.writeRecord
  dsimp only
  have p := prepare s r (s.ringBase r + 32 * ((s.queue q).pd.toNat % 2 ^ s.log2s r)) 32 true
  split
  · next e => rw [e] at p; exact p
  · next e => rw [e] at p; exact p.trans (haltRing _ r 2 ((p.kind r).trans k))
  · next e => rw [e] at p; exact p.trans (((issue _ _ _ _ _ _).trans (setQueue _ _ _)).trans (signal _ _ _))

theorem putRecord (s : State) (q r : Nat) (b : BitVec 256) (k : s.kind r = 3) : s.Kept (s.putRecord q r b) := by
  unfold State.putRecord
  have w := writeRecord s q r b k
  exact ite (setQueue _ _ _) (ite w (w.trans (setQueue _ _ _)))

theorem lose (s : State) (q : Nat) (h : q ≤ 16) : s.Kept (s.lose q) :=
  (evtLost s q _ h).trans (setQueue _ _ _)

theorem queueRing_is {s : State} {q r : Nat} (h : s.queueRing q = some r) : s.kind r = 3 := by
  unfold State.queueRing State.domainQueue at h
  split at h
  · simp only [Option.some.injEq] at h
    subst h
    exact by simp [State.kind, mqRing]
  · simp only [Option.map_eq_some_iff] at h
    obtain ⟨e, h, rfl⟩ := h
    have := List.find?_some h
    simp only [Bool.and_eq_true, decide_eq_true_eq] at this
    exact this.1.2

theorem take (s : State) (q : Nat) (e : EventRec) (h : q ≤ 16) : s.Kept (s.take q e) := by
  unfold State.take
  split
  · exact refl s
  · next r hr =>
    have k := queueRing_is hr
    have h1 := evtSeq s q (s.reg .evtSeq q + 1) h
    have k1 := (h1.kind r).trans k
    have h2 := setQueue (s.setReg .evtSeq q 0 (s.reg .evtSeq q + 1)) q
      { (s.setReg .evtSeq q 0 (s.reg .evtSeq q + 1)).queue q with overflow := true, lostNow := 0 }
    dsimp only
    refine ite (refl s) (h1.trans (ite (lose _ q h) (ite (putRecord _ q r _ k1) ?_)))
    exact (h2.trans (ite (putRecord _ q r _ ((h2.kind r).trans k1)) (refl _))).trans (lose _ q h)

theorem domainsOf_le {s : State} {e : EventRec} {q : Nat} (h : q ∈ s.domainsOf e ++ [16]) : q ≤ 16 := by
  simp only [List.mem_append, List.mem_singleton] at h
  rcases h with h | h
  · unfold State.domainsOf at h
    split at h
    · split at h
      · split at h <;> simp_all
        omega
      · split at h
        · next d hd =>
          have : d ≤ 16 := by
            unfold State.ringDomain bitsOf at hd
            dsimp only at hd
            split at hd <;> simp at hd
            omega
          split at h <;> simp_all
        · simp at h
    all_goals simp at h
    all_goals omega
  · omega

theorem offer (s : State) (e : EventRec) : s.Kept (s.offer e) := by
  unfold State.offer
  refine ite ?_ (foldl _ _ _ fun s q hq => take s q e (domainsOf_le hq))
  (constructor <;> intros <;> first | rfl | exact ⟨[], rfl⟩)

theorem deliver (n : Nat) (s : State) : s.Kept (State.deliver n s) := by
  induction n generalizing s with
  | zero => (constructor <;> intros <;> first | rfl | exact ⟨[], rfl⟩)
  | succ n ih =>
    unfold State.deliver
    split
    · exact refl s
    · next es _ =>
      refine trans (trans (t := { s with raised := [] }) ?_ (foldl _ _ _ fun s e _ => offer s e)) (ih _)
      (constructor <;> intros <;> first | rfl | exact ⟨[], rfl⟩)

theorem reportService (s : State) : State.Kept { s with service := s.serviceNow } s.reportService := by
  unfold State.reportService
  dsimp only
  split
  · next h => rw [h]; exact refl s
  · exact raise { s with service := s.serviceNow } 0x0C21 [(1, s.serviceNow.toNat), (1, s.service.toNat), (6, 0)] (some s.stamp)

theorem serviceNow {s t : State} (h : s.Kept t) : t.serviceNow = s.serviceNow := by
  simp only [State.serviceNow, h.tick, h.reduced, h.chain, h.tb1, h.power]

end State.Kept

/-! ### What `settle` leaves alone -/

theorem State.deliver_raised (n : Nat) (s : State) : (State.deliver n s).raised = [] := by
  induction n generalizing s with
  | zero => rfl
  | succ n ih =>
    unfold State.deliver
    split
    · assumption
    · exact ih _

/-- The delivery at the end of a command. -/
theorem settle_kept (s : State) : State.Kept { s with service := s.serviceNow } s.endClock :=
  (State.Kept.reportService s).trans (State.Kept.deliver 64 s.reportService)

@[simp] theorem settle_clock (s0 s : State) : (settle s0 s).clock = s.clock := (settle_kept s).clock
@[simp] theorem settle_latches (s0 s : State) : (settle s0 s).latches = s.latches := (settle_kept s).latches
@[simp] theorem settle_tb0 (s0 s : State) : (settle s0 s).tb0 = s.tb0 := (settle_kept s).tb0
@[simp] theorem settle_tb1 (s0 s : State) : (settle s0 s).tb1 = s.tb1 := (settle_kept s).tb1
@[simp] theorem settle_tb2 (s0 s : State) : (settle s0 s).tb2 = s.tb2 := (settle_kept s).tb2
@[simp] theorem settle_tb3 (s0 s : State) : (settle s0 s).tb3 = s.tb3 := (settle_kept s).tb3
@[simp] theorem settle_ptm (s0 s : State) : (settle s0 s).ptm = s.ptm := (settle_kept s).ptm
@[simp] theorem settle_edges (s0 s : State) : (settle s0 s).edges = s.edges := (settle_kept s).edges
@[simp] theorem settle_tick (s0 s : State) : (settle s0 s).tick = s.tick := (settle_kept s).tick
@[simp] theorem settle_trays (s0 s : State) : (settle s0 s).trays = s.trays := (settle_kept s).trays
@[simp] theorem settle_lanes (s0 s : State) : (settle s0 s).lanes = s.lanes := (settle_kept s).lanes
@[simp] theorem settle_ports (s0 s : State) : (settle s0 s).ports = s.ports := (settle_kept s).ports
@[simp] theorem settle_mills (s0 s : State) : (settle s0 s).mills = s.mills := (settle_kept s).mills
@[simp] theorem settle_backWait (s0 s : State) : (settle s0 s).backWait = s.backWait := (settle_kept s).backWait
@[simp] theorem settle_funnels (s0 s : State) : (settle s0 s).funnels = s.funnels := (settle_kept s).funnels
@[simp] theorem settle_walls (s0 s : State) : (settle s0 s).walls = s.walls := (settle_kept s).walls
@[simp] theorem settle_rcl (s0 s : State) : (settle s0 s).rcl = s.rcl := (settle_kept s).rcl
@[simp] theorem settle_offered (s0 s : State) : (settle s0 s).offered = s.offered := (settle_kept s).offered
@[simp] theorem settle_engine (s0 s : State) : (settle s0 s).engine = s.engine := (settle_kept s).engine
@[simp] theorem settle_prqs (s0 s : State) : (settle s0 s).prqs = s.prqs := (settle_kept s).prqs
@[simp] theorem settle_invals (s0 s : State) : (settle s0 s).invals = s.invals := (settle_kept s).invals
@[simp] theorem settle_atsOn (s0 s : State) : (settle s0 s).atsOn = s.atsOn := (settle_kept s).atsOn
@[simp] theorem settle_priOn (s0 s : State) : (settle s0 s).priOn = s.priOn := (settle_kept s).priOn
@[simp] theorem settle_relaxedOn (s0 s : State) : (settle s0 s).relaxedOn = s.relaxedOn := (settle_kept s).relaxedOn
@[simp] theorem settle_priStop (s0 s : State) : (settle s0 s).priStop = s.priStop := (settle_kept s).priStop
@[simp] theorem settle_pci (s0 s : State) : (settle s0 s).pci = s.pci := (settle_kept s).pci
@[simp] theorem settle_splits (s0 s : State) : (settle s0 s).splits = s.splits := (settle_kept s).splits
@[simp] theorem settle_streams (s0 s : State) : (settle s0 s).streams = s.streams := (settle_kept s).streams
@[simp] theorem settle_syncLog (s0 s : State) : (settle s0 s).syncLog = s.syncLog := (settle_kept s).syncLog
@[simp] theorem settle_chain (s0 s : State) : (settle s0 s).chain = s.chain := (settle_kept s).chain
@[simp] theorem settle_cports (s0 s : State) : (settle s0 s).cports = s.cports := (settle_kept s).cports
@[simp] theorem settle_dram (s0 s : State) : (settle s0 s).dram = s.dram := (settle_kept s).dram
@[simp] theorem settle_upsets (s0 s : State) : (settle s0 s).upsets = s.upsets := (settle_kept s).upsets
@[simp] theorem settle_chans (s0 s : State) : (settle s0 s).chans = s.chans := (settle_kept s).chans
@[simp] theorem settle_active (s0 s : State) : (settle s0 s).active = s.active := (settle_kept s).active
@[simp] theorem settle_lastSlot (s0 s : State) : (settle s0 s).lastSlot = s.lastSlot := (settle_kept s).lastSlot
@[simp] theorem settle_reduced (s0 s : State) : (settle s0 s).reduced = s.reduced := (settle_kept s).reduced
@[simp] theorem settle_tw0 (s0 s : State) : (settle s0 s).tw0 = s.tw0 := (settle_kept s).tw0
@[simp] theorem settle_twPorts (s0 s : State) : (settle s0 s).twPorts = s.twPorts := (settle_kept s).twPorts
@[simp] theorem settle_sdma (s0 s : State) : (settle s0 s).sdma = s.sdma := (settle_kept s).sdma
@[simp] theorem settle_power (s0 s : State) : (settle s0 s).power = s.power := (settle_kept s).power
@[simp] theorem settle_fuses (s0 s : State) : (settle s0 s).fuses = s.fuses := (settle_kept s).fuses
@[simp] theorem settle_boot (s0 s : State) : (settle s0 s).boot = s.boot := (settle_kept s).boot
@[simp] theorem settle_markSeq (s0 s : State) : (settle s0 s).markSeq = s.markSeq := (settle_kept s).markSeq
@[simp] theorem settle_markSelected (s0 s : State) : (settle s0 s).markSelected = s.markSelected := (settle_kept s).markSelected
@[simp] theorem settle_mirror (s0 s : State) : (settle s0 s).mirror = s.mirror := (settle_kept s).mirror
@[simp] theorem settle_fatal (s0 s : State) : (settle s0 s).fatal = s.fatal := (settle_kept s).fatal
@[simp] theorem settle_free (s0 s : State) : (settle s0 s).free = s.free := (settle_kept s).free
@[simp] theorem settle_pending (s0 s : State) : (settle s0 s).pending = s0.pending := rfl
@[simp] theorem settle_raised (s0 s : State) : (settle s0 s).raised = [] := State.deliver_raised 64 s.reportService

/-- A register that the delivery of events does not write. -/
theorem settle_get (s0 s : State) (d : Word) (off : Nat) (h : deliveryReg off = false) :
    Store.get d (settle s0 s).regs off = Store.get d s.regs off := (settle_kept s).regs d off h

theorem settle_reg (s0 s : State) (n : RegName) (i j : Nat) (h : deliveryReg (n.off i j) = false) :
    (settle s0 s).reg n i j = s.reg n i j := settle_get s0 s _ _ h

theorem settle_ring (s0 s : State) (r : Nat) (h : s.kind r ≠ 3) : (settle s0 s).ring r = s.ring r :=
  (settle_kept s).rings r h

/-- STATUS and DROP of a ring that is no event queue. -/
theorem settle_status (s0 s : State) (r : Fin 1024) (h : s.kind r ≠ 3) :
    (settle s0 s).reg .ringStatus r = s.reg .ringStatus r := (settle_kept s).status _ r h

theorem settle_drop (s0 s : State) (r : Fin 1024) (h : s.kind r ≠ 3) :
    (settle s0 s).reg .ringDrop r = s.reg .ringDrop r := (settle_kept s).drop _ r h

/-- The log holds no more than the latest 4,096 marks (R441). -/
theorem settle_marks_length (s0 s : State) : (settle s0 s).marks.length ≤ 4096 := List.length_take_le _ _

/-- The service flags after a command are those last reported (R454). -/
theorem settle_service (s0 s : State) : (settle s0 s).service = (settle s0 s).serviceNow := by
  have h := settle_kept s
  exact (h.service.trans h.serviceNow.symm : _)

theorem settle_sound (s0 s : State) : (settle s0 s).Sound :=
  ⟨settle_raised s0 s, settle_marks_length s0 s, settle_service s0 s⟩

/-- The frame of a command whose effect leaves `u`. -/
theorem settle_frame (s0 u : State) :
    State.Frame { u with marks := (settle s0 u).marks, pending := s0.pending } (settle s0 u) :=
  { settle_kept u with marks := rfl, pending := rfl, service := rfl }

/-- With no event raised and the service flags as reported, a command ends with its marks in order and nothing else. -/
theorem settle_quiet (s0 u : State) (h : u.raised = []) (g : u.service = u.serviceNow) :
    settle s0 u = { u with marks := keepMarks (orderMarks s0 u), pending := s0.pending } := by
  have e : u.reportService = u := by simp [State.reportService, g]
  have d : State.deliver 64 u = u := by simp [State.deliver, h]
  simp [settle, State.endClock, e, d]

/-- A command that appends no mark leaves the log, as far as it holds. -/
theorem orderMarks_of_none (s0 u : State) (h : u.markSeq = s0.markSeq) : orderMarks s0 u = u.marks := by
  simp [orderMarks, h, sortBy, renumber]

/-- The one mark of a command. -/
theorem orderMarks_of_one (s0 u : State) (m : Mark) (ms : List Mark) (h : u.markSeq = s0.markSeq + 1)
    (g : u.marks = m :: ms) (e : m.seq = s0.markSeq) : orderMarks s0 u = m :: ms := by
  have n : (u.markSeq - s0.markSeq).toNat = 1 := by rw [h]; simp
  unfold orderMarks
  rw [n, g]
  simp [sortBy, insertBy, renumber, ← e]

end Sys2Proof.Machine
end

