-- ==== Sys2Proof/WellFormed.lean ====
section
/-!
DEFINITION. Which operands a command can have, beyond what their types say: lists of the lengths that the formats give, where
the answer stands for reads that return whole.
-/
namespace Sys2Proof

/-- Codewords have 544 symbols (R85, R326), a temperature sample eight readings (R415), indirect data as many words or bytes as
the descriptor says unless a read failed (R261, R264, R269), and an image slot all that the boot ROM reads of it (R425).
Log entry 90: DESIGN CHOICE, safe. -/
def Instr.wf : Instr → Bool
  | .codewordReceived _ _ symbols _ => decide (symbols.length = 544)
  | .chainCodewordReceived _ _ symbols _ => decide (symbols.length = 544)
  | .temperatureSample readings => decide (readings.length = 8)
  | .stageInd _ d words bad => bad || decide (words.length = Machine.dField d 16 4)
  | .sensor _ d body bad => bad || !Machine.sensorInd d || decide (body.length = Machine.dField d 9 1)
  | .data _ d bytes bad => bad || decide (bytes.length = Machine.dField d 40 4)
  | .bootStart b => Machine.imageWhole b.slotA && Machine.imageWhole b.slotB
  | _ => true

end Sys2Proof
end

