-- ==== Sys2Proof/Tests/Slice0.lean ====
section
/-!
SUPPORT. The model's own tests: ill-formed operands, worked examples of the manual, and for each statement a state and operands
that meet its hypotheses, clause by clause.
-/
open Sys2Proof Sys2Proof.Machine
namespace Sys2Proof.Tests
set_option maxRecDepth 4000

/-! ### Operands -/

/-- A codeword of 544 symbols is well formed (R85). -/
theorem test_wf_codeword (l : Fin 64) (mode : Fin 4) (sy : List (BitVec 10)) (dt : Nat) (h : sy.length = 544) :
    (Instr.codewordReceived l mode sy dt).wf = true := decide_eq_true h

/-- One ill-formed term for each check. -/
theorem test_wf_short_codeword : (Instr.codewordReceived 0 0 [] 0).wf = false := by decide
theorem test_wf_short_chain_codeword : (Instr.chainCodewordReceived 0 0 [0] 0).wf = false := by decide
theorem test_wf_nine_readings : (Instr.temperatureSample (List.replicate 9 0)).wf = false := by decide
theorem test_wf_stage_ind : (Instr.stageInd 0 0x100000000000000000000000000000003 [] false).wf = false := by decide
theorem test_wf_sensor : (Instr.sensor 0 (5 + (4 <<< 64) + (5 <<< 72)) [] false).wf = false := by decide
theorem test_wf_data : (Instr.data 0 (1 <<< 320) [] false).wf = false := by decide
theorem test_wf_boot : (Instr.bootStart
    { flashOk := true, slotA := ⟨[], []⟩, slotB := ⟨[], []⟩, trained := 0, fuseOk := true, ms := 0 }).wf = false := by decide

/-- A codeword of another length is refused by its meaning too. -/
theorem test_short_codeword_refused : exec (.codewordReceived 0 0 [] 0) State.reset = .refused .illFormed := rfl

/-! ### Worked examples of the manual -/

/-- 00: 1001 times 1.5 in Q4.12 is 1502 rounded, 1023 in ten bits. -/
theorem test_rounding : rnd (1001 * 0x1800) 12 = 1502 ∧ satU 1502 10 = 1023 := by decide

/-- 06: the 20 bytes of a block of a temporal reference. -/
theorem test_reference_block :
    encodeBlock [40960, 41003, 41200, 40990, 41512, 41050, 40977, 41100, 41333, 41020, 40999, 41777, 41008, 41150, 40985, 41060] 3
      = [0x0B, 0x00, 0x28, 0x00, 0x00, 0x0B, 0x3C, 0x08, 0x8A, 0x17, 0x04, 0x23, 0x5D, 0x0F, 0x0A, 0xCC, 0x0C, 0x30, 0x06, 0x19] := by
  decide

/-- 02: the stamp of an edge on EDGE7, 6.5 ns before its latch. -/
theorem test_edge_stamp :
    let s := (({ State.reset with tb1 := { acc := ((1754000123 * 1000000000 + 3) * 65536 + 0x4000) * subnsUnits, state := .locked, epoch := 3, errb := false } }.setReg .timeEdgeCfg 7 0 0x10).setReg .timeEdgeDly 7 0 0x28000)
    leBytes 16 (s.edgeStamp 7).toNat
      = [0x00, 0xC0, 0xFC, 0xC9, 0x9A, 0x3B, 0x09, 0x03, 0xFA, 0xEA, 0x8B, 0x68, 0x00, 0x00, 0x00, 0x00] := by decide

/-- 14: the record of a halted ring, with PHASE 1 at bit 19. -/
theorem test_event_record :
    leBytes 32 ((eventBytes { type := 0x0603, payload := Machine.payload [(2, 133), (1, 2), (1, 0), (4, 42)], time := BitVec.ofNat 128 (500000000 * 2 ^ 16 + 0x309 * 2 ^ 48 + 1754000200 * 2 ^ 64) } 2 17).toNat + 2 ^ 19)
      = [0x03, 0x06, 0x0B, 0x02, 0x11, 0x00, 0x00, 0x00, 0x00, 0x00, 0x00, 0x65, 0xCD, 0x1D, 0x09, 0x03,
         0x48, 0xEB, 0x8B, 0x68, 0x00, 0x00, 0x00, 0x00, 0x85, 0x00, 0x02, 0x00, 0x2A, 0x00, 0x00, 0x00] := by decide

/-- 17: one DRAM address with 16 channels active, and with DDR12 retired. -/
theorem test_dram_split :
    State.dramSplit { State.reset with active := List.range 16 } 0x32A5B7C40 = some (12, 0x32A5B740) ∧
    State.dramSplit { State.reset with active := (List.range 16).filter (· ≠ 12) } 0x32A5B7C40 = some (5, 0x36061940) := by decide

/-- 17: the cell of that address in its first channel, in ORDER 0. -/
theorem test_dram_cell : State.reset.dramCell 0x32A5B740 = { row := 6482, group := 3, bank := 1, column := 736 + 8 } := by decide

/-- 24: MILL_IN_WM[341] lies at 0x01A_8290, 0x8290 behind a window at mill 42, and reads 3 with no slot in use. -/
theorem test_register_offset :
    RegName.millInWm.off 42 5 = 0x1A8290 ∧ locate 0x1A8290 = some ⟨.millInWm, 42, 5⟩ ∧
    (State.reset.setReg .twbT0Win 0 0 0x1A8000).tw0Offset 0x8290 = 0x1A8290 ∧ State.reset.reg .millInWm 42 5 = 3 := by decide

/-- 22: WHO of a swap of tray 99 by origin 18 and of the mark of its word 5,753. -/
theorem test_mark_who :
    let s := (State.reset.mark (.domain 2) 2 (99 * 2 ^ 13) 0x20007 8).mark (.domain 2) 1 (99 * 2 ^ 13 + 5753) 0x1000 0x1C00
    s.marks.map (·.who) = [0x488C7679, 0x490C6000] ∧ s.marks.map (·.seq) = [1, 0] := by decide


/-! ### Small states -/

/-- The device in service: the boot window is closed. -/
def running : State :=
  { State.reset with power := { State.reset.power with pstate := .run }, boot := { State.reset.boot with win := 1 } }

theorem running_sound : running.Sound := ⟨rfl, by decide, rfl⟩

/-- Lane 0 is UP with codeword lock, port 0 is enabled, with this record. -/
def lane0 (p : Port) (tray : Bank := [(PW.en, 1)]) : State :=
  { running with lanes := [(0, { step := .up, lock := true })], trays := [(0, { active := tray })], ports := [(0, p)] }

/-- A binding with the window [0, 100) and the deadline 200. -/
def bound0 : Binding := { lo := 0, hi := 100, close := 200 }

/-- A bound, open frame of tick 5. -/
def open0 : Frame := { tick := 5, number := 1, bind := bound0 }

/-- In service, ring 0 runs with a configuration in domain 0, which may touch port 0 and freeze; one window lies over low host
memory, and one entry of 64 at address 0 is posted. -/
def ringOn (cfg : Nat) : State :=
  ((((((({ running with rings := [(0, { state := .run })] }.setReg .protRing 0 0 0x400).setReg .ringCfg 0 0 (BitVec.ofNat 32 cfg)).setReg
    .ringProd 0 0 1).setReg .protBaseLo 0 0 3).setReg .protLimLo 0 0 0xFFFFF000).setReg .protFlags 0 0 1).setReg .protPort 0 0 1)

/-! ### Hypotheses of the statements on the whole machine, registers and time -/

theorem witness_StepKeepsSound : running.Sound ∧ step running = .next (running.elapse 1) :=
  ⟨running_sound, rfl⟩

theorem witness_EmptyQueueLetsOneClockPass : running.pending = [] := rfl

theorem witness_RegisterMapUnambiguous : 2 < RegName.timeCfg.row.n1 ∧ 0 < RegName.timeCfg.row.n2 := by decide

/-- A write that is refused, one that is stored and marked, one that is stored without a mark, and a partial one. -/
theorem witness_RegisterWrites :
    (∀ c, (running.sdmaChan c).stop = none) ∧ running.NoStop ∧
    (running.writeReaches .mgmt = true ∧ locate 0x10000 = some ⟨.protLock, 0, 0⟩ ∧ running.verdict .mgmt 0x10000 1 = .refused) ∧
    (locate (RegName.xlatRingFb.off 0) = some ⟨.xlatRingFb, 0, 0⟩ ∧ running.verdict .mgmt (RegName.xlatRingFb.off 0) 3 = .accepted ∧
      RegName.xlatRingFb.plain = true ∧ RegAt.marked ⟨.xlatRingFb, 0, 0⟩ = true) ∧
    (locate (RegName.sdmaCount.off 0) = some ⟨.sdmaCount, 0, 0⟩ ∧ running.verdict .mgmt (RegName.sdmaCount.off 0) 4 = .accepted ∧
      RegName.sdmaCount.plain = true ∧ RegAt.marked ⟨.sdmaCount, 0, 0⟩ = false) ∧ WriteForm.poisoned ≠ .whole :=
  ⟨fun _ => rfl, fun _ => rfl, by decide, by decide, by decide, by decide⟩

/-- A pair with no latch, and with one that another reader holds; a register with an RC field; a part of a word; and a slot of a
ring, read whole, in part, off a word's start, and without a ring. -/
theorem witness_RegisterReads :
    running.Sound ∧ (ringOn 0x61).Sound ∧
    (Accessor.mgmt.wholeWords = true ∧ running.reaches .mgmt = true ∧ running.deadOffset (RegName.tickNumLo.off) = false ∧
      locate RegName.tickNumLo.off = some ⟨.tickNumLo, 0, 0⟩ ∧ RegName.tickNumLo.hi = some .tickNumHi ∧
      running.latched .mgmt RegName.tickNumLo.off = none) ∧
    (let s : State := { running with latches := [(.tw0, RegName.tickNumHi.off, 5)] }
     locate RegName.tickNumHi.off = some ⟨.tickNumHi, 0, 0⟩ ∧ s.latched .tw0 RegName.tickNumHi.off = some 5 ∧
      s.latched .mgmt RegName.tickNumHi.off = none ∧ Accessor.tw0.wholeWords = true ∧ s.reaches .tw0 = true) ∧
    (running.deadOffset RegName.twbT0Wake.off = false ∧ locate RegName.twbT0Wake.off = some ⟨.twbT0Wake, 0, 0⟩ ∧
      RegName.twbT0Wake.row.rc ≠ 0 ∧ running.latched .mgmt RegName.twbT0Wake.off = none) ∧
    running.reaches .bar0Part = true ∧
    (let s := ringOn 0x61
     s.reaches .bar2 = true ∧ s.reaches .bar2Part = true ∧ s.boot.win ≠ 2 ∧ s.slotRing 0 0 = some 0 ∧
      (0x4 : BitVec 26).toNat % 0x400 % 4 = 0 ∧ (0x3FFFFFF : BitVec 26).toNat % 0x400 % 4 ≠ 0 ∧ s.slotRing 15 63 = none) :=
  ⟨running_sound, ⟨rfl, by decide, rfl⟩, by decide⟩

/-- EDGE input 3 is enabled for rising edges with a filter of 2. -/
theorem witness_TimeReadSets :
    running.Accepts .mgmt ⟨.timeCtrl, 0, 0⟩ 1 ∧
    (running.reaches .mgmt = true ∧ running.boot.win ≠ 2 ∧ running.latched .mgmt (RegName.timeRdSubns.off 3) = none) ∧
    (let s := { running with edges := [(3, { last := some 7 })], clock := 20 }.setReg .timeEdgeCfg 3 0 0x203
     s.power.pstate ≠ .keep ∧ s.power.pstate ≠ .reset ∧ s.flag .timeEdgeCfg 3 0 0 = true ∧ s.flag .timeEdgeCfg 3 0 1 = true ∧
      s.field .timeEdgeCfg 3 0 8 8 = 2 ∧ s.flag .wallRclCfg 0 0 3 = false ∧ (s.edge 3).last = some 7 ∧ s.clock + 7 ≤ 7 + 20 ∧
      ¬ s.clock + 8 ≤ 7 + 20 ∧ ((s.elapse 8).deliverCaptures.edge 3).queue.length < 16) ∧
    (let c : EdgeCapture := { stamp := 0, rising := true, seq := 1, evt := false, base := 1, epoch := 0, key := 1000000000 }
     let s := { running with edges := [(3, { queue := List.replicate 16 c })] }.setReg .timeEdgeCfg 3 0 0x13 |>.setReg .timeEdgeCfg 2 0 0x13
     16 ≤ ((s.elapse 8).deliverCaptures.edge 3).queue.length) :=
  ⟨⟨by decide, by decide, by decide⟩, by decide, by decide, by decide⟩

/-- TB0 takes updates: from FREE it steps, LOCKED it filters; TB1 follows TB0; TB3 takes PTM. -/
theorem witness_SourceUpdates :
    (let s := running.setReg .timeCfg 0 0 1
     (s.elapse 5).takesUpdates 0 = true ∧ (s.elapse 5).steps 0 0 = true) ∧
    (let s := { running with tb0 := { state := .locked } }.setReg .timeCfg 0 0 1
     (s.elapse 5).takesUpdates 0 = true ∧ (s.elapse 5).steps 0 65536 = false ∧ (s.base 0).state = .locked) ∧
    (let s := running.setReg .timeCfg 1 0 2
     (s.elapse 5).follows = some 0 ∧ (s.elapse 5).steps 1 (((s.elapse 5).base 0).subns - ((s.elapse 5).tb1.subns : Int)) = true) ∧
    (let s := running.setReg .timeCfg 3 0 3
     s.raised = [] ∧ s.field .timeCfg 3 0 0 3 = 3 ∧ s.busUp = true) := by decide

theorem witness_SourceLost :
    (0 : Fin 4) ≠ 2 ∧ (running.setReg .timeCfg 1 0 0x00644322).follows = some 2 ∧ running.follows = none ∧
    (running.timedOut 0 = false ∧
     let s := running.elapse 468750000
     max 2 (s.field .timeCfg 0 0 8 4) * s.updateInterval 0 * 5 ≤ (s.clock - (s.base 0).since) * 4) ∧
    (let s := { running with tb0 := { state := .holdover, errLocked := 2000000, errb := false } }
     (s.base 0).state = .holdover ∧ (s.reg .timeBoundNs 0).toNat < s.errNs 0) := by decide

theorem witness_ManualSetTakesValue : running.Accepts .mgmt ⟨.timeCfg, 0, 0⟩ (0 ||| 0x80) := ⟨by decide, by decide, by decide⟩

/-- A port tray with trigger at every tick is enabled, alone or beside a port that has lost its replay; a commit of a mill tray is
due; the rails are down; and a replay ring in step mode has no record of the next tick. -/
theorem witness_TickEdgeBeginsTick :
    (let s : Bool → State := fun b => { (lane0 {}).setReg .sxlCfg 0 0 1 with
        trays := [(0, { active := [(PW.en, 1)] }), (7, { active := [(PW.en, 1)] })], ports := [(0, {}), (7, { stranded := b })] }
     (s true).power.pstate ≠ .keep ∧ (s true).power.pstate ≠ .reset ∧ (s true).tickMayStart = true ∧
      (s true).tick.placeNow = false ∧ (s true).tick.armed = [] ∧ (s true).tick.landings = [] ∧
      (s true).rcl.state ≠ .exporting ∧ ((s true).elapse 1).stepping = false ∧ (s true).dark = false ∧
      (s true).replaying 0 = false ∧ (s true).flag .sxlCfg 0 0 0 = true ∧
      (((s true).enabledPorts.filter fun i => triggersAt ((s true).pBank i) 0).filter fun i =>
        i / 8 = 0 && !((s true).port i).stranded) = [0] ∧
      (((s false).enabledPorts.filter fun i => triggersAt ((s false).pBank i) 0).filter fun i =>
        i / 8 = 0 && !((s false).port i).stranded) = [0, 7]) ∧
    (let c : CommitRec := { ring := 0, dom := 0, trays := [512], opTag := 0, evt := false, inc := 1, edges := 1 }
     let s := { running with tick := { armed := [c] } }
     s.tickMayStart = true ∧ s.tick.placeNow = false ∧ s.tick.armed = [c] ∧ c.edges = 1 ∧ s.tick.landings = [] ∧
      c.trays.Nodup ∧ ∀ x ∈ c.trays, x < 576) ∧
    (let s : State := { running with power := { running.power with pstate := .keep } }
     s.Sound ∧ s.power.pstate = .keep) ∧
    (let s := { ringOn 0x69 with rings := [(0, { state := .run, n0 := some 0 })] }.setReg .tickCfg 0 0 4
     s.Sound ∧ s.tickMayStart = false) :=
  ⟨by decide, by decide, ⟨⟨rfl, by decide, rfl⟩, rfl⟩, ⟨rfl, by decide, rfl⟩, by decide⟩

/-- An offset behind the last register; and PROT_LOCK in service. -/
theorem witness_UnmappedAndLockedRegisters :
    running.Sound ∧ running.NoStop ∧ locate 0x3FFFFFC = none ∧ Accessor.bar0 ≠ .bar2 ∧ Accessor.bar0 ≠ .bar2Part ∧
    running.reaches .bar0 = true ∧ running.writeReaches .mgmt = true ∧ running.boot.win = 1 ∧
    locate 0x10000 = some ⟨.protLock, 0, 0⟩ ∧ RegName.protLock.row.bw ≠ 0 :=
  ⟨running_sound, fun _ => rfl, by decide⟩



theorem witness_SubnsReset : State.reset.Sound := ⟨rfl, by decide, rfl⟩

/-- A commit of port 0 that admission accepts, one that fails in its fields, and one in step mode without a replay ring; a change of
capacity that fits, and one that a port tray with a field out of range defeats. -/
theorem witness_AdmissionJudges :
    (let c : CommitRec := { ring := 0, dom := 0, trays := [0], opTag := 0, evt := false, inc := 1 }
     let s : Word → State := fun x => { running with trays := [(0, { staged := [(0, 1), (PW.framePhase, x)], state := .pending })]
                                                     tick := { judging := [c] } }
     let u : Word → State := fun x => { s x with tick := { (s x).tick with judging := [] } }
     (s 0).power.pstate ≠ .keep ∧ (s 0).power.pstate ≠ .reset ∧
      (s 0).tick.gateRuns = [] ∧ (s 0).tick.capacity = false ∧ (s 0).tick.judging = c :: [] ∧
      (u 0).lacksReplay ((u 0).commitConfig c) = false ∧ ((u 0).commitConfig c).failure = none ∧
      (u 0).commonEdge (c.trays.filter (· < 512)) = some 2 ∧
      (u 9).lacksReplay ((u 9).commitConfig c) = false ∧ ((u 9).commitConfig c).failure = some kind9 ∧
      ((u 0).setReg .tickCfg 0 0 4).lacksReplay (((u 0).setReg .tickCfg 0 0 4).commitConfig c) = true) ∧
    (let s : Word → State := fun x =>
       { running with trays := [(0, { active := [(0, 1), (PW.framePhase, x)] })], tick := { capacity := true } }
     let u : Word → State := fun x => { s x with tick := { (s x).tick with capacity := false } }
     (s 0).tick.gateRuns = [] ∧ (s 0).tick.capacity = true ∧ (s 0).tick.armed = [] ∧
      (u 0).standing.failure = none ∧ (u 9).standing.failure ≠ none) ∧
    running.tick.gateRuns = [] ∧ running.tick.capacity = false ∧ running.tick.judging = [] := by decide +kernel

/-! ### The Swixia Link and frames -/

theorem witness_LaneEnableAndDisable :
    running.power.pstate ≠ .trip ∧ running.Accepts .mgmt ⟨.sxlCfg, 63, 0⟩ (0 ||| 1) ∧ running.flag .sxlCfg 63 0 0 = false ∧
    (running.setReg .sxlCfg 63 0 1).flag .sxlCfg 63 0 0 = true ∧
    (running.setReg .sxlCfg 63 0 1).Accepts .mgmt ⟨.sxlCfg, 63, 0⟩ (clearEn 1) ∧
    (let s : State := { running with power := { running.power with pstate := .trip } }
     s.power.pstate = .trip ∧ s.Accepts .mgmt ⟨.sxlCfg, 63, 0⟩ (0 ||| 1) ∧ s.Accepts .mgmt ⟨.sxlCfg, 63, 0⟩ (clearEn 1)) :=
  ⟨by decide, ⟨by decide, by decide, by decide⟩, by decide, by decide, ⟨by decide, by decide, by decide⟩, rfl,
    ⟨by decide, by decide, by decide⟩, ⟨by decide, by decide, by decide⟩⟩

/-- Lanes at each step of bring-up; a RENEG of a lane; a second with too many errors at mode 1; and a lane at no step of it. -/
theorem witness_LaneBringUp :
    (let s := { running with lanes := [(0, { step := .switching 0 }), (1, { step := .switching 2 }), (2, { step := .waiting }),
        (3, { step := .up, mode := 1, uncorrectable := 2 })] }.setReg .sxlCfg 3 0 0x11
     (s.lane 0).step = .switching 0 ∧ (s.lane 1).step = .switching 2 ∧ (s.lane 2).step = .waiting ∧ (s.lane 3).step = .up ∧
      s.flag .sxlCfg 3 0 4 = true ∧ max 1 (s.field .sxlCfg 3 0 8 8) < (s.lane 3).uncorrectable ∧ (s.lane 3).mode ≠ 0 ∧
      (running.setReg .sxlCfg 3 0 1).flag .sxlCfg 3 0 4 = false ∧ s.dark = false ∧ s.writeReaches .mgmt = true ∧
      locate (RegName.sxlCtrl.off 3 0) = some ⟨.sxlCtrl, 3, 0⟩ ∧ s.verdict .mgmt (RegName.sxlCtrl.off 3 0) 1 = .accepted) ∧
    running.Sound ∧ (running.lane 63).step = .down :=
  ⟨by decide, running_sound, rfl⟩

/-- The word of 0s, which is a codeword; and the generator polynomial of degree 29, whose last syndrome alone is not 0. -/
def generator29 : List Nat :=
  [1, 287, 513, 656, 197, 885, 815, 1011, 141, 211, 282, 451, 394, 740, 375, 387, 301, 883, 11, 812, 927, 370, 437, 2, 961, 563,
   614, 564, 941, 464]

theorem gfMul_zero (x : Nat) : gfMul 0 x = 0 := by simp [gfMul, List.range_succ, gfX]

theorem syndromes_zeros (k : Nat) (w : List Nat) : syndromes (List.replicate k 0 ++ w) = syndromes w := by
  have h : ∀ x, List.foldl (fun acc c => gfMul acc x ^^^ c) 0 (List.replicate k 0) = 0 := by
    intro x; induction k with
    | zero => rfl
    | succ n ih => simpa [List.replicate_succ, gfMul_zero] using ih
  simp [syndromes, List.foldl_append, h]

theorem rsDecode_zeros : rsDecode (List.replicate 544 0) = some (List.replicate 544 0, 0) := by
  have h : syndromes (List.replicate 544 0) = List.replicate 30 0 := by
    rw [show List.replicate 544 (0 : Nat) = List.replicate 544 0 ++ [] by simp, syndromes_zeros]; decide
  unfold rsDecode
  rw [h]
  exact if_pos (by decide)

theorem rsDecode_generator29 : rsDecode (List.replicate 514 0 ++ generator29) = none := by
  have h : syndromes generator29 = List.replicate 29 0 ++ [676] := by decide +kernel
  unfold rsDecode
  rw [syndromes_zeros, h]
  decide +kernel

theorem receiveCodeword_some {st : Nat} {sy : List (BitVec 10)} {w : List Nat} {n : Nat}
    (h : rsDecode (sy.map BitVec.toNat) = some (w, n)) :
    (receiveCodeword st sy).1 = some (readMessage (descramble st (messageBits w)).1, n) := by
  simp only [receiveCodeword, h]

theorem receiveCodeword_none {st : Nat} {sy : List (BitVec 10)} (h : rsDecode (sy.map BitVec.toNat) = none) :
    (receiveCodeword st sy).1 = none := by
  simp only [receiveCodeword, h]

theorem zeros_toNat : (List.replicate 544 (0 : BitVec 10)).map BitVec.toNat = List.replicate 544 0 := by
  rw [List.map_replicate, show (0 : BitVec 10).toNat = 0 from rfl]

theorem zeros_decode : rsDecode ((List.replicate 544 (0 : BitVec 10)).map BitVec.toNat) = some (List.replicate 544 0, 0) := by
  rw [zeros_toNat, rsDecode_zeros]

theorem zeros_head : ((descramble 0 (messageBits (List.replicate 544 0))).1).take 14 = List.replicate 14 false := by decide +kernel

theorem zeros_head_none :
    ((descramble (1023 * 2 ^ 29) (messageBits (List.replicate 544 0))).1).take 14 = List.replicate 10 true ++ List.replicate 4 false := by
  decide +kernel

theorem zeros_head_one :
    ((descramble (1024 * 2 ^ 18) (messageBits (List.replicate 544 0))).1).take 14 = List.replicate 10 false ++ [true] ++ List.replicate 3 false := by
  decide +kernel

theorem readMessage_seq (bits : List Bool) :
    (readMessage bits).seq = BitVec.ofNat 4 (ofBits ((bits.take 14).drop 10)) := by
  simp [readMessage, List.drop_take]

theorem readMessage_first (bits : List Bool) : (readMessage bits).first =
    if ofBits ((bits.take 14).take 10) < 640 then some (ofBits ((bits.take 14).take 10)) else none := by
  simp [readMessage, List.take_take]

/-- Lanes without lock and with it before such codewords, and one at another mode; one that is DOWN; and a chain port's lanes. -/
theorem witness_CodewordLock :
    (List.replicate 544 (0 : BitVec 10)).length = 544 ∧ ([] : List (BitVec 10)).length ≠ 544 ∧
    (receiveCodeword 0 ((List.replicate 514 0 ++ generator29).map (BitVec.ofNat 10))).1 = none ∧
    (∃ p, (receiveCodeword 0 (List.replicate 544 0)).1 = some (p, 0) ∧ p.seq = 0) ∧
    (∃ p, (receiveCodeword (1023 * 2 ^ 29) (List.replicate 544 0)).1 = some (p, 0) ∧ p.first = none ∧ p.seq = 0) ∧
    (∃ p, (receiveCodeword (1024 * 2 ^ 18) (List.replicate 544 0)).1 = some (p, 0) ∧ p.seq = 1) ∧
    (let s : State := { running with lanes := [(0, { step := .up, lock := true, badRun := 7 }), (1, { step := .search }),
        (2, { step := .search, lastSeq := some 15, good := 1 }),
        (3, { step := .search, lastSeq := some 15, good := 2, scrambler := 549218942976 }),
        (4, { step := .up, lock := true, lastSeq := some 15, scrambler := 549218942976 }),
        (5, { step := .up, lock := true, lastSeq := some 3, seqRun := 1, scrambler := 549218942976 }),
        (6, { step := .up, lock := true, lastSeq := some 3, seqRun := 2 })] }
     s.dark = false ∧ (s.lane 0).step = .up ∧ (s.lane 0).lock = true ∧ 7 ≤ (s.lane 0).badRun ∧
      (s.lane 1).step ≠ .down ∧ (s.lane 1).mode = BitVec.ofNat 2 0 ∧ (s.lane 1).lock = false ∧
      (s.lane 1).lastSeq.map (· + 1) ≠ some 0 ∧ (s.lane 2).lastSeq.map (· + 1) = some 0 ∧ (s.lane 3).good = 2 ∧
      (s.lane 3).scrambler.toNat = 1023 * 2 ^ 29 ∧ (s.lane 3).partialPacket = none ∧
      (s.lane 4).lastSeq.map (· + 1) = some 0 ∧ (s.lane 4).lock = true ∧ (s.lane 4).partialPacket = none ∧
      (s.lane 5).lastSeq.map (· + 1) ≠ some 0 ∧ (s.lane 5).seqRun < 2 ∧ 2 ≤ (s.lane 6).seqRun ∧
      (s.lane 1).mode ≠ BitVec.ofNat 2 3 ∧ (s.lane 1).step ≠ .switching (BitVec.ofNat 2 3) ∧ (s.lane 63).step = .down) ∧
    running.Sound ∧
    (let s : State := { running with cports := [
        (0, { lanes := [(0, { lastSeq := some 14, good := 1 }), (1, { lock := true })] }),
        (1, { lanes := [(0, { lock := true }), (1, { lastSeq := some 15, good := 2, scrambler := 268435456 })] })] }.setReg .chnCfg 0 0 1
     s.chainOn = true ∧ (s.cport 0).linked = false ∧ (Store.get {} (s.cport 0).lanes 0).lock = false ∧
      (Store.get {} (s.cport 0).lanes 0).lastSeq.map (· + 2) = some 0 ∧ (Store.get {} (s.cport 1).lanes (1 - 1)).lock = true ∧
      (s.cport 1).linked = false ∧ (Store.get {} (s.cport 1).lanes 1).lastSeq.map (· + 2) = some 1 ∧
      (Store.get {} (s.cport 1).lanes 1).scrambler.toNat = 1024 * 2 ^ 18) ∧
    (let s : State := { running with cports := [(1, { linked := true, lanes := [(0, { lock := true, badRun := 7 })] })] }.setReg .chnCfg 0 0 1
     (Store.get {} (s.cport 1).lanes 0).lock = true ∧ 7 ≤ (Store.get {} (s.cport 1).lanes 0).badRun) := by
  refine ⟨List.length_replicate, by decide, ?_, ⟨_, receiveCodeword_some zeros_decode, by rw [readMessage_seq, zeros_head]; decide⟩,
    ⟨_, receiveCodeword_some zeros_decode, by rw [readMessage_first, zeros_head_none]; decide,
      by rw [readMessage_seq, zeros_head_none]; decide⟩,
    ⟨_, receiveCodeword_some zeros_decode, by rw [readMessage_seq, zeros_head_one]; decide⟩, by decide, running_sound, by decide, by decide⟩
  have h : ((List.replicate 514 0 ++ generator29).map (BitVec.ofNat 10)).map BitVec.toNat = List.replicate 514 0 ++ generator29 := by
    rw [List.map_append, List.map_append, List.map_replicate, List.map_replicate,
      show (BitVec.ofNat 10 0).toNat = 0 from rfl, show (generator29.map (BitVec.ofNat 10)).map BitVec.toNat = generator29 from by decide]
  exact receiveCodeword_none (h ▸ rsDecode_generator29)


theorem witness_HubStatusIsTaken :
    (let s := lane0 {}
     s.Sound ∧ (s.lane 0).lock = true ∧ s.dark = false ∧ ((s.lane 0).step = .up → s.replaying 0 = false) ∧ (s.lane 63).lock = false) ∧
    (List.replicate 16 (0 : Byte)).length = 16 ∧ crc16 (List.replicate 16 0) ≠ crc16 (List.replicate 16 0) + 1 ∧ (7 : Fin 8) ≠ 0 ∧
    (let s : State := { ringOn 0x69 with lanes := [(0, { step := .up, lock := true })] }
     s.Sound ∧ (s.lane 0).lock = true ∧ s.dark = false ∧ (s.lane 0).step = .up ∧ s.replaying 0 = true) :=
  ⟨⟨⟨rfl, by decide, rfl⟩, by decide⟩, by decide, by decide, by decide, ⟨rfl, by decide, rfl⟩, by decide⟩

/-- Lane 0 is UP with no port enabled; with port 0 enabled, or stranded; with its mill in replay; and a lane that is DOWN. -/
theorem witness_PacketsThatChangeNoFrame :
    (let s := lane0 {} []
     s.Sound ∧ s.laneTakes 0 = true ∧ s.portTakes (portIx 0 0) = false ∧ s.laneTakes 63 = false) ∧
    (lane0 { stranded := true }).portTakes (portIx 0 0) = false ∧
    (let s : State := { ringOn 0x69 with lanes := [(0, { step := .up, lock := true })], trays := [(0, { active := [(PW.en, 1)] })] }
     s.Sound ∧ s.laneTakes 0 = true ∧ s.replaying 0 = true ∧ s.portTakes (portIx 0 0) = false) ∧
    (lane0 {}).Sound ∧ (lane0 {}).TakesPackets (portIx 0 0) :=
  ⟨⟨⟨rfl, by decide, rfl⟩, by decide⟩, by decide, ⟨⟨rfl, by decide, rfl⟩, by decide⟩, ⟨rfl, by decide, rfl⟩, ⟨by decide, by decide⟩⟩

/-- The FS comes 4 ns after the tick edge: in the window of a period that waits for it; of one that has opened; of one declared
missing; and before the window opens. -/
theorem witness_FrameStartAndEnd :
    (let q : Bool → Bool → Int → Period := fun o m lo =>
       { tick := 5, number := 1, bind := { bound0 with lo := lo }, reqGen := 0, reqNew := false, opened := o, missing := m }
     let s : Period → List Frame → State := fun q fs => lane0 { periods := [q], frames := fs }
     let inside : State → List Period := fun s => (s.port (portIx 0 0)).periods.filter fun x =>
       decide (x.bind.lo ≤ ((s.elapse 5).tickNs : Int)) && decide (((s.elapse 5).tickNs : Int) < x.bind.hi)
     (s (q false false 4) []).TakesPackets (portIx 0 0) ∧
      ((inside (s (q false false 4) [])).find? fun x => !x.opened && !x.missing) = some (q false false 4) ∧
      ((inside (s (q true false 0) [open0])).all fun x => x.opened || x.missing) = true ∧
      ((inside (s (q true false 0) [open0])).any (·.opened)) = true ∧
      (s (q true false 0) [open0]).openFrame (portIx 0 0) = some open0 ∧
      ((inside (s (q true false 0) [])).any (·.opened)) = true ∧ (s (q true false 0) []).openFrame (portIx 0 0) = none ∧
      inside (s (q false true 0) []) = [q false true 0] ∧ ((inside (s (q false true 0) [])).all (·.missing)) = true ∧
      ((inside (s (q false true 0) [])).any (·.opened)) = false ∧ (s (q false true 0) []).earlyBinding (portIx 0 0) 4 = none ∧
      inside (s (q false false 5) [open0]) = [] ∧
      State.earlyBinding ((s (q false false 5) [open0]).elapse 5) (portIx 0 0) ((s (q false false 5) [open0]).elapse 5).tickNs = none) ∧
    (let s := lane0 { frames := [open0] }
     s.TakesPackets (portIx 0 0) ∧ s.openFrame (portIx 0 0) = some open0) ∧
    (lane0 {}).openFrame (portIx 0 0) = none :=
  ⟨⟨⟨by decide, by decide⟩, by decide⟩, ⟨⟨by decide, by decide⟩, by decide⟩, by decide⟩

/-- An open frame without lines; the tray gives 64 line slots, or none. -/
theorem witness_FrameLines :
    (let f : Frame := { open0 with bind := { bound0 with ptray := [(PW.h, 2)] } }
     let s := lane0 { frames := [f] } [(PW.en, 1), (PW.lines, 4)]
     s.TakesPackets (portIx 0 0) ∧ s.openFrame (portIx 0 0) = some f ∧
      f.lines.length < (BitVec.ofNat 16 3).toNat ∧ trayH f.bind.ptray = 2 ∧ f.lines.length < trayH f.bind.ptray ∧
      s.hasCredit (portIx 0 0) = true ∧ (0x3F : BitVec 6).toNat ≠ trayDt f.bind.ptray) ∧
    (let f : Frame := { open0 with lines := [.filled, .filled], bind := { bound0 with ptray := [(PW.h, 2)] } }
     let s := lane0 { frames := [f] } [(PW.en, 1), (PW.lines, 0)]
     s.openFrame (portIx 0 0) = some f ∧ (BitVec.ofNat 16 2).toNat ≤ f.lines.length ∧ trayH f.bind.ptray ≤ f.lines.length ∧
      s.hasCredit (portIx 0 0) = false) ∧ (lane0 {}).Sound ∧ (lane0 {}).openFrame (portIx 0 0) = none :=
  ⟨⟨⟨by decide, by decide⟩, by decide⟩, by decide, ⟨rfl, by decide, rfl⟩, by decide⟩

/-- An open frame, before its close instant and at it; a period before the end of its window and at it; and a deadline missed, and
told or not. -/
theorem witness_FrameTagsAndDeadlines :
    (let s := lane0 { frames := [open0] }
     s.TakesPackets (portIx 0 0) ∧ s.openFrame (portIx 0 0) = some open0 ∧
      open0.lines = [] ∧ (List.replicate 16 (0 : Byte)).length = 16 ∧ open0.bound = true ∧ s.judgeNs < open0.bind.close ∧
      ((s.port (portIx 0 0)).frames.all fun f => !f.missed || f.missTold) = true) ∧
    (lane0 {}).Sound ∧ (lane0 {}).openFrame (portIx 0 0) = none ∧
    (let f : Frame := { open0 with bind := { bound0 with close := 0 } }
     let s := lane0 { frames := [f] }
     s.dark = false ∧ s.openFrame (portIx 0 0) = some f ∧ f.bound = true ∧ f.bind.close ≤ s.judgeNs) ∧
    (let q : Int → Period := fun hi => { tick := 5, number := 1, bind := { bound0 with hi := hi }, reqGen := 0, reqNew := false }
     let s := fun hi => lane0 { periods := [q hi] }
     (((s 0).port (portIx 0 0)).periods.reverse.find? fun q => !q.opened && !q.missing && q.bind.hi ≤ (s 0).judgeNs) = some (q 0) ∧
      (((s 1).port (portIx 0 0)).periods.all fun q => q.opened || q.missing || decide ((s 1).judgeNs < q.bind.hi)) = true) ∧
    (let f : Bool → Frame := fun b => { open0 with missed := true, missTold := b }
     let s := fun b => lane0 { frames := [f b] }
     (((s false).port (portIx 0 0)).frames.find? fun f => f.missed && !f.missTold) = some (f false) ∧
      (((s true).port (portIx 0 0)).frames.all fun f => !f.missed || f.missTold) = true) :=
  ⟨⟨⟨by decide, by decide⟩, by decide⟩, ⟨rfl, by decide, rfl⟩, by decide, by decide, by decide, by decide⟩

/-- A line of two slices in service, before its last slice and with it; and a mill with nothing in service and a cache entry. -/
theorem witness_SliceIsServed :
    (let f : Nat → Frame := fun n => { open0 with servedSlices := n, bind := { bound0 with ptray := [(PW.w, 512)] } }
     let s : Nat → State := fun n => { lane0 { frames := [f n] } with mills := [(0, { service := some 0, serviceTick := 5 })] }
     (s 0).dark = false ∧ ((s 0).mill 0).service = some 0 ∧ (s 0).workFrame 0 = some (f 0) ∧
      (f 0).tick = ((s 0).mill 0).serviceTick ∧
      (f 0).servedSlices + 1 < slicesOf (f 0).bind.ptray ∧ (s 1).workFrame 0 = some (f 1) ∧
      slicesOf (f 1).bind.ptray ≤ (f 1).servedSlices + 1 ∧ (f 1).isOpen = true) ∧
    (let x : XEntry := { pv := false, pasid := 0, page := 1, big := false, target := 1, rd := true, wr := true }
     let s : State := { running with xcache := [x] }
     s.Sound ∧ s.dark = false ∧ (s.mill 63).service = none ∧ s.xcache.Nodup ∧ s.xcache[0]? = some x) :=
  ⟨by decide, ⟨rfl, by decide, rfl⟩, by decide⟩

/-- A mailbox request. -/
def mbx0 : MbxReq :=
  { gen := 7, seq := 1, bound := false, reply := true, body := [1, 2], rspAddr := 0, ring := 0, inc := 1, opTag := 0, order := 0, wait := 0 }

theorem witness_MailboxRequests :
    (let s := (lane0 { queue := [mbx0] }).setReg .sxlCfg 0 0 1
     s.mbxRuns (portIx 0 0) = true ∧ (s.port (portIx 0 0)).nextUnbound = some mbx0 ∧ (s.port (portIx 0 0)).waiting = []) ∧
    (let s := (lane0 { waiting := [mbx0] }).setReg .sxlCfg 0 0 1
     s.laneTakes 0 = true ∧ s.replaying 0 = false ∧ s.mbxRuns (portIx 0 0) = true ∧
      ((s.port (portIx 0 0)).waiting.find? fun r => r.seq = byteAt [7, 0, 1, 0] 2 && r.gen = BitVec.ofNat 16 (leAt [7, 0, 1, 0] 0 2))
        = some mbx0 ∧
      ((s.port (portIx 0 0)).waiting.all fun r => r.seq ≠ byteAt [7, 0, 2, 0] 2 || r.gen ≠ BitVec.ofNat 16 (leAt [7, 0, 2, 0] 0 2)) = true ∧
      (s.port (portIx 0 0)).waiting = mbx0 :: [] ∧ mbx0.attempts ≤ s.field .sxlMbxCfg 0 0 16 2 ∧
      (s.port (portIx 0 0)).nextUnbound = none) ∧
    (let s := (lane0 { waiting := [{ mbx0 with attempts := 4 }, { mbx0 with order := 1 }] }).setReg .sxlCfg 0 0 1
     s.mbxRuns (portIx 0 0) = true ∧ s.field .sxlMbxCfg 0 0 16 2 < 4 ∧ ∀ q ∈ [{ mbx0 with order := 1 }], q.order ≠ mbx0.order) ∧
    (lane0 {}).Sound ∧ (lane0 {}).mbxRuns (portIx 0 0) = false :=
  ⟨by decide, by decide, by decide, ⟨rfl, by decide, rfl⟩, by decide⟩

/-! ### Descriptors and rings -/

/-- A record of 64 bytes in one unit. -/
def record0 : Record := { bytes := List.replicate 64 1, units := [64], rseq := 0, oclass := 2, slot := 0, order := 0 }

/-- The state once ring r has read its next entry. -/
def entryRead (s : State) (r : Nat) : State :=
  match s.prepare r (s.entryAddr r (s.readCount r)) 64 false with
  | (.go ps, v) => v.issueRead r (s.entryAddr r (s.readCount r)) 64 ps
  | _ => s

/-- Whether ring r reads its next entry, d, a command of opcode op. -/
def fetchOk (s : State) (r op : Nat) (d : BitVec 512) : Bool :=
  !s.otherOp r op d && s.reads r d && (s.ring r).fetched.isNone && match (s.prepare r (s.entryAddr r (s.readCount r)) 64 false).1 with
    | .go _ => true
    | _ => false

theorem fetches_of {s : State} {r op : Nat} {d : BitVec 512} (h : fetchOk s r op d = true) : s.Fetches r op d (entryRead s r) := by
  simp only [fetchOk, Bool.and_eq_true, Bool.not_eq_true', Option.isNone_iff_eq_none] at h
  obtain ⟨⟨⟨h1, h2⟩, h3⟩, h4⟩ := h
  refine ⟨h1, h2, h3, ?_⟩
  unfold entryRead
  cases hp : s.prepare r (s.entryAddr r (s.readCount r)) 64 false with
  | mk q v => cases q with
    | go ps => exact ⟨ps, v, rfl, rfl⟩
    | wait => simp [hp] at h4
    | outside => simp [hp] at h4

theorem reads_of {s : State} {r op : Nat} {d : BitVec 512} {cs : List Check}
    (h : (fetchOk s r op d && (s.offends r d cs).isNone) = true) : s.Reads r op d cs (entryRead s r) := by
  simp only [Bool.and_eq_true, Option.isNone_iff_eq_none] at h
  exact ⟨fetches_of h.1, h.2⟩

/-- Whether the indirect data of a descriptor can be read. -/
def dataOk (s : State) (r addr len : Nat) : Bool :=
  match (s.readPages r ((pagePieces addr len len).drop (s.ring r).unitsRead)).1 with
  | .go _ => true
  | _ => false

theorem readsData_of {s : State} {r addr len : Nat} (h : dataOk s r addr len = true) : ∃ v, s.ReadsData r addr len v := by
  unfold dataOk at h
  cases hp : s.readPages r ((pagePieces addr len len).drop (s.ring r).unitsRead) with
  | mk q v => cases q with
    | go ps => exact ⟨_, ps, v, hp, rfl⟩
    | wait => simp [hp] at h
    | outside => simp [hp] at h

theorem takes_of {s : State} {r op addr len : Nat} {d : BitVec 512} {cs : List Check}
    (h : (fetchOk s r op d && (s.offends r d cs).isNone && dataOk (entryRead s r) r addr len) = true) :
    ∃ u v, s.Takes r op d cs u ∧ u.ReadsData r addr len v := by
  rw [Bool.and_eq_true] at h
  exact ⟨_, (readsData_of h.2).imp fun _ g => ⟨.inl (reads_of h.1), g⟩⟩

theorem wait_of {q : Ready × State} (h : q.1 = .wait) : ∃ v, q = (.wait, v) := ⟨q.2, by rw [← h]⟩

/-- Ring 0 goes on with a descriptor whose data it reads: with every page at hand, or behind a cache that holds none. -/
def held (cfg : Nat) (d : BitVec 512) (ats : Bool) : State :=
  { ringOn cfg with rings := [(0, { state := .run, fetched := some d })], atsOn := ats }

/-- In range, of an open tray and of one that a commit holds; beyond the tray; and indirect data at hand, and behind a page that is
not. -/
theorem witness_StageDescriptors :
    (let s := ringOn 0x61
     s.Sound ∧ ∃ u, s.Reads 0 1 0x01 (unused 0x01 4 56) u) ∧
    (let s : TrayState → State := fun st => { ringOn 0x61 with trays := [(0, { state := st })] }
     let d : BitVec 512 := 0x10000000000000002
     (∀ st, ∃ u, (s st).Reads 0 2 d (stageChecks d) u) ∧ (s .openTray).domTray (((s .openTray).ringDomain 0).getD 0) (dTray d) = true ∧
      outOfRange d (dField d 8 1) = false ∧ ((s .openTray).tray (dTray d)).state = .openTray ∧
      ((s .pending).tray (dTray d)).state ≠ .openTray) ∧
    (let d : BitVec 512 := 0x100000000000000000000000000000003
     let s := ringOn 0x61
     (∃ u v, s.Takes 0 3 d (stageIndChecks d) u ∧ u.ReadsData 0 (dField d 8 8) (4 * dField d 16 4) v) ∧
      [(5 : Word)].length = dField d 16 4 ∧ outOfRange d (dField d 16 4) = false ∧
      (held 0x61 d true).Takes 0 3 d (stageIndChecks d) (held 0x61 d true) ∧
      (∃ v, (held 0x61 d true).readPages 0 ((pagePieces (dField d 8 8) (4 * dField d 16 4) (4 * dField d 16 4)).drop
        ((held 0x61 d true).ring 0).unitsRead) = (.wait, v)) ∧ ([] : List Word).length ≠ dField d 16 4) ∧
    (let s := ringOn 0x61
     let d : BitVec 512 := 0x1FFFF000000000002
     (∃ u, s.Reads 0 2 d (stageChecks d) u) ∧ outOfRange d (dField d 8 1) = true) :=
  ⟨⟨⟨rfl, by decide, rfl⟩, _, reads_of (by decide)⟩,
    ⟨fun st => ⟨_, reads_of (by cases st <;> decide)⟩, by decide⟩,
    ⟨takes_of (by decide), by decide, by decide,
      .inr ⟨⟨by decide, by decide, rfl, rfl⟩, rfl⟩, wait_of (by decide), by decide⟩,
    ⟨⟨_, reads_of (by decide)⟩, by decide⟩⟩

/-- The same ring, its domain without permissions. -/
def ringBare (cfg : Nat) : State := ((ringOn cfg).setReg .protFlags 0 0 0).setReg .protPort 0 0 0

/-- What a domain may not touch, of each kind; a malformed NOP; another opcode; and a COMMIT of tray 0, of it twice, and of it while a
commit holds it. -/
theorem witness_CommitDescriptors :
    (let s := ringBare 0x61
     s.rcl.state ≠ .exporting ∧ s.domTray ((s.ringDomain 0).getD 0) (dTray 0x10000000000000002) = false ∧
      (∃ u, s.Reads 0 (dOp 0x10000000000000002) 0x10000000000000002 (stageChecks 0x10000000000000002) u) ∧
      dOp 0x10000000000000002 = 2 ∧ s.domPort ((s.ringDomain 0).getD 0) (dPort 0x05) = false ∧
      (∃ u, s.Reads 0 (dOp 0x05) 0x05 (sensorChecks 0x05) u) ∧ dOp 0x05 = 5 ∧ ([] : List Byte).length = dField 0x05 9 1 ∧
      s.domFreeze ((s.ringDomain 0).getD 0) = false ∧ (∃ u, s.Reads 0 (dOp 0x07) 0x07 (unused 0x07 4 56) u) ∧ dOp 0x07 = 7 ∧
      (∃ u, s.Reads 0 (dOp 0x0100000004) 0x0100000004 (commitChecks 0x0100000004) u) ∧ dOp 0x0100000004 = 4 ∧
      ∃ id ∈ commitIds 0x0100000004, s.domTray ((s.ringDomain 0).getD 0) ((trayOfId id).getD 0) = false) ∧
    (let s := ringOn 0x61
     (∃ u, s.Fetches 0 (dOp 0x100000001) 0x100000001 u) ∧ s.kind 0 = 0 ∧
      s.offends 0 0x100000001 (unused 0x100000001 4 56) = some 4 ∧ dOp 0x100000001 = 1 ∧ s.rcl.state ≠ .exporting ∧
      ([] : List Word).length = dField 0x100000001 16 4 ∧ ([] : List Byte).length = dField 0x100000001 9 1 ∧ s.otherOp 0 1 0x07 = true) ∧
    (let s : TrayState → State := fun st => { ringOn 0x61 with trays := [(0, { state := st })] }
     let d : BitVec 512 := 0x0100000004
     let e : BitVec 512 := 0x0200000004
     (∀ st, ∃ u, (s st).Reads 0 4 d (commitChecks d) u) ∧ (∃ u, (s .openTray).Reads 0 4 e (commitChecks e) u) ∧
      (∀ id ∈ commitIds e, (s .openTray).domTray (((s .openTray).ringDomain 0).getD 0) ((trayOfId id).getD 0) = true) ∧
      (s .openTray).commitFault [] (commitIds d) = none ∧ commitIds d = [0] ∧ commitIds e = [0, 0] ∧
      (s .openTray).commitFault [] (commitIds e) = some (0, 1) ∧ (s .armed).commitFault [] (commitIds e) = some (0, 2)) :=
  ⟨⟨by decide, by decide, ⟨_, reads_of (by decide)⟩, by decide, by decide, ⟨_, reads_of (by decide)⟩, by decide, by decide, by decide,
      ⟨_, reads_of (by decide)⟩, by decide, ⟨_, reads_of (by decide)⟩, by decide⟩,
    ⟨⟨_, fetches_of (by decide)⟩, by decide⟩,
    ⟨fun st => ⟨_, reads_of (by cases st <;> decide)⟩, ⟨_, reads_of (by decide)⟩, by decide⟩⟩

/-- A SENSOR without body and one of 4 bytes in host memory; a TRAY_READ of one word, and one that goes beyond the tray. -/
theorem witness_SensorAndTrayRead :
    (let s := ringOn 0x61
     let d : BitVec 512 := 0x05
     (∃ u, s.Reads 0 5 d (sensorChecks d) u) ∧ sensorInd d = false ∧ s.domPort ((s.ringDomain 0).getD 0) (dPort d) = true) ∧
    (let s := ringOn 0x61
     let d : BitVec 512 := BitVec.ofNat 512 (5 + 4 * 2 ^ 64 + 4 * 2 ^ 72)
     (∃ u v, s.Takes 0 5 d (sensorChecks d) u ∧ u.ReadsData 0 (dField d 24 8) (dField d 9 1) v) ∧
      sensorInd d = true ∧ [(0 : Byte), 0, 0, 0].length = dField d 9 1) ∧
    (let s := ringOn 0x61
     let d : Nat → BitVec 512 := fun n => BitVec.ofNat 512 (6 + 64 * 2 ^ 128 + n * 2 ^ 192)
     (∃ u, s.Reads 0 6 (d 1) (trayReadChecks (d 1)) u) ∧ (∃ u, s.Reads 0 6 (d 6040) (trayReadChecks (d 6040)) u) ∧
      s.domTray ((s.ringDomain 0).getD 0) (dTray (d 1)) = true ∧ outOfRange (d 1) (dField (d 1) 24 4) = false ∧
      outOfRange (d 6040) (dField (d 6040) 24 4) = true) :=
  ⟨⟨⟨_, reads_of (by decide)⟩, by decide⟩,
    ⟨takes_of (by decide), by decide⟩,
    ⟨⟨_, reads_of (by decide)⟩, ⟨_, reads_of (by decide)⟩, by decide⟩⟩

/-- The recall store in each of its states; ring 1 of the domain takes recall exports, with a part of an entry. -/
theorem witness_RecallAndBuffers :
    (let s : Recall → State := fun x => ({ ringOn 0x61 with
        rings := [(0, { state := .run }), (1, { state := .run, records := [{ record0 with oclass := 3 }] })]
        rcl := x }.setReg .ringCfg 1 0 0x665).setReg .protRing 1 0 0x410
     let e : RecallEntry := { offset := 0, len := 64, wall := 0, tick := 0, fmt := 0, w := 8, h := 8 }
     (∀ x ∈ [{}, { state := .exporting, exportRing := 1 }], (s x).domFreeze (((s x).ringDomain 0).getD 0) = true) ∧
      (∀ x ∈ [{}, { state := .recording }, { state := .recording, pend := true }, { state := .frozen }],
        ∃ u, (s x).Reads 0 7 0x07 (unused 0x07 4 56) u) ∧
      (∀ x ∈ [{}, { state := .recording }, { state := .frozen, entries := [e] }],
        ∃ u, (s x).Reads 0 8 0x100000008 ((4, !(s x).exportRingOk 0 (dField 0x100000008 4 2)) :: unused 0x100000008 6 56) u) ∧
      (∀ x ∈ [{}, { state := .recording }, { state := .recording, pend := true }, { state := .frozen },
          { state := .exporting, exportRing := 1 }],
        ∃ u, (s x).Reads 0 9 0x09 (unused 0x09 4 56) u) ∧ e.sent = false ∧
      ((s {}).ring 1).records.any (·.oclass = 3) = true) ∧
    (let s := ringOn 0x65
     let d : BitVec 512 := 0x40000000000000000000000000000000020
     ∃ u, s.Reads 0 0x20 d (obufChecks d) u) :=
  ⟨⟨by decide, fun x h => ⟨_, reads_of (by revert x; decide)⟩, fun x h => ⟨_, reads_of (by revert x; decide)⟩,
      fun x h => ⟨_, reads_of (by revert x; decide)⟩, by decide⟩, ⟨_, reads_of (by decide)⟩⟩

/-- A record for the tick to come; one behind its tick, in live and in step mode; one with two FS; and a domain that may not touch the
port. -/
theorem witness_ReplayDescriptors :
    (let s : Option Nat → State := fun n => { ringOn 0x69 with rings := [(0, { state := .run, n0 := n })] }
     let d : Nat → BitVec 512 := fun n => BitVec.ofNat 512 (0x30 + n * 2 ^ 160 * 2 ^ 160)
     (∀ n ∈ [none, some 0], ∀ k ∈ [1, 8], ∃ u v, (s n).Takes 0 0x30 (d k) (dataChecks (d k) ((s n).replayMill 0) ((s n).ring 0).lastOff) u ∧
        u.ReadsData 0 (dField (d k) 32 8) (dField (d k) 40 4) v) ∧
      (s none).kind 0 = 2 ∧ (s none).domPort (((s none).ringDomain 0).getD 0) (dPort (d 1)) = true ∧
      [(0 : Byte)].length = dField (d 1) 40 4 ∧ countFs (1 + 1) [0] ≤ 1 ∧ (List.replicate 8 (0 : Byte)).length = dField (d 8) 40 4 ∧
      1 < countFs (8 + 1) (List.replicate 8 0) ∧ (s none).edgeNow = true ∧ (s none).stepping = false ∧
      (s none).now < ((s none).ring 0).n0.getD ((s none).now + 1 + 1) + dTickOff (d 1) ∧
      ((s (some 0)).ring 0).n0.getD ((s (some 0)).now + 1) + dTickOff (d 1) ≤ (s (some 0)).now ∧
      (s (some 0)).stepMode = false ∧ ((s (some 0)).setReg .tickCfg 0 0 4).stepMode = true ∧ ([] : List Byte).length ≠ dField (d 1) 40 4) ∧
    (let s := ringBare 0x69
     let d : BitVec 512 := BitVec.ofNat 512 (0x30 + 2 ^ 160 * 2 ^ 160)
     (∃ u, s.Reads 0 0x30 d (dataChecks d (s.replayMill 0) (s.ring 0).lastOff) u) ∧
      s.domPort ((s.ringDomain 0).getD 0) (dPort d) = false) ∧
    (let s := ringOn 0x69
     ∃ u, s.Reads 0 0x31 0x31 (eotChecks 0x31 (s.ring 0).lastOff) u) := by
  refine ⟨⟨fun n h k g => takes_of ?_, by decide⟩, ⟨⟨_, reads_of (by decide)⟩, by decide⟩, ⟨_, reads_of (by decide)⟩⟩
  revert n; revert k; decide


/-- A command ring and an event queue are enabled; a ring that runs, one that waits with a response block, and one that has halted are
disabled; and a ring drains with a COMMIT in execution or with nothing. -/
theorem witness_RingEnableAndDisable :
    (let s := (ringOn 0x60).setReg .ringCfg 0 0 0x60
     let s : State := { s with rings := [] }
     s.Sound ∧ s.Accepts .mgmt ⟨.ringCfg, 0, 0⟩ (0x6C ||| 1) ∧ s.flag .ringCfg 0 0 0 = false ∧ bitsOf 0x6C 2 2 = 3 ∧
      s.ringDomain 0 = some 0) ∧
    (let s := ringOn 0x61
     s.Accepts .mgmt ⟨.ringCfg, 0, 0⟩ (clearEn 0x61) ∧ s.flag .ringCfg 0 0 0 = true ∧ bitsOf 0x61 2 2 ≠ 3 ∧ (s.ring 0).state = .run) ∧
    (let w : PendingWrite := { addr := 0, bytes := [1], relaxed := false, advance := false, event := none, response := true }
     let s : RingState → State := fun st => { ringOn 0x61 with rings := [(0, { state := st, writes := [w] })] }
     (s .wait).Accepts .mgmt ⟨.ringCfg, 0, 0⟩ (clearEn 0x61) ∧ ((s .wait).ring 0).state = .wait ∧ (s .wait).rcl.state ≠ .exporting ∧
      w ∈ ((s .wait).ring 0).writes ∧ (s .halt).Accepts .mgmt ⟨.ringCfg, 0, 0⟩ (clearEn 0x61) ∧ ((s .halt).ring 0).state = .halt) ∧
    (let s := ringOn 0x6D
     s.Sound ∧ s.Accepts .mgmt ⟨.ringCfg, 0, 0⟩ (clearEn 0x6D) ∧ bitsOf 0x6D 2 2 = 3 ∧ (s.ring 0).records = [] ∧
      s.rcl.state ≠ .exporting) ∧
    (let s : Bool → State := fun b => { ringOn 0x61 with rings := [(0, { state := .drain, busy := b })] }
     (s false).Sound ∧ (s true).Sound ∧ (s false).drained 0 = true ∧ (s true).drained 0 = false) :=
  ⟨⟨⟨rfl, by decide, rfl⟩, ⟨by decide, by decide, by decide⟩, by decide⟩, ⟨⟨by decide, by decide, by decide⟩, by decide⟩,
    ⟨⟨by decide, by decide, by decide⟩, by decide, by decide, by decide, ⟨by decide, by decide, by decide⟩, by decide⟩,
    ⟨⟨rfl, by decide, rfl⟩, ⟨by decide, by decide, by decide⟩, by decide⟩, ⟨rfl, by decide, rfl⟩, ⟨rfl, by decide, rfl⟩, by decide⟩

/-- A command ring, running and halted, and no ring at slot 1; the words of a slot; and an event queue of domain 0 with two
records. -/
theorem witness_RingCounts :
    (let s := ringOn 0x61
     s.Sound ∧ s.hostUp = true ∧ s.slotRing 0 0 = some 0 ∧ s.kind 0 ≠ 3 ∧ (s.ring 0).state = .run ∧
      ((64 : Word) - s.cons 0).toNat ≤ 2 ^ s.log2s 0 ∧
      (s.prod 0 - s.cons 0).toNat ≤ ((64 : Word) - s.cons 0).toNat ∧ 2 ^ s.log2s 0 < ((65 : Word) - s.cons 0).toNat ∧
      ((0 : Word) - s.cons 0).toNat < (s.prod 0 - s.cons 0).toNat ∧ s.slotRing 0 1 = none ∧
      State.slotRing { s with rings := [(0, { state := .halt })] } 0 0 = some 0 ∧
      (let w : SlotWord := { byte := 1 }
       w.poisoned = false ∧ w.byte.toNat % 4 ≠ 0) ∧
      (let w : SlotWord := { byte := 4 }
       w.poisoned = false ∧ w.whole = true ∧ w.byte.toNat % 4 = 0 ∧ w.byte ≠ 0) ∧ (s.slotRing 0 0).isSome = true) ∧
    (let s : State := { ringOn 0x6D with queues := [(0, { pd := 2 })] }
     s.Sound ∧ s.hostUp = true ∧ s.slotRing 0 0 = some 0 ∧ s.queueOf 0 = some 0 ∧ (s.queue 0).hold = [] ∧ (s.queue 0).overflow = false ∧
      ((2 : Word) - (s.queue 0).ch).toNat ≤ ((s.queue 0).pd - (s.queue 0).ch).toNat ∧
      ((s.queue 0).pd - (s.queue 0).ch).toNat < ((3 : Word) - (s.queue 0).ch).toNat) ∧
    (let s : State := { running with queues := [(16, { pd := 2 })] }
     s.Sound ∧ s.Accepts .mgmt ⟨.evtMqCons, 0, 0⟩ 2 ∧ s.Accepts .mgmt ⟨.evtMqCons, 0, 0⟩ 3 ∧ (s.queue 16).hold = [] ∧
      (s.queue 16).overflow = false ∧ ((2 : Word) - (s.queue 16).ch).toNat ≤ ((s.queue 16).pd - (s.queue 16).ch).toNat ∧
      ((s.queue 16).pd - (s.queue 16).ch).toNat < ((3 : Word) - (s.queue 16).ch).toNat) :=
  ⟨⟨⟨rfl, by decide, rfl⟩, by decide⟩, ⟨⟨rfl, by decide, rfl⟩, by decide⟩, ⟨rfl, by decide, rfl⟩, ⟨by decide, by decide, by decide⟩,
    ⟨by decide, by decide, by decide⟩, by decide⟩

theorem witness_HostErrorsHaltRing :
    (ringOn 0x61).kind 0 ≠ 3 ∧ (ringOn 0x61).ringBusy 0 = true ∧ ((ringOn 0x61).ring 0).state ≠ .drain ∧
    (let s : State := { ringOn 0x61 with rings := [(0, { state := .drain })] }
     s.ringBusy 0 = true ∧ (s.ring 0).state = .drain) ∧
    running.Sound ∧ running.ringBusy 1023 = false :=
  ⟨by decide, by decide, by decide, by decide, running_sound, by decide⟩

/-- The management queue is enabled; disabled with nothing held, and with two records held, the first in progress; and queue 16 has a
coalescing time, or none. -/
theorem witness_EventQueueSignals :
    (running.Sound ∧ running.Accepts .mgmt ⟨.evtMqCtl, 0, 0⟩ (0xC ||| 1) ∧ running.flag .evtMqCtl 0 0 0 = false ∧ running.held = []) ∧
    (let s : RingState → List (BitVec 256) → State := fun st h =>
       { running with rings := [(mqRing, { state := st })], queues := [(16, { hold := h })] }.setReg .evtMqCtl 0 0 0xD
     (∀ st h, (s st h).Sound) ∧
      (s .run []).Accepts .mgmt ⟨.evtMqCtl, 0, 0⟩ (clearEn 0xD) ∧ (s .run []).flag .evtMqCtl 0 0 0 = true ∧
      ((s .run []).queue 16).hold = [] ∧ ((s .halt [1]).ring mqRing).state ≠ .run ∧ ((s .halt [1]).ring mqRing).state ≠ .wait ∧
      ((s .run [1, 2]).ring mqRing).state = .run ∧ ((s .wait [1, 2]).ring mqRing).state = .wait ∧
      ((s .wait [1, 2]).queue 16).hold ≠ []) ∧
    (let s := ({ running with queues := [(16, { timer := true })] }.setReg .evtMsi 16 0 0x803).setReg .evtCoal 16 0 1
     s.Sound ∧ (s.queue 16).timer = true ∧ s.flag .evtMsi 16 0 11 = true ∧ s.field .evtCoal 16 0 0 16 ≠ 0 ∧ s.power.d3hot = false ∧
      s.flag .msixTable (s.field .evtMsi 16 0 0 11) 3 0 = true ∧ (s.setReg .msixTable 3 3 0).flag .msixTable 3 3 0 = false) ∧
    (running.queue 16).timer = false :=
  ⟨⟨running_sound, ⟨by decide, by decide, by decide⟩, by decide⟩,
    ⟨fun _ _ => ⟨rfl, Nat.zero_le _, rfl⟩, ⟨by decide, by decide, by decide⟩, by decide⟩, ⟨⟨rfl, by decide, rfl⟩, by decide⟩, by decide⟩

theorem witness_TranslationCache :
    running.Sound ∧
    (let v : Invalidation := ⟨3, false, 0, 0, 4096⟩
     let s : State := { running with invals := [v] }
     s.Sound ∧ s.power.d3hot = false ∧ (s.invals.find? fun v => v.opTag = 3) = some v ∧ (s.invals.find? fun v => v.opTag = 31) = none) ∧
    running.Accepts .mgmt ⟨.xlatCfg, 0, 0⟩ (0 ||| 2) ∧
    (let q : PageReq := { prg := 0, pv := true, pasid := 5, page := 2 ^ 52 - 1, write := false, rings := [] }
     let s : Bool → State := fun on => { running with lookups := [q], atsOn := on }
     (s true).Sound ∧ (s false).Sound ∧ (s true).lookups = [q] ∧ (s true).atsOn = true ∧ (s false).atsOn = false ∧ q.rings = [] ∧
      q.page < 2 ^ 52 ∧ ((s true).lookups.all fun q => q.pv ≠ false || q.pasid ≠ 5) = true) ∧
    (let q : PageReq := { prg := 0, pv := false, pasid := 0, page := 2 ^ 52 - 1, write := true, rings := [0] }
     let w : PageWait := { page := 2 ^ 52 - 1, write := true, place := false }
     let s : State := { ringOn 0x61 with lookups := [q], atsOn := true, rings := [(0, { state := .wait, waits := [w] })] }
     s.Sound ∧ s.lookups = [q] ∧ q.rings = [0] ∧ q.page < 2 ^ 52 ∧ s.atsOn = true ∧ s.kind 0 ≠ 3 ∧ (s.ring 0).state = .wait ∧
      (s.ring 0).preempted = false ∧ (s.ring 0).writes = [] ∧ (s.ring 0).halting = none ∧ (s.ring 0).waits = [w] ∧
      w.page = q.page ∧ w.write = q.write) :=
  ⟨running_sound, ⟨⟨rfl, by decide, rfl⟩, by decide⟩, ⟨by decide, by decide, by decide⟩, ⟨⟨rfl, by decide, rfl⟩, ⟨rfl, by decide, rfl⟩, by decide⟩,
    ⟨rfl, by decide, rfl⟩, by decide⟩

theorem witness_PageRequests :
    (let q : PageReq := { prg := 3, pv := false, pasid := 0, page := 1, write := true, rings := [] }
     let s : State := { running with prqs := [q] }
     s.Sound ∧ (s.prqs.find? fun q => q.prg = 3) = some q ∧ q.rings = [] ∧
      (s.rings.all fun e => e.2.waits.all fun w => !w.place) = true ∧ (s.prqs.all fun q => q.prg ≠ 511) = true) ∧
    (let q : PageReq := { prg := 3, pv := false, pasid := 0, page := 1, write := true, rings := [0] }
     let w : PageWait := { page := 1, write := false, place := false, prg := 3 }
     let s : State := { ringOn 0x61 with prqs := [q], rings := [(0, { state := .wait, waits := [w] })] }
     s.Sound ∧ (s.prqs.find? fun q => q.prg = 3) = some q ∧ q.rings = [0] ∧ s.kind 0 = 0 ∧ (s.ring 0).state = .wait ∧
      (s.ring 0).waits = [w] ∧ w.on q = true ∧ (s.rings.all fun e => e.2.waits.all fun w => !w.place) = true) :=
  ⟨⟨⟨rfl, by decide, rfl⟩, by decide⟩, ⟨rfl, by decide, rfl⟩, by decide⟩

/-- In service, parked, in the boot window and without rails; in D3hot; exporting; and with a mill in replay. -/
theorem witness_FunctionState :
    (running.Sound ∧ running.power.pstate ≠ .keep ∧ running.power.pstate ≠ .reset ∧ running.boot.win = 1 ∧ State.reset.boot.win = 0 ∧
      State.reset.power.pstate = .boot ∧ running.power.d3hot = false ∧ running.power.pstate = .run ∧ running.rcl.state ≠ .exporting) ∧
    (let s : PState → State := fun p => { running with power := { running.power with pstate := p } }
     (s .keep).Sound ∧ (s .keep).power.pstate = .keep ∧ (s .park).power.pstate = .park) ∧
    (let s : State := { ringOn 0x65 with power := { running.power with d3hot := true, pstate := .d3 } }
     s.Sound ∧ s.kind 0 = 1 ∧ s.power.d3hot = true ∧ s.power.pstate = .d3) ∧
    (let s : State := { ringOn 0x69 with rcl := { state := .exporting }, trays := [(7, { active := [(PW.en, 1)] })] }
     s.Sound ∧ s.rcl.state = .exporting ∧ 7 ∈ s.enabledPorts ∧ s.replaying (7 / 8) = true) :=
  ⟨⟨running_sound, by decide⟩, ⟨⟨rfl, by decide, rfl⟩, by decide⟩, ⟨⟨rfl, by decide, rfl⟩, by decide⟩, ⟨rfl, by decide, rfl⟩, by decide⟩

/-! ### Outputs -/

/-- Ring 0 takes the taps, with a buffer posted or none. -/
def tapRing (bufs : List OutBuf) (recs : List Record) : State :=
  { ringOn 0x465 with rings := [(0, { state := .run, bufs := bufs, records := recs })] }

def buffer0 : OutBuf := { count := 0, addr := 4096, len := 64, opTag := 0, evt := false }

/-- An item of tick 3 on the funnel of tap 0, and of the statistics; and a slot that comes behind its place. -/
theorem witness_FunnelsPassItems :
    (let x : FunItem := { bytes := List.replicate 64 1, ring := 0, rseq := 0, due := 3 }
     let s : Nat → List OutBuf → Nat → Option (Nat × Nat × Nat) → State := fun f b n a =>
       { tapRing b [] with funnels := [(f, [x])], tick := { num := BitVec.ofNat 64 n, slotAt := a } }
     (∀ f b n a, (s f b n a).Sound) ∧ (s 0 [] 2 none).dark = false ∧ (s 0 [] 2 none).tick.halted = false ∧
      (s 0 [] 2 none).funnel 0 = x :: [] ∧ x.ring < 1024 ∧
      (s 0 [] 2 none).ringTakes x.ring (funnelClass 0) = true ∧ ((s 0 [] 2 none).ring x.ring).room x.bytes.length = false ∧
      ((s 0 [buffer0] 3 none).ring x.ring).room x.bytes.length = true ∧ (s 0 [] 2 none).now < x.due ∧
      x.due ≤ (s 0 [buffer0] 3 none).now ∧
      (s 4 [] 3 none).funnel 4 = x :: [] ∧ (s 4 [] 3 none).ringTakes x.ring (funnelClass 4) = false ∧ (s 4 [] 3 none).kind x.ring ≠ 3 ∧
      (s 0 [buffer0] 3 none).slotKey (.tap 0 0) = some (1, 0, 0) ∧ (s 4 [] 3 none).slotKey (.stats 0) = some (1, 0, 0) ∧
      (s 0 [buffer0] 3 none).slotInOrder (1, 0, 0) = true ∧ (s 0 [buffer0] 3 (some (1, 0, 0))).slotInOrder (1, 0, 0) = true ∧
      (s 0 [buffer0] 3 (some (1, 0, 1))).slotInOrder (1, 0, 0) = false) :=
  ⟨fun _ _ _ _ => ⟨rfl, Nat.zero_le _, rfl⟩, by decide⟩

/-- A due frame of wall 7, whose slot comes in its place or behind it; and an export before its only entry and behind it. -/
theorem witness_OutputSlots :
    (let d : WallDue := { tick := 0, bank := [(WW.ring, 0x400)], gen := 0, addr := 0, buf := false, marks := [], fills := [], late := [],
                          shed := false, unsync := false, time := 0 }
     let s : State := { ringOn 0x65 with walls := [(7, { due := some d })] }
     s.Sound ∧ s.dark = false ∧ s.tick.halted = false ∧ (s.wall 7).due = some d ∧ s.slotInOrder (0, 3 - wGet d.bank WW.prio, 7) = true ∧
      s.tick.shedWalls.contains 7 = false ∧ ringOf d.bank = some 0 ∧ s.ringTakes 0 0 = true ∧ s.slotKey (.wall 7) = some (0, 3, 7) ∧
      s.slotKey (.wall 8) = none ∧ State.slotInOrder { s with tick := { slotAt := some (0, 3, 8) } } (0, 3, 7) = false) ∧
    (let e : Bool → RecallEntry := fun b => { offset := 0, len := 128, wall := 0, tick := 0, fmt := 0, w := 8, h := 8, sent := b }
     let s : Bool → State := fun b => { ringOn 0x665 with
       rcl := { state := .exporting, exportRing := 0, entries := [e b] }, tick := { regions := [⟨3, 0, 0, 2 ^ 24⟩] } }
     (s false).dark = false ∧ (s false).tick.halted = false ∧ (s false).rcl.state = .exporting ∧ (s false).rcl.releasing = [] ∧
      (s false).slotInOrder (1, (s false).rcl.exportRing, 0) = true ∧ (s false).rcl.exportRing < 1024 ∧
      ((s false).ring (s false).rcl.exportRing).records = [] ∧ ((s false).ring (s false).rcl.exportRing).halting = none ∧
      (s false).ringTakes (s false).rcl.exportRing 3 = true ∧
      ((s false).rcl.entries.findIdx? fun e => !e.sent) = some 0 ∧ (s false).rcl.entries[0]? = some (e false) ∧
      ((s false).region 3 0).isSome = true ∧ ((s true).rcl.entries.all fun e => e.sent) = true ∧
      (s true).flag .wallRclCfg 0 0 28 = false ∧ ((s true).setReg .wallRclCfg 0 0 0x10000000).flag .wallRclCfg 0 0 28 = true) :=
  ⟨⟨⟨rfl, by decide, rfl⟩, by decide⟩, by decide⟩

/-- A record of one unit, whole and behind another ring's unit; of two units; one without buffers, and one behind its deadline. -/
theorem witness_RecordsAreWrittenOrDropped :
    (let s := tapRing [buffer0] [record0]
     s.busUp = true ∧ s.engineOrder = 0 :: [] ∧ s.kind 0 = 1 ∧ (s.ring 0).bufs = buffer0 :: [] ∧ buffer0.bad = none ∧
      buffer0.written < buffer0.len ∧ (s.ring 0).records = record0 :: [] ∧ (s.ring 0).nextUnit = some 64 ∧ record0.oclass ≠ 3 ∧
      record0.bytes.length ≤ (s.ring 0).done + 64) ∧
    (∃ u, (tapRing [buffer0] [record0]).preparePieces 0 true (piecesOf [buffer0] 64) = (.go (1 :: []), u)) ∧
    (let y : Record := { record0 with units := [32, 32] }
     (tapRing [buffer0] [y]).engineOrder = 0 :: [] ∧ ((tapRing [buffer0] [y]).ring 0).nextUnit = some 32 ∧ 0 + 32 < y.bytes.length) ∧
    (let x : Ring := { state := .run, bufs := [buffer0], records := [record0] }
     let s : State := ({ ringOn 0xC65 with rings := [(0, x), (1, x)], engine := some 1 }.setReg .ringCfg 1 0 0x465).setReg .protRing 1 0 0x410
     s.engineOrder = 0 :: [1] ∧ s.kind 1 = 1 ∧ (s.ring 1).state = .run ∧ s.unitReady 1 = true ∧ s.pclass 1 < s.pclass 0) ∧
    running.Sound ∧ running.engineOrder = [] ∧
    (let s : State := { tapRing [] [record0] with tick := { num := 1 } }
     s.Sound ∧ s.kind 0 = 1 ∧ s.lacking 0 = some 0 ∧ running.lacking 0 = none) ∧
    (let s : Nat → State := fun n => { tapRing [buffer0] [record0] with
       tick := { num := BitVec.ofNat 64 n }, rings := [(0, { state := .run, bufs := [buffer0], records := [record0], unitsDone := 1 })] }
     (s 1).Sound ∧ (s 2).kind 0 = 1 ∧ ((s 2).ring 0).records = record0 :: [] ∧
      record0.slot + (s 2).field .xlatRingFb 0 0 0 2 < (s 2).now ∧ (s 1).now ≤ record0.slot + (s 1).field .xlatRingFb 0 0 0 2 ∧
      ((s 2).ring 0).unitsDone ≠ 0 ∧ ((s 2).ring 0).halting = none ∧ ((s 2).ring 0).state = .run) :=
  ⟨by decide, ⟨_, rfl⟩, by decide, by decide, running_sound, by decide, ⟨⟨rfl, by decide, rfl⟩, by decide⟩, ⟨rfl, by decide, rfl⟩, by decide⟩

theorem witness_WallsStreamAndFreeze :
    (let d : WallDue := { tick := 0, bank := [], gen := 0, addr := 0, buf := false, marks := [], fills := [], late := [5], shed := false
                          unsync := false, time := 0 }
     let s : State := { running with walls := [(7, { due := some d })] }
     s.Sound ∧ (s.wall 7).due = some d ∧ d.late.contains 5 = true ∧ ((s.wall 7).due.all fun d => !d.late.contains 63) = true) ∧
    (let s : Nat → State := fun n => { running with rcl := { state := .recording, pend := true, tf := 3 }, tick := { num := BitVec.ofNat 64 n } }
     (s 3).Sound ∧ (s 4).rcl.state = .recording ∧ (s 4).rcl.pend = true ∧ (s 4).rcl.tf.toNat < (s 4).now ∧ (s 3).now ≤ (s 3).rcl.tf.toNat) :=
  ⟨⟨⟨rfl, by decide, rfl⟩, by decide⟩, ⟨rfl, by decide, rfl⟩, by decide⟩


/-- A streaming wall of stream 5 with one stone of 8 lines: begun at its first line and behind its last, filled; and not begun, with
the stone on line 0 or below it, with a tick of an idle port known or none. -/
theorem witness_WallsStreamAndFreeze_lines :
    (let b : Bank := [(WW.wh, 9), (WW.eth, 0x105), (WW.entry, 1), (WW.entry + 9, 8)]
     let d : List (Nat × FillCause) → WallDue := fun fs =>
       { tick := 4, bank := b, gen := 0, addr := 2, buf := false, marks := [], fills := fs, late := [], shed := false, unsync := false
         time := 0 }
     let s : List (Nat × FillCause) → Nat → State := fun fs n => { running with walls := [(7, { stream := some (d fs), streamLine := n })] }
     (s [] 0).Sound ∧ (s [(0, .portIdle)] 8).Sound ∧ (s [] 0).dark = false ∧ (s [] 0).tick.halted = false ∧
      (s [] 0).tick.shedWalls.contains 7 = false ∧
      ((s [] 0).wall 7).stream = some (d []) ∧ localStones b = (0, stoneAt b 0) :: [] ∧
      (stoneAt b 0).py ≤ 0 ∧ 0 < (stoneAt b 0).py + (stoneAt b 0).oh ∧
      (∃ x ∈ (0, stoneAt b 0) :: [], (s [] 0).lineNow b (d []) 2 (0 - 0) x = .waits) ∧
      (∀ x ∈ (0, stoneAt b 0) :: [], (s [(0, .portIdle)] 8).lineNow b (d [(0, .portIdle)]) 2 (8 - 0) x ≠ .waits) ∧
      8 + 1 = wallH b ∧ 0 + 1 ≠ wallH b) ∧
    (let b : Nat → Bank := fun y => [(WW.en, 1), (WW.stream, 1), (WW.wh, 9), (WW.entry, 1), (WW.entry + 9, 8), (WW.entry + 11, BitVec.ofNat 32 y)]
     let s : Nat → List (Nat × Nat) → State := fun y i =>
       { running with trays := [(583, { active := b y })], ports := [(0, { idles := i })] }
     (s 0 [(3, 4)]).Sound ∧ (s 1 [(3, 4)]).Sound ∧ (s 0 []).Sound ∧ ((s 0 [(3, 4)]).wall 7).stream = none ∧
      (s 0 [(3, 4)]).nextTrigger 7 = some (3, 4) ∧ (s 1 [(3, 4)]).nextTrigger 7 = some (3, 4) ∧ (s 0 []).nextTrigger 7 = none ∧
      (((s 0 [(3, 4)]).linesAt ((s 0 [(3, 4)]).newStream 7 3 4) 0).any fun l => l.2 = .waits) = true ∧
      (((s 1 [(3, 4)]).linesAt ((s 1 [(3, 4)]).newStream 7 3 4) 0).any fun l => l.2 = .waits) = false ∧
      1 ≠ wallH ((s 1 [(3, 4)]).wallAt 7 4).1) :=
  ⟨⟨⟨rfl, by decide, rfl⟩, ⟨rfl, by decide, rfl⟩, by decide, by decide, by decide, by decide, by decide, by decide, by decide,
    ⟨_, List.mem_singleton.2 rfl, rfl⟩, fun x h => by rw [List.mem_singleton.1 h]; exact fun e => LineNow.noConfusion e, by decide, by decide⟩,
    ⟨rfl, by decide, rfl⟩, ⟨rfl, by decide, rfl⟩, ⟨rfl, by decide, rfl⟩, by decide⟩

/-! ### Ethernet -/

/-- A PDU of stream 5 of a staged wall frame of tick 3. -/
def pdu0 : Pdu := { stream := 5, wall := 0, tick := 3, vsf := false, stamp := 0, tv := false, line := 0, last := true, streaming := false
                    payload := [1] }

/-- Split port 0 is up with some PDUs queued, at a tick. -/
def splitUp (q : List Pdu) (n : Nat) : State := { running with splits := [(0, { up := true, queued := q })], tick := { num := BitVec.ofNat 64 n } }

theorem witness_EthernetPorts :
    (let s := running.setReg .ethCfg 0 0 1
     s.Sound ∧ s.splitExists 0 = true ∧ s.flag .ethCfg (0 / 4) 0 0 = true ∧ (s.split 0).up = false ∧ s.flag .ethCfg (7 / 4) 0 0 = false) ∧
    ((splitUp [pdu0] 5).split 0).up = true ∧ (splitUp [pdu0] 5).streamSub 5 = 0 ∧ ((splitUp [pdu0] 5).begun 0 5).isSome = true ∧
    (splitUp [] 0).Sound ∧
    (splitUp [] 0).isGptp 0 ([0x01, 0x80, 0xC2, 0x00, 0x00, 0x0E, 0, 0, 0, 0, 0, 0, 0x88, 0xF7]) true = true ∧
    isEventFrame [0x01, 0x80, 0xC2, 0x00, 0x00, 0x0E, 0, 0, 0, 0, 0, 0, 0x88, 0xF7, 0x12] = true ∧
    (splitUp [] 0).isGptp 0 [] true = false :=
  ⟨⟨⟨rfl, by decide, rfl⟩, by decide⟩, by decide, by decide, by decide, ⟨rfl, by decide, rfl⟩, by decide, by decide, by decide⟩

theorem witness_EthernetSends :
    (splitUp [pdu0] 5).Sound ∧ ((splitUp [pdu0] 5).split ((splitUp [pdu0] 5).field .ethPtpCfg 0 0 0 3)).up = true ∧
    (List.replicate 1504 (0 : Byte)).length ≤ 1504 ∧ 1504 < (List.replicate 1505 (0 : Byte)).length ∧
    (splitUp [] 5).flag .ethPtpCfg 0 0 3 = false ∧ ((splitUp [] 5).setReg .ethPtpCfg 0 0 8).flag .ethPtpCfg 0 0 3 = true ∧
    (running.split 0).up = false ∧ running.Sound ∧
    (splitUp [pdu0] 5).dark = false ∧ ([7, 6, 5, 4, 3, 2, 1, 0].findSome? fun q => (splitUp [pdu0] 5).mayStart 0 q) = some pdu0 ∧
    ([7, 6, 5, 4, 3, 2, 1, 0].findSome? fun q => (splitUp [] 5).mayStart 0 q) = none ∧ (splitUp [] 5).Sound ∧
    (((splitUp [pdu0] 5).split ((splitUp [pdu0] 5).streamSub 5)).queued.any fun p =>
      p.stream = 5 && !p.streaming && decide (p.tick + 2 ≤ (splitUp [pdu0] 5).now)) = true ∧
    (((splitUp [pdu0] 4).split ((splitUp [pdu0] 4).streamSub 5)).queued.all fun p =>
      p.stream ≠ 5 || p.streaming || decide ((splitUp [pdu0] 4).now < p.tick + 2)) = true :=
  ⟨⟨rfl, by decide, rfl⟩, by decide, List.length_replicate ▸ Nat.le_refl _, List.length_replicate ▸ Nat.le_refl _, by decide, by decide,
    by decide, running_sound, by decide, by decide, by decide, ⟨rfl, by decide, rfl⟩, by decide, by decide⟩

theorem witness_CapacityChanges :
    (running.Accepts .mgmt ⟨.ethGclCtl, 7, 0⟩ (0 ||| 2) ∧ running.flag .ethGclCtl 7 0 1 = false) ∧
    (let s := { running with splits := [(7, { changeResult := 1 })] }.setReg .ethGclCtl 7 0 2
     s.flag .ethGclCtl 7 0 1 = true ∧ (s.split 7).changeResult ≠ 0 ∧ (s.split 7).effectAt ≤ s.tb0.ns) ∧
    running.Accepts .mgmt ⟨.chnRsv, 1, 0⟩ 4096 :=
  ⟨⟨⟨by decide, by decide, by decide⟩, by decide⟩, by decide, ⟨by decide, by decide, by decide⟩⟩

/-! ### The chain -/

/-- The chain is on, with a configuration; both ports are LINKED, or as given. -/
def chained (cfg : Word) (c : Chain := {}) (p0 : ChainPort := { linked := true }) (p1 : ChainPort := { linked := true }) : State :=
  { running with chain := c, cports := [(0, p0), (1, p1)] }.setReg .chnCfg 0 0 cfg

/-- A keystone, a member, an isolated lead and none of these; the delay's measurement; links and peers, 10 ms behind a HELLO and short
of it; and a member 100 ms behind an INAUG, and the readiness time at its end and short of it. -/
theorem witness_ChainLinks :
    ((chained 1 { role := 1 }).Sound ∧ (chained 1 { role := 1 }).chainOn = true ∧ ((chained 1 { role := 1 }).cport 0).linked = true ∧
      (chained 1 { role := 1 }).chainOpen 1 = true ∧ (chained 1 { role := 1 }).isKey = true ∧ (chained 3 { role := 3 }).leads = true ∧
      (chained 1 { role := 2 }).chain.role = 2 ∧ (1 : Fin 2).val ≠ Chain.toward { role := 2 } ∧ (chained 0).Sound ∧
      (chained 0).chainOn = false ∧ (chained 1).isKey = false ∧ (chained 1).chain.role ≠ 3) ∧
    (let s := chained 1 { role := 2, taken := true } { linked := true, t1 := some 0 }
     s.Sound ∧ s.chainOn = true ∧ s.chain.role ≠ 1 ∧ s.chain.taken = true ∧ (s.cport s.chain.toward).linked = true ∧
      (s.cport 0).t1 = some 0 ∧ (s.cport 1).t1 = none ∧ (chained 1 { role := 2 }).chain.taken = false) ∧
    (let s : Nat → State := fun n => { chained 1 {} {} { linked := true, peer := true } with clock := n }
     (s 0).Sound ∧ (s 0).chainOn = true ∧ ((s 0).cport 0).linked = false ∧ ((s 0).cport 1).linked = true ∧ ((s 0).cport 1).peer = true ∧
      12500000 ≤ (s 12500000).clock - ((s 12500000).cport 1).helloClock ∧ (s 12499999).Sound ∧
      (s 12499999).clock - ((s 12499999).cport 1).helloClock < 12500000 ∧ ((s 0).cport 0).peer = false) ∧
    (let s : Nat → State := fun n => { chained 0x101 { role := 2, readyTimer := true, clevel := 2 } with clock := n }
     (s 0).chainOn = true ∧ (s 0).chain.role = 2 ∧ 125000000 ≤ (s 125000000).clock - (s 125000000).chain.takenClock ∧
      (s 124999999).Sound ∧ (s 124999999).clock - (s 124999999).chain.takenClock < 125000000 ∧
      (s 0).chain.readyTimer = true ∧ (s 0).clevel < 4 ∧ (s 0).field .chnCfg 0 0 8 8 ≠ 0 ∧
      (s 1250000000).field .chnCfg 0 0 8 8 * 1250000000 ≤ (s 1250000000).clock - (s 1250000000).chain.epochClock ∧
      (s 1249999999).Sound ∧
      (s 1249999999).clock - (s 1249999999).chain.epochClock < (s 1249999999).field .chnCfg 0 0 8 8 * 1250000000) ∧
    (chained 3).Sound ∧ (chained 3).chainOn = true ∧ (chained 3).chainOpen 0 = true ∧ (chained 3).leads = true ∧
    BitVec.ofNat 64 (numAt (BitVec.ofNat 256 Config.deviceId.toNat) 0 8) = Config.deviceId :=
  ⟨⟨⟨rfl, by decide, rfl⟩, by decide, by decide, by decide, by decide, by decide, by decide, by decide, ⟨rfl, by decide, rfl⟩, by decide⟩,
    ⟨⟨rfl, by decide, rfl⟩, by decide⟩,
    ⟨⟨rfl, by decide, rfl⟩, by decide, by decide, by decide, by decide, by decide, ⟨rfl, by decide, rfl⟩, by decide⟩,
    ⟨by decide, by decide, by decide, ⟨rfl, by decide, rfl⟩, by decide, by decide, by decide, by decide, by decide, ⟨rfl, by decide, rfl⟩,
      by decide⟩, ⟨rfl, by decide, rfl⟩, by decide, by decide, by decide, by
    have h : Config.deviceId.toNat < 2 ^ 64 := Config.deviceId.isLt
    apply BitVec.eq_of_toNat_eq
    simp only [numAt, BitVec.toNat_ofNat]
    omega⟩

/-- A lead that has heard nothing for 100 ms, whose floor its versions meet, or do not; an epoch told at its tick and before it, to a
member and to the keystone; and TIME at a member and at an isolated device. -/
theorem witness_ChainEpochs :
    (let s : Nat → State := fun n => { chained 3 { foreign := some 0 } with clock := n }
     (s 0).Sound ∧ (s 0).chainOn = true ∧ (s 0).leads = true ∧ (s 0).isKey = false ∧ (s 0).keysHeard = [] ∧ (s 0).chain.foreign = some 0 ∧
      125000000 ≤ (s 125000000).clock - 0 ∧ (s 124999999).Sound ∧ (s 124999999).clock - 0 < 125000000 ∧
      floorAbove (s 0).boot.floor (s 0).agreed = false ∧
      floorAbove 0xFFFFFFFF (s 0).agreed = true ∧ ∀ x : Fin 2, ((s 0).cport x).blocked = false) ∧
    (let s : BitVec 2 → Nat → State := fun r n =>
       { chained 1 { applyAt := some 1, told := { role := r, addr := 3 } } with tick := { num := BitVec.ofNat 64 n } }
     (s 2 1).chainOn = true ∧ (s 2 1).chain.applyAt = some 1 ∧ 1 ≤ (s 2 1).now ∧ (s 2 1).chain.told.role = 2 ∧ (s 2 1).chain.role ≠ 3 ∧
      (s 1 1).chain.told.role = 1 ∧ floorAbove (s 1 1).boot.floor (s 1 1).agreed = false ∧
      (∀ x : Fin 2, ((s 1 1).cport x).blocked = false) ∧ (s 2 0).Sound ∧ (s 2 0).isKey = false ∧ (s 2 0).now < 1) ∧
    (let s : State := { chained 1 { role := 2 } with tb1 := { state := .locked } }.setReg .timeCfg 1 0 2
     s.Sound ∧ s.chainOn = true ∧ s.chainOpen 0 = true ∧ s.chain.toward = 0 ∧ s.chain.role = 2 ∧ s.takesUpdates 1 = true ∧ s.tb1.state = .locked ∧
      (s.elapse 1).steps 1 ((stampSubns (BitVec.ofNat 128 (numAt (0 : BitVec 256) 0 16)) : Int) + s.delayIn 0 - (s.elapse 1).tb1.subns) = false) ∧
    (let s : State := { chained 1 { role := 3 } with service := (chained 1 { role := 3 }).serviceNow }
     s.Sound ∧ s.chainOn = true ∧ s.chainOpen 0 = true ∧ s.chain.role = 3 ∧ s.chainOpen (1 - 0) = true) :=
  ⟨⟨⟨rfl, by decide, rfl⟩, by decide, by decide, by decide, by decide, by decide, by decide, ⟨rfl, by decide, rfl⟩, by decide⟩,
    ⟨by decide, by decide, by decide, by decide, by decide, by decide, by decide, by decide, ⟨rfl, by decide, rfl⟩, by decide⟩,
    ⟨⟨rfl, by decide, rfl⟩, by decide⟩, ⟨rfl, by decide, rfl⟩, by decide⟩


/-- A member without an epoch hears the INAUG of another keystone, whose CVAL agrees with this device's configuration, or does not; and
one that has come on the other port before. -/
theorem witness_ChainEpochs_inaug :
    let s := chained 1
    let crc := (crc32 (leBytes 4 (s.reg .tickPeriodNs).toNat ++ leBytes 4 (s.reg .tickPhaseNs).toNat
      ++ [BitVec.ofNat 8 (s.field .tickCfg 0 0 0 2), 0] ++ leBytes 4 0 ++ [0, 0])).toNat
    (∀ v, v = crc ∨ v = crc + 1 → ∃ p : BitVec 256, s.chainOn = true ∧ s.chainOpen 0 = true ∧ s.leads = false ∧ s.chain.role = 0 ∧
      s.chain.heard = [] ∧ s.chain.applyAt = none ∧ s.inaugLoops 0 p = false ∧ BitVec.ofNat 64 (numAt p 0 8) ≠ Config.deviceId ∧
      (numAt p 11 1).testBit 0 = false ∧ numAt p 10 1 = 31 ∧ BitVec.ofNat 32 (numAt p 12 4) = BitVec.ofNat 32 v ∧
      BitVec.ofNat 32 (numAt p 16 4) = 0 ∧ floorAbove s.boot.floor 0 = false) ∧
    (let t := chained 1 { seen := [(0, 0, 1)] }
     t.chainOn = true ∧ t.chainOpen 0 = true ∧ t.inaugLoops 0 0 = true) := by
  intro s crc
  refine ⟨?_, by decide⟩
  rintro v (rfl | rfl) <;> by_cases h : Config.deviceId = 0
  · refine ⟨BitVec.ofNat 256 (1 + 31 * 2 ^ 80 + crc * 2 ^ 96), by decide, by decide, by decide, by decide, by decide, by decide, by decide,
      ?_, by decide, by decide, by decide, by decide, by decide⟩
    rw [h]; decide
  · refine ⟨BitVec.ofNat 256 (31 * 2 ^ 80 + crc * 2 ^ 96), by decide, by decide, by decide, by decide, by decide, by decide, by decide,
      fun e => h (e.symm.trans ?_), by decide, by decide, by decide, by decide, by decide⟩
    decide
  · refine ⟨BitVec.ofNat 256 (1 + 31 * 2 ^ 80 + (crc + 1) * 2 ^ 96), by decide, by decide, by decide, by decide, by decide, by decide,
      by decide, ?_, by decide, by decide, by decide, by decide, by decide⟩
    rw [h]; decide
  · refine ⟨BitVec.ofNat 256 (31 * 2 ^ 80 + (crc + 1) * 2 ^ 96), by decide, by decide, by decide, by decide, by decide, by decide,
      by decide, fun e => h (e.symm.trans ?_), by decide, by decide, by decide, by decide, by decide⟩
    decide

/-- Wall 0 takes wall 0 of address 1; a piece that waits to go on; and an ALARM at address 1. -/
theorem witness_ChainFramesAndAlarms :
    (let s := { chained 1 { role := 2, addr := 0 } with trays := [(576, { active := [(WW.en, 1), (WW.entry, 1), (WW.entry + 1, 1), (WW.entry + 2, 2048)] })] }
     s.chainOn = true ∧ s.chainOpen 0 = true ∧ (s.cport (1 - 0)).linked = true ∧
      s.takers (hdrOrig 0x010000) (byteAt [0] 0).toNat (hdrTick 0x010000) = [0] ∧
      s.now ≤ hdrTick 0x010000 + s.hops (hdrOrig 0x010000) ∧ hdrTick 0x010000 + s.hops (hdrOrig 0x010000) ≤ s.now + 1 ∧
      s.pieceDue 0 (hdrOrig 0x010000) (hdrTick 0x010000) = true ∧
      (let u := { s with trays := [(576, { active := [(WW.en, 1), (WW.wf, 2), (WW.entry, 1), (WW.entry + 1, 1), (WW.entry + 2, 2048)] })] }
       u.takers (hdrOrig 0x010000) (byteAt [0] 0).toNat (hdrTick 0x010000) = [0] ∧ u.pieceDue 0 (hdrOrig 0x010000) (hdrTick 0x010000) = false) ∧
      hdrTick 0x010000 + State.hops { s with tick := { num := 9 } } (hdrOrig 0x010000) < State.now { s with tick := { num := 9 } }) ∧
    (chained 1 {} { linked := true, blocked := true }).Sound ∧ (chained 1 {} { linked := true, blocked := true }).chainOpen 0 = false ∧
    (let q : RelayPiece := { hdr := 0x01010000 + 0x06, payload := List.replicate 12 0, arrived := 0 }
     let s : Nat → State := fun n =>
       { (chained 1 { role := 2 } { linked := true, peer := true, relay := [q] }).setReg .chnRsv 0 0 64 with tick := { num := BitVec.ofNat 64 n } }
     (s 9).chainOn = true ∧ ((s 9).cport 0).relay = [q] ∧ (s 0).now < q.due ∧ q.due ≤ (s 9).now ∧ ((s 9).cport 0).counts = true ∧
      wholeBefore [q] q = true ∧ ((s 9).cport 0).relayTick ≠ (s 9).now ∧ q.payload.length + 20 ≤ ((s 9).reg .chnRsv 0).toNat ∧
      (∀ n ∈ (s 9).active, ((s 9).chan n).state ≠ .retired) ∧ (((s 9).setReg .chnRsv 0 0 31).reg .chnRsv 0).toNat < q.payload.length + 20 ∧
      ((chained 1 {} { linked := true, relay := [q] }).cport 0).counts = false ∧ wholeBefore [{ q with hdr := 0 }] { q with hdr := 0 } = false) ∧
    (let c : Chain := { role := 2, addr := 0, timed := true, alarms := [(2, 5)] }
     let s : State := { chained 1 c { linked := true, peer := true } { linked := true, peer := true } with rcl := { state := .recording } }
     let s := s.setReg .wallRclCfg 0 0 0x40000000
     s.Sound ∧ s.chainOn = true ∧ s.chainOpen 0 = true ∧ s.chain.alarms.contains (hdrOrig 0x020000, numAt (5 : BitVec 128) 0 8) = true ∧
      s.chain.alarms.contains (hdrOrig 0x010000, numAt (5 : BitVec 128) 0 8) = false ∧ hdrOrig 0x010000 ≠ s.orig ∧
      (s.cport (1 - 0)).counts = true ∧ 2 ≤ s.level ∧ s.flag .wallRclCfg 0 0 30 = true ∧ s.rcl.state = .recording ∧ s.rcl.pend = false) ∧
    (chained 1 {}).orig = 0xFF :=
  ⟨by decide, ⟨rfl, by decide, rfl⟩, by decide, by decide, ⟨⟨rfl, by decide, rfl⟩, by decide⟩, by decide⟩

/-! ### DRAM -/

/-- Channels 0 and 1 serve. -/
def dram2 : State := { running with chans := [(0, { state := .service }), (1, { state := .service })], active := [0, 1] }

theorem witness_DramHoldsWhatIsWritten :
    dram2.dramCell (2 ^ 33 - 8) = dram2.dramCell (2 ^ 33 - 1) ∧
    dram2.active.Nodup ∧ (∀ n ∈ dram2.active, (dram2.chan n).state ≠ .retired) ∧ [(7 : Byte)] ≠ [] ∧
    2 ^ 34 - 1 + [(7 : Byte)].length ≤ dram2.dramSize ∧
    (∀ k, k < [(7 : Byte)].length → (dram2.dramSplit (0 + k)).map (fun c => phys c.1 c.2) ≠ some 1) ∧ Memory.wf dram2.dram = true := by
  decide

/-- No flip, one flip, three flips in one beat of a unit; a channel's clocks; and a channel that is off. -/
theorem witness_DramReads :
    (dram2.chan 0).serves = true ∧ (dram2.receivedBeats (phys 0 (64 * 5)) []).all isMarker = false ∧
    (let cls := fun f => ((dram2.receivedBeats (phys 0 (64 * 5)) f).mapIdx fun b r => bchDecode r (64 * 5 + 8 * b)).map (·.1)
     (cls []).any (fun c => c = .ue || c = .address) = false ∧ (cls [1]).any (fun c => c = .ue || c = .address) = false ∧
      cls [1] ≠ cls [] ∧ (cls [7]).any (fun c => c = .ue || c = .address) = true) ∧
    dram2.Sound ∧ dram2.selfRefresh = false ∧ (dram2.setReg .dramScrub 0 0 0x118).flag .dramScrub 0 0 8 = true ∧
    (dram2.chan 0).alert = 0 ∧ (dram2.chan 0).state ≠ .off ∧ (dram2.chan 0).state ≠ .retired ∧
    dram2.unitUpset (phys 0 0) = false ∧ (dram2.chan 15).serves = false ∧ (dram2.chan 15).state = .off :=
  ⟨by decide, by decide, by decide, ⟨rfl, by decide, rfl⟩, by decide⟩

/-- A channel of the two in another state. -/
def dramIs (c : Channel) : State := { dram2 with chans := [(0, c), (1, { state := .service })] }

theorem witness_ChannelRecovery :
    ((dramIs { state := .service, att := 3 }).chan 0).state = .service ∧ ((dramIs { state := .service, att := 3 }).chan 0).att = 3 ∧
    (dram2.chan 0).att ≠ 3 ∧ (dram2.chan 0).parityAfter = false ∧ dram2.Sound ∧ (dram2.chan 0).alert = 0 ∧ (dram2.chan 15).state = .off ∧
    ((dramIs { state := .service, inSlot := true, att := 3, parityAfter := true }).chan 0).parityAfter = true ∧
    (∀ a, (dramIs { state := .service, alert := a }).Sound) ∧ ((dramIs { state := .service, alert := 1 }).chan 0).alert = 1 ∧
    ((dramIs { state := .service, alert := 2 }).chan 0).alert = 2 ∧
    (let s : State := { dram2.setReg .dramRt 0 0 0x321 with tick := { started := true } }
     s.Sound ∧ s.flag .dramRt 0 0 0 = true ∧ s.selfRefresh = false ∧ s.tick.started = true ∧ s.tick.halted = false ∧
      s.now % max 1 s.tick.cycle = 0 ∧
      s.slotTurn = some 0 ∧ (s.chan 0).state = .service ∧ (s.chan 0).alert = 0 ∧ (s.chan 0).att = 0) ∧
    running.slotTurn = none ∧
    (let s := dramIs { state := .service, inSlot := true, retrainAfter := true }
     (s.chan 0).inSlot = true ∧ (s.chan 0).retrainAfter = true ∧ (dram2.chan 0).retrainAfter = false) ∧
    ((dramIs { state := .service, inSlot := true }).Accepts .mgmt ⟨.dramCtrl, 0, 0⟩ 1 ∧ dram2.Accepts .mgmt ⟨.dramCtrl, 0, 0⟩ 1 ∧
      (dram2.chan 0).inSlot = false) ∧
    (let s : Nat → State := fun n => { (dramIs { state := .recovery }).setReg .dramRt 0 0 0x10 with clock := n }
     ((s 0).chan 0).state = .recovery ∧ (s 1249999).recoveryOver 0 = false ∧ (s 1250000).recoveryOver 0 = true) ∧
    dram2.Accepts .mgmt ⟨.dramCtrl, 0, 0⟩ 2 ∧ (dram2.chan 0).state ≠ .recovery :=
  ⟨by decide, by decide, by decide, by decide, ⟨rfl, by decide, rfl⟩, by decide, by decide, by decide, fun _ => ⟨rfl, Nat.zero_le _, rfl⟩,
    by decide, by decide, ⟨⟨rfl, by decide, rfl⟩, by decide⟩, by decide, by decide,
    ⟨⟨by decide, by decide, by decide⟩, ⟨by decide, by decide, by decide⟩, by decide⟩, by decide, ⟨by decide, by decide, by decide⟩, by decide⟩

/-- GO with bits 9:4 = 63 at the last burst that fits, and at the first that does not; a channel in TRAINING and one in SERVICE. -/
theorem witness_TrainingHelper :
    running.Sound ∧ bitOf 0 12 = false ∧ (running.chan 3).state = .off ∧ bitOf 0x13F0 12 = true ∧ bitOf 0x13F0 3 = false ∧
    (let s := dram2.setReg .dramTrnAddr 0 0 (2 ^ 26 - 64)
     (s.chan 0).state ≠ .off ∧ (s.chan 0).state ≠ .retired ∧ (s.chan 0).state ≠ .training ∧
      (s.reg .dramTrnAddr 0).toNat + bitsOf 0x13F0 4 6 + 1 ≤ 2 ^ 26) ∧
    (let s := dram2.setReg .dramTrnAddr 0 0 (2 ^ 26 - 63)
     2 ^ 26 < (s.reg .dramTrnAddr 0).toNat + bitsOf 0x13F0 4 6 + 1) ∧
    ((dramIs { state := .training }).chan 0).state ≠ .off :=
  ⟨⟨rfl, by decide, rfl⟩, by decide⟩

/-! ### The two-wire ports -/

/-- TW0 at a point of its transaction. -/
def twAt (x : Tw0) : State := { running with tw0 := x }

theorem witness_Tw0Target :
    (running.Sound ∧ running.tw0Up = true ∧ running.tw0Asleep = false ∧ running.tw0.word = [] ∧
      (0xB1 : Byte).toNat / 2 = 0x58 + running.tw0.address.toNat ∧ (0xB2 : Byte).toNat / 2 ≠ 0x58 + running.tw0.address.toNat) ∧
    (let s := twAt { awake := false, waking := true }
     s.tw0Up = true ∧ s.tw0Asleep = true ∧ (0xB0 : Byte).toNat / 2 = 0x58 + s.tw0.address.toNat ∧ s.tw0.waking = true) ∧
    ((twAt { phase := 4 }).Sound ∧ (twAt { phase := 4 }).tw0Up = true ∧ (twAt { phase := 4 }).tw0.pointer.toNat < 0x8000 ∧
      (twAt { phase := 4, pointer := 0x8000 }).tw0.latch = none ∧ 0x8000 ≤ (twAt { phase := 4, pointer := 0x8000 }).tw0.pointer.toNat ∧
      (twAt { phase := 4, pointer := 0x8001, latch := some (0x2000, 5) }).tw0.latch
        = some (BitVec.ofNat 16 ((0x8001 : BitVec 16).toNat / 4), 5)) ∧
    (running.NoStop ∧ (∀ r, locate ((twAt { phase := 1 }).tw0Offset (twAt { phase := 1 }).tw0.pointer.toNat) = some r → r.name ≠ .sdmaCtrl)) ∧
    (let s := twAt { phase := 3, pointer := 0x20, page := some 0 }
     s.tw0.nacked = false ∧ s.tw0.page = some 0 ∧ (0 : BitVec 11) ≠ BitVec.ofNat 11 (s.tw0.pointer.toNat / 32) ∧
      s.tw0.pointer.toNat < 0x8000 ∧ (twAt { phase := 3, nacked := true }).tw0.nacked = true) ∧
    (let s := (twAt { phase := 3, pointer := 0x8007, word := [1, 2] })
     0x8000 ≤ s.tw0.pointer.toNat ∧ s.tw0.pointer.toNat % 4 = 3 ∧ s.tw0.word.length ≠ 3) :=
  ⟨⟨⟨rfl, by decide, rfl⟩, by decide⟩, by decide, ⟨⟨rfl, by decide, rfl⟩, by decide⟩, ⟨fun _ => rfl, by decide⟩, by decide, by decide⟩

/-- The last of four bytes at PROT_LOCK is refused; at XLAT_RING_FB, where register window 0 grants TW0 the place, it is accepted. -/
theorem witness_Tw0Target_word :
    let s : Nat → State := fun off =>
      (((twAt { phase := 3, pointer := BitVec.ofNat 16 (0x8003 + off % 2 ^ 15), word := [1, 0, 0] }).setReg .twbT0Win 0 0 (BitVec.ofNat 32 (off / 2 ^ 15 * 2 ^ 15))).setReg
        .protRwinLimit 0 0 0xFFFFFF).setReg .protRwinGrant 0 0 2
    let a := RegName.xlatRingFb.off 0
    (s 0x10000).boot.win ≠ 0 ∧ (s 0x10000).tw0Offset 0x8003 = 0x10000 ∧ locate 0x10000 = some ⟨.protLock, 0, 0⟩ ∧
      (s 0x10000).verdict .tw0 0x10000 (BitVec.ofNat 32 (ofLe ([1, 0, 0] ++ [0]))) = .refused ∧ RegAt.msix ⟨.protLock, 0, 0⟩ = false ∧
      (running.setReg .twbT0Win 0 0 0x10000).writeGranted .tw0 0x10000 = false ∧
      (s a).tw0Offset (s a).tw0.pointer.toNat = a ∧ (s a).tw0.pointer.toNat % 4 = 3 ∧ locate a = some ⟨.xlatRingFb, 0, 0⟩ ∧ (s a).writeGranted .tw0 a = true ∧
      (s a).verdict .tw0 a (BitVec.ofNat 32 (ofLe ([1, 0, 0] ++ [0]))) = .accepted ∧ RegName.xlatRingFb.plain = true := by
  decide

/-- TW0 without power, and with nothing to wake, to clock out or to take. -/
theorem witness_Tw0Target_idle :
    (let s : State := { running with power := { running.power with pstate := .keep } }
     s.Sound ∧ s.NoStop ∧ s.tw0Up = false) ∧ running.Sound ∧ running.tw0.waking = false ∧ running.tw0.phase ≠ 4 :=
  ⟨⟨⟨rfl, by decide, rfl⟩, fun _ => rfl, by decide⟩, running_sound, by decide⟩

/-- A set of port 0 is given; a set waits for the bus; and a port with nothing to do. -/
theorem witness_TwoWireControllers :
    (running.Accepts .mgmt ⟨.twbXfer, 0, 1⟩ (0x50 ||| 0x10000) ∧ (1 : Fin 2) ∉ (running.twPort 0).pending ∧ bitsOf 0x50 8 2 ≠ 3 ∧
      bitsOf 0x350 8 2 = 3) ∧
    (let s := { running with twPorts := [(0, { pending := [1] })] }.setReg .twbCfg 0 0 9
     (1 : Fin 2) ∈ (s.twPort 0).pending ∧ s.twNext 0 = some 1 ∧ s.flag .twbCfg 0 0 3 = true ∧ s.xferRead 0 1 = false ∧
      (s.setReg .twbXfer 0 1 0x80).xferRead 0 1 = true) ∧
    (State.twPort { running with twPorts := [(0, { target := true })] } 0).target = true ∧
    running.Sound ∧ running.twNext 3 = none ∧ (running.twPort 3).target = false :=
  ⟨⟨⟨by decide, by decide, by decide⟩, by decide⟩, by decide, by decide, running_sound, by decide⟩

/-! ### Service DMA -/

/-- Channel 7 copies 64 bytes of DRAM from 0 to 128, or has ended. -/
def copying (c : SdmaChan) : State :=
  ((({ dram2 with sdma := [(7, c)] }.setReg .sdmaCount 7 0 64).setReg .sdmaDstLo 7 0 128).setReg .sdmaCfg 7 0 0xA)

theorem copying_noStop (x : SdmaChan) (h : x.stop = none) : (copying x).NoStop := fun c => by
  show (Store.get {} [(7, x)] c).stop = none
  simp only [Store.get]; split <;> first | exact h | rfl

theorem witness_ServiceDmaStarts :
    (copying {}).NoStop ∧ (copying {}).Accepts .mgmt ⟨.sdmaCtrl, 7, 0⟩ 1 ∧ ((copying {}).sdmaChan 7).busy = false ∧
    (copying {}).sdmaRefusal 7 = none ∧ ((copying {}).setReg .sdmaCount 7 0 2).sdmaRefusal 7 = some 4 ∧
    ((copying { busy := true }).sdmaChan 7).busy = true ∧
    ((copying { done := true, code := 3 }).sdmaChan 7).done = true ∧ ((copying { done := true, code := 3 }).sdmaChan 7).code = 3 ∧
    (copying { done := true, code := 3 }).Sound ∧ (copying {}).Sound ∧ ((copying {}).sdmaChan 7).done = false :=
  ⟨copying_noStop _ rfl, ⟨by decide, by decide, by decide⟩, by decide, by decide, by decide, by decide, by decide, by decide,
    ⟨rfl, by decide, rfl⟩, ⟨rfl, by decide, rfl⟩, by decide⟩

theorem witness_ServiceDmaCopies :
    (copying { busy := true }).CopyReady 7 ∧ (copying { busy := true }).selfRefresh = false ∧
    (copying { busy := true }).Accepts .mgmt ⟨.sdmaCtrl, 7, 0⟩ 2 :=
  ⟨⟨by decide, by decide, copying_noStop _ rfl, by decide⟩, by decide, ⟨by decide, by decide, by decide⟩⟩

/-! ### Power, resets and boot -/

/-- The device in a power state. -/
def powered (p : Power) : State := { running with power := p }

theorem witness_RailsFallAndReturn :
    running.power.pstate ≠ .keep ∧
    (powered { pstate := .keep, por := true }).power.pstate = .keep ∧ (powered { pstate := .keep, por := true }).power.supplied = true := by
  decide

theorem witness_IslandAndPowerOnReset :
    (let s := powered { pstate := .reset, por := true }
     s.Sound ∧ s.power.por = true ∧ s.power.pstate = .reset ∧ s.power.supplied = true) ∧
    (let s := fun a b => powered { pstate := .run, onBack := a, backOk := b }
     (s false true).power.supplied = true ∧ (s false true).power.onBack = false ∧ (s false true).power.backOk = true ∧
      (s true true).power.onBack = true ∧ (s false false).power.backOk = false) :=
  ⟨⟨⟨rfl, by decide, rfl⟩, by decide⟩, by decide⟩

theorem witness_TemperatureTripAndPark :
    (running.power.pstate ≠ .keep ∧ running.power.pstate ≠ .reset ∧ (List.replicate 8 (0 : BitVec 16)).length = 8) ∧
    (let s := powered { pstate := .run, tj := 1920 }
     s.power.pstate ≠ .trip ∧ 1920 ≤ s.power.tj.toInt) ∧
    running.Accepts .mgmt ⟨.pwrCtrl, 0, 0⟩ (0 ||| 1) ∧
    (let s := (powered { pstate := .park }).setReg .pwrCtrl 0 0 1
     s.power.pstate = .park ∧ s.Accepts .mgmt ⟨.pwrCtrl, 0, 0⟩ (clearEn 1)) :=
  ⟨by decide, by decide, ⟨by decide, by decide, by decide⟩, by decide, ⟨by decide, by decide, by decide⟩⟩

theorem witness_DeviceResets :
    (running.power.pstate ≠ .keep ∧ running.power.pstate ≠ .reset ∧ running.power.por = false ∧ running.power.perst = false) ∧
    running.Accepts .mgmt ⟨.glbCtrl, 0, 0⟩ ((0 &&& 0xFFFF00FE) ||| 0xA501) :=
  ⟨by decide, ⟨by decide, by decide, by decide⟩⟩

/-- A slot whose header meets check 1 with a body of 16 bytes and no section, and one of zeros. -/
def image0 : ImageSlot :=
  { header := leBytes 4 0x4F444C52 ++ leBytes 2 1 ++ [0, 0] ++ leBytes 4 16 ++ List.replicate 500 0, body := List.replicate 16 0 }
def image1 : ImageSlot := { header := List.replicate 512 0, body := [] }

def bootOf (flash : Bool) (x : ImageSlot) : BootInput :=
  { flashOk := flash, slotA := x, slotB := image1, trained := 0xFFFF, fuseOk := true, ms := 100 }

/-- After the end of power-on reset, with fuse slot 0 programmed or none. -/
def fused (n : BitVec 4) : State := { State.reset with fuses := { programmed := n } }

theorem witness_BootRuns :
    ((imageWhole { header := [], body := [] } && imageWhole image1) = false) ∧
    ((imageWhole image0 && imageWhole image1) = true ∧ imageWhole { image0 with body := [] } = false) ∧
    ((fused 1).bootDue = true ∧ (fused 1).fuses.programmed ≠ 0 ∧ (fused 0).fuses.programmed = 0 ∧ (fused 1).judgeSlot image1 ≠ 1) ∧
    (leAt image0.header 7 1 % 4 = 0 ∧ imagePairs image0 = [] ∧ (fused 1).slotClash = false ∧ (fused 1).windowCrossed = false ∧
      (bootOf true image0).ms.toNat < 1000) ∧
    (let s : State := { State.reset with boot := { State.reset.boot with ready := true } }
     s.power.pstate = .boot ∧ s.boot.win = 0 ∧ s.boot.ready = true) ∧
    (let s : State := { State.reset with boot := { State.reset.boot with win := 2, cause := 1 } }
     s.Accepts .mgmt ⟨.glbFuseCtl, 0, 0⟩ (0x10 ||| 1)) ∧ (running.fuses.programmed.toNat.testBit (bitsOf 0x10 4 2) = false ∧
      (fused 2).fuses.programmed.toNat.testBit (bitsOf 0x10 4 2) = true) :=
  ⟨by decide, by decide, by decide, by decide, by decide, ⟨by decide, by decide, by decide⟩, by decide⟩

/-- The slot is valid where its key is the one fused and its signature verifies: both are functions that no rule computes. -/
theorem witness_BootRuns_valid (h : Config.ecdsaVerifies ((image0.header.drop 64).take 97) ((image0.header.drop 416).take 96)
      (Config.sha384 (image0.header.take 416 ++ imageRead image0)) = true) :
    State.judgeSlot { fused 1 with fuses := { programmed := 1, keys := [(0, Config.sha384 ((image0.header.drop 64).take 97))] } } image0
      = 1 := by
  have h1 : imageHeaderOk image0 = true := by decide
  have h2 : leAt image0.header 6 1 = 0 := by decide
  have h3 : leAt image0.header 24 2 = 0 := by decide
  simp [State.judgeSlot, h1, h2, h3, h, Store.get]

/-! ### Where the statements on power, boot and the mirror say that nothing changes -/

theorem witness_power_idle :
    (powered { pstate := .keep }).Sound ∧ (powered { pstate := .reset, por := true }).Sound ∧ (powered { pstate := .run, backOk := false }).Sound ∧
    (powered { pstate := .keep, supplied := false }).power.pstate = .keep ∧
    (powered { pstate := .run }).power.pstate ≠ .keep ∧ (powered { pstate := .run, supplied := false }).power.supplied = false ∧
    (powered { pstate := .run, onBack := false, backOk := false }).power.supplied = true ∧ (powered { pstate := .run, tj := 1919 }).power.tj.toInt < 1920 ∧
    (powered { pstate := .reset, por := true }).power.por = true ∧ (powered { pstate := .reset }).power.pstate = .reset :=
  ⟨⟨rfl, by decide, rfl⟩, ⟨rfl, by decide, rfl⟩, ⟨rfl, by decide, rfl⟩, by decide⟩

theorem witness_BootRuns_idle :
    running.Sound ∧ running.power.pstate ≠ .boot ∧ running.boot.win ≠ 0 ∧ running.bootDue = false ∧
    State.reset.Sound ∧ State.reset.boot.ready = false :=
  ⟨running_sound, by decide, by decide, by decide, ⟨rfl, by decide, rfl⟩, by decide⟩

/-! ### The mark log and its mirror -/

/-- The mirror runs, and one mark waits for it. -/
def mirroring : State :=
  { running.setReg .markMirCtl 0 0 0xD with
    rings := [(mirrorRing, { state := .run })], marks := [{ time := 0, seq := 0, who := 0, old := 0, new := 1 }], markSeq := 1 }

theorem witness_MarkLogAndMirror :
    (running.Accepts .mgmt ⟨.markRdSeq, 0, 0⟩ 7 ∧ running.Accepts .mgmt ⟨.errCtrl, 0, 0⟩ (0 ||| 1)) ∧
    (running.flag .markMirCtl 0 0 0 = false ∧ running.Accepts .mgmt ⟨.markMirCtl, 0, 0⟩ (0xC ||| 1)) ∧
    (mirroring.flag .markMirCtl 0 0 0 = true ∧ mirroring.Accepts .mgmt ⟨.markMirCtl, 0, 0⟩ (clearEn 0xD)) ∧
    (let s : State := { running with mirror := { pd := 2 } }
     s.Accepts .mgmt ⟨.markMirCons, 0, 0⟩ 2 ∧ ((2 : Word) - s.mirror.ch).toNat ≤ (s.mirror.pd - s.mirror.ch).toNat ∧
      (s.mirror.pd - s.mirror.ch).toNat < ((3 : Word) - s.mirror.ch).toNat) ∧
    ((mirroring.ring mirrorRing).state = .run ∧ mirroring.mirror.next ≠ mirroring.markSeq ∧
      (mirroring.mirror.pd - mirroring.mirror.ch).toNat < 2 ^ mirroring.log2s mirrorRing ∧
      (mirroring.markAt mirroring.mirror.next).isSome = true ∧ mirroring.marks.length ≤ 4096 ∧ mirroring.markHeldSeq 7 = false ∧
      mirroring.prepare mirrorRing
        (mirroring.ringBase mirrorRing + 32 * (mirroring.mirror.pd.toNat % 2 ^ mirroring.log2s mirrorRing)) 32 true
          = (.go [0], mirroring)) :=
  ⟨⟨⟨by decide, by decide, by decide⟩, ⟨by decide, by decide, by decide⟩⟩, ⟨by decide, ⟨by decide, by decide, by decide⟩⟩,
    ⟨by decide, ⟨by decide, by decide, by decide⟩⟩, ⟨⟨by decide, by decide, by decide⟩, by decide⟩, by decide⟩

/-- The mirror has been disabled with a record in progress, which can be written now. -/
theorem witness_MarkLogAndMirror_drain :
    let s : State := { mirroring with rings := [(mirrorRing, { state := .drain })] }
    (s.ring mirrorRing).state = .drain ∧ s.mirror.next ≠ s.markSeq ∧
    (s.mirror.pd - s.mirror.ch).toNat < 2 ^ s.log2s mirrorRing ∧ (s.markAt s.mirror.next).isSome = true ∧
    s.prepare mirrorRing (s.ringBase mirrorRing + 32 * (s.mirror.pd.toNat % 2 ^ s.log2s mirrorRing)) 32 true = (.go [0], s) := by
  decide

/-- No mark is held under a number that is yet to come; and the mirror does not run, is full, or has no mark due. -/
theorem witness_MarkLogAndMirror_idle :
    running.Sound ∧ running.markHeldSeq 7 = false ∧ running.mirrorWrites = false ∧
    (let s : State := { mirroring with mirror := { pd := BitVec.ofNat 32 (2 ^ mirroring.log2s mirrorRing), next := 1 } }
     s.Sound ∧ 2 ^ s.log2s mirrorRing ≤ (s.mirror.pd - s.mirror.ch).toNat ∧ s.mirror.next = s.markSeq) :=
  ⟨running_sound, by decide, by decide, ⟨rfl, by decide, rfl⟩, by decide⟩

end Sys2Proof.Tests
end

section
/-!
SUPPORT. Register accesses that end quietly: what is counted or marked, with no event raised, no transfer stopped and no
register acting. From these, unmapped accesses (R10) and writes to what the closed boot window locks (R468).
-/
namespace Sys2Proof.Machine

/-! ### The end of a command that leaves a sound state -/

/-- A command whose effect raises no event and changes no service flag ends as its effect leaves it, its marks being in order. -/
theorem State.Sound.settle_eq {s0 u : State} (h : u.Sound) (q : u.markSeq = s0.markSeq) (p : u.pending = s0.pending) :
    settle s0 u = u := by
  obtain ⟨raised, held, service⟩ := h
  rw [settle_quiet s0 u raised service, orderMarks_of_none s0 u q, keepMarks, List.take_of_length_le held, ← p]

theorem State.Sound.setReg {s : State} (h : s.Sound) (n : RegName) (i j : Nat) (v : Word) : (s.setReg n i j v).Sound := h

theorem State.Sound.emit {s : State} (h : s.Sound) (e : Emission) : (s.emit e).Sound := h

theorem State.Sound.markReg {s : State} (h : s.Sound) (o : Origin) (off : Nat) (old new : Word) (refused : Bool) :
    (s.markReg o off old new refused).Sound := by
  obtain ⟨raised, -, service⟩ := h
  exact ⟨raised, List.length_take_le _ _, service⟩

theorem effect_of_sound {f : State → State} {s t : State} (e : f s = t) (h : t.Sound) (q : t.markSeq = s.markSeq)
    (p : t.pending = s.pending) : effect f s = .next t := by
  rw [effect, e, h.settle_eq q p]

/-- With no transfer told to stop, none is cut short. -/
theorem State.NoStop.sdmaSettle {s : State} (h : s.NoStop) (n : Nat) : State.sdmaSettle n s = some s := by
  cases n with
  | zero => rfl
  | succ n =>
    have noneStopped : (List.range 8).find? (fun c => (s.sdmaChan c).busy && (s.sdmaChan c).stop.isSome) = none :=
      List.find?_eq_none.mpr fun c _ => by simp [h c]
    simp only [State.sdmaSettle, noneStopped]

theorem regEffect_of_sound {f : State → Option State} {s t : State} (e : f s = some t) (h : t.Sound) (n : t.NoStop)
    (p : t.pending = s.pending) : regEffect f s = .next t := by
  have done : (f s).bind (State.sdmaSettle 64) = some t := by rw [e]; exact n.sdmaSettle 64
  have quiet : settle { t with pending := s.pending } t = t := h.settle_eq rfl p
  simp only [regEffect, done, quiet]

/-! ### Unmapped accesses -/

theorem readReg_unmapped {s : State} {off : Nat} (a : Accessor) (h : locate off = none) : s.readReg a off = (0, s.unmapped) := by
  simp only [State.readReg, h]

/-- A read of BAR0's space where no register lies, whole or in part. -/
theorem readCmd_unmapped {s : State} {a : Accessor} {off : Nat} (b : a ≠ .bar2) (b' : a ≠ .bar2Part) (r : s.reaches a = true)
    (h : locate off = none) : s.readCmd a off = s.unmapped.emit (.readData a off 0) := by
  cases a with
  | bar2 => exact absurd rfl b
  | bar2Part => exact absurd rfl b'
  | bar0Part => simp [State.readCmd, r]
  | bar0 | tw0 | mgmt | sdma => simp [State.readCmd, r, readReg_unmapped _ h]

theorem effect_readCmd_unmapped {s : State} {a : Accessor} {off : Nat} (h : s.Sound) (b : a ≠ .bar2) (b' : a ≠ .bar2Part)
    (r : s.reaches a = true) (l : locate off = none) :
    effect (fun s => s.readCmd a off) s = .next (s.unmapped.emit (.readData a off 0)) :=
  have sound : s.unmapped.Sound := h.setReg ..
  effect_of_sound (readCmd_unmapped b b' r l) (sound.emit _) rfl rfl

theorem verdict_unmapped {s : State} {off : Nat} (o : Origin) (v : Word) (h : locate off = none) :
    s.verdict o off v = .unmapped := by
  simp only [State.verdict, h]

/-! ### Writes that the device does not accept -/

theorem writePastEnd_of_not_accepted {s : State} {o : Origin} {off : Nat} {v : Word} (h : s.verdict o off v ≠ .accepted) :
    s.writePastEnd o off v = false := by
  unfold State.writePastEnd
  split
  · simp [h]
  · rfl

theorem writeNow_unmapped {s : State} {o : Origin} {off : Nat} {v : Word} (h : s.verdict o off v = .unmapped) :
    s.writeNow o off v = s.unmapped := by
  have e : s.writeReg o off v = s.unmapped := by simp only [State.writeReg, h]
  simp only [State.writeNow, e, orderMarks_of_none s s.unmapped rfl]

/-- A refused write appends one mark (R443). -/
theorem writeNow_refused {s : State} {o : Origin} {off : Nat} {v : Word} {r : RegAt} (h : s.verdict o off v = .refused)
    (l : locate off = some r) : s.writeNow o off v = s.markReg o off (s.regValue r) v true := by
  have e : s.writeReg o off v = s.markReg o off (s.regValue r) v true := by simp only [State.writeReg, h, l]
  have kept : orderMarks s (s.markReg o off (s.regValue r) v true) = (s.markReg o off (s.regValue r) v true).marks :=
    orderMarks_of_one s _ _ _ rfl rfl rfl
  simp only [State.writeNow, e, kept]

/-- A whole write that is not accepted, where what it leaves is sound: nothing follows it. -/
theorem exec_registerWrite_of_not_accepted {s t : State} {o : Origin} {off : BitVec 26} {v : Word}
    (w : s.writeReaches o = true) (h : s.verdict o off.toNat v ≠ .accepted) (e : s.writeNow o off.toNat v = t)
    (sound : t.Sound) (n : t.NoStop) (p : t.pending = s.pending) :
    exec (.registerWrite o off v .whole) s = .next t := by
  change execRegisterWrite o off v .whole s = .next t
  refine regEffect_of_sound ?_ sound n p
  simp [w, writePastEnd_of_not_accepted h, e]

/-! ### Registers that only boot code sets -/

/-- R468: the PROT block but for its reserved word, DRAM_MAP and TWB_T0_WIN have fields of type BW; no other register has. -/
theorem bw_ne_zero_iff (n : RegName) :
    n.row.bw ≠ 0 ↔ (0x10000 ≤ n.row.base ∧ n.row.base < 0x20000 ∧ n ≠ .protRwinRsv) ∨ n = .dramMap ∨ n = .twbT0Win := by
  cases n <;> decide

theorem writable_ne_zero_of_bw {r : RegRow} (h : r.bw ≠ 0) : r.writable ≠ 0 := by
  simp [RegRow.writable, h]

/-- The registers with a field of type BW, by name. -/
def bootRegNames : List RegName := [
  .protLock, .protRing, .protPasid, .protFlags, .protBaseLo, .protBaseHi, .protLimLo, .protLimHi, .protPort, .protWall,
  .protRwinBase, .protRwinLimit, .protRwinGrant, .dramMap, .twbT0Win]

theorem mem_bootRegNames_iff (n : RegName) : n ∈ bootRegNames ↔ n.row.bw ≠ 0 := by
  cases n <;> decide

/-- The management core's own registers have no field of type BW. -/
theorem mgmtOnly_of_bw {r : RegAt} (h : r.name.row.bw ≠ 0) : r.mgmtOnly = false := by
  have noneOwned : ∀ n ∈ bootRegNames, ∀ i j, RegAt.mgmtOnly ⟨n, i, j⟩ = false := by simp [bootRegNames, RegAt.mgmtOnly]
  exact noneOwned r.name ((mem_bootRegNames_iff _).mpr h) r.i r.j

theorem ne_glbCtrl_of_bw {n : RegName} (h : n.row.bw ≠ 0) : n ≠ .glbCtrl := by
  rintro rfl
  exact h rfl

/-- Once the boot window is closed nobody writes what only boot code sets (R468). -/
theorem verdict_locked {s : State} {off : Nat} {r : RegAt} (o : Origin) (v : Word) (win : s.boot.win = 1)
    (l : locate off = some r) (h : r.name.row.bw ≠ 0) : s.verdict o off v = .refused := by
  simp [State.verdict, l, win, writable_ne_zero_of_bw h, mgmtOnly_of_bw h, ne_glbCtrl_of_bw h, h]

/-- Settles O7: reads and writes where no register lies are counted and nothing else; the BW registers are those of R468; and
what they refuse is marked. -/
theorem unmappedAndLockedRegisters : Obligations.UnmappedAndLockedRegisters := by
  refine ⟨fun a o off v s sound noStop l => ⟨?read, ?write⟩, bw_ne_zero_iff, ?locked⟩
  case read =>
    intro b b' r c hc
    have e := effect_readCmd_unmapped sound b b' r l
    obtain rfl | rfl : c = .readLo a off ∨ c = .rcRead a off := by simpa using hc
    · exact ⟨_, e, rfl⟩
    · exact ⟨_, e, rfl⟩
  case write =>
    intro w
    have u := verdict_unmapped (s := s) o v l
    exact ⟨_, exec_registerWrite_of_not_accepted w (by simp [u]) (writeNow_unmapped u) (sound.setReg ..) noStop rfl, rfl⟩
  case locked =>
    intro o off v r s sound noStop win w l bw
    have u := verdict_locked o v win l bw
    exact ⟨_, exec_registerWrite_of_not_accepted w (by simp [u]) (writeNow_refused u l) (sound.markReg ..) noStop rfl,
      { time := s.stamp, seq := s.markSeq, old := s.regValue r, new := v
        who := BitVec.ofNat 32 (off.toNat / 4 % 2 ^ 21 + 2 ^ 25 + originCode o * 2 ^ 26) },
      by simp [State.markReg, State.mark, keepMarks, bit], rfl, rfl, rfl, rfl, rfl, rfl⟩

end Sys2Proof.Machine
end

section
/-!
SUPPORT. What O51 (the TW0 target, R377 to R385) asks of the free values. Its clause on written bytes has TW0_WRITE_BYTE complete
whatever register the byte's word goes to: SDMA_CTRL is left out of what is said of the next state, not of the completion. A STOP
that TW0 writes there cuts its transfer after as many words as a free value gives (R393), and a transfer that reaches past the end
of DRAM on the way faults (R392). So O51 bounds `Config.freeWord`, a constant without a body of which nothing can be proved, and
its proof would need that bound.
-/
namespace Sys2Proof.Machine

/-! ### A STOP whose transfer leaves DRAM -/

/-- A transfer of channel 0 that a STOP cuts behind its first word or later does not end, where its source lies past the end of
DRAM (R392, R393). -/
theorem sdmaSettle_of_pastEnd {s : State} {n stop : Nat} (busy : (s.sdmaChan 0).busy = true)
    (told : (s.sdmaChan 0).stop = some stop) (word : 4 ≤ stop) (count : 4 ≤ s.sdmaCount 0)
    (past : ∀ moved, s.sdmaPastEnd (s.sdmaSrc 0) moved = true) : State.sdmaSettle (n + 1) s = none := by
  have found : (List.range 8).find? (fun c => (s.sdmaChan c).busy && (s.sdmaChan c).stop.isSome) = some 0 := by
    simp [List.range_succ_eq_map, busy, told]
  obtain ⟨m, words⟩ : ∃ m, min stop (s.sdmaCount 0) / 4 = m + 1 := ⟨min stop (s.sdmaCount 0) / 4 - 1, by omega⟩
  have past' : ∀ x moved, (s.setSdma 0 x).sdmaPastEnd ((s.setSdma 0 x).sdmaSrc 0) moved = true := fun _ => past
  have cut : s.sdmaCut 0 3 = none := by
    simp [State.sdmaCut, told, words, State.sdmaRun, State.sdmaWords, State.sdmaWord, busy, past']
  simp [State.sdmaSettle, found, cut]

/-- STOP of a BUSY channel (R393): how many bytes it still moves is a free value. -/
theorem sdmaStop_of_busy {s : State} {c : Nat} (busy : (s.sdmaChan c).busy = true) :
    s.sdmaStop c {} = State.setSdma { s with free := s.free + 1 } c
      { s.sdmaChan c with stop := some ((Config.freeWord s.free).toNat % (s.sdmaCount c + 1)) } := by
  simp only [State.sdmaStop, busy, Bool.not_true, Bool.false_eq_true, if_false]
  rfl

/-- An accepted write of STOP to SDMA_CTRL. -/
theorem accept_stop (s : State) (o : Origin) (c : Nat) :
    s.accept o ⟨.sdmaCtrl, c, 0⟩ 2 {} =
      (s.setReg .sdmaCtrl c 0 (RegName.sdmaCtrl.row.merge (s.reg .sdmaCtrl c) 2)).sdmaStop c {} := by
  have unmarked : RegAt.marked ⟨.sdmaCtrl, c, 0⟩ = false := by simp [RegAt.marked]
  have go : bitOf 2 0 = false := by decide
  have stop : bitOf 2 1 = true := by decide
  unfold State.accept
  rw [unmarked]
  simp only [reduceCtorEq, if_false, Bool.false_eq_true, State.actsB, State.actsA, State.stored, go, stop, if_true]

/-! ### A state in which TW0 writes one -/

/-- Channel 0 copies from and to a fixed DRAM address while no DRAM channel is active, k free values have been drawn, and the next
byte of 0 that TW0 takes ends the word that writes STOP to SDMA_CTRL[0], which register window 0 grants. -/
def stopDue (k : Nat) : State :=
  { State.reset with
    power := { State.reset.power with pstate := .run }
    boot := { State.reset.boot with win := 1 }
    sdma := [(0, { busy := true })]
    regs := [(RegName.protRwinLimit.off, 0x3FFFFFC), (RegName.protRwinGrant.off, 2), (RegName.twbT0Win.off, 0x610000),
      (RegName.sdmaCount.off, 0xFFFFFFFF), (RegName.sdmaCfg.off, 0)]
    tw0 := { phase := 3, pointer := 0x801B, word := [2, 0, 0] }
    free := k }

theorem stopDue_sound (k : Nat) : (stopDue k).Sound := ⟨rfl, Nat.zero_le _, rfl⟩

theorem stopDue_noStop (k : Nat) : (stopDue k).NoStop := fun c => by
  show (Store.get ({} : SdmaChan) [(0, { busy := true })] c).stop = none
  simp only [Store.get]
  split <;> rfl

theorem stopDue_up (k : Nat) : (stopDue k).tw0Up = true := rfl

/-- The same with the byte acknowledged, the word complete, and channel 0 as it then is. -/
def stopTaken (k : Nat) (x : SdmaChan) : State :=
  { stopDue k with
    sdma := [(0, x)]
    tw0 := { phase := 3, pointer := 0x801C, word := [], page := some 0x400 }
    out := [.twAck true] }

section
variable (k : Nat) (x : SdmaChan)

theorem tw0Offset_stopTaken : (stopTaken k x).tw0Offset 0x801B = 0x610018 := by
  have win : (stopTaken k x).reg .twbT0Win = 0x610000 := rfl
  simp [State.tw0Offset, State.field, win, bitsOf]

theorem locate_sdmaCtrl : locate 0x610018 = some ⟨.sdmaCtrl, 0, 0⟩ := by decide

theorem writeGranted_stopTaken : (stopTaken k x).writeGranted .tw0 0x610018 = true := by
  have grant : (stopTaken k x).reg .protRwinGrant = 2 := rfl
  have base : (stopTaken k x).reg .protRwinBase = 0 := rfl
  have limit : (stopTaken k x).reg .protRwinLimit = 0x3FFFFFC := rfl
  have first : (stopTaken k x).windowGrants 0 .tw0 0x610018 = true := by
    simp [State.windowGrants, State.flag, grant, base, limit]
    decide
  unfold State.writeGranted
  split
  · exact List.any_eq_true.mpr ⟨0, by decide, first⟩
  · rfl

theorem verdict_stopTaken : (stopTaken k x).verdict .tw0 0x610018 2 = .accepted := by
  have win : (stopTaken k x).boot.win = 1 := rfl
  have run : (stopTaken k x).power.pstate = .run := rfl
  simp [State.verdict, locate_sdmaCtrl, win, run, RegName.row, RegRow.writable, RegAt.mgmtOnly, RegAt.msix,
    writeGranted_stopTaken, State.refusesA, State.refusesB, State.parkedGo]

theorem sdmaCount_stopTaken : (stopTaken k x).sdmaCount 0 = 0xFFFFFFFF := by
  have count : (stopTaken k x).reg .sdmaCount = 0xFFFFFFFF := rfl
  simp [State.sdmaCount, count]

/-- With no DRAM channel active every address lies past the end. -/
theorem sdmaPastEnd_stopTaken (moved : Nat) : (stopTaken k x).sdmaPastEnd ((stopTaken k x).sdmaSrc 0) moved = true := by
  have fixed : (stopTaken k x).reg .sdmaCfg = 0 := rfl
  have low : (stopTaken k x).reg .sdmaSrcLo = 0 := rfl
  have high : (stopTaken k x).reg .sdmaSrcHi = 0 := rfl
  have inactive : (stopTaken k x).active = [] := rfl
  simp [State.sdmaPastEnd, State.sdmaSrc, State.flag, State.field, State.dramSize, SdmaSide.at, fixed, low, high, inactive,
    bitOf, bitsOf]

end

theorem tw0Write_stopDue (k : Nat) :
    (stopDue k).tw0Write 0 = (stopTaken k { busy := true }).writeNow .tw0 0x610018 2 := by
  have taken : (stopDue k).tw0Write 0 = (stopTaken k { busy := true }).tw0Store 0x801B 2 := by
    have data : (stopDue k).tw0Write 0 = (stopDue k).tw0Data 0 := rfl
    have pointer : (stopDue k).tw0.pointer = 0x801B := rfl
    have page : (stopDue k).tw0.page = none := rfl
    have acked : (stopDue k).tw0.nacked = false := rfl
    have word : (stopDue k).tw0.word = [2, 0, 0] := rfl
    rw [data]
    simp [State.tw0Data, State.tw0Gather, State.emit, pointer, page, acked, word]
    rfl
  have win : (stopTaken k { busy := true }).boot.win = 1 := rfl
  rw [taken]
  simp only [State.tw0Store, tw0Offset_stopTaken, locate_sdmaCtrl, verdict_stopTaken, writeGranted_stopTaken, win]
  rfl

/-- The word that is written tells channel 0 to stop, with the next free value. -/
theorem writeNow_stopTaken (k : Nat) : (stopTaken k { busy := true }).writeNow .tw0 0x610018 2 =
    stopTaken (k + 1) { busy := true, stop := some ((Config.freeWord k).toNat % 2 ^ 32) } := by
  generalize ht : stopTaken (k + 1) { busy := true, stop := some ((Config.freeWord k).toNat % 2 ^ 32) } = t
  have told : (stopTaken k { busy := true }).writeReg .tw0 0x610018 2 = t := by
    have accepted : (stopTaken k { busy := true }).writeReg .tw0 0x610018 2
        = (stopTaken k { busy := true }).accept .tw0 ⟨.sdmaCtrl, 0, 0⟩ 2 {} := by
      simp only [State.writeReg, verdict_stopTaken, locate_sdmaCtrl]
    have empty : (stopTaken k { busy := true }).reg .sdmaCtrl = 0 := rfl
    have merged : RegName.sdmaCtrl.row.merge 0 2 = 0 := by decide
    have unchanged : (stopTaken k { busy := true }).setReg .sdmaCtrl 0 0 0 = stopTaken k { busy := true } := rfl
    rw [accepted, accept_stop, empty, merged, unchanged, sdmaStop_of_busy rfl, sdmaCount_stopTaken, ← ht]
    rfl
  have unmarked : t.markSeq = (stopTaken k { busy := true }).markSeq := by rw [← ht]; rfl
  rw [State.writeNow, told, orderMarks_of_none _ _ unmarked]

theorem sdmaSettle_stopTaken (k : Nat) {stop : Nat} (word : 4 ≤ stop) :
    State.sdmaSettle 64 (stopTaken k { busy := true, stop := some stop }) = none := by
  have count : 4 ≤ (stopTaken k { busy := true, stop := some stop }).sdmaCount 0 := by
    rw [sdmaCount_stopTaken]
    decide
  exact sdmaSettle_of_pastEnd rfl rfl word count (sdmaPastEnd_stopTaken k _)

theorem regEffect_of_none {f : State → Option State} {s : State} (h : (f s).bind (State.sdmaSettle 64) = none) :
    regEffect f s = .fault .dramPastEnd := by
  simp only [regEffect, h]

theorem exec_tw0WriteByte (b : Byte) (s : State) :
    exec (.tw0WriteByte b) s = regEffect (fun s => some (if s.tw0Up then s.tw0Write b else s)) s := rfl

/-- TW0's byte faults where the free value lets the transfer move a word. -/
theorem tw0WriteByte_stopDue (k : Nat) (h : 4 ≤ (Config.freeWord k).toNat % 2 ^ 32) :
    exec (.tw0WriteByte 0) (stopDue k) = .fault .dramPastEnd := by
  rw [exec_tw0WriteByte]
  refine regEffect_of_none ?_
  rw [if_pos (stopDue_up k), Option.bind_some, tw0Write_stopDue, writeNow_stopTaken]
  exact sdmaSettle_stopTaken _ h

/-- What O51 asks of the free values, each in a state that its clause on written bytes covers. -/
theorem freeWord_of_tw0Target (h : Obligations.Tw0Target) (k : Nat) : (Config.freeWord k).toNat % 2 ^ 32 < 4 := by
  obtain ⟨-, -, written⟩ := h
  obtain ⟨t, next, -⟩ := written 0 (stopDue k) (stopDue_sound k) (stopDue_noStop k) (stopDue_up k)
  by_contra large
  rw [tw0WriteByte_stopDue k (Nat.le_of_not_lt large)] at next
  cases next

end Sys2Proof.Machine
end

section
/-!
SUPPORT. The delivery of events writes no ring but those that carry events, so it never touches the mirror ring, which
`State.Kept` leaves open: its number lies beyond the 1,024 rings that have a KIND.
-/
namespace Sys2Proof.Machine

/-! ### Host accesses leave the rings alone -/

@[simp] theorem lookup_rings (s : State) (r page : Nat) (write : Bool) : (s.lookup r page write).2.rings = s.rings := by
  unfold State.lookup
  split
  · rfl
  · dsimp only
    split
    · rfl
    · split <;> rfl

@[simp] theorem lookupAll_rings (r : Nat) (write : Bool) (ps : List Nat) (s : State) :
    (s.lookupAll r write ps).2.rings = s.rings := by
  induction ps generalizing s with
  | nil => rfl
  | cons p ps ih => simp [State.lookupAll, ih]

@[simp] theorem prepare_rings (s : State) (r addr len : Nat) (write : Bool) :
    (s.prepare r addr len write).2.rings = s.rings := by
  unfold State.prepare
  have kept := lookupAll_rings r write (pagesOf addr len) s
  dsimp only
  generalize (if r < 1024 then _ else true) = allowed
  split
  · rfl
  · split
    · rfl
    · split <;> (next found => rwa [found] at kept)

@[simp] theorem issue_rings (r : Nat) (relaxed : Bool) (ps : List Nat) (s : State) (addr : Nat) (bytes : List Byte) :
    (s.issue r addr bytes relaxed ps).rings = s.rings := by
  induction ps generalizing s addr bytes with
  | nil => rfl
  | cons p ps ih => exact ih ..

@[simp] theorem sendMsix_rings (s : State) (v : Nat) : (s.sendMsix v).rings = s.rings := by
  unfold State.sendMsix
  split <;> rfl

@[simp] theorem signal_rings (s : State) (q sev : Nat) : (s.signal q sev).rings = s.rings := by
  unfold State.signal
  dsimp only
  split
  · simp
  · rfl

@[simp] theorem dropHold_rings (s : State) (r : Nat) : (s.dropHold r).rings = s.rings := by
  unfold State.dropHold
  split
  · rfl
  · dsimp only
    split <;> rfl

@[simp] theorem dropRecord_rings (s : State) (r : Nat) (x : Record) : (s.dropRecord r x).rings = s.rings := by
  unfold State.dropRecord
  split <;> rfl

@[simp] theorem reportService_rings (s : State) : s.reportService.rings = s.rings := by
  unfold State.reportService
  dsimp only
  split <;> rfl

/-! ### A delivery changes the ring that carries it, and no other -/

theorem ring_of_rings {s t : State} (h : t.rings = s.rings) (i : Nat) : t.ring i = s.ring i := by
  simp only [State.ring, h]

theorem foldl_ring {α : Type} {f : State → α → State} {i : Nat} (h : ∀ s a, (f s a).ring i = s.ring i) (l : List α)
    (s : State) : (l.foldl f s).ring i = s.ring i := by
  induction l generalizing s with
  | nil => rfl
  | cons a l ih => exact (ih _).trans (h s a)

theorem abandonRecords_ring_of_ne (s : State) {r i : Nat} (h : i ≠ r) : (s.abandonRecords r).ring i = s.ring i := by
  simp only [State.abandonRecords, State.ring_setRing, if_neg h]
  exact foldl_ring (fun u y => ring_of_rings (dropRecord_rings u r y) i) _ s

@[simp] theorem raise_ring (s : State) (type : Nat) (fs : List (Nat × Nat)) (time : Option (BitVec 128)) (i : Nat) :
    (s.raise type fs time).ring i = s.ring i := rfl

theorem haltRing_ring_of_ne (s : State) {r i : Nat} (cause : Nat) (h : i ≠ r) : (s.haltRing r cause).ring i = s.ring i := by
  unfold State.haltRing
  dsimp only
  split
  · simp [h]
  · have caused : (if r < 1024 then s.setField .ringStatus r 0 8 4 cause else s).ring i = s.ring i := by split <;> rfl
    generalize (if r < 1024 then s.setField .ringStatus r 0 8 4 cause else s) = u at caused ⊢
    have lost : (u.dropHold r).ring i = s.ring i := (ring_of_rings (dropHold_rings u r) i).trans caused
    rw [raise_ring]
    split
    · simp [h, lost]
    · simp [abandonRecords_ring_of_ne _ h, h, lost]

theorem writeRecord_ring_of_ne (s : State) (q : Nat) {r i : Nat} (b : BitVec 256) (h : i ≠ r) :
    (s.writeRecord q r b).2.ring i = s.ring i := by
  unfold State.writeRecord
  dsimp only
  have prepared := ring_of_rings (prepare_rings s r (s.ringBase r + 32 * ((s.queue q).pd.toNat % 2 ^ s.log2s r)) 32 true) i
  split
  next e => rwa [e] at prepared
  next e =>
    rw [e] at prepared
    exact (haltRing_ring_of_ne _ 2 h).trans prepared
  next e =>
    rw [e] at prepared
    exact (ring_of_rings (by simp) i).trans prepared

theorem putRecord_ring_of_ne (s : State) (q : Nat) {r i : Nat} (b : BitVec 256) (h : i ≠ r) :
    (s.putRecord q r b).ring i = s.ring i := by
  have written := writeRecord_ring_of_ne s q b h
  unfold State.putRecord
  dsimp only
  split
  · rfl
  · split <;> exact written

theorem take_ring_of_ne (s : State) (q : Nat) (e : EventRec) {i : Nat} (h : s.queueRing q ≠ some i) :
    (s.take q e).ring i = s.ring i := by
  unfold State.take
  split
  · rfl
  next r found =>
    have other : i ≠ r := fun same => h (same ▸ found)
    dsimp only
    split
    · rfl
    split
    · rfl
    split
    · exact putRecord_ring_of_ne _ q _ other
    split
    · exact putRecord_ring_of_ne _ q _ other
    · rfl

/-! ### The mirror ring -/

/-- No queue lies in the mirror ring. -/
theorem queueRing_ne_mirrorRing (s : State) (q : Nat) : s.queueRing q ≠ some mirrorRing := by
  unfold State.queueRing
  split
  · decide
  · intro found
    obtain ⟨e, he, number⟩ := Option.map_eq_some_iff.mp found
    have bound := List.find?_some he
    simp [number, mirrorRing] at bound

theorem offer_mirrorRing (s : State) (e : EventRec) : (s.offer e).ring mirrorRing = s.ring mirrorRing := by
  unfold State.offer
  split
  · rfl
  · exact foldl_ring (fun u q => take_ring_of_ne u q e (queueRing_ne_mirrorRing u q)) _ s

theorem deliver_mirrorRing (n : Nat) (s : State) : (State.deliver n s).ring mirrorRing = s.ring mirrorRing := by
  induction n generalizing s with
  | zero => rfl
  | succ n ih =>
    unfold State.deliver
    split
    · rfl
    · exact (ih _).trans (foldl_ring offer_mirrorRing _ _)

/-- A command leaves the mirror ring as its effect does. -/
@[simp] theorem settle_mirrorRing (s0 s : State) : (settle s0 s).ring mirrorRing = s.ring mirrorRing :=
  (deliver_mirrorRing 64 s.reportService).trans (ring_of_rings (reportService_rings s) _)

end Sys2Proof.Machine
end

section
/-!
SUPPORT. The mark log's window and its mirror (R437, R441 to R448): what an accepted write to the registers of both does, what
the window then shows, and what MIRROR_WRITE writes out. From these, O60.
-/
namespace Sys2Proof.Machine

/-! ### Commands that are one register write -/

theorem writeFrom_of_accepts {s : State} {o : Origin} {n : RegName} {i j : Nat} {v : Word} (h : s.Accepts o ⟨n, i, j⟩ v) :
    s.writeFrom o n i j v = s.accept o ⟨n, i, j⟩ v {} := by
  obtain ⟨reaches, located, accepted⟩ := h
  simp only [State.writeFrom, reaches, if_true, State.writeReg, accepted, located]

/-- A command that is a register write ends as the accepted write leaves the machine, once settled. -/
theorem completes_of_accepts {c : Instr} {s : State} {o : Origin} {n : RegName} {v : Word} {P : State → Prop}
    (run : exec c s = effect (fun s => s.writeFrom o n 0 0 v) s) (h : s.Accepts o ⟨n, 0, 0⟩ v)
    (p : P (settle s (s.accept o ⟨n, 0, 0⟩ v {}))) : Completes c s P :=
  ⟨_, by rw [run, effect, writeFrom_of_accepts h], p⟩

/-! ### Bits of a written word -/

theorem bitOf_eq_getLsbD (v : Word) (i : Nat) : bitOf v i = v.getLsbD i := rfl

theorem bitOf_or_one (v : Word) : bitOf (v ||| 1) 0 = true := by
  simp [bitOf_eq_getLsbD]

theorem bitOf_clearEn (v : Word) : bitOf (clearEn v) 0 = false := by
  simp [bitOf_eq_getLsbD, clearEn]

/-- MARK_RD_SEQ holds whatever is written. -/
theorem merge_markRdSeq (old v : Word) : RegName.markRdSeq.row.merge old v = v := by
  have all : v &&& 4294967295#32 = v := BitVec.and_allOnes
  simp [RegRow.merge, RegName.row, all]

/-- EN of MARK_MIR_CTL is held as written. -/
theorem bitOf_merge_markMirCtl (old v : Word) : bitOf (RegName.markMirCtl.row.merge old v) 0 = bitOf v 0 := by
  simp [bitOf_eq_getLsbD, RegRow.merge, RegName.row]

/-! ### What the accepted writes do -/

/-- The state in which an accepted write of v to register r has left its mark (R439). -/
def State.writeMarked (s : State) (o : Origin) (r : RegAt) (v : Word) : State :=
  s.markReg o (r.name.off r.i r.j) (s.regValue r) v

theorem accept_markRdSeq (s : State) (o : Origin) (v : Word) :
    s.accept o ⟨.markRdSeq, 0, 0⟩ v {} = { s.setReg .markRdSeq 0 0 v with markSelected := true } := by
  have unmarked : RegAt.marked ⟨.markRdSeq, 0, 0⟩ = false := by decide
  simp [State.accept, unmarked, State.stored, State.actsA, State.actsB, merge_markRdSeq]

theorem accept_errCtrl (s : State) (o : Origin) {v : Word} (h : bitOf v 0 = true) :
    s.accept o ⟨.errCtrl, 0, 0⟩ v {} =
      ((s.writeMarked o ⟨.errCtrl, 0, 0⟩ v).setReg .errCtrl 0 0
        (RegName.errCtrl.row.merge (s.reg .errCtrl) v)).setReg .errFatal 0 0 0 := by
  have marked : RegAt.marked ⟨.errCtrl, 0, 0⟩ = true := by decide
  simp only [State.accept, marked, State.stored, State.actsA, State.actsB, h, if_true]
  rfl

/-- The state in which an accepted write of v to MARK_MIR_CTL is marked and stored, before the mirror acts on it. -/
def State.mirCtlStored (s : State) (o : Origin) (v : Word) : State :=
  (s.writeMarked o ⟨.markMirCtl, 0, 0⟩ v).setReg .markMirCtl 0 0 (RegName.markMirCtl.row.merge (s.reg .markMirCtl) v)

theorem mirCtlStored_flag (s : State) (o : Origin) (v : Word) : (s.mirCtlStored o v).flag .markMirCtl 0 0 0 = bitOf v 0 := by
  simp only [State.flag, State.mirCtlStored, State.reg_setReg_self, bitOf_merge_markMirCtl]

theorem mirCtlStored_markMirFrom (s : State) (o : Origin) (v : Word) :
    (s.mirCtlStored o v).reg .markMirFrom = s.reg .markMirFrom :=
  State.reg_setReg_of_ne _ _ _ _ _ _ _ _ (by decide)

/-- The write changes EN, or the mirror does nothing. -/
theorem accept_markMirCtl (s : State) (o : Origin) (v : Word) :
    s.accept o ⟨.markMirCtl, 0, 0⟩ v {} =
      if s.flag .markMirCtl 0 0 0 = bitOf v 0 then s.mirCtlStored o v
      else if bitOf v 0 then (s.mirCtlStored o v).enableMirror else (s.mirCtlStored o v).disableMirror := by
  have marked : RegAt.marked ⟨.markMirCtl, 0, 0⟩ = true := by decide
  simp only [State.accept, marked, State.stored, State.actsA, State.actsB, if_true]
  rfl

theorem accept_markMirCons (s : State) (o : Origin) (v : Word) :
    s.accept o ⟨.markMirCons, 0, 0⟩ v {} = s.mirrorConsume v := by
  have unmarked : RegAt.marked ⟨.markMirCons, 0, 0⟩ = false := by decide
  simp [State.accept, unmarked, State.stored, State.actsA, State.actsB]

/-! ### The marks held at the end of a command -/

theorem settle_marks (s0 s : State) : (settle s0 s).marks = keepMarks (orderMarks s0 s) := by
  have kept := settle_kept s
  have marks : s.endClock.marks = s.marks := kept.marks
  have seq : s.endClock.markSeq = s.markSeq := kept.markSeq
  show keepMarks (orderMarks s0 s.endClock) = _
  simp only [orderMarks, marks, seq]

/-- A command that appends no mark leaves the log as it is. -/
theorem settle_marks_of_none {s t : State} (seq : t.markSeq = s.markSeq) (held : t.marks.length ≤ 4096) :
    (settle s t).marks = t.marks := by
  rw [settle_marks, orderMarks_of_none s t seq, keepMarks, List.take_of_length_le held]

/-- A command whose one mark is that of a register write leaves the log as the write does. -/
theorem settle_marks_of_writeMarked {s t : State} {o : Origin} {r : RegAt} {v : Word}
    (marks : t.marks = (s.writeMarked o r v).marks) (seq : t.markSeq = s.markSeq + 1) : (settle s t).marks = t.marks := by
  have one : orderMarks s t = t.marks := by
    rw [marks]
    exact orderMarks_of_one s t _ _ seq marks rfl
  have held : t.marks.length ≤ 4096 := by
    rw [marks]
    exact List.length_take_le _ _
  rw [settle_marks, one, keepMarks, List.take_of_length_le held]

theorem oldestSeq_congr {s t : State} (marks : t.marks = s.marks) (seq : t.markSeq = s.markSeq) : t.oldestSeq = s.oldestSeq := by
  simp only [State.oldestSeq, marks, seq]

theorem markHeldSeq_congr {s t : State} (marks : t.marks = s.marks) (seq : t.markSeq = s.markSeq) (n : Word) :
    t.markHeldSeq n = s.markHeldSeq n := by
  simp only [State.markHeldSeq, oldestSeq_congr marks seq, marks]

theorem markAt_congr {s t : State} (marks : t.marks = s.marks) (seq : t.markSeq = s.markSeq) (n : Word) :
    t.markAt n = s.markAt n := by
  simp only [State.markAt, markHeldSeq_congr marks seq, marks, seq]

theorem markHeldSeq_of_markAt {s : State} {n : Word} {m : Mark} (h : s.markAt n = some m) : s.markHeldSeq n = true := by
  by_contra gone
  simp [State.markAt, gone] at h

theorem markAt_of_not_held {s : State} {n : Word} (h : s.markHeldSeq n = false) : s.markAt n = none := by
  simp [State.markAt, h]

/-! ### The window -/

theorem regValue_markHeld (s : State) : s.regValue ⟨.markHeld, 0, 0⟩ = BitVec.ofNat 32 s.markHeld := rfl

theorem regValue_markRdData (s : State) (i : Nat) : s.regValue ⟨.markRdData, i, 0⟩ = BitVec.ofNat 32 (s.markWord i) := rfl

/-- RDVALID: whether the mark selected is held (R445). -/
theorem bitOf_regValue_markHeld {s : State} (selected : s.markSelected = true) (held : s.marks.length ≤ 4096) :
    bitOf (s.regValue ⟨.markHeld, 0, 0⟩) 31 = s.markHeldSeq (s.reg .markRdSeq) := by
  rw [regValue_markHeld, bitOf, State.markHeld, selected, Bool.true_and, Nat.testBit_eq_decide_div_mod_eq, BitVec.toNat_ofNat]
  cases s.markHeldSeq (s.reg .markRdSeq) <;> simp [bit] <;> omega

theorem markWord_of_markAt {s : State} {m : Mark} (selected : s.markSelected = true)
    (h : s.markAt (s.reg .markRdSeq) = some m) (i : Nat) : s.markWord i = leAt m.bytes (4 * i) 4 := by
  simp [State.markWord, selected, h]

theorem markWord_of_none {s : State} (h : s.markAt (s.reg .markRdSeq) = none) (i : Nat) : s.markWord i = 0 := by
  simp [State.markWord, h]

/-! ### The mirror is enabled, disabled and told what has been read -/

theorem mirrorSkip_mirror (s : State) : s.mirrorSkip.mirror = { s.mirror with next := s.oldestSeq } := by
  unfold State.mirrorSkip
  dsimp only
  split <;> rfl

/-- What the skip leaves alone. -/
theorem mirrorSkip_frame (s : State) :
    s.mirrorSkip.rings = s.rings ∧ s.mirrorSkip.marks = s.marks ∧ s.mirrorSkip.markSeq = s.markSeq ∧
    s.mirrorSkip.reg .markMirCtl = s.reg .markMirCtl := by
  unfold State.mirrorSkip
  dsimp only
  split
  · exact ⟨rfl, rfl, rfl, rfl⟩
  · exact ⟨rfl, rfl, rfl, State.reg_setReg_of_ne _ _ _ _ _ _ _ _ (by decide)⟩

/-- The mirror as EN starts it, before it skips what is gone. -/
def State.mirrorStarted (s : State) : State :=
  State.setReg { s.setRing mirrorRing { state := .run, inc := (s.ring mirrorRing).inc + 1 } with
    mirror := { pd := 0, ch := 0, next := s.reg .markMirFrom } } .markMirCons 0 0 0

theorem enableMirror_eq (s : State) : s.enableMirror =
    if s.markHeldSeq (s.reg .markMirFrom) then s.mirrorStarted else s.mirrorStarted.mirrorSkip := rfl

theorem mirrorStarted_state (s : State) : (s.mirrorStarted.ring mirrorRing).state = .run := by
  have started : s.mirrorStarted.ring mirrorRing = { state := .run, inc := (s.ring mirrorRing).inc + 1 } :=
    (State.ring_setRing s mirrorRing mirrorRing { state := .run, inc := (s.ring mirrorRing).inc + 1 }).trans (if_pos rfl)
  rw [started]

theorem mirrorStarted_markMirCtl (s : State) : s.mirrorStarted.reg .markMirCtl = s.reg .markMirCtl :=
  State.reg_setReg_of_ne _ _ _ _ _ _ _ _ (by decide)

theorem enableMirror_mirror (s : State) : s.enableMirror.mirror =
    { pd := 0, ch := 0, next := if s.markHeldSeq (s.reg .markMirFrom) then s.reg .markMirFrom else s.oldestSeq } := by
  rw [enableMirror_eq]
  split
  · rfl
  · exact mirrorSkip_mirror _

/-- EN set: the mirror ring runs, and the marks and MARK_MIR_CTL are left alone. -/
theorem enableMirror_frame (s : State) :
    (s.enableMirror.ring mirrorRing).state = .run ∧ s.enableMirror.marks = s.marks ∧ s.enableMirror.markSeq = s.markSeq ∧
    s.enableMirror.reg .markMirCtl = s.reg .markMirCtl := by
  rw [enableMirror_eq]
  split
  · exact ⟨mirrorStarted_state s, rfl, rfl, mirrorStarted_markMirCtl s⟩
  · obtain ⟨rings, marks, seq, ctl⟩ := mirrorSkip_frame s.mirrorStarted
    exact ⟨(congrArg Ring.state (ring_of_rings rings _)).trans (mirrorStarted_state s), marks, seq,
      ctl.trans (mirrorStarted_markMirCtl s)⟩

/-- EN cleared: the ring drains where a record is in progress, and is OFF at once where none is. -/
theorem disableMirror_state (s : State) :
    (s.disableMirror.ring mirrorRing).state = if s.mirrorBusy then .drain else .off := by
  unfold State.disableMirror
  split <;> simp

theorem disableMirror_frame (s : State) : s.disableMirror.mirror = s.mirror ∧ s.disableMirror.regs = s.regs := by
  unfold State.disableMirror
  split <;> exact ⟨rfl, rfl⟩

theorem mirCtlStored_mirrorBusy (s : State) (o : Origin) (v : Word) : (s.mirCtlStored o v).mirrorBusy = s.mirrorBusy := rfl

theorem mirrorConsume_of_le {s : State} {v : Word} (h : (v - s.mirror.ch).toNat ≤ (s.mirror.pd - s.mirror.ch).toNat) :
    s.mirrorConsume v = State.setReg { s with mirror := { s.mirror with ch := v } } .markMirCons 0 0 v := if_pos h

theorem mirrorConsume_of_lt {s : State} {v : Word} (h : (s.mirror.pd - s.mirror.ch).toNat < (v - s.mirror.ch).toNat) :
    s.mirrorConsume v = s.badDoorbell 0x401 0x11 0xFF v := if_neg (Nat.not_le_of_lt h)

/-! ### A mark is written out -/

theorem lookupAll_length {r : Nat} {write : Bool} {ps as : List Nat} {s : State}
    (h : (s.lookupAll r write ps).1 = some as) : as.length = ps.length := by
  induction ps generalizing s as with
  | nil =>
    cases h
    rfl
  | cons p ps ih =>
    simp only [State.lookupAll] at h
    split at h
    next b bs _ found =>
      cases h
      simp [ih found]
    next => cases h

/-- What can be issued has been looked up, page by page. -/
theorem lookupAll_of_prepare_go {s u : State} {r addr len : Nat} {write : Bool} {ps : List Nat}
    (h : s.prepare r addr len write = (.go ps, u)) : s.lookupAll r write (pagesOf addr len) = (some ps, u) := by
  unfold State.prepare at h
  dsimp only at h
  generalize (if r < 1024 then _ else true) = allowed at h
  split at h
  · cases h
  split at h
  · cases h
  split at h
  next found =>
    cases h
    exact found
  next => cases h

theorem ne_nil_of_prepare_go {s u : State} {r addr len : Nat} {write : Bool} {ps : List Nat} (bytes : len ≠ 0)
    (h : s.prepare r addr len write = (.go ps, u)) : ps ≠ [] := by
  have count := lookupAll_length (congrArg Prod.fst (lookupAll_of_prepare_go h))
  intro empty
  simp [empty, pagesOf, bytes] at count

/-- The first page's bytes leave the device. -/
theorem mem_issue_out {ps : List Nat} (h : ps ≠ []) (s : State) (r addr : Nat) (bytes : List Byte) (relaxed : Bool) :
    ∃ a n x, 0 < n ∧ .hostWrite r a (bytes.take n) x ∈ (s.issue r addr bytes relaxed ps).out := by
  obtain _ | ⟨p, ps⟩ := ps
  · exact absurd rfl h
  let n := 4096 - addr % 4096
  let sent := s.emit (.hostWrite r (p * 4096 + addr % 4096) (bytes.take n) (s.hostAttr r relaxed))
  obtain ⟨later, out⟩ := (State.Kept.issue r relaxed ps sent (addr + n) (bytes.drop n)).out
  refine ⟨p * 4096 + addr % 4096, n, s.hostAttr r relaxed, Nat.sub_pos_of_lt (Nat.mod_lt addr (by decide)), ?_⟩
  rw [State.issue, out]
  exact List.mem_append_right _ (List.mem_cons_self ..)

/-- What a command's effect has sent has left the device. -/
theorem mem_settle_out {s0 s : State} {e : Emission} (h : e ∈ s.out) : e ∈ (settle s0 s).out := by
  obtain ⟨sent, out⟩ := (settle_kept s).out
  have all : (settle s0 s).out = sent ++ s.out := out
  rw [all]
  exact List.mem_append_right _ h

theorem mirrorDrained_frame (s : State) :
    s.mirrorDrained.mirror = s.mirror ∧ s.mirrorDrained.markSeq = s.markSeq ∧ s.mirrorDrained.out = s.out := by
  unfold State.mirrorDrained
  split <;> exact ⟨rfl, rfl, rfl⟩

theorem mirrorDrained_off {s : State} (h : (s.ring mirrorRing).state = .drain) :
    (s.mirrorDrained.ring mirrorRing).state = .off := by
  simp [State.mirrorDrained, h]

/-- Where the mirror's next entry lies (R446). -/
def State.mirrorAddr (s : State) : Nat := s.ringBase mirrorRing + 32 * (s.mirror.pd.toNat % 2 ^ s.log2s mirrorRing)

/-- A mark written at an address through the pages looked up, with the counts behind it. -/
def State.markMirrored (s : State) (addr : Nat) (m : Mark) (ps : List Nat) : State :=
  let t := s.issue mirrorRing addr m.bytes false ps
  { t with mirror := { t.mirror with pd := t.mirror.pd + 1, next := t.mirror.next + 1 } }

/-- Whether MIRROR_WRITE finds nothing that the mirror may write: no ring that writes, no free entry, or no mark due. -/
def State.mirrorIdle (s : State) : Bool :=
  !s.mirrorWrites || !decide ((s.mirror.pd - s.mirror.ch).toNat < 2 ^ s.log2s mirrorRing) || s.mirror.next = s.markSeq

theorem mirrorIdle_iff (s : State) : s.mirrorIdle = true ↔ s.mirrorWrites = false ∨
    2 ^ s.log2s mirrorRing ≤ (s.mirror.pd - s.mirror.ch).toNat ∨ s.mirror.next = s.markSeq := by
  simp only [State.mirrorIdle, Bool.or_eq_true, Bool.not_eq_true', decide_eq_false_iff_not, decide_eq_true_eq, Nat.not_lt,
    or_assoc]

/-- MIRROR_WRITE with a mark that is due, held and can be written. -/
theorem exec_mirrorWrite_of_go {s u : State} {m : Mark} {ps : List Nat} (writes : s.mirrorWrites = true)
    (free : (s.mirror.pd - s.mirror.ch).toNat < 2 ^ s.log2s mirrorRing) (due : s.mirror.next ≠ s.markSeq)
    (held : s.markAt s.mirror.next = some m) (ready : s.prepare mirrorRing s.mirrorAddr 32 true = (.go ps, u)) :
    exec .mirrorWrite s = .next (settle s (u.markMirrored s.mirrorAddr m ps).mirrorDrained) := by
  have busy : ¬ s.mirrorIdle = true := by
    rw [mirrorIdle_iff, writes, not_or, not_or]
    exact ⟨Bool.noConfusion, Nat.not_le_of_lt free, due⟩
  unfold State.mirrorAddr at ready
  show execMirrorWrite s = _
  refine congrArg (fun t => Host.Outcome.next (settle s t)) ((if_neg busy).trans ?_)
  simp only [if_pos (markHeldSeq_of_markAt held), held, ready]
  rfl

/-- The counts go on by one; looking up the entry and writing it change nothing else of the mirror, its ring or the log. -/
theorem mirrored_of_go {s u : State} {ps : List Nat} (m : Mark)
    (ready : s.prepare mirrorRing s.mirrorAddr 32 true = (.go ps, u)) :
    (u.markMirrored s.mirrorAddr m ps).mirror = { s.mirror with pd := s.mirror.pd + 1, next := s.mirror.next + 1 } ∧
    (u.markMirrored s.mirrorAddr m ps).markSeq = s.markSeq ∧
    (u.markMirrored s.mirrorAddr m ps).ring mirrorRing = s.ring mirrorRing := by
  have looked : u = (s.prepare mirrorRing s.mirrorAddr 32 true).2 := by rw [ready]
  have kept : s.Kept u := looked ▸ State.Kept.prepare ..
  have rings : u.rings = s.rings := looked ▸ prepare_rings ..
  have issued := State.Kept.issue mirrorRing false ps u s.mirrorAddr m.bytes
  refine ⟨?_, issued.markSeq.trans kept.markSeq, ring_of_rings ((issue_rings ..).trans rings) _⟩
  rw [← kept.mirror, ← issued.mirror]
  rfl

/-- MIRROR_WRITE with nothing that it may write. -/
theorem exec_mirrorWrite_of_idle {s : State} (sound : s.Sound) (idle : s.mirrorIdle = true) :
    exec .mirrorWrite s = .next s := by
  show execMirrorWrite s = _
  exact effect_of_sound (if_pos idle) sound rfl rfl

/-! ### O60 -/

/-- MARK_RD_SEQ written: the window shows the mark if it is held, and zeros if not. -/
theorem markReadSelect_completes {o : Origin} {v : Word} {s : State} (h : s.Accepts o ⟨.markRdSeq, 0, 0⟩ v) :
    Completes (.markReadSelect o v) s fun t =>
      t.reg .markRdSeq = v ∧ t.markSelected = true ∧ t.markSeq = s.markSeq ∧
      (∀ m, s.markAt v = some m → s.marks.length ≤ 4096 → bitOf (t.regValue ⟨.markHeld, 0, 0⟩) 31 = true ∧
        ∀ i : Fin 8, t.regValue ⟨.markRdData, i, 0⟩ = BitVec.ofNat 32 (leAt m.bytes (4 * i) 4)) ∧
      (s.markHeldSeq v = false → s.marks.length ≤ 4096 → bitOf (t.regValue ⟨.markHeld, 0, 0⟩) 31 = false ∧
        ∀ i : Fin 8, t.regValue ⟨.markRdData, i, 0⟩ = 0) := by
  refine completes_of_accepts rfl h ?_
  rw [accept_markRdSeq]
  generalize ht : settle s { s.setReg .markRdSeq 0 0 v with markSelected := true } = t
  have reg : t.reg .markRdSeq = v := by
    rw [← ht, settle_reg _ _ _ _ _ (by decide)]
    exact State.reg_setReg_self ..
  have selected : t.markSelected = true := by rw [← ht]; simp
  have seq : t.markSeq = s.markSeq := by rw [← ht]; simp
  have marks (held : s.marks.length ≤ 4096) : t.marks = s.marks := by
    rw [← ht]
    exact settle_marks_of_none rfl held
  have valid (held : s.marks.length ≤ 4096) : bitOf (t.regValue ⟨.markHeld, 0, 0⟩) 31 = s.markHeldSeq v := by
    rw [bitOf_regValue_markHeld selected (by rwa [marks held]), reg, markHeldSeq_congr (marks held) seq]
  have window (held : s.marks.length ≤ 4096) : t.markAt (t.reg .markRdSeq) = s.markAt v := by
    rw [reg, markAt_congr (marks held) seq]
  refine ⟨reg, selected, seq, fun m found held => ⟨?_, fun i => ?_⟩, fun gone held => ⟨?_, fun i => ?_⟩⟩
  · rw [valid held, markHeldSeq_of_markAt found]
  · rw [regValue_markRdData, markWord_of_markAt selected ((window held).trans found)]
  · rw [valid held, gone]
  · rw [regValue_markRdData, markWord_of_none ((window held).trans (markAt_of_not_held gone))]
    rfl

/-- CLR_FATAL clears ERR_FATAL, with a mark; what has failed stays failed. -/
theorem clrFatal_completes {o : Origin} {v : Word} {s : State} (h : s.Accepts o ⟨.errCtrl, 0, 0⟩ (v ||| 1)) :
    Completes (.clrFatal o v) s fun t => t.reg .errFatal = 0 ∧ t.fatal = s.fatal ∧ t.markSeq = s.markSeq + 1 := by
  refine completes_of_accepts rfl h ?_
  rw [accept_errCtrl s o (bitOf_or_one v)]
  refine ⟨?_, settle_fatal .., settle_markSeq ..⟩
  rw [settle_reg _ _ _ _ _ (by decide), State.reg_setReg_self]

theorem mirrorEnable_completes {o : Origin} {v : Word} {s : State} (off : s.flag .markMirCtl 0 0 0 = false)
    (h : s.Accepts o ⟨.markMirCtl, 0, 0⟩ (v ||| 1)) :
    Completes (.mirrorEnable o v) s fun t =>
      (t.ring mirrorRing).state = .run ∧ t.mirror.pd = 0 ∧ t.mirror.ch = 0 ∧ t.markSeq = s.markSeq + 1 ∧
      t.mirror.next = (if t.markHeldSeq (s.reg .markMirFrom) then s.reg .markMirFrom else t.oldestSeq) ∧
      t.flag .markMirCtl 0 0 0 = true := by
  refine completes_of_accepts rfl h ?_
  have acts : s.accept o ⟨.markMirCtl, 0, 0⟩ (v ||| 1) {} = (s.mirCtlStored o (v ||| 1)).enableMirror := by
    rw [accept_markMirCtl, off, bitOf_or_one]
    rfl
  have stored := mirCtlStored_flag s o (v ||| 1)
  have first := mirCtlStored_markMirFrom s o (v ||| 1)
  rw [acts]
  generalize hu : s.mirCtlStored o (v ||| 1) = u at stored first
  obtain ⟨run, marks, seq, ctl⟩ := enableMirror_frame u
  have marked : u.markSeq = s.markSeq + 1 := by rw [← hu]; rfl
  have marksKept : (settle s u.enableMirror).marks = u.marks := by
    refine (settle_marks_of_writeMarked (o := o) (r := ⟨.markMirCtl, 0, 0⟩) (v := v ||| 1) ?_ (seq.trans marked)).trans marks
    rw [marks, ← hu]
    rfl
  have seqKept : (settle s u.enableMirror).markSeq = u.markSeq := (settle_markSeq ..).trans seq
  refine ⟨?_, ?_, ?_, seqKept.trans marked, ?_, ?_⟩
  · rw [settle_mirrorRing, run]
  · rw [settle_mirror, enableMirror_mirror]
  · rw [settle_mirror, enableMirror_mirror]
  · rw [settle_mirror, enableMirror_mirror, first, markHeldSeq_congr marksKept seqKept, oldestSeq_congr marksKept seqKept]
  · rw [State.flag, settle_reg _ _ _ _ _ (by decide), ctl]
    exact stored.trans (bitOf_or_one v)

theorem mirrorDisable_completes {o : Origin} {v : Word} {s : State} (on : s.flag .markMirCtl 0 0 0 = true)
    (h : s.Accepts o ⟨.markMirCtl, 0, 0⟩ (clearEn v)) :
    Completes (.mirrorDisable o v) s fun t =>
      (t.ring mirrorRing).state = (if s.mirrorBusy then .drain else .off) ∧ t.mirror = s.mirror ∧
      t.flag .markMirCtl 0 0 0 = false := by
  refine completes_of_accepts rfl h ?_
  have acts : s.accept o ⟨.markMirCtl, 0, 0⟩ (clearEn v) {} = (s.mirCtlStored o (clearEn v)).disableMirror := by
    rw [accept_markMirCtl, on, bitOf_clearEn]
    rfl
  have stored := mirCtlStored_flag s o (clearEn v)
  rw [acts]
  obtain ⟨mirror, regs⟩ := disableMirror_frame (s.mirCtlStored o (clearEn v))
  refine ⟨?_, (settle_mirror ..).trans mirror, ?_⟩
  · rw [settle_mirrorRing, disableMirror_state, mirCtlStored_mirrorBusy]
  · rw [State.flag, settle_reg _ _ _ _ _ (by decide), State.reg, regs]
    exact stored.trans (bitOf_clearEn v)

theorem mirrorConsumerWrite_completes {o : Origin} {v : Word} {s : State} (h : s.Accepts o ⟨.markMirCons, 0, 0⟩ v) :
    Completes (.mirrorConsumerWrite o v) s fun t =>
      ((v - s.mirror.ch).toNat ≤ (s.mirror.pd - s.mirror.ch).toNat →
        t.mirror = { s.mirror with ch := v } ∧ t.reg .markMirCons = v) ∧
      ((s.mirror.pd - s.mirror.ch).toNat < (v - s.mirror.ch).toNat → t.mirror = s.mirror ∧
        t.reg .hostDbBad = satAdd (s.reg .hostDbBad) 1) := by
  refine completes_of_accepts rfl h ?_
  rw [accept_markMirCons]
  refine ⟨fun frees => ?_, fun excess => ?_⟩
  · rw [mirrorConsume_of_le frees, settle_reg _ _ _ _ _ (by decide), State.reg_setReg_self]
    exact ⟨settle_mirror .., rfl⟩
  · rw [mirrorConsume_of_lt excess, settle_reg _ _ _ _ _ (by decide)]
    exact ⟨settle_mirror .., State.reg_setReg_self ..⟩

section
variable {s u : State} {m : Mark} {ps : List Nat} (free : (s.mirror.pd - s.mirror.ch).toNat < 2 ^ s.log2s mirrorRing)
  (due : s.mirror.next ≠ s.markSeq) (held : s.markAt s.mirror.next = some m)
  (ready : s.prepare mirrorRing s.mirrorAddr 32 true = (.go ps, u))
include free due held ready

theorem mirrorWrite_completes (writes : s.mirrorWrites = true) :
    Completes .mirrorWrite s fun t =>
      t.mirror = { s.mirror with pd := s.mirror.pd + 1, next := s.mirror.next + 1 } ∧ t.markSeq = s.markSeq ∧
      ∃ a n x, 0 < n ∧ .hostWrite mirrorRing a (m.bytes.take n) x ∈ t.out := by
  refine ⟨_, exec_mirrorWrite_of_go writes free due held ready, ?_⟩
  obtain ⟨mirror, seq, -⟩ := mirrored_of_go m ready
  obtain ⟨mirrorKept, seqKept, out⟩ := mirrorDrained_frame (u.markMirrored s.mirrorAddr m ps)
  obtain ⟨a, n, x, pos, sent⟩ :=
    mem_issue_out (ne_nil_of_prepare_go (by decide) ready) u mirrorRing s.mirrorAddr m.bytes false
  refine ⟨?_, ?_, a, n, x, pos, mem_settle_out ?_⟩
  · rw [settle_mirror, mirrorKept, mirror]
  · rw [settle_markSeq, seqKept, seq]
  · rw [out]
    exact sent

/-- In DRAIN the record is the last. -/
theorem mirrorWrite_drains (drain : (s.ring mirrorRing).state = .drain) :
    Completes .mirrorWrite s fun t => (t.ring mirrorRing).state = .off ∧ t.mirror.next = s.mirror.next + 1 := by
  refine ⟨_, exec_mirrorWrite_of_go (by simp [State.mirrorWrites, drain]) free due held ready, ?_⟩
  obtain ⟨mirror, -, ring⟩ := mirrored_of_go m ready
  obtain ⟨mirrorKept, -, -⟩ := mirrorDrained_frame (u.markMirrored s.mirrorAddr m ps)
  refine ⟨?_, ?_⟩
  · rw [settle_mirrorRing, mirrorDrained_off (by rw [ring, drain])]
  · rw [settle_mirror, mirrorKept, mirror]

end

/-- Settles O60: the window of the mark log, ERR_FATAL cleared, the mirror ring's registers, and MIRROR_WRITE. -/
theorem markLogAndMirror : Obligations.MarkLogAndMirror := by
  refine ⟨⟨fun _ _ _ h => markReadSelect_completes h, fun _ _ _ h => clrFatal_completes h⟩,
    ⟨fun _ _ _ off h => mirrorEnable_completes off h, fun _ _ _ on h => mirrorDisable_completes on h,
      fun _ _ _ h => mirrorConsumerWrite_completes h⟩, ?writes, ?drains, ?idle⟩
  case writes =>
    intro s u m ps run free due held ready
    exact mirrorWrite_completes free due held ready (by simp [State.mirrorWrites, run])
  case drains =>
    intro s u m ps drain free due held ready
    exact mirrorWrite_drains free due held ready drain
  case idle =>
    intro s sound idle
    exact ⟨s, exec_mirrorWrite_of_idle sound ((mirrorIdle_iff s).mpr idle), rfl⟩

end Sys2Proof.Machine
end

section
/-!
SUPPORT. Reads of registers and of the doorbell page: what a `_LO` register latches for its reader and what the read of `_HI`
takes (R5, R465), the fields that a read clears (R7), and the reads that the device counts as bad (R255, R464).
-/
namespace Sys2Proof.Machine

/-! ### Latches -/

theorem latched_unlatch (s : State) (a : Accessor) (off : Nat) : (s.unlatch a off).latched a off = none := by
  have gone : (s.unlatch a off).latches.find? (fun e => e.1 = a && e.2.1 = off) = none :=
    List.find?_eq_none.mpr fun e h => by simpa [imp_iff_not_or] using (List.mem_filter.mp h).2
  rw [State.latched, gone, Option.map_none]

/-- The latch of another reader, or for another register, stays. -/
theorem latched_unlatch_of_ne (s : State) {a c : Accessor} {off o : Nat} (h : ¬ (c = a ∧ o = off)) :
    (s.unlatch a off).latched c o = s.latched c o := by
  have kept (e : Accessor × Nat × Word) :
      decide ((!(e.1 = a && e.2.1 = off)) = true ∧ (e.1 = c && e.2.1 = o) = true) = (e.1 = c && e.2.1 = o) := by
    cases hit : (e.1 = c && e.2.1 = o : Bool) with
    | false => simp
    | true =>
      obtain ⟨rfl, rfl⟩ : e.1 = c ∧ e.2.1 = o := by simpa using hit
      simpa [imp_iff_not_or] using h
  simp only [State.latched, State.unlatch, List.find?_filter, kept]

/-- A register's value does not depend on what is latched. -/
theorem regValue_unlatch (s : State) (a : Accessor) (off : Nat) (r : RegAt) : (s.unlatch a off).regValue r = s.regValue r := rfl

theorem latchHi_of_none (s : State) (a : Accessor) {r : RegAt} (h : r.name.hi = none) : s.latchHi a r = s := by
  simp only [State.latchHi, h]

section
variable {r : RegAt} {m : RegName} (lo : r.name.hi = some m)
include lo

theorem latchHi_of_hi (s : State) (a : Accessor) : s.latchHi a r = { s with
    latches := (a, m.off r.i r.j, s.regValue ⟨m, r.i, r.j⟩) :: (s.unlatch a (m.off r.i r.j)).latches } := by
  simp only [State.latchHi, lo, regValue_unlatch]
  rfl

theorem latched_latchHi (s : State) (a : Accessor) :
    (s.latchHi a r).latched a (m.off r.i r.j) = some (s.regValue ⟨m, r.i, r.j⟩) := by
  simp [latchHi_of_hi lo, State.latched]

theorem latched_latchHi_of_ne (s : State) {a c : Accessor} {o : Nat} (h : ¬ (c = a ∧ o = m.off r.i r.j)) :
    (s.latchHi a r).latched c o = s.latched c o := by
  have miss : ¬ (a = c ∧ m.off r.i r.j = o) := fun e => h ⟨e.1.symm, e.2.symm⟩
  rw [← latched_unlatch_of_ne s h, latchHi_of_hi lo]
  simp [State.latched, miss]

end

/-! ### What kind of register a read meets -/

/-- A read of TIME_RD_SUBNS or TIME_RD_SEC_HI acts on the base's read set (R49). -/
def RegName.readSetActs (n : RegName) : Bool := n = .timeRdSubns || n = .timeRdSecHi

/-- Of a `_LO` register and its `_HI` neither has an RC field or acts on a read set, and `_HI` latches nothing further. -/
theorem pair_quiet {n m : RegName} (h : n.hi = some m) :
    n.row.rc = 0 ∧ n.readSetActs = false ∧ m.row.rc = 0 ∧ m.readSetActs = false ∧ m.hi = none := by
  unfold RegName.hi at h
  split at h <;> cases h <;> decide

theorem hi_eq_none_of_rc {n : RegName} (h : n.row.rc ≠ 0) : n.hi = none :=
  Option.eq_none_iff_forall_ne_some.mpr fun _ e => h (pair_quiet e).1

theorem not_readSetActs_of_rc {n : RegName} (h : n.row.rc ≠ 0) : n.readSetActs = false := by
  simp only [RegName.readSetActs, Bool.or_eq_false_iff, decide_eq_false_iff_not]
  exact ⟨by rintro rfl; exact h rfl, by rintro rfl; exact h rfl⟩

theorem clearRc_of_zero (s : State) {r : RegAt} (h : r.name.row.rc = 0) : s.clearRc r = s := if_pos h

theorem clearRc_of_ne (s : State) {r : RegAt} (h : r.name.row.rc ≠ 0) : s.clearRc r = s.setReg r.name r.i r.j
    ((s.reg r.name r.i r.j &&& BitVec.ofNat 32 (0xFFFFFFFF - r.name.row.rc)) ||| BitVec.ofNat 32 (s.peakLevel r)) := if_neg h

/-! ### A read of a whole word of the register space -/

section
variable {s : State} {a : Accessor} {off : Nat} {r : RegAt} (live : s.deadOffset off = false) (l : locate off = some r)
include live l

theorem readReg_latched {v : Word} (held : s.latched a off = some v) : s.readReg a off = (v, s.unlatch a off) := by
  simp [State.readReg, l, live, held]

theorem readReg_unlatched (free : s.latched a off = none) (quiet : r.name.readSetActs = false) :
    s.readReg a off = (s.regValue r, (s.latchHi a r).clearRc r) := by
  simp only [RegName.readSetActs, Bool.or_eq_false_iff, decide_eq_false_iff_not] at quiet
  obtain ⟨subns, secHi⟩ := quiet
  simp [State.readReg, l, live, free, State.beforeRead, State.afterRead, subns, secHi]

end

/-- The read answers its data, and nothing follows it where what it leaves is sound. -/
theorem effect_readCmd_whole {s t : State} {a : Accessor} {off : Nat} {v : Word} (whole : a.wholeWords = true)
    (reach : s.reaches a = true) (e : s.readReg a off = (v, t)) (sound : t.Sound) (q : t.markSeq = s.markSeq)
    (p : t.pending = s.pending) :
    effect (fun s => s.readCmd a off) s = .next (t.emit (.readData a off v)) := by
  have cmd : s.readCmd a off = t.emit (.readData a off v) := by
    cases a with
    | bar2 | bar2Part | bar0Part => cases whole
    | bar0 | tw0 | mgmt | sdma => simp [State.readCmd, reach, e]
  exact effect_of_sound cmd (sound.emit _) q p

section
variable {a : Accessor} {off : BitVec 26} {r : RegAt} {s : State} (sound : s.Sound) (whole : a.wholeWords = true)
  (reach : s.reaches a = true) (live : s.deadOffset off.toNat = false) (l : locate off.toNat = some r)
include sound whole reach live l

/-- A read of `_LO` latches `_HI` for the reader, and does nothing else (R5, R465). -/
theorem exec_readLo_of_lo {m : RegName} (lo : r.name.hi = some m) (free : s.latched a off.toNat = none) :
    exec (.readLo a off) s = .next ((s.latchHi a r).emit (.readData a off.toNat (s.regValue r))) := by
  obtain ⟨rc, quiet, -⟩ := pair_quiet lo
  have e := readReg_unlatched live l free quiet
  rw [clearRc_of_zero _ rc, latchHi_of_hi lo] at e
  rw [latchHi_of_hi lo]
  exact effect_readCmd_whole whole reach e sound rfl rfl

/-- A read of `_HI` takes the latch where the reader holds one (R465). -/
theorem exec_readLo_of_latched {v : Word} (held : s.latched a off.toNat = some v) :
    exec (.readLo a off) s = .next ((s.unlatch a off.toNat).emit (.readData a off.toNat v)) :=
  effect_readCmd_whole whole reach (readReg_latched live l held) sound rfl rfl

/-- Without a latch a read of `_HI` answers the value as it is, and does nothing else. -/
theorem exec_readLo_of_hi {n : RegName} (hi : n.hi = some r.name) (free : s.latched a off.toNat = none) :
    exec (.readLo a off) s = .next (s.emit (.readData a off.toNat (s.regValue r))) := by
  obtain ⟨-, -, rc, quiet, last⟩ := pair_quiet hi
  have e := readReg_unlatched live l free quiet
  rw [clearRc_of_zero _ rc, latchHi_of_none s a last] at e
  exact effect_readCmd_whole whole reach e sound rfl rfl

/-- A read of a register with fields of type RC clears them, and does nothing else (R7). -/
theorem exec_rcRead_of_rc (rc : r.name.row.rc ≠ 0) (free : s.latched a off.toNat = none) :
    exec (.rcRead a off) s = .next ((s.clearRc r).emit (.readData a off.toNat (s.regValue r))) := by
  have e := readReg_unlatched live l free (not_readSetActs_of_rc rc)
  rw [latchHi_of_none s a (hi_eq_none_of_rc rc), clearRc_of_ne s rc] at e
  rw [clearRc_of_ne s rc]
  exact effect_readCmd_whole whole reach e (sound.setReg ..) rfl rfl

end

/-- A BAR0 read of less than a whole aligned word is an unmapped access (R464). -/
theorem effect_readCmd_bar0Part {s : State} (off : Nat) (sound : s.Sound) (reach : s.reaches .bar0Part = true) :
    effect (fun s => s.readCmd .bar0Part off) s = .next (s.unmapped.emit (.readData .bar0Part off 0)) := by
  have cmd : s.readCmd .bar0Part off = s.unmapped.emit (.readData .bar0Part off 0) := by simp [State.readCmd, reach]
  exact effect_of_sound cmd (State.Sound.emit (sound.setReg ..) _) rfl rfl

/-! ### A read of the doorbell page -/

/-- What is kept is kept whatever registers and emissions there were before. -/
theorem State.Kept.withRegsOut {s t : State} (h : s.Kept t) : State.Kept { s with regs := t.regs, out := t.out } t :=
  { h with
    regs := fun _ _ _ => rfl
    status := fun _ _ _ => rfl
    drop := fun _ _ _ => rfl
    rings := fun r k => h.rings r ((h.kind r).symm.trans_ne k)
    out := ⟨[], rfl⟩ }

theorem readCmd_bar2 {s : State} {a : Accessor} {off : Nat} (h : a = .bar2 ∨ a = .bar2Part) (reach : s.reaches a = true) :
    s.readCmd a off = s.bar2Read off (a = .bar2) := by
  obtain rfl | rfl := h <;> simp [State.readCmd, reach]

/-- A whole aligned word of a slot with an enabled ring is read without effect. -/
theorem doorbellRead_word {s : State} {d slot word r : Nat} (aligned : word % 4 = 0) (ring : s.slotRing d slot = some r) :
    s.doorbellRead d slot word true = (s.doorbellWord r word, s) := by
  simp [State.doorbellRead, ring, aligned]

/-- Any other read of the page answers 0 and is counted. -/
theorem doorbellRead_bad {s : State} {d slot word : Nat} {whole : Bool}
    (bad : whole = false ∨ word % 4 ≠ 0 ∨ s.slotRing d slot = none) :
    ∃ ring, s.doorbellRead d slot word whole = (0, s.badDoorbell ring d slot 0) := by
  cases ring : s.slotRing d slot with
  | none => exact ⟨0xFFFF, by simp [State.doorbellRead, ring]⟩
  | some r =>
    have part : whole = false ∨ word % 4 ≠ 0 := by simpa [ring] using bad
    exact ⟨r, by simp [State.doorbellRead, ring, part]⟩

/-- While boot has not failed, a read of the page answers what the slot's word reads. -/
theorem bar2Read_eq {s t : State} {off : Nat} {whole : Bool} {v : Word} (win : s.boot.win ≠ 2)
    (read : s.doorbellRead (off / 0x10000 % 16) (off / 0x400 % 64) (off % 0x400) whole = (v, t)) :
    s.bar2Read off whole = t.emit (.bar2Data (off / 0x10000 % 16) (off / 0x400 % 64) (off % 0x400) v) := by
  simp only [State.bar2Read, if_neg win, read]

theorem badDoorbell_emit_settles {s : State} (sound : s.Sound) (ring d slot : Nat) (v : Word) (e : Emission) :
    let t := settle s ((s.badDoorbell ring d slot v).emit e)
    t.reg .hostDbBad = satAdd (s.reg .hostDbBad) 1 ∧ s.Sent t e ∧ State.Frame { s with regs := t.regs, out := t.out } t := by
  intro t
  refine ⟨?count, ?sent, ?frame⟩
  case count =>
    rw [settle_reg _ _ _ _ _ (by decide)]
    exact State.reg_setReg_self ..
  case sent => exact (settle_kept _).out
  case frame =>
    obtain ⟨-, held, -⟩ := sound
    have marks : t.marks = s.marks := settle_marks_of_none rfl held
    exact { (settle_frame s _).withRegsOut with marks := marks }

/-- Settles O8: reads of `_LO` and of `_HI`, of registers with RC fields, of parts of words, and of the doorbell page. -/
theorem registerReads : Obligations.RegisterReads := by
  refine ⟨⟨rfl, ?lo, ?hi⟩, ?rc, ?part, ?page⟩
  case lo =>
    intro a off r h s sound whole reach live l lo free
    refine ⟨_, exec_readLo_of_lo sound whole reach live l lo free, ?_, latched_latchHi lo s a,
      fun c o other => latched_latchHi_of_ne lo s other, ?_⟩ <;> rw [latchHi_of_hi lo]
    · rfl
    · exact ⟨fun _ => rfl, rfl⟩
  case hi =>
    rintro a off r s sound whole reach live l ⟨n, hi⟩
    cases latch : s.latched a off.toNat with
    | none =>
      refine ⟨_, exec_readLo_of_hi sound whole reach live l hi latch, ?_, fun _ => rfl⟩
      rintro v ⟨⟩
    | some v =>
      refine ⟨_, exec_readLo_of_latched sound whole reach live l latch, ?_, by rintro ⟨⟩⟩
      rintro _ ⟨⟩
      exact ⟨rfl, latched_unlatch s a _, fun c o other => latched_unlatch_of_ne s other, rfl⟩
  case rc =>
    intro a off r s sound whole reach live l rc atOff free
    refine ⟨_, exec_rcRead_of_rc sound whole reach live l rc free, ?_⟩
    rw [clearRc_of_ne s rc]
    exact ⟨rfl, State.reg_setReg_self .., fun d o other => State.get_setReg_of_ne _ _ _ _ _ _ _ (atOff ▸ other), rfl⟩
  case part =>
    intro off s sound reach c hc
    have e := effect_readCmd_bar0Part off.toNat sound reach
    obtain rfl | rfl : c = .readLo .bar0Part off ∨ c = .rcRead .bar0Part off := by simpa using hc
    · exact ⟨_, e, rfl⟩
    · exact ⟨_, e, rfl⟩
  case page =>
    intro a off s sound bar2 reach win d slot word c hc
    have runs : exec c s = .next (settle s (s.bar2Read off.toNat (a = .bar2))) := by
      rw [← readCmd_bar2 bar2 reach]
      obtain rfl | rfl : c = .readLo a off ∨ c = .rcRead a off := by simpa using hc
      · rfl
      · rfl
    refine ⟨_, runs, ?_, ?_⟩
    · rintro r rfl aligned ring
      have read := bar2Read_eq win (doorbellRead_word aligned ring)
      rw [decide_eq_true rfl, read]
      exact (sound.emit _).settle_eq rfl rfl
    · intro bad
      have notWhole : decide (a = .bar2) = false ∨ word % 4 ≠ 0 ∨ s.slotRing d slot = none :=
        bad.imp_left fun part => by simp [part]
      obtain ⟨ring, read⟩ := doorbellRead_bad notWhole
      rw [bar2Read_eq win read]
      exact badDoorbell_emit_settles sound ring d slot 0 _

end Sys2Proof.Machine
end

section
/-!
SUPPORT. How every command ends (R441, R444, R454): with what its effect leaves settled, or with no next state at all. From this the
invariant of a step (O3), and the first step of an empty queue and the machine at reset (O1, O2, O4).
-/
namespace Sys2Proof.Machine

/-! ### Every command ends settled -/

/-- Where a command that begins in `s` answers a next state, that state is the settled end of some effect. -/
def EndsSettled (s : State) (o : Host.Outcome State Fault Refusal) : Prop :=
  ∀ t, o = .next t → ∃ s0 u, s0.pending = s.pending ∧ t = settle s0 u

namespace EndsSettled

theorem next {s s0 : State} (u : State) (h : s0.pending = s.pending) : EndsSettled s (.next (settle s0 u)) := by
  rintro t ⟨⟩
  exact ⟨s0, u, h, rfl⟩

theorem effect (f : State → State) (s : State) : EndsSettled s (effect f s) := next (f s) rfl

theorem refused (s : State) (r : Refusal) : EndsSettled s (.refused r) := by
  rintro t ⟨⟩

theorem fault (s : State) (r : Fault) : EndsSettled s (.fault r) := by
  rintro t ⟨⟩

theorem ite {s : State} {p : Prop} [Decidable p] {x y : Host.Outcome State Fault Refusal} (hx : EndsSettled s x)
    (hy : EndsSettled s y) : EndsSettled s (if p then x else y) := by
  split
  · exact hx
  · exact hy

theorem regEffect (f : State → Option State) (s : State) : EndsSettled s (regEffect f s) := by
  unfold Machine.regEffect
  split
  · exact next _ rfl
  · exact fault s _

theorem descriptorCommand (r op : Nat) (d : BitVec 512) (checks : State → List Check) (body : Nat → State → State)
    (s : State) : EndsSettled s (descriptorCommand r op d checks body s) :=
  ite (refused s _) (effect _ s)

end EndsSettled

/-- Every command that answers a next state ends settled: register writes that may stop a transfer, descriptors, commands with
operands of a form, and all others by their effect. -/
theorem exec_endsSettled (c : Instr) (s : State) : EndsSettled s (exec c s) := by
  unfold exec
  cases c with
  | registerWrite | sdmaGo | sdmaStop | sdmaDone | tw0WriteByte => exact .regEffect _ s
  | nop | stage | commit | trayRead | freeze | exportStart | release | obuf | eot => exact .descriptorCommand _ _ _ _ _ s
  | stageInd | sensor | data => exact .ite (.refused s _) (.descriptorCommand _ _ _ _ _ s)
  | codewordReceived | chainCodewordReceived => exact .ite (.effect _ s) (.refused s _)
  | temperatureSample => exact .ite (.refused s _) (.effect _ s)
  | trainingHelperGo => exact .ite (.effect _ s) (.ite (.fault s _) (.effect _ s))
  | bootStart b => exact .ite (.refused s _) (.ite (.effect _ s) (.next _ rfl))
  | _ => exact .effect _ s

theorem exec_sound {c : Instr} {s t : State} (h : exec c s = .next t) : t.Sound := by
  obtain ⟨s0, u, -, rfl⟩ := exec_endsSettled c s t h
  exact settle_sound s0 u

theorem exec_pending {c : Instr} {s t : State} (h : exec c s = .next t) : t.pending = s.pending := by
  obtain ⟨s0, u, same, rfl⟩ := exec_endsSettled c s t h
  exact same

/-! ### Time that passes -/

theorem elapse_clock (s : State) (n : Nat) : (s.elapse n).clock = s.clock + n := rfl

/-- Each base advances at its own rate; a gap of the main rails makes its error estimate grow faster (R40, R41). -/
theorem base_elapse (s : State) (n : Nat) (b : Fin 4) : (s.elapse n).base b =
    (s.base b).advance (s.rate b) (if s.power.pstate = .keep then 5000 else s.field .timeHoldPpb 0 0 0 20) n
      (s.power.pstate = .keep) := by
  by_cases gap : s.power.pstate = .keep <;> match b with
    | 0 | 1 | 2 | 3 => simp [State.elapse, State.base, gap]

theorem State.Sound.elapse {s : State} (h : s.Sound) (n : Nat) : (s.elapse n).Sound := by
  obtain ⟨raised, held, service⟩ := h
  refine ⟨raised, held, service.trans ?_⟩
  rfl

/-- Settles O3: a command ends settled, which is sound, and time that passes keeps what is. -/
theorem stepKeepsSound : Obligations.StepKeepsSound := by
  refine ⟨fun s t sound h => ?_, fun c s t => exec_pending⟩
  unfold step at h
  split at h
  · cases h
    exact sound.elapse 1
  · exact exec_sound h

/-! ### The queue and the machine at reset -/

/-- Settles O1: the front command runs with the rest of the queue. -/
theorem stepRunsFrontCommand : Obligations.StepRunsFrontCommand := fun _ _ _ => rfl

/-- What one time clock adds to a base. -/
theorem advance_one (t : TimeBase) (rate hold : Nat) (gap : Prop) [Decidable gap] :
    t.advance rate (if gap then 5000 else hold) 1 (decide gap) = { t with
      acc := t.acc + rate
      growth := t.growth + (if gap then 5000 else if t.state = .locked then 0 else hold) } := by
  by_cases g : gap <;> by_cases l : t.state = .locked <;> simp [TimeBase.advance, g, l]

/-- TB2 takes no correction (R35). -/
theorem tb2_elapse_one (s : State) : (s.elapse 1).tb2.acc = s.tb2.acc + 262144 * 2 ^ 40 := by
  have rate : s.rate 2 = 262144 * 2 ^ 40 := by simp [State.rate, nominal]
  have acc : (s.elapse 1).tb2.acc = s.tb2.acc + 1 * s.rate 2 := rfl
  rw [acc, rate, Nat.one_mul]

/-- Settles O2: a step on an empty queue is one time clock, in which each base gains its rate. -/
theorem emptyQueueLetsOneClockPass : Obligations.EmptyQueueLetsOneClockPass := by
  intro s empty
  refine ⟨s.elapse 1, by simp only [step, empty], rfl, tb2_elapse_one s, fun b => ?_, rfl⟩
  rw [base_elapse, advance_one]

/-- Settles O4: nothing is listed at reset, so every register holds its reset value. -/
theorem resetIsAsNew : Obligations.ResetIsAsNew := by
  have bases : ∀ b : Fin 4, (State.reset.base b).acc = 0 ∧ (State.reset.base b).state = .free ∧
      (State.reset.base b).errb = decide (b ≠ 2) := by decide
  exact ⟨⟨rfl, Nat.zero_le _, rfl⟩, rfl, rfl, fun _ _ _ => rfl, bases, rfl, rfl, rfl⟩

end Sys2Proof.Machine
end

section
/-!
SUPPORT. The register map (R460, R461): an offset names at most one register. Two registers of the map lie apart either because one
ends below the other, or because they share a stride and never meet within it. From this O5.
-/
namespace Sys2Proof.Machine

/-! ### One register -/

/-- The offset behind the last instance of a row. -/
def RegRow.last (r : RegRow) : Nat := r.base + r.s1 * (r.n1 - 1) + r.s2 * (r.n2 - 1) + 1

/-- The instances of a row by their second index lie within its first stride. -/
def RegRow.nested (r : RegRow) : Bool := decide (0 < r.s2 ∧ 0 < r.n1 ∧ 0 < r.n2 ∧ r.s2 * (r.n2 - 1) < r.s1)

theorem row_nested (n : RegName) : n.row.nested = true := by
  cases n <;> decide

/-- A register is found at its own offset in its own row. -/
theorem hit_off {n : RegName} {i j : Nat} (hi : i < n.row.n1) (hj : j < n.row.n2) : n.hit (n.off i j) = some ⟨n, i, j⟩ := by
  obtain ⟨pos, -, -, inner⟩ : 0 < n.row.s2 ∧ 0 < n.row.n1 ∧ 0 < n.row.n2 ∧ n.row.s2 * (n.row.n2 - 1) < n.row.s1 := by
    simpa [RegRow.nested] using row_nested n
  have within : n.row.s2 * j < n.row.s1 := lt_of_le_of_lt (Nat.mul_le_mul_left _ (by omega)) inner
  have place : n.off i j - n.row.base = n.row.s2 * j + n.row.s1 * i := by
    unfold RegName.off
    omega
  have above : ¬ n.off i j < n.row.base := by
    unfold RegName.off
    omega
  have first : (n.row.s2 * j + n.row.s1 * i) / n.row.s1 = i := by
    rw [Nat.add_mul_div_left _ _ (by omega), Nat.div_eq_of_lt within, Nat.zero_add]
  have rest : (n.row.s2 * j + n.row.s1 * i) % n.row.s1 = n.row.s2 * j := by
    rw [Nat.add_mul_mod_self_left, Nat.mod_eq_of_lt within]
  simp [RegName.hit, above, place, first, rest, Nat.mul_div_cancel_left j pos, hi, hj]

/-- What a row finds at an offset is an instance of the row that lies there. -/
theorem hit_eq_some {m : RegName} {off : Nat} {r : RegAt} (h : m.hit off = some r) :
    ∃ i j, i < m.row.n1 ∧ j < m.row.n2 ∧ off = m.off i j := by
  simp only [RegName.hit] at h
  split at h
  · cases h
  next above =>
    split at h
    next found =>
      simp only [Bool.and_eq_true, decide_eq_true_eq] at found
      obtain ⟨⟨hi, hj⟩, whole⟩ := found
      refine ⟨_, _, hi, hj, ?_⟩
      have outer := Nat.div_add_mod (off - m.row.base) m.row.s1
      have inner := Nat.div_add_mod ((off - m.row.base) % m.row.s1) m.row.s2
      unfold RegName.off
      omega
    next => cases h

theorem base_le_off (n : RegName) (i j : Nat) : n.row.base ≤ n.off i j := by
  unfold RegName.off
  omega

theorem off_lt_last {n : RegName} {i j : Nat} (hi : i < n.row.n1) (hj : j < n.row.n2) : n.off i j < n.row.last := by
  have outer : n.row.s1 * i ≤ n.row.s1 * (n.row.n1 - 1) := Nat.mul_le_mul_left _ (by omega)
  have inner : n.row.s2 * j ≤ n.row.s2 * (n.row.n2 - 1) := Nat.mul_le_mul_left _ (by omega)
  unfold RegName.off RegRow.last
  omega

theorem off_mod (n : RegName) (i j : Nat) : n.off i j % n.row.s1 = (n.row.base + n.row.s2 * j) % n.row.s1 := by
  rw [RegName.off, Nat.add_right_comm, Nat.add_mul_mod_self_left]

/-! ### Two registers -/

/-- The rows have no offset in common: one ends below the other, or within the stride that both have they never meet. -/
def RegRow.apart (m n : RegRow) : Bool :=
  decide (m.last ≤ n.base) || decide (n.last ≤ m.base) || (decide (m.s1 = n.s1) &&
    (List.range m.n2).all fun j => (List.range n.n2).all fun k =>
      decide ((m.base + m.s2 * j) % m.s1 ≠ (n.base + n.s2 * k) % m.s1))

theorem off_ne_of_apart {m n : RegName} (h : m.row.apart n.row = true) {i j k l : Nat} (hi : i < m.row.n1)
    (hj : j < m.row.n2) (hk : k < n.row.n1) (hl : l < n.row.n2) : m.off i j ≠ n.off k l := by
  have mLast := off_lt_last hi hj
  have nLast := off_lt_last hk hl
  have mBase := base_le_off m i j
  have nBase := base_le_off n k l
  simp only [RegRow.apart, Bool.or_eq_true, Bool.and_eq_true, decide_eq_true_eq, List.all_eq_true, List.mem_range] at h
  obtain (below | above) | ⟨stride, never⟩ := h
  · omega
  · omega
  · intro same
    refine never j hj l hl ?_
    rw [← off_mod, same, stride, off_mod]

theorem hit_eq_none_of_apart {m n : RegName} (h : m.row.apart n.row = true) {k l : Nat} (hk : k < n.row.n1)
    (hl : l < n.row.n2) : m.hit (n.off k l) = none := by
  by_contra found
  obtain ⟨r, hr⟩ := Option.ne_none_iff_exists'.mp found
  obtain ⟨i, j, hi, hj, same⟩ := hit_eq_some hr
  exact off_ne_of_apart h hi hj hk hl same.symm

/-! ### The map -/

/-- Each of the two lists of the map holds registers that lie apart. -/
theorem regNames_apart : regNamesA.Pairwise (fun m n => m.row.apart n.row = true) ∧
    regNamesB.Pairwise (fun m n => m.row.apart n.row = true) := by
  decide +kernel

/-- The first list holds the registers below the WALL block, the second the others. -/
theorem regNames_split (n : RegName) :
    (n ∈ regNamesA ∧ n.row.last ≤ 0x200000) ∨ (n ∈ regNamesB ∧ 0x200000 ≤ n.row.base) := by
  cases n <;> decide

theorem findSome?_hit_off {names : List RegName} (apart : names.Pairwise fun m n => m.row.apart n.row = true)
    {n : RegName} (mem : n ∈ names) {i j : Nat} (hi : i < n.row.n1) (hj : j < n.row.n2) :
    names.findSome? (·.hit (n.off i j)) = some ⟨n, i, j⟩ := by
  obtain ⟨before, behind, rfl⟩ := List.append_of_mem mem
  have own := hit_off hi hj
  induction before with
  | nil => simp [own]
  | cons m before ih =>
    rw [List.cons_append, List.findSome?_cons]
    obtain ⟨first, rest⟩ := List.pairwise_cons.mp apart
    rw [hit_eq_none_of_apart (first n (by simp)) hi hj]
    exact ih rest (by simp)

/-- Settles O5: no two registers share an offset, and each is found at its own. -/
theorem registerMapUnambiguous : Obligations.RegisterMapUnambiguous := by
  intro n i j hi hj
  obtain ⟨apartA, apartB⟩ := regNames_apart
  have above := base_le_off n i j
  have below := off_lt_last hi hj
  unfold locate
  obtain ⟨mem, last⟩ | ⟨mem, base⟩ := regNames_split n
  · rw [if_pos (by omega)]
    exact findSome?_hit_off apartA mem hi hj
  · rw [if_neg (by omega)]
    exact findSome?_hit_off apartB mem hi hj

end Sys2Proof.Machine
end

section
/-!
SUPPORT. DRAM behind its address split (R351): no two addresses meet in a channel, a write changes the bytes it names and ends the
poison of their units (R360), and a read of units without upset bits answers what the memory holds. From these O47.
-/
namespace Sys2Proof.Machine

/-! ### The address split -/

/-- The physical address of a DRAM address, where a channel is active. -/
def State.physOf (s : State) (a : Nat) : Option Nat := (s.dramSplit a).map fun c => phys c.1 c.2

/-- The stripe of the address split (R351). -/
def State.stripe (s : State) : Nat := if s.flag .dramMap 0 0 2 then 4096 else 256

theorem stripe_eq (s : State) : s.stripe = 256 ∨ s.stripe = 4096 := by
  unfold State.stripe
  split
  · exact .inr rfl
  · exact .inl rfl

theorem dramSplit_eq (s : State) (a : Nat) : s.dramSplit a =
    if s.active.length = 0 then none
    else some (s.active.getD (a / s.stripe % s.active.length) 0, a / s.stripe / s.active.length * s.stripe + a % s.stripe) := rfl

theorem dramSplit_isSome {s : State} (h : s.active ≠ []) (a : Nat) : ∃ c, s.dramSplit a = some c := by
  rw [dramSplit_eq, if_neg (by simpa using h)]
  exact ⟨_, rfl⟩

/-- Addresses of one unit lie side by side in one channel. -/
theorem dramSplit_add {s : State} {a i ch l : Nat} (h : s.dramSplit a = some (ch, l)) (unit : a % 64 + i < 64) :
    s.dramSplit (a + i) = some (ch, l + i) := by
  rw [dramSplit_eq] at h ⊢
  have row : (a + i) / s.stripe = a / s.stripe := by
    obtain e | e := stripe_eq s <;> rw [e] <;> omega
  have rest : (a + i) % s.stripe = a % s.stripe + i := by
    obtain e | e := stripe_eq s <;> rw [e] <;> omega
  rw [row, rest]
  split at h
  · cases h
  next on =>
    simp only [Option.some.injEq, Prod.mk.injEq] at h
    obtain ⟨rfl, rfl⟩ := h
    rw [if_neg on, Nat.add_assoc]

/-- The split keeps the place within a unit. -/
theorem dramSplit_mod {s : State} {a ch l : Nat} (h : s.dramSplit a = some (ch, l)) : l % 64 = a % 64 := by
  rw [dramSplit_eq] at h
  split at h
  · cases h
  · simp only [Option.some.injEq, Prod.mk.injEq] at h
    obtain ⟨-, rfl⟩ := h
    generalize a / s.stripe / s.active.length = k
    obtain e | e := stripe_eq s <;> rw [e] <;> omega

theorem phys_mod (ch l : Nat) : phys ch l % 64 = l % 64 := by
  unfold phys
  omega

/-- An address of the unit of a. -/
theorem dramSplit_unit {s : State} {a ch l : Nat} (h : s.dramSplit a = some (ch, l)) :
    s.dramSplit (a / 64 * 64) = some (ch, l / 64 * 64) := by
  obtain ⟨⟨ch', l'⟩, start⟩ : ∃ c, s.dramSplit (a / 64 * 64) = some c := by
    refine dramSplit_isSome ?_ _
    rintro none
    simp [dramSplit_eq, none] at h
  have here := dramSplit_add start (i := a % 64) (by omega)
  rw [Nat.div_add_mod'] at here
  have aligned := dramSplit_mod start
  have inside := dramSplit_mod h
  obtain ⟨rfl, rfl⟩ : ch = ch' ∧ l = l' + a % 64 := by simpa [h] using here
  have l' : l' = (l' + a % 64) / 64 * 64 := by omega
  rw [start, ← l']

theorem phys_unit (ch l : Nat) : phys ch (l / 64 * 64) = phys ch l / 64 * 64 := by
  unfold phys
  omega

/-- A channel-local address of the address space lies in its channel's 8 GiB. -/
theorem dramSplit_lt {s : State} {a ch l : Nat} (h : s.dramSplit a = some (ch, l)) (ha : a < s.dramSize) : l < 2 ^ 33 := by
  rw [dramSplit_eq] at h
  unfold State.dramSize at ha
  split at h
  · cases h
  next on =>
    simp only [Option.some.injEq, Prod.mk.injEq] at h
    obtain ⟨-, rfl⟩ := h
    obtain e | e := stripe_eq s
    · have rows : a / s.stripe / s.active.length < 2 ^ 25 := by
        rw [e, Nat.div_lt_iff_lt_mul (by omega)]
        omega
      rw [e] at *
      omega
    · have rows : a / s.stripe / s.active.length < 2 ^ 21 := by
        rw [e, Nat.div_lt_iff_lt_mul (by omega)]
        omega
      rw [e] at *
      omega

theorem phys_inj {c d l m : Nat} (hl : l < 2 ^ 33) (hm : m < 2 ^ 33) (h : phys c l = phys d m) : c = d ∧ l = m := by
  unfold phys at h
  omega

/-- Two addresses of the address space have different places. -/
theorem physOf_inj {s : State} {a b p : Nat} (nodup : s.active.Nodup) (ha : a < s.dramSize) (hb : b < s.dramSize)
    (pa : s.physOf a = some p) (pb : s.physOf b = some p) : a = b := by
  obtain ⟨⟨c, l⟩, sa, rfl⟩ := Option.map_eq_some_iff.mp pa
  obtain ⟨⟨d, m⟩, sb, same⟩ := Option.map_eq_some_iff.mp pb
  obtain ⟨rfl, rfl⟩ := phys_inj (dramSplit_lt sb hb) (dramSplit_lt sa ha) same
  rw [dramSplit_eq] at sa sb
  split at sa
  · cases sa
  next on =>
    rw [if_neg on] at sb
    simp only [Option.some.injEq, Prod.mk.injEq] at sa sb
    obtain ⟨chan, rfl⟩ := sa
    obtain ⟨chan', l⟩ := sb
    have count : 0 < s.active.length := Nat.pos_of_ne_zero on
    have column : a / s.stripe % s.active.length = b / s.stripe % s.active.length := by
      have ma := Nat.mod_lt (a / s.stripe) count
      have mb := Nat.mod_lt (b / s.stripe) count
      rw [List.getD_eq_getElem _ _ ma] at chan
      rw [List.getD_eq_getElem _ _ mb] at chan'
      exact (nodup.getElem_inj_iff).mp (chan.trans chan'.symm)
    have pos : 0 < s.stripe := by
      obtain e | e := stripe_eq s <;> omega
    have rest : b % s.stripe = a % s.stripe := by
      have := congrArg (· % s.stripe) l
      simpa [Nat.add_mod] using this
    have row : b / s.stripe / s.active.length = a / s.stripe / s.active.length := by
      rw [rest] at l
      exact Nat.eq_of_mul_eq_mul_right pos (Nat.add_right_cancel l)
    have unit : a / s.stripe = b / s.stripe := by
      rw [← Nat.div_add_mod (a / s.stripe) s.active.length, ← Nat.div_add_mod (b / s.stripe) s.active.length, row, column]
    rw [← Nat.div_add_mod a s.stripe, ← Nat.div_add_mod b s.stripe, unit, rest]

/-! ### Upset bits -/

theorem unitUpset_eq_false_iff (s : State) (p : Nat) :
    s.unitUpset p = false ↔ ∀ q, p / 8 ≤ q → q < p / 8 + 8 → Store.get 0 s.upsets q = 0 := by
  simp only [State.unitUpset, List.any_eq_false, List.mem_range, decide_eq_true_eq, not_not]
  refine ⟨fun h q lo hi => ?_, fun h b hb => h _ (by omega) (by omega)⟩
  simpa [Nat.add_sub_cancel' lo] using h (q - p / 8) (by omega)

theorem get_foldl_put_zero (p : Nat) (bs : List Nat) (u : Store (BitVec 80)) (q : Nat) :
    Store.get 0 (bs.foldl (fun u b => Store.put 0 u (p + b) 0) u) q =
      if ∃ b ∈ bs, q = p + b then 0 else Store.get 0 u q := by
  induction bs generalizing u with
  | nil => simp
  | cons b bs ih =>
    rw [List.foldl_cons, ih, Store.get_put]
    by_cases later : ∃ c ∈ bs, q = p + c
    · simp [later]
    · by_cases here : q = p + b <;> simp [later, here]

/-- Clearing a unit's upset bits clears them and no others. -/
theorem get_setUpsets_zero (s : State) (p q : Nat) :
    Store.get 0 (s.setUpsets p (List.replicate 8 0)).upsets q =
      if p / 8 ≤ q ∧ q < p / 8 + 8 then 0 else Store.get 0 s.upsets q := by
  have zeros : ∀ b, (List.replicate 8 (0 : BitVec 80)).getD b 0 = 0 := fun b => by
    rw [List.getD_eq_getElem?_getD, List.getElem?_replicate]
    split <;> rfl
  have range : (∃ b ∈ List.range 8, q = p / 8 + b) ↔ p / 8 ≤ q ∧ q < p / 8 + 8 := by
    refine ⟨?_, fun h => ⟨q - p / 8, by simp; omega, by omega⟩⟩
    rintro ⟨b, hb, rfl⟩
    simp only [List.mem_range] at hb
    omega
  simp only [State.setUpsets, zeros, get_foldl_put_zero, range]

/-! ### Writes -/

/-- A write leaves everything but memory and upset bits alone. -/
theorem writeUnit_frame (s : State) (a : Nat) (bs : List Byte) :
    s.writeUnit a bs = { s with dram := (s.writeUnit a bs).dram, upsets := (s.writeUnit a bs).upsets } := by
  unfold State.writeUnit
  split
  · rfl
  · split
    · rfl
    · dsimp only
      split <;> rfl

theorem writeUnits_frame (n : Nat) (s : State) (a : Nat) (bs : List Byte) :
    s.writeUnits a bs n = { s with dram := (s.writeUnits a bs n).dram, upsets := (s.writeUnits a bs n).upsets } := by
  induction n generalizing s a bs with
  | zero => rfl
  | succ n ih =>
    unfold State.writeUnits
    split
    · rfl
    · dsimp only
      rw [ih, writeUnit_frame]

theorem writeDram_frame (s : State) (a : Nat) (bs : List Byte) :
    s.writeDram a bs = { s with dram := (s.writeDram a bs).dram, upsets := (s.writeDram a bs).upsets } :=
  writeUnits_frame ..

@[simp] theorem writeUnit_dramSplit (s : State) (a b : Nat) (bs : List Byte) :
    (s.writeUnit a bs).dramSplit b = s.dramSplit b := by
  rw [writeUnit_frame]
  rfl

@[simp] theorem writeUnit_physOf (s : State) (a b : Nat) (bs : List Byte) : (s.writeUnit a bs).physOf b = s.physOf b := by
  simp only [State.physOf, writeUnit_dramSplit]

@[simp] theorem writeUnit_chan (s : State) (a n : Nat) (bs : List Byte) : (s.writeUnit a bs).chan n = s.chan n := by
  rw [writeUnit_frame]
  rfl

@[simp] theorem writeUnit_active (s : State) (a : Nat) (bs : List Byte) : (s.writeUnit a bs).active = s.active := by
  rw [writeUnit_frame]

@[simp] theorem writeUnit_dramSize (s : State) (a : Nat) (bs : List Byte) : (s.writeUnit a bs).dramSize = s.dramSize := by
  simp only [State.dramSize, writeUnit_active]

@[simp] theorem writeDram_dramSplit (s : State) (a b : Nat) (bs : List Byte) :
    (s.writeDram a bs).dramSplit b = s.dramSplit b := by
  rw [writeDram_frame]
  rfl

@[simp] theorem writeDram_physOf (s : State) (a b : Nat) (bs : List Byte) : (s.writeDram a bs).physOf b = s.physOf b := by
  simp only [State.physOf, writeDram_dramSplit]

@[simp] theorem writeDram_chan (s : State) (a n : Nat) (bs : List Byte) : (s.writeDram a bs).chan n = s.chan n := by
  rw [writeDram_frame]
  rfl

@[simp] theorem writeDram_active (s : State) (a : Nat) (bs : List Byte) : (s.writeDram a bs).active = s.active := by
  rw [writeDram_frame]

section
variable {s : State} {a ch l : Nat} (place : s.dramSplit a = some (ch, l)) (live : (s.chan ch).state ≠ .retired)
include place live

theorem writeUnit_dram (bs : List Byte) : (s.writeUnit a bs).dram = Memory.writeBytes s.dram (phys ch l) bs := by
  simp only [State.writeUnit, place, if_neg live]
  split <;> rfl

/-- The unit written has no upset bits any more; those of other units stay. -/
theorem writeUnit_upsets (bs : List Byte) (q : Nat) : Store.get 0 (s.writeUnit a bs).upsets q =
    if q / 8 = phys ch l / 64 then 0 else Store.get 0 s.upsets q := by
  have unit : q / 8 = phys ch l / 64 ↔ phys ch l / 64 * 64 / 8 ≤ q ∧ q < phys ch l / 64 * 64 / 8 + 8 := by omega
  simp only [State.writeUnit, place, if_neg live, unit]
  split
  next upset => rw [get_setUpsets_zero]
  next clean =>
    have zero := (unitUpset_eq_false_iff _ _).mp (Bool.not_eq_true _ ▸ clean)
    split
    next within => exact zero q within.1 within.2
    next => rfl

end

/-- A write ends poison and begins none. -/
theorem unitUpset_writeUnit {s : State} {p : Nat} (clean : s.unitUpset p = false) (a : Nat) (bs : List Byte) :
    (s.writeUnit a bs).unitUpset p = false := by
  rw [unitUpset_eq_false_iff] at clean ⊢
  intro q lo hi
  cases place : s.dramSplit a with
  | none => simpa [State.writeUnit, place] using clean q lo hi
  | some c =>
    obtain ⟨ch, l⟩ := c
    by_cases live : (s.chan ch).state = .retired
    · simpa [State.writeUnit, place, live] using clean q lo hi
    · rw [writeUnit_upsets place live, clean q lo hi, ite_self]

theorem unitUpset_writeUnits {p : Nat} (n : Nat) {s : State} (clean : s.unitUpset p = false) (a : Nat) (bs : List Byte) :
    (s.writeUnits a bs n).unitUpset p = false := by
  induction n generalizing s a bs with
  | zero => exact clean
  | succ n ih =>
    unfold State.writeUnits
    split
    · exact clean
    · exact ih (unitUpset_writeUnit clean ..) ..

theorem unitUpset_writeDram {p : Nat} {s : State} (clean : s.unitUpset p = false) (a : Nat) (bs : List Byte) :
    (s.writeDram a bs).unitUpset p = false := unitUpset_writeUnits _ clean ..

/-- A write within a unit changes no byte that it does not name. -/
theorem read_writeUnit_outside {s : State} {a q : Nat} {bs : List Byte} (unit : a % 64 + bs.length ≤ 64)
    (other : ∀ k, k < bs.length → s.physOf (a + k) ≠ some q) :
    Memory.read (s.writeUnit a bs).dram q = Memory.read s.dram q := by
  cases place : s.dramSplit a with
  | none => simp [State.writeUnit, place]
  | some c =>
    obtain ⟨ch, l⟩ := c
    by_cases live : (s.chan ch).state = .retired
    · simp [State.writeUnit, place, live]
    · rw [writeUnit_dram place live]
      refine Memory.read_writeBytes_outside bs s.dram (phys ch l) q ?_
      by_contra within
      refine other (q - phys ch l) (by omega) ?_
      rw [State.physOf, dramSplit_add place (by omega)]
      simp only [Option.map_some, phys, Option.some.injEq]
      unfold phys at within
      omega

theorem read_writeUnits_outside {q : Nat} (n : Nat) {s : State} {a : Nat} {bs : List Byte}
    (other : ∀ k, k < bs.length → s.physOf (a + k) ≠ some q) :
    Memory.read (s.writeUnits a bs n).dram q = Memory.read s.dram q := by
  induction n generalizing s a bs with
  | zero => rfl
  | succ n ih =>
    unfold State.writeUnits
    split
    · rfl
    · dsimp only
      have first : ∀ k, k < (bs.take (64 - a % 64)).length → s.physOf (a + k) ≠ some q := fun k hk =>
        other k (by simp only [List.length_take] at hk; omega)
      rw [ih, read_writeUnit_outside (by simp only [List.length_take]; omega) first]
      intro k hk
      rw [writeUnit_physOf, Nat.add_assoc]
      exact other _ (by simp only [List.length_drop] at hk; omega)

theorem read_writeDram_outside {s : State} {a q : Nat} {bs : List Byte}
    (other : ∀ k, k < bs.length → s.physOf (a + k) ≠ some q) :
    Memory.read (s.writeDram a bs).dram q = Memory.read s.dram q := read_writeUnits_outside _ other

/-- No active channel is retired, and none is listed twice. -/
structure State.Serving (s : State) : Prop where
  nodup : s.active.Nodup
  live : ∀ n ∈ s.active, (s.chan n).state ≠ .retired

theorem State.Serving.split {s : State} (h : s.Serving) {a : Nat} (on : s.active ≠ []) :
    ∃ ch l, s.dramSplit a = some (ch, l) ∧ (s.chan ch).state ≠ .retired := by
  have count : s.active.length ≠ 0 := by simpa using on
  refine ⟨_, _, by rw [dramSplit_eq, if_neg count], h.live _ ?_⟩
  rw [List.getD_eq_getElem _ _ (Nat.mod_lt _ (Nat.pos_of_ne_zero count))]
  exact List.getElem_mem _

theorem State.Serving.writeUnit {s : State} (h : s.Serving) (a : Nat) (bs : List Byte) : (s.writeUnit a bs).Serving :=
  ⟨by simpa using h.nodup, by simpa using h.live⟩

theorem ne_nil_of_lt_dramSize {s : State} {a : Nat} (h : a < s.dramSize) : s.active ≠ [] := by
  rintro none
  simp [State.dramSize, none] at h

/-- Each byte written stands where its address lies, and its unit has no upset bits left. -/
theorem writeUnits_inside {n : Nat} {s : State} {a k p : Nat} {bs : List Byte} (serving : s.Serving)
    (space : a + bs.length ≤ s.dramSize) (enough : a % 64 + bs.length ≤ 64 * n) (hk : k < bs.length)
    (place : s.physOf (a + k) = some p) :
    Memory.read (s.writeUnits a bs n).dram p = bs.getD k 0 ∧ (s.writeUnits a bs n).unitUpset (p / 64 * 64) = false := by
  induction n generalizing s a k bs with
  | zero => omega
  | succ n ih =>
    have some_byte : bs.isEmpty = false := by
      cases bs with
      | nil => simp at hk
      | cons => rfl
    unfold State.writeUnits
    rw [some_byte, if_neg Bool.false_ne_true]
    dsimp only
    by_cases later : 64 - a % 64 ≤ k
    · have tail := ih (k := k - (64 - a % 64)) (bs := bs.drop (64 - a % 64)) (a := a + (64 - a % 64))
        (serving.writeUnit a (bs.take (64 - a % 64))) (by simp only [List.length_drop, writeUnit_dramSize]; omega)
        (by simp only [List.length_drop]; omega) (by simp only [List.length_drop]; omega)
        (by rw [writeUnit_physOf, ← place]; congr 1; omega)
      rwa [List.getD_eq_getElem?_getD, List.getElem?_drop, Nat.add_sub_cancel' later, ← List.getD_eq_getElem?_getD] at tail
    · obtain ⟨ch, l, split, live⟩ := serving.split (a := a) (ne_nil_of_lt_dramSize (a := a) (by omega))
      have here : phys ch l + k = p := by
        rw [State.physOf, dramSplit_add split (by omega)] at place
        simpa [phys, Nat.add_assoc] using place
      have inUnit := phys_mod ch l
      rw [dramSplit_mod split] at inUnit
      constructor
      · rw [read_writeUnits_outside, writeUnit_dram split live, ← here,
          Memory.read_writeBytes_inside _ _ _ _ (by simp only [List.length_take]; omega)]
        · rw [List.getD_eq_getElem?_getD, List.getElem?_take, if_pos (by omega), ← List.getD_eq_getElem?_getD]
        · intro i hi same
          simp only [List.length_drop] at hi
          rw [writeUnit_physOf] at same
          have := physOf_inj serving.nodup (by omega) (by omega) same place
          omega
      · refine unitUpset_writeUnits n ?_ _ _
        rw [unitUpset_eq_false_iff]
        intro q lo hi
        rw [writeUnit_upsets split live, if_pos (by omega)]

theorem writeDram_inside {s : State} {a k p : Nat} {bs : List Byte} (serving : s.Serving)
    (space : a + bs.length ≤ s.dramSize) (hk : k < bs.length) (place : s.physOf (a + k) = some p) :
    Memory.read (s.writeDram a bs).dram p = bs.getD k 0 ∧ (s.writeDram a bs).unitUpset (p / 64 * 64) = false :=
  writeUnits_inside serving space (by omega) hk place

/-! ### Reads -/

/-- The byte that memory holds for a DRAM address. -/
def State.dramByte (s : State) (a : Nat) : Byte := ((s.physOf a).map (Memory.read s.dram)).getD 0

theorem readBytes_eq_map (m : Memory) (n p : Nat) : Memory.readBytes m p n = (List.range' p n).map m.read := by
  induction n generalizing p with
  | zero => rfl
  | succ n ih => rw [Memory.readBytes, ih, List.range'_succ, List.map_cons]

/-- A unit that reads as it stands: its channel serves and no beat of it is upset. -/
def State.UnitReads (s : State) (a : Nat) : Prop :=
  ∃ ch l, s.dramSplit a = some (ch, l) ∧ (s.chan ch).state ≠ .retired ∧ s.unitUpset (phys ch l) = false

theorem readUnits_of_reads {s : State} (n : Nat) {a : Nat} (aligned : a % 64 = 0) (reads : ∀ i < n, s.UnitReads (a + 64 * i)) :
    s.readUnits a n = (((List.range' a (64 * n)).map s.dramByte, []), s) := by
  induction n generalizing a with
  | zero => rfl
  | succ n ih =>
    obtain ⟨ch, l, split, live, clean⟩ := reads 0 (by omega)
    rw [Nat.mul_zero, Nat.add_zero] at split
    have bytes : Memory.readBytes s.dram (phys ch l) 64 = (List.range' a 64).map s.dramByte := by
      rw [readBytes_eq_map, List.range'_eq_map_range, List.range'_eq_map_range, List.map_map, List.map_map]
      refine List.map_congr_left fun i hi => ?_
      have inUnit : a % 64 + i < 64 := by
        have := List.mem_range.mp hi
        omega
      simp [State.dramByte, State.physOf, dramSplit_add split inUnit, phys, Nat.add_assoc]
    have later := ih (a := a + 64) (by omega) fun i hi => by
      rw [show a + 64 + 64 * i = a + 64 * (i + 1) by omega]
      exact reads (i + 1) (by omega)
    have whole : List.range' a (64 * (n + 1)) = List.range' a 64 ++ List.range' (a + 64) (64 * n) := by
      rw [show 64 * (n + 1) = 64 + 64 * n by omega, ← List.range'_append_1]
    rw [whole, List.map_append]
    simp [State.readUnits, split, State.readUnit, live, clean, later, bytes]

/-- A read whose units read as they stand. -/
theorem readDram_of_reads {s : State} {a len : Nat}
    (reads : ∀ i < (a + len + 63) / 64 - a / 64, s.UnitReads (a / 64 * 64 + 64 * i)) :
    s.readDram a len = (((List.range' a len).map s.dramByte, []), s) := by
  have units := readUnits_of_reads ((a + len + 63) / 64 - a / 64) (a := a / 64 * 64) (by omega) reads
  have first : (List.range' (a / 64 * 64) (64 * ((a + len + 63) / 64 - a / 64))).drop (a - a / 64 * 64) =
      List.range' a (64 * ((a + len + 63) / 64 - a / 64) - (a - a / 64 * 64)) := by
    rw [List.drop_range']
    congr 1
    omega
  have asked : (List.range' a (64 * ((a + len + 63) / 64 - a / 64) - (a - a / 64 * 64))).take len = List.range' a len := by
    obtain ⟨k, whole⟩ : ∃ k, 64 * ((a + len + 63) / 64 - a / 64) - (a - a / 64 * 64) = len + k :=
      ⟨64 * ((a + len + 63) / 64 - a / 64) - (a - a / 64 * 64) - len, by omega⟩
    rw [whole, ← List.range'_append_1, List.take_left' List.length_range']
  simp only [State.readDram, units, ← List.map_drop, ← List.map_take, first, asked]

/-- What was written is read back, none of it poisoned. -/
theorem readDram_writeDram {s : State} {a : Nat} {bs : List Byte} (serving : s.Serving) (some_byte : bs ≠ [])
    (space : a + bs.length ≤ s.dramSize) : ((s.writeDram a bs).readDram a bs.length).1 = (bs, []) := by
  have len : 0 < bs.length := List.length_pos_iff.mpr some_byte
  have on := ne_nil_of_lt_dramSize (s := s) (a := a) (by omega)
  have reads : ∀ i < (a + bs.length + 63) / 64 - a / 64, (s.writeDram a bs).UnitReads (a / 64 * 64 + 64 * i) := by
    intro i hi
    obtain ⟨k, hk, unit⟩ : ∃ k < bs.length, (a + k) / 64 * 64 = a / 64 * 64 + 64 * i := by
      by_cases zero : i = 0
      · exact ⟨0, len, by omega⟩
      · exact ⟨64 * i - a % 64, by omega, by omega⟩
    obtain ⟨ch, l, split, live⟩ := serving.split (a := a + k) on
    refine ⟨ch, l / 64 * 64, ?_, by simpa using live, ?_⟩
    · rw [writeDram_dramSplit, ← unit, dramSplit_unit split]
    · rw [phys_unit]
      exact (writeDram_inside serving space hk (by simp [State.physOf, split])).2
  rw [readDram_of_reads reads]
  refine Prod.ext ?_ rfl
  refine List.ext_getElem (by simp) fun k hk hk' => ?_
  obtain ⟨ch, l, split, -⟩ := serving.split (a := a + k) on
  have place : s.physOf (a + k) = some (phys ch l) := by simp [State.physOf, split]
  have byte := (writeDram_inside serving space hk' place).1
  rw [List.getD_eq_getElem _ _ hk'] at byte
  simp [State.dramByte, place, byte]

/-! ### The canonical form -/

theorem writeUnit_wf {s : State} (h : Memory.wf s.dram = true) (a : Nat) (bs : List Byte) :
    Memory.wf (s.writeUnit a bs).dram = true := by
  unfold State.writeUnit
  split
  · exact h
  · split
    · exact h
    · dsimp only
      split <;> exact Memory.writeBytes_wf _ _ _ h

theorem writeUnits_wf (n : Nat) {s : State} (h : Memory.wf s.dram = true) (a : Nat) (bs : List Byte) :
    Memory.wf (s.writeUnits a bs n).dram = true := by
  induction n generalizing s a bs with
  | zero => exact h
  | succ n ih =>
    unfold State.writeUnits
    split
    · exact h
    · exact ih (writeUnit_wf h ..) ..

/-- A read writes at most the bytes of one unit, corrected or poisoned. -/
theorem decodeUnit_dram (s : State) (ch l src : Nat) (beats : List (BitVec 80)) :
    (s.decodeUnit ch l src beats).2.dram = s.dram ∨
      ∃ bytes, (s.decodeUnit ch l src beats).2.dram = Memory.writeBytes s.dram (phys ch l) bytes := by
  unfold State.decodeUnit
  dsimp only
  split
  · exact .inl rfl
  · split
    · refine .inr ⟨beatBytes beats, ?_⟩
      split <;> rfl
    · split
      · exact .inl rfl
      · exact .inr ⟨_, rfl⟩

theorem readUnits_wf (n : Nat) {s : State} (h : Memory.wf s.dram = true) (a : Nat) :
    Memory.wf (s.readUnits a n).2.dram = true := by
  induction n generalizing s a with
  | zero => exact h
  | succ n ih =>
    unfold State.readUnits
    refine ih ?_ (a + 64)
    split
    · unfold State.readUnit
      split
      · exact h
      split
      · obtain same | ⟨bytes, written⟩ := decodeUnit_dram s _ _ 1 (s.unitBeats _)
        · rw [same]
          exact h
        · rw [written]
          exact Memory.writeBytes_wf _ _ _ h
      · exact h
    · exact h

/-! ### Cells -/

/-- In each address order a cell holds one beat of its channel (R352). -/
theorem beat_eq_of_dramCell_eq {s : State} {l m : Nat} (hl : l < 2 ^ 33) (hm : m < 2 ^ 33) (h : s.dramCell l = s.dramCell m) :
    l / 8 = m / 8 := by
  unfold State.dramCell at h
  split at h <;> simp only [DramCell.mk.injEq] at h <;> obtain ⟨row, group, bank, column⟩ := h
  · omega
  · omega
  · omega
  · rw [row, Nat.xor_left_inj] at group
    rw [row, Nat.xor_left_inj] at bank
    omega

/-- Settles O47: what DRAM reads back, what a write leaves alone, the canonical form, and the cells of the address orders. -/
theorem dramHoldsWhatIsWritten : Obligations.DramHoldsWhatIsWritten :=
  ⟨fun _ _ _ nodup live some_byte space => readDram_writeDram ⟨nodup, live⟩ some_byte space,
    fun _ _ _ _ other => read_writeDram_outside other, fun _ a bs h => writeUnits_wf _ h a bs,
    fun _ _ _ h => readUnits_wf _ h _, fun _ _ _ hl hm h => beat_eq_of_dramCell_eq hl hm h⟩

end Sys2Proof.Machine
end

section
/-!
SUPPORT. Service DMA between two ranges of DRAM (R392, R393, R397): each word read is the word written, delivery between the words
touches no memory, and so what has moved stands at the destination. From these O54.
-/
namespace Sys2Proof.Machine

/-! ### Memory without upset bits -/

theorem unitUpset_of_nil {s : State} (h : s.upsets = []) (p : Nat) : s.unitUpset p = false := by
  rw [unitUpset_eq_false_iff, h]
  exact fun _ _ _ => rfl

theorem writeUnit_upsets_nil {s : State} (h : s.upsets = []) (a : Nat) (bs : List Byte) : (s.writeUnit a bs).upsets = [] := by
  unfold State.writeUnit
  split
  · exact h
  · split
    · exact h
    · rw [if_neg (Bool.eq_false_iff.mp (unitUpset_of_nil (by exact h) _))]
      exact h

theorem writeDram_upsets_nil {s : State} (h : s.upsets = []) (a : Nat) (bs : List Byte) : (s.writeDram a bs).upsets = [] := by
  unfold State.writeDram
  generalize bs.length / 64 + 2 = n
  induction n generalizing s a bs with
  | zero => exact h
  | succ n ih =>
    unfold State.writeUnits
    split
    · exact h
    · exact ih (writeUnit_upsets_nil h ..) ..

/-- A read of memory without upset bits answers its bytes and changes nothing. -/
theorem readDram_clean {s : State} (serving : s.Serving) (clean : s.upsets = []) {a len : Nat} (space : a + len ≤ s.dramSize) :
    s.readDram a len = (((List.range' a len).map s.dramByte, []), s) := by
  refine readDram_of_reads fun i hi => ?_
  have on : s.active ≠ [] := by
    rintro none
    simp only [State.dramSize, none, List.length_nil] at space
    omega
  obtain ⟨ch, l, split, live⟩ := serving.split (a := a / 64 * 64 + 64 * i) on
  exact ⟨ch, l, split, live, unitUpset_of_nil clean _⟩

/-- What a byte of DRAM is after a write. -/
theorem dramByte_writeDram {s : State} {a b : Nat} {bs : List Byte} (serving : s.Serving)
    (space : a + bs.length ≤ s.dramSize) (hb : b < s.dramSize) :
    (s.writeDram a bs).dramByte b = if a ≤ b ∧ b < a + bs.length then bs.getD (b - a) 0 else s.dramByte b := by
  obtain ⟨ch, l, split, -⟩ := serving.split (a := b) (ne_nil_of_lt_dramSize hb)
  have place : s.physOf b = some (phys ch l) := by simp [State.physOf, split]
  simp only [State.dramByte, writeDram_physOf, place, Option.map_some, Option.getD_some]
  split
  next within =>
    rw [← Nat.add_sub_cancel' within.1] at place
    exact (writeDram_inside serving space (by omega) place).1
  next outside =>
    refine read_writeDram_outside fun k hk same => outside ?_
    have := physOf_inj serving.nodup (by omega) hb same place
    omega

/-- A word is the four bytes that spell it. -/
theorem leBytes_ofLe (bs : List Byte) : leBytes bs.length (ofLe bs) = bs := by
  induction bs with
  | nil => rfl
  | cons b bs ih =>
    have rest : (b.toNat + 256 * ofLe bs) / 256 = ofLe bs := by
      have := b.isLt
      omega
    simp only [List.length_cons, leBytes, ofLe, rest, ih]
    congr 1
    apply BitVec.eq_of_toNat_eq
    simp only [BitVec.toNat_ofNat]
    have := b.isLt
    omega

theorem ofLe_lt (bs : List Byte) : ofLe bs < 256 ^ bs.length := by
  induction bs with
  | nil => simp [ofLe]
  | cons b bs ih =>
    have := b.isLt
    rw [ofLe, List.length_cons, Nat.pow_succ]
    omega

theorem leBytes_word {bs : List Byte} (h : bs.length = 4) : leBytes 4 (ofLe bs % 4294967296) = bs := by
  have bound := ofLe_lt bs
  rw [h] at bound
  rw [Nat.mod_eq_of_lt (by omega), ← h, leBytes_ofLe]

/-! ### What a transfer needs -/

theorem deliveryReg_of_ge {off : Nat} (h : 0x380230 ≤ off) : deliveryReg off = false := by
  simp only [deliveryReg, Bool.or_eq_false_iff, Bool.and_eq_false_iff, decide_eq_false_iff_not]
  omega

/-- The blocks behind EVT are left alone by the delivery of events. -/
theorem State.Kept.reg {s t : State} (h : s.Kept t) {n : RegName} (behind : 0x380230 ≤ n.row.base) (i j : Nat) :
    t.reg n i j = s.reg n i j :=
  h.regs _ _ (deliveryReg_of_ge (behind.trans (base_le_off n i j)))

theorem State.Kept.flag {s t : State} (h : s.Kept t) {n : RegName} (behind : 0x380230 ≤ n.row.base) (i j k : Nat) :
    t.flag n i j k = s.flag n i j k := by
  rw [State.flag, h.reg behind]
  rfl

theorem State.Kept.field {s t : State} (h : s.Kept t) {n : RegName} (behind : 0x380230 ≤ n.row.base) (i j k l : Nat) :
    t.field n i j k l = s.field n i j k l := by
  rw [State.field, h.reg behind]
  rfl

@[simp] theorem writeDram_sdmaChan (s : State) (a c : Nat) (bs : List Byte) : (s.writeDram a bs).sdmaChan c = s.sdmaChan c := by
  rw [writeDram_frame]
  rfl

@[simp] theorem writeDram_regs (s : State) (a : Nat) (bs : List Byte) : (s.writeDram a bs).regs = s.regs := by
  rw [writeDram_frame]

@[simp] theorem writeDram_chans (s : State) (a : Nat) (bs : List Byte) : (s.writeDram a bs).chans = s.chans := by
  rw [writeDram_frame]

/-- A transfer is what the registers say. -/
theorem sdma_congr {s t : State} (h : t.regs = s.regs) (c : Nat) :
    t.sdmaSrc c = s.sdmaSrc c ∧ t.sdmaDst c = s.sdmaDst c ∧ t.sdmaCount c = s.sdmaCount c := by
  simp only [State.sdmaSrc, State.sdmaDst, State.sdmaCount, State.flag, State.field, State.reg, h, and_self]

theorem State.CopyReady.serving {s : State} {c : Nat} (h : s.CopyReady c) : s.Serving := by
  obtain ⟨-, -, -, -, -, -, -, -, -, -, -, -, -, nodup, live, -⟩ := h
  exact ⟨nodup, live⟩

theorem dramSplit_congr {s t : State} (stripe : t.stripe = s.stripe) (active : t.active = s.active) (a : Nat) :
    t.dramSplit a = s.dramSplit a := by
  rw [dramSplit_eq, dramSplit_eq, stripe, active]

/-- DRAM of `u` is that of `s` with k bytes of channel c's source at its destination. -/
structure State.DramCopied (s u : State) (c k : Nat) : Prop where
  split : ∀ a, u.dramSplit a = s.dramSplit a
  active : u.active = s.active
  chans : u.chans = s.chans
  clean : u.upsets = []
  bytes : ∀ b < s.dramSize, u.dramByte b =
    if (s.sdmaDst c).addr ≤ b ∧ b < (s.sdmaDst c).addr + k then s.dramByte ((s.sdmaSrc c).addr + (b - (s.sdmaDst c).addr))
    else s.dramByte b

/-- Channel c of `u` has moved k bytes of the transfer that it is about to begin in `s`. -/
structure State.CopyAt (s u : State) (c k : Nat) : Prop extends s.DramCopied u c k where
  src : u.sdmaSrc c = s.sdmaSrc c
  dst : u.sdmaDst c = s.sdmaDst c
  count : u.sdmaCount c = s.sdmaCount c
  own : u.sdmaChan c = { s.sdmaChan c with moved := k }
  others : ∀ d, d ≠ c → u.sdmaChan d = s.sdmaChan d

section
variable {s u v : State} {c k : Nat}

theorem State.DramCopied.dramSize (h : s.DramCopied u c k) : u.dramSize = s.dramSize := by
  rw [State.dramSize, h.active]
  rfl

theorem State.DramCopied.serving (h : s.DramCopied u c k) (serving : s.Serving) : u.Serving := by
  obtain ⟨nodup, live⟩ := serving
  refine ⟨by rwa [h.active], fun n hn => ?_⟩
  rw [State.chan, h.chans]
  exact live n (h.active ▸ hn)

/-- Same memory, same split, same channels. -/
theorem State.DramCopied.congr (h : s.DramCopied u c k) (dram : v.dram = u.dram) (split : ∀ a, v.dramSplit a = u.dramSplit a)
    (active : v.active = u.active) (chans : v.chans = u.chans) (upsets : v.upsets = u.upsets) : s.DramCopied v c k where
  split a := (split a).trans (h.split a)
  active := active.trans h.active
  chans := chans.trans h.chans
  clean := upsets.trans h.clean
  bytes b hb := by
    rw [← h.bytes b hb]
    simp only [State.dramByte, State.physOf, split, dram]

theorem State.Kept.dramSplit (h : u.Kept v) (a : Nat) : v.dramSplit a = u.dramSplit a := by
  refine dramSplit_congr ?_ h.active a
  rw [State.stripe, h.flag (n := .dramMap) (by decide)]
  rfl

theorem State.DramCopied.kept (h : s.DramCopied u c k) (g : u.Kept v) : s.DramCopied v c k :=
  h.congr g.dram g.dramSplit g.active g.chans g.upsets

theorem State.CopyAt.kept (h : s.CopyAt u c k) (g : u.Kept v) : s.CopyAt v c k where
  toDramCopied := h.toDramCopied.kept g
  src := by
    rw [← h.src]
    simp only [State.sdmaSrc, g.flag (n := .sdmaCfg) (by decide), g.reg (n := .sdmaSrcLo) (by decide),
      g.field (n := .sdmaSrcHi) (by decide)]
  dst := by
    rw [← h.dst]
    simp only [State.sdmaDst, g.flag (n := .sdmaCfg) (by decide), g.reg (n := .sdmaDstLo) (by decide),
      g.field (n := .sdmaDstHi) (by decide)]
  count := by
    rw [← h.count]
    simp only [State.sdmaCount, g.reg (n := .sdmaCount) (by decide)]
  own := by rw [← h.own, State.sdmaChan, g.sdma]; rfl
  others d ne := by rw [← h.others d ne, State.sdmaChan, g.sdma]; rfl

/-- Between two words the events of the clock are delivered, which touches no transfer. -/
theorem State.CopyAt.endClock (h : s.CopyAt u c k) : s.CopyAt u.endClock c k :=
  State.CopyAt.kept (u := { u with service := u.serviceNow }) ⟨⟨h.split, h.active, h.chans, h.clean, h.bytes⟩, h.src, h.dst,
    h.count, h.own, h.others⟩ (settle_kept u)

end

/-! ### Words -/

section
variable {s u : State} {c k : Nat} (ready : s.CopyReady c)
include ready

/-- The next word of the source as it is read. -/
theorem readDram_word (at_k : s.CopyAt u c k) (more : k + 4 ≤ s.sdmaCount c) :
    u.readDram ((s.sdmaSrc c).addr + k) 4 = (((List.range' ((s.sdmaSrc c).addr + k) 4).map u.dramByte, []), u) := by
  have serving := at_k.serving ready.serving
  have size := at_k.dramSize
  obtain ⟨-, -, -, -, -, -, -, -, -, -, srcEnd, -⟩ := ready
  exact readDram_clean serving at_k.clean (by omega)

/-- The word read is the word written, and the transfer goes on. -/
theorem sdmaWord_eq (at_k : s.CopyAt u c k) (more : k + 4 ≤ s.sdmaCount c) :
    u.sdmaWord c = some ((u.writeDram ((s.sdmaDst c).addr + k) ((List.range' ((s.sdmaSrc c).addr + k) 4).map u.dramByte)).setSdma c
      { s.sdmaChan c with moved := k + 4 }) := by
  have serving := at_k.serving ready.serving
  have read := readDram_word ready at_k more
  obtain ⟨busy, -, -, srcMem, dstMem, srcInc, dstInc, -, -, -, srcEnd, dstEnd, -, -, -, -⟩ := ready
  have size := at_k.dramSize
  have srcAt : (s.sdmaSrc c).at k = (s.sdmaSrc c).addr + k := by simp [SdmaSide.at, srcInc]
  have dstAt : (s.sdmaDst c).at k = (s.sdmaDst c).addr + k := by simp [SdmaSide.at, dstInc]
  have live (a : Nat) (ha : a < s.dramSize) : ∃ ch l, u.dramSplit a = some (ch, l) ∧ (u.chan ch).state ≠ .retired :=
    serving.split (ne_nil_of_lt_dramSize (a := a) (by omega))
  have inside : u.sdmaPastEnd (s.sdmaSrc c) k = false ∧ u.sdmaPastEnd (s.sdmaDst c) k = false := by
    simp only [State.sdmaPastEnd, srcMem, dstMem, srcAt, dstAt, size, Bool.not_false, Bool.true_and, decide_eq_false_iff_not]
    omega
  have srcLive : u.sdmaRetired (s.sdmaSrc c) k = false := by
    obtain ⟨ch, l, split, serves⟩ := live ((s.sdmaSrc c).addr + k) (by omega)
    simp [State.sdmaRetired, srcMem, srcAt, split, serves]
  have dstLive : u.sdmaRetired (s.sdmaDst c) k = false := by
    obtain ⟨ch, l, split, serves⟩ := live ((s.sdmaDst c).addr + k) (by omega)
    simp [State.sdmaRetired, dstMem, dstAt, split, serves]
  generalize bytes : (List.range' ((s.sdmaSrc c).addr + k) 4).map u.dramByte = bs at read ⊢
  have four : bs.length = 4 := by simp [← bytes]
  simp [State.sdmaWord, at_k.own, at_k.src, at_k.dst, inside, srcLive, dstLive, State.sdmaRead, srcMem, srcAt, read,
    State.sdmaWrite, dstMem, dstAt, leBytes_word four, busy]

/-- With the word written, four bytes more stand at the destination. -/
theorem dramByte_word (at_k : s.CopyAt u c k) (more : k + 4 ≤ s.sdmaCount c) {b : Nat} (hb : b < s.dramSize) :
    (u.writeDram ((s.sdmaDst c).addr + k) ((List.range' ((s.sdmaSrc c).addr + k) 4).map u.dramByte)).dramByte b =
      if (s.sdmaDst c).addr ≤ b ∧ b < (s.sdmaDst c).addr + (k + 4) then s.dramByte ((s.sdmaSrc c).addr + (b - (s.sdmaDst c).addr))
      else s.dramByte b := by
  have serving := at_k.serving ready.serving
  have size := at_k.dramSize
  obtain ⟨-, -, -, -, -, -, -, -, -, -, srcEnd, dstEnd, apart, -, -, -⟩ := ready
  rw [dramByte_writeDram serving (by simp; omega) (by omega), List.length_map, List.length_range']
  split
  next within =>
    rw [if_pos (by omega), List.getD_eq_getElem _ _ (by simp; omega), List.getElem_map, List.getElem_range',
      at_k.bytes _ (by omega), if_neg (by omega)]
    congr 1
    omega
  next outside =>
    rw [at_k.bytes b hb]
    by_cases before : (s.sdmaDst c).addr ≤ b ∧ b < (s.sdmaDst c).addr + k
    · rw [if_pos before, if_pos (by omega)]
    · rw [if_neg before, if_neg (by omega)]

omit ready in
/-- A word more, where memory holds it and the split, the channels and the transfers are as they were. -/
theorem State.CopyAt.next {w : State} (at_k : s.CopyAt u c k) (split : ∀ a, w.dramSplit a = u.dramSplit a)
    (active : w.active = u.active) (chans : w.chans = u.chans) (clean : w.upsets = []) (regs : w.regs = u.regs)
    (sdma : ∀ d, w.sdmaChan d = u.sdmaChan d)
    (bytes : ∀ b < s.dramSize, w.dramByte b = if (s.sdmaDst c).addr ≤ b ∧ b < (s.sdmaDst c).addr + (k + 4)
      then s.dramByte ((s.sdmaSrc c).addr + (b - (s.sdmaDst c).addr)) else s.dramByte b) :
    s.CopyAt (w.setSdma c { s.sdmaChan c with moved := k + 4 }) c (k + 4) := by
  obtain ⟨src, dst, count⟩ := sdma_congr (s := u) (t := w.setSdma c { s.sdmaChan c with moved := k + 4 }) regs c
  exact {
    split := fun a => (split a).trans (at_k.split a)
    active := active.trans at_k.active
    chans := chans.trans at_k.chans
    clean := clean
    bytes := bytes
    src := src.trans at_k.src, dst := dst.trans at_k.dst, count := count.trans at_k.count
    own := by rw [State.sdmaChan_setSdma, if_pos rfl]
    others := fun d ne => by rw [State.sdmaChan_setSdma, if_neg ne, sdma, at_k.others d ne] }

/-- The next word moves from the source to the destination. -/
theorem sdmaWord_copies (at_k : s.CopyAt u c k) (more : k + 4 ≤ s.sdmaCount c) :
    ∃ v, u.sdmaWord c = some v ∧ s.CopyAt v c (k + 4) :=
  ⟨_, sdmaWord_eq ready at_k more, at_k.next (writeDram_dramSplit u _ · _) (writeDram_active ..) (writeDram_chans ..)
    (writeDram_upsets_nil at_k.clean _ _) (writeDram_regs ..) (writeDram_sdmaChan u _ · _)
    fun _ hb => dramByte_word ready at_k more hb⟩

theorem sdmaWords_copies (n : Nat) (at_k : s.CopyAt u c k) (more : k + 4 * n ≤ s.sdmaCount c) :
    ∃ v, u.sdmaWords c n = some v ∧ s.CopyAt v c (k + 4 * n) := by
  induction n generalizing u k with
  | zero => exact ⟨u, rfl, at_k⟩
  | succ n ih =>
    have ⟨busy, _, noStop, _⟩ := ready
    obtain ⟨w, word, at_w⟩ := sdmaWord_copies ready at_k (by omega)
    obtain ⟨v, words, at_v⟩ := ih at_w.endClock (by omega)
    refine ⟨v, ?_, by rwa [show k + 4 * (n + 1) = k + 4 + 4 * n by omega]⟩
    have runs : (u.sdmaChan c).busy = true ∧ (u.sdmaChan c).stop = none := by
      rw [at_k.own]
      exact ⟨busy, noStop c⟩
    simp [State.sdmaWords, runs, word, words]

end

/-! ### The end of a transfer -/

/-- Channel c has ended with a CODE and k bytes counted, and no other transfer is to stop. -/
structure State.CopyEnded (s t : State) (c k code : Nat) : Prop extends s.DramCopied t c k where
  idle : (t.sdmaChan c).busy = false
  done : (t.sdmaChan c).done = true
  code : (t.sdmaChan c).code = BitVec.ofNat 4 code
  counted : t.reg .sdmaBytes c = BitVec.ofNat 32 k
  noStop : t.NoStop

section
variable {s u : State} {c k code : Nat}

theorem State.CopyEnded.kept {t : State} (h : s.CopyEnded u c k code) (g : u.Kept t) : s.CopyEnded t c k code where
  toDramCopied := h.toDramCopied.kept g
  idle := by rw [State.sdmaChan, g.sdma]; exact h.idle
  done := by rw [State.sdmaChan, g.sdma]; exact h.done
  code := by rw [State.sdmaChan, g.sdma]; exact h.code
  counted := (g.reg (by decide) c 0).trans h.counted
  noStop d := by rw [State.sdmaChan, g.sdma]; exact h.noStop d

variable (ready : s.CopyReady c)
include ready

theorem sdmaEnd_copied (at_k : s.CopyAt u c k) (quiet : code < 4) : s.CopyEnded (u.sdmaEnd c code) c k code := by
  obtain ⟨-, -, noStop, -⟩ := ready
  have own := at_k.own
  have ended : u.sdmaEnd c code = (u.setSdma c { u.sdmaChan c with busy := false, done := true, code := BitVec.ofNat 4 code
      }).setReg .sdmaBytes c 0 (BitVec.ofNat 32 (u.sdmaChan c).moved) := if_neg (by omega)
  have chans (d : Nat) : (u.sdmaEnd c code).sdmaChan d =
      if d = c then { u.sdmaChan c with busy := false, done := true, code := BitVec.ofNat 4 code } else u.sdmaChan d := by
    rw [ended]
    exact State.sdmaChan_setSdma ..
  refine { toDramCopied := at_k.toDramCopied.congr (by rw [ended]; rfl) (fun a => ?_) (by rw [ended]; rfl) (by rw [ended]; rfl)
             (by rw [ended]; rfl)
           idle := by rw [chans, if_pos rfl], done := by rw [chans, if_pos rfl], code := by rw [chans, if_pos rfl]
           counted := by rw [ended, State.reg_setReg_self, own], noStop := fun d => ?_ }
  · refine dramSplit_congr ?_ (by rw [ended]; rfl) a
    rw [ended, State.stripe, State.flag,
      State.reg_setReg_of_ne _ _ _ _ _ _ _ _ (by simp [RegName.off, RegName.row]; omega)]
    rfl
  · rw [chans]
    split
    · rw [own]
      exact noStop c
    next other =>
      rw [at_k.others d other]
      exact noStop d

/-- n words move and the transfer ends. -/
theorem sdmaRun_copies {n : Nat} (at_0 : s.CopyAt u c 0) (quiet : code < 4) (fits : 4 * n ≤ s.sdmaCount c) :
    ∃ t, u.sdmaRun c n code = some t ∧ s.CopyEnded t c (4 * n) code := by
  obtain ⟨v, words, at_v⟩ := sdmaWords_copies ready n at_0 (by omega)
  rw [Nat.zero_add] at at_v
  refine ⟨v.sdmaEnd c code, ?_, sdmaEnd_copied ready at_v quiet⟩
  obtain ⟨busy, -, noStop, -⟩ := ready
  have runs : (v.sdmaChan c).busy = true ∧ (v.sdmaChan c).stop = none := by
    rw [at_v.own]
    exact ⟨busy, noStop c⟩
  simp [State.sdmaRun, words, runs]

/-- What has moved stands at the destination, and what has not moved is as it was there. -/
theorem readDram_copied {t : State} (copied : s.DramCopied t c k) (fits : k ≤ s.sdmaCount c) :
    (t.readDram (s.sdmaDst c).addr k).1 = ((s.readDram (s.sdmaSrc c).addr k).1.1, []) ∧
    (t.readDram ((s.sdmaDst c).addr + k) (s.sdmaCount c - k)).1.1 =
      (s.readDram ((s.sdmaDst c).addr + k) (s.sdmaCount c - k)).1.1 := by
  have serving := ready.serving
  have size := copied.dramSize
  obtain ⟨-, -, -, -, -, -, -, -, -, -, srcEnd, dstEnd, -, -, -, clean⟩ := ready
  rw [readDram_clean (copied.serving serving) copied.clean (by omega), readDram_clean serving clean (by omega),
    readDram_clean (copied.serving serving) copied.clean (by omega), readDram_clean serving clean (by omega)]
  constructor
  · refine Prod.ext (List.ext_getElem (by simp) fun i hi _ => ?_) rfl
    simp only [List.length_map, List.length_range'] at hi
    simp only [List.getElem_map, List.getElem_range', Nat.one_mul]
    rw [copied.bytes _ (by omega), if_pos (by omega)]
    congr 1
    omega
  · refine List.ext_getElem (by simp) fun i hi _ => ?_
    simp only [List.length_map, List.length_range'] at hi
    simp only [List.getElem_map, List.getElem_range', Nat.one_mul]
    rw [copied.bytes _ (by omega), if_neg (by omega)]

theorem copyAt_self : s.CopyAt s c 0 := by
  obtain ⟨-, moved, -, -, -, -, -, -, -, -, -, -, -, -, -, clean⟩ := ready
  refine ⟨⟨fun _ => rfl, rfl, rfl, clean, fun b _ => (if_neg (by omega)).symm⟩, rfl, rfl, rfl, ?_, fun _ _ => rfl⟩
  rw [← moved]

end

theorem regEffect_of_settles {f : State → Option State} {s t : State} (h : (f s).bind (State.sdmaSettle 64) = some t) :
    regEffect f s = .next (settle { t with pending := s.pending } t) := by
  simp only [regEffect, h]

/-- The settled end of a command whose transfers have ended. -/
theorem regEffect_of_noStop {f : State → Option State} {s t : State} (e : f s = some t) (h : t.NoStop) :
    regEffect f s = .next (settle { t with pending := s.pending } t) :=
  regEffect_of_settles (by rw [e]; exact h.sdmaSettle 64)

theorem State.CopyEnded.settled {s s0 t : State} {c k code : Nat} (h : s.CopyEnded t c k code) :
    s.CopyEnded (settle s0 t) c k code := by
  have ended : s.CopyEnded { t with marks := (settle s0 t).marks, pending := s0.pending, service := (settle s0 t).service } c k code :=
    ⟨⟨h.split, h.active, h.chans, h.clean, h.bytes⟩, h.idle, h.done, h.code, h.counted, h.noStop⟩
  exact ended.kept (settle_frame s0 t)

/-! ### STOP -/

/-- An accepted write of STOP to SDMA_CTRL (R393). -/
theorem accept_stop_hint (s : State) (o : Origin) (c : Nat) (h : WriteHint) :
    s.accept o ⟨.sdmaCtrl, c, 0⟩ 2 h =
      (s.setReg .sdmaCtrl c 0 (RegName.sdmaCtrl.row.merge (s.reg .sdmaCtrl c) 2)).sdmaStop c h := by
  have unmarked : RegAt.marked ⟨.sdmaCtrl, c, 0⟩ = false := by simp [RegAt.marked]
  have go : bitOf 2 0 = false := by decide
  have stop : bitOf 2 1 = true := by decide
  unfold State.accept
  rw [unmarked]
  simp only [reduceCtorEq, if_false, Bool.false_eq_true, State.actsB, State.actsA, State.stored, go, stop, if_true]

/-- STOP of a BUSY channel where the bytes moved are known. -/
theorem sdmaStop_moved {s : State} {c : Nat} (busy : (s.sdmaChan c).busy = true) (n : Nat) :
    s.sdmaStop c { moved := some n } = s.setSdma c { s.sdmaChan c with stop := some n } := by
  exact if_neg (by rw [busy]; decide)

/-- A write that leaves no mark ends as it was accepted. -/
theorem writeNow_of_accepts {s : State} {o : Origin} {r : RegAt} {v : Word} (h : s.Accepts o r v) (hint : WriteHint)
    (unmarked : (s.accept o r v hint).markSeq = s.markSeq) : s.writeNow o (r.name.off r.i r.j) v hint = s.accept o r v hint := by
  obtain ⟨-, located, accepted⟩ := h
  have e : s.writeReg o (r.name.off r.i r.j) v hint = s.accept o r v hint := by simp only [State.writeReg, accepted, located]
  simp only [State.writeNow, e, orderMarks_of_none s _ unmarked]

/-- A transfer told to stop is cut before the command ends, and no other is. -/
theorem sdmaSettle_of_stopped {s u t : State} {c stop : Nat} (hc : c < 8) (told : u.sdmaChan c = { s.sdmaChan c with stop := some stop })
    (busy : (s.sdmaChan c).busy = true) (others : ∀ d, d ≠ c → (u.sdmaChan d).stop = none) (cut : u.sdmaCut c 3 = some t)
    (quiet : t.NoStop) (n : Nat) : State.sdmaSettle (n + 1) u = some t := by
  have first : (List.range 8).find? (fun d => (u.sdmaChan d).busy && (u.sdmaChan d).stop.isSome) = some c := by
    refine List.find?_range_eq_some.mpr ⟨by simp [told, busy], List.mem_range.mpr hc, fun d hd => ?_⟩
    simp [others d (by omega)]
  simp only [State.sdmaSettle, first, cut, Option.bind_some]
  exact quiet.sdmaSettle n

/-- SDMA_CTRL is no part of what a transfer is, nor of the address split. -/
theorem sdma_setReg_ctrl (s : State) (c : Nat) (v : Word) :
    (s.setReg .sdmaCtrl c 0 v).sdmaSrc c = s.sdmaSrc c ∧ (s.setReg .sdmaCtrl c 0 v).sdmaDst c = s.sdmaDst c ∧
    (s.setReg .sdmaCtrl c 0 v).sdmaCount c = s.sdmaCount c ∧ ∀ a, (s.setReg .sdmaCtrl c 0 v).dramSplit a = s.dramSplit a := by
  have kept {n : RegName} {i : Nat} (h : n.off i ≠ RegName.sdmaCtrl.off c) :
      (s.setReg .sdmaCtrl c 0 v).reg n i = s.reg n i := State.reg_setReg_of_ne _ _ _ _ _ _ _ _ h
  have cfg := kept (n := .sdmaCfg) (i := c) (by simp [RegName.off, RegName.row])
  have count := kept (n := .sdmaCount) (i := c) (by simp [RegName.off, RegName.row])
  have map := kept (n := .dramMap) (i := 0) (by simp [RegName.off, RegName.row]; omega)
  refine ⟨?_, ?_, by simp only [State.sdmaCount, count], dramSplit_congr ?_ rfl⟩
  · simp only [State.sdmaSrc, State.flag, State.field, cfg, kept (n := .sdmaSrcLo) (i := c) (by simp [RegName.off, RegName.row]),
      kept (n := .sdmaSrcHi) (i := c) (by simp [RegName.off, RegName.row])]
  · simp only [State.sdmaDst, State.flag, State.field, cfg, kept (n := .sdmaDstLo) (i := c) (by simp [RegName.off, RegName.row]),
      kept (n := .sdmaDstHi) (i := c) (by simp [RegName.off, RegName.row])]
  · rw [State.stripe, State.flag, map]
    rfl

/-- A transfer that a write to SDMA_CTRL finds at its first word is still there. -/
theorem copyAt_setReg_ctrl {s : State} {c : Nat} (ready : s.CopyReady c) (v : Word) :
    s.CopyAt (s.setReg .sdmaCtrl c 0 v) c 0 := by
  obtain ⟨src, dst, count, split⟩ := sdma_setReg_ctrl s c v
  have self := copyAt_self ready
  exact ⟨self.toDramCopied.congr rfl split rfl rfl rfl, src, dst, count, self.own, self.others⟩

/-- The same with the channel told to stop and untold again. -/
theorem State.CopyAt.untold {s u : State} {c k : Nat} (h : s.CopyAt u c k) (x : SdmaChan) :
    s.CopyAt ((u.setSdma c x).setSdma c { s.sdmaChan c with moved := k }) c k := by
  obtain ⟨src, dst, count⟩ :=
    sdma_congr (s := u) (t := (u.setSdma c x).setSdma c { s.sdmaChan c with moved := k }) rfl c
  refine ⟨h.toDramCopied.congr rfl (fun _ => rfl) rfl rfl rfl, src.trans h.src, dst.trans h.dst, count.trans h.count, ?_, ?_⟩
  · rw [State.sdmaChan_setSdma, if_pos rfl]
  · intro d other
    rw [State.sdmaChan_setSdma, if_neg other, State.sdmaChan_setSdma, if_neg other, h.others d other]

/-- STOP behind n bytes: the whole words before it move, and the transfer ends with CODE 3. -/
theorem sdmaStop_copies {s : State} {c : Fin 8} {o : Origin} (ready : s.CopyReady c)
    (accepts : s.Accepts o ⟨.sdmaCtrl, c.val, 0⟩ 2) (n : Nat) :
    ∃ t, exec (.sdmaStop c o n) s = .next t ∧ s.CopyEnded t c (4 * (min n (s.sdmaCount c) / 4)) 3 := by
  have ⟨busy, moved, noStop, _⟩ := ready
  generalize hv : RegName.sdmaCtrl.row.merge (s.reg .sdmaCtrl c) 2 = v
  have at_0 := copyAt_setReg_ctrl ready v
  generalize hu : s.setReg .sdmaCtrl c 0 v = u at at_0
  generalize hx : { s.sdmaChan c with stop := some n } = x
  have chan (d : Nat) : u.sdmaChan d = s.sdmaChan d := by rw [← hu]; rfl
  have stopped : s.accept o ⟨.sdmaCtrl, c, 0⟩ 2 { moved := some n } = u.setSdma c x := by
    rw [accept_stop_hint, hv, hu, sdmaStop_moved (by rw [chan, busy]), chan, hx]
  have told : s.writeNow o (RegName.sdmaCtrl.off c) 2 { moved := some n } = u.setSdma c x := by
    rw [writeNow_of_accepts accepts _ (by rw [stopped, ← hu]; rfl), stopped]
  have own : (u.setSdma c x).sdmaChan c = x := by rw [State.sdmaChan_setSdma, if_pos rfl]
  have untold : { x with stop := none } = { s.sdmaChan c with moved := 0 } := by rw [← hx, ← noStop c, ← moved]
  obtain ⟨t, run, ended⟩ := sdmaRun_copies ready (at_0.untold x) (n := min n (s.sdmaCount c) / 4) (code := 3) (by decide)
    (by omega)
  have cut : (u.setSdma c x).sdmaCut c 3 = some t := by
    have count : (u.setSdma c x).sdmaCount c = s.sdmaCount c := at_0.count
    have stop : x.stop = some n := by rw [← hx]
    rw [← run, State.sdmaCut, own, count, stop, untold]
    rfl
  have settles : State.sdmaSettle 64 (u.setSdma c x) = some t := by
    refine sdmaSettle_of_stopped c.isLt (own.trans hx.symm) busy (fun d other => ?_) cut ended.noStop 63
    rw [State.sdmaChan_setSdma, if_neg other, chan]
    exact noStop d
  have done : exec (.sdmaStop c o n) s = .next (settle { t with pending := s.pending } t) := by
    obtain ⟨reaches, -⟩ := accepts
    show execSdmaStop c o n s = _
    unfold execSdmaStop
    exact regEffect_of_settles (by simp only [reaches, if_true, told, Option.bind_some, settles])
  exact ⟨_, done, ended.settled⟩

/-- Settles O54: a transfer of DRAM to DRAM that runs to its end, and one that a STOP cuts short. -/
theorem serviceDmaCopies : Obligations.ServiceDmaCopies := by
  refine ⟨?done, ?stop⟩
  case done =>
    intro c s ready awake
    have count : 4 * (s.sdmaCount c / 4) = s.sdmaCount c := by
      obtain ⟨-, -, -, -, -, -, -, -, -, whole, -⟩ := ready
      omega
    obtain ⟨t, run, ended⟩ := sdmaRun_copies ready (copyAt_self ready) (code := 1) (by decide) (Nat.le_of_eq count)
    rw [count] at ended
    have live : s.sdmaLive c = true := by
      obtain ⟨busy, -⟩ := ready
      simp [State.sdmaLive, busy, awake]
    have runs : (if s.sdmaLive c then s.sdmaRun c (s.sdmaCount c / 4) 1 else some s) = some t := by rw [if_pos live, run]
    refine ⟨_, regEffect_of_noStop (f := fun s => if s.sdmaLive c then s.sdmaRun c (s.sdmaCount c / 4) 1 else some s) runs
      ended.noStop, ?_⟩
    have settled := ended.settled (s0 := { t with pending := s.pending })
    exact ⟨(readDram_copied ready settled.toDramCopied (Nat.le_refl _)).1, settled.idle, settled.done, settled.code,
      settled.counted⟩
  case stop =>
    intro c o n s ready accepts
    obtain ⟨t, run, ended⟩ := sdmaStop_copies ready accepts n
    refine ⟨_, run, ?_⟩
    obtain ⟨moved, rest⟩ := readDram_copied ready ended.toDramCopied (by omega)
    exact ⟨moved, rest, ended.idle, ended.done, ended.code, ended.counted⟩

end Sys2Proof.Machine
end

section
/-!
SUPPORT. Register writes (R7, R10, R437, R439, R443, R453, R464): what a refused write marks, what an accepted write to a register
that only holds a value stores, and what a write of less than a word or a poisoned one counts. From these O6.
-/
namespace Sys2Proof.Machine

/-! ### Registers that only hold a value -/

section
variable {n : RegName} (plain : n.plain = true)
include plain

theorem stored_of_plain (s : State) (i j : Nat) (v : Word) :
    s.stored ⟨n, i, j⟩ v = s.setReg n i j (n.row.merge (s.reg n i j) v) := by
  cases n <;> cases plain <;> rfl

theorem acts_of_plain (s : State) (o : Origin) (i j : Nat) (old v : Word) (h : WriteHint) :
    (s.actsA o ⟨n, i, j⟩ old v h).actsB o ⟨n, i, j⟩ old v h = s := by
  cases n <;> cases plain <;> rfl

/-- An accepted write to such a register is marked where the register is, and stored. -/
theorem accept_of_plain (s : State) (o : Origin) (i j : Nat) (v : Word) (h : WriteHint) :
    s.accept o ⟨n, i, j⟩ v h =
      (if RegAt.marked ⟨n, i, j⟩ then s.writeMarked o ⟨n, i, j⟩ v else s).setReg n i j (n.row.merge (s.reg n i j) v) := by
  have glb : n ≠ .glbCtrl := by rintro rfl; cases plain
  have cfg : n ≠ .timeCfg := by rintro rfl; cases plain
  unfold State.accept
  simp only [if_neg glb, if_neg cfg, stored_of_plain plain, acts_of_plain plain]
  split <;> rfl

theorem writePastEnd_of_plain {s : State} {o : Origin} {off i j : Nat} {v : Word} (l : locate off = some ⟨n, i, j⟩) :
    s.writePastEnd o off v = false := by
  have other : n ≠ .dramTrnCtl := by rintro rfl; cases plain
  simp [State.writePastEnd, l, other]

end

/-- A whole write that starts no run past the end of DRAM, where what it leaves is sound: nothing follows it. -/
theorem exec_registerWrite_whole {s t : State} {o : Origin} {off : BitVec 26} {v : Word} (reaches : s.writeReaches o = true)
    (within : s.writePastEnd o off.toNat v = false) (e : s.writeNow o off.toNat v = t) (sound : t.Sound) (n : t.NoStop)
    (p : t.pending = s.pending) : exec (.registerWrite o off v .whole) s = .next t := by
  change execRegisterWrite o off v .whole s = .next t
  refine regEffect_of_sound ?_ sound n p
  simp [reaches, within, e]

/-- The one mark of a register write stands where the write put it. -/
theorem writeNow_of_marked {s : State} {o : Origin} {r : RegAt} {v : Word} {h : WriteHint} (a : s.Accepts o r v)
    (marks : (s.accept o r v h).marks = (s.writeMarked o r v).marks) (seq : (s.accept o r v h).markSeq = s.markSeq + 1) :
    s.writeNow o (r.name.off r.i r.j) v h = s.accept o r v h := by
  obtain ⟨-, located, accepted⟩ := a
  have e : s.writeReg o (r.name.off r.i r.j) v h = s.accept o r v h := by simp only [State.writeReg, accepted, located]
  have kept : orderMarks s (s.accept o r v h) = (s.accept o r v h).marks := by
    rw [orderMarks_of_one s _ _ _ seq marks rfl, marks]
    rfl
  simp only [State.writeNow, e, kept]

/-- An accepted whole write to a register that only holds a value ends as it is accepted. -/
theorem exec_registerWrite_of_plain {s : State} {o : Origin} {off : BitVec 26} {v : Word} {r : RegAt} (sound : s.Sound)
    (noStop : s.NoStop) (plain : r.name.plain = true) (l : locate off.toNat = some r) (place : r.name.off r.i r.j = off.toNat)
    (a : s.Accepts o r v) : exec (.registerWrite o off v .whole) s = .next (s.accept o r v {}) := by
  have accepted := accept_of_plain plain s o r.i r.j v {}
  refine exec_registerWrite_whole a.1 (writePastEnd_of_plain plain l) ?_ ?_ ?_ ?_
  · rw [← place]
    by_cases marked : r.marked = true
    · exact writeNow_of_marked a (by rw [accepted, if_pos marked]; rfl) (by rw [accepted, if_pos marked]; rfl)
    · exact writeNow_of_accepts a {} (by rw [accepted, if_neg marked]; rfl)
  all_goals
    rw [accepted]
    split
  · exact State.Sound.setReg (sound.markReg ..) ..
  · exact sound.setReg ..
  · exact noStop
  · exact noStop
  · rfl
  · rfl

/-! ### Less than a word, and poison -/

theorem exec_registerWrite_part {s : State} {o : Origin} {off : BitVec 26} {v : Word} {f : WriteForm} (sound : s.Sound)
    (noStop : s.NoStop) (reaches : s.writeReaches o = true) (part : f ≠ .whole) :
    exec (.registerWrite o off v f) s =
      .next { s.unmapped with out := (if f = .poisoned then [Emission.aer aerPoisoned] else []) ++ s.out } := by
  change execRegisterWrite o off v f s = _
  cases f with
  | whole => exact absurd rfl part
  | lessThanWord => exact regEffect_of_sound (by simp [reaches]; rfl) (sound.setReg ..) noStop rfl
  | poisoned => exact regEffect_of_sound (by simp [reaches]; rfl) ((sound.setReg ..).emit _) noStop rfl

/-- Settles O6: refused writes, accepted writes of a value, and writes that are no whole good word. -/
theorem registerWrites : Obligations.RegisterWrites := by
  refine ⟨?refused, ?accepted, ?part⟩
  case refused =>
    intro o off v r s sound noStop reaches l refused
    refine ⟨_, exec_registerWrite_of_not_accepted reaches (by simp [refused]) (writeNow_refused refused l) (sound.markReg ..)
      noStop rfl, rfl, rfl, ?_, rfl⟩
    exact ⟨{ time := s.stamp, seq := s.markSeq, old := s.regValue r, new := v
             who := BitVec.ofNat 32 (off.toNat / 4 % 2 ^ 21 + 2 ^ 25 + originCode o * 2 ^ 26) },
      by simp [State.markReg, State.mark, keepMarks, bit], rfl, rfl, rfl, rfl, rfl⟩
  case accepted =>
    intro o off v r s sound noStop plain l place a
    refine ⟨_, exec_registerWrite_of_plain sound noStop plain l place a, ?_⟩
    have accepted := accept_of_plain plain s o r.i r.j v {}
    rw [accepted]
    refine ⟨State.reg_setReg_self .., fun d k other => ?_, fun unmarked => ?_, fun marked => ?_, ?_⟩
    · rw [State.get_setReg_of_ne _ _ _ _ _ _ _ (place ▸ other)]
      split <;> rfl
    · rw [if_neg (by simp [unmarked])]
      exact ⟨rfl, rfl⟩
    · rw [if_pos marked]
      exact ⟨rfl, { time := s.stamp, seq := s.markSeq, old := s.regValue r, new := v
                    who := BitVec.ofNat 32 (off.toNat / 4 % 2 ^ 21 + originCode o * 2 ^ 26) },
        by simp [State.writeMarked, State.markReg, State.mark, keepMarks, bit, place], rfl, rfl, rfl, rfl, rfl⟩
    · split <;> rfl
  case part =>
    intro o off v f s sound noStop reaches part
    exact ⟨_, exec_registerWrite_part sound noStop reaches part, State.reg_setReg_self ..,
      fun d k other => State.get_setReg_of_ne _ _ _ _ _ _ _ other, rfl, rfl⟩

end Sys2Proof.Machine
end

section
/-!
SUPPORT. The time bases (02): what a base that is replaced, checked or filtered leaves of itself and of the rest of the device. From
these the source updates, lost sources and manual sets (O10, O11, O12).
-/
namespace Sys2Proof.Machine

/-! ### How a command ends -/

theorem completes_of_effect {c : Instr} {s : State} {f : State → State} {P : State → Prop} (run : exec c s = effect f s)
    (p : P (settle s (f s))) : Completes c s P := ⟨_, run, p⟩

/-- A command that is one register write, accepted. -/
theorem completes_of_write {c : Instr} {s : State} {o : Origin} {n : RegName} {i j : Nat} {v : Word} {P : State → Prop}
    (run : exec c s = effect (fun s => s.writeFrom o n i j v) s) (h : s.Accepts o ⟨n, i, j⟩ v)
    (p : P (settle s (s.accept o ⟨n, i, j⟩ v {}))) : Completes c s P :=
  ⟨_, by rw [run, effect, writeFrom_of_accepts h], p⟩

/-- Two names have no offset in common (O5). -/
theorem off_ne_of_name {m n : RegName} (other : m ≠ n) {i j k l : Nat} (hi : i < m.row.n1) (hj : j < m.row.n2 := by decide)
    (hk : k < n.row.n1 := by assumption) (hl : l < n.row.n2 := by decide) : m.off i j ≠ n.off k l := by
  intro same
  have found := registerMapUnambiguous m i j hi hj
  rw [same, registerMapUnambiguous n k l hk hl] at found
  exact other (congrArg RegAt.name (Option.some.inj found)).symm

/-- A register keeps its value when one of another name is stored. -/
theorem reg_setReg_of_name {m n : RegName} (other : m ≠ n) {i j k l : Nat} (hi : i < m.row.n1) (s : State) (v : Word)
    (hk : k < n.row.n1 := by assumption) (hj : j < m.row.n2 := by decide) (hl : l < n.row.n2 := by decide) :
    (s.setReg n k l v).reg m i j = s.reg m i j :=
  State.reg_setReg_of_ne _ _ _ _ _ _ _ _ (off_ne_of_name other hi hj hk hl)

/-- The blocks below RING hold no register that the delivery of events writes. -/
theorem deliveryReg_of_lt {off : Nat} (h : off < 0x300010) : deliveryReg off = false := by
  simp only [deliveryReg, Bool.or_eq_false_iff, Bool.and_eq_false_iff, decide_eq_false_iff_not]
  omega

theorem settle_base (s u : State) (b : Nat) : (settle s u).base b = u.base b := by
  simp only [State.base, settle_tb0, settle_tb1, settle_tb2, settle_tb3]

theorem settle_stamp (s u : State) (b : Nat) : (settle s u).stamp b = u.stamp b := by
  simp only [State.stamp, settle_base]

/-- The marks of one command that all have one origin stay in the order they came. -/
theorem orderMarks_of_two {s u : State} {m n : Mark} {ms : List Mark} (seq : u.markSeq = s.markSeq + 2)
    (marks : u.marks = n :: m :: ms) (hm : m.seq = s.markSeq) (hn : n.seq = s.markSeq + 1) (same : m.origin = n.origin) :
    orderMarks s u = n :: m :: ms := by
  have two : (u.markSeq - s.markSeq).toNat = 2 := by rw [seq]; simp
  unfold orderMarks
  rw [two, marks]
  have next : m.seq + 1#32 = n.seq := by rw [hm, hn]; rfl
  simp [sortBy, insertBy, renumber, ← hm, same]
  rw [next]

/-! ### ERRB and the chain's flags -/

theorem baseEvent_base (s : State) (b type c : Nat) : (s.baseEvent b type).base c = s.base c := rfl

theorem action_base (s : State) (o : Origin) (code old new c : Nat) : (s.action o code old new).base c = s.base c := rfl

theorem checkErrb_base (s : State) (b c : Nat) : (s.checkErrb b).base c =
    if c % 4 = b % 4 then { s.base c with errb := s.errbNow b } else s.base c := by
  have index : c % 4 = b % 4 → s.base c = s.base b := fun h => by simp only [State.base, h]
  unfold State.checkErrb
  dsimp only
  by_cases same : s.errbNow b = (s.base b).errb
  · rw [if_pos same]
    split
    next e => rw [index e, same]
    next => rfl
  · rw [if_neg same, baseEvent_base, State.base_setBase]
    split
    next e => rw [index e]
    next => rfl

/-- What a change of the bases leaves alone: all but the bases, the chain's flags and the events raised. -/
def State.SameButBases (s t : State) : Prop :=
  t = { s with tb0 := t.tb0, tb1 := t.tb1, tb2 := t.tb2, tb3 := t.tb3, chain := t.chain, raised := t.raised }

theorem State.SameButBases.trans {s t u : State} (h : s.SameButBases t) (g : t.SameButBases u) : s.SameButBases u := by
  unfold State.SameButBases at *
  rw [g, h]

theorem setBase_same (s : State) (b : Nat) (t : TimeBase) : s.SameButBases (s.setBase b t) := by
  unfold State.setBase
  split <;> rfl

theorem baseEvent_same (s : State) (b type : Nat) : s.SameButBases (s.baseEvent b type) := rfl

theorem checkErrb_same (s : State) (b : Nat) : s.SameButBases (s.checkErrb b) := by
  unfold State.checkErrb
  dsimp only
  split
  · rfl
  · exact (setBase_same ..).trans (baseEvent_same ..)

theorem noteTimed_same (s : State) : s.SameButBases s.noteTimed := by
  unfold State.noteTimed State.noteReady
  split
  · split <;> rfl
  · rfl

theorem noteTimed_base (s : State) (b : Nat) : s.noteTimed.base b = s.base b := by
  unfold State.noteTimed State.noteReady
  split
  · split <;> rfl
  · rfl

theorem checkBases_same (s : State) (b : Nat) : s.SameButBases (s.checkBases b) :=
  ((checkErrb_same s b).trans (checkErrb_same _ 1)).trans (noteTimed_same _)

/-- Bringing ERRB up to date touches no more of a base than its ERRB. -/
theorem checkBases_base (s : State) (b c : Nat) : ∃ e, (s.checkBases b).base c = { s.base c with errb := e } := by
  simp only [State.checkBases, noteTimed_base, checkErrb_base]
  split <;> split
  · exact ⟨_, rfl⟩
  · exact ⟨_, rfl⟩
  · exact ⟨_, rfl⟩
  · exact ⟨(s.base c).errb, rfl⟩

/-- It touches no base but the one it is about and TB1. -/
theorem checkBases_base_of_ne {s : State} {b c : Nat} (other : c % 4 ≠ b % 4) (follower : c % 4 ≠ 1) :
    (s.checkBases b).base c = s.base c := by
  simp only [State.checkBases, noteTimed_base, checkErrb_base]
  rw [if_neg follower, if_neg other]

/-! ### A base is replaced -/

/-- The base replaced, with ERRB and the events of its change, before the other bases are looked at. -/
def State.replaced (s : State) (b : Nat) (t : TimeBase) (step : Option Origin) : State :=
  let old := s.base b
  let s := s.setBase b t
  let e := s.errbNow b
  let s := s.setBase b { t with errb := e }
  let s := if old.state = t.state then s else s.baseEvent b 0x0120
  let s := match step with
    | some o => (s.baseEvent b 0x0121).action o 10 b t.epoch.toNat
    | none => s
  if old.errb = e then s else s.baseEvent b 0x0122

theorem rebase_eq (s : State) (b : Nat) (t : TimeBase) (step : Option Origin) :
    s.rebase b t step = (s.replaced b t step).checkBases b := rfl

theorem replaced_base (s : State) (b c : Nat) (t : TimeBase) (step : Option Origin) : ∃ e,
    (s.replaced b t step).base c = if c % 4 = b % 4 then { t with errb := e } else s.base c := by
  refine ⟨(s.setBase b t).errbNow b, ?_⟩
  have set : ((s.setBase b t).setBase b { t with errb := (s.setBase b t).errbNow b }).base c =
      if c % 4 = b % 4 then { t with errb := (s.setBase b t).errbNow b } else s.base c := by
    rw [State.base_setBase]
    split
    next => rfl
    next h => rw [State.base_setBase, if_neg h]
  rw [← set]
  unfold State.replaced
  dsimp only
  generalize (s.setBase b t).setBase b { t with errb := (s.setBase b t).errbNow b } = v
  cases step <;> simp only [apply_ite (fun u : State => u.base c), baseEvent_base, action_base, ite_self]

/-- A replaced base holds the new value but for ERRB; every other base stays, but for TB1's ERRB. -/
theorem rebase_base (s : State) (b c : Nat) (t : TimeBase) (step : Option Origin) : ∃ e,
    (s.rebase b t step).base c = { (if c % 4 = b % 4 then t else s.base c) with errb := e } := by
  obtain ⟨e, he⟩ := replaced_base s b c t step
  obtain ⟨f, hf⟩ := checkBases_base (s.replaced b t step) b c
  refine ⟨f, ?_⟩
  rw [rebase_eq, hf, he]
  split <;> rfl

theorem rebase_base_of_ne {s : State} {b c : Nat} (t : TimeBase) (step : Option Origin) (other : c % 4 ≠ b % 4)
    (follower : c % 4 ≠ 1) : (s.rebase b t step).base c = s.base c := by
  obtain ⟨e, he⟩ := replaced_base s b c t step
  rw [rebase_eq, checkBases_base_of_ne other follower, he, if_neg other]

/-- A base replaced without a step leaves all but the bases alone. -/
theorem rebase_same (s : State) (b : Nat) (t : TimeBase) : s.SameButBases (s.rebase b t) := by
  rw [rebase_eq]
  refine State.SameButBases.trans ?_ (checkBases_same _ b)
  have set := (setBase_same s b t).trans (setBase_same _ b { t with errb := (s.setBase b t).errbNow b })
  unfold State.replaced
  dsimp only
  split <;> split
  · exact set
  · exact set.trans (baseEvent_same ..)
  · exact set.trans (baseEvent_same ..)
  · exact (set.trans (baseEvent_same ..)).trans (baseEvent_same ..)

/-- A step leaves its mark beside that: action 10, of base b, with the new EPOCH (R442). -/
theorem rebase_step_same (s : State) (b : Nat) (t : TimeBase) (o : Origin) : ∃ time, (State.SameButBases
    { s with
      marks := keepMarks ({ time, seq := s.markSeq, who := BitVec.ofNat 32 (10 + 3 * 2 ^ 23 + bit false * 2 ^ 25 + originCode o * 2 ^ 26)
                            old := BitVec.ofNat 32 b, new := BitVec.ofNat 32 t.epoch.toNat } :: s.marks)
      markSeq := s.markSeq + 1 } (s.rebase b t (some o))) := by
  let v : State := (s.setBase b t).setBase b { t with errb := (s.setBase b t).errbNow b }
  let w : State := if (s.base b).state = t.state then v else v.baseEvent b 0x0120
  refine ⟨(w.baseEvent b 0x0121).stamp, ?_⟩
  rw [rebase_eq]
  refine State.SameButBases.trans ?_ (checkBases_same _ b)
  have set : s.SameButBases v := (setBase_same s b t).trans (setBase_same ..)
  have hw : s.SameButBases w := by
    unfold w
    split
    · exact set
    · exact set.trans (baseEvent_same ..)
  have marked : State.SameButBases
      { s with
        marks := keepMarks ({ time := (w.baseEvent b 0x0121).stamp, seq := s.markSeq
                              who := BitVec.ofNat 32 (10 + 3 * 2 ^ 23 + bit false * 2 ^ 25 + originCode o * 2 ^ 26)
                              old := BitVec.ofNat 32 b, new := BitVec.ofNat 32 t.epoch.toNat } :: s.marks)
        markSeq := s.markSeq + 1 } ((w.baseEvent b 0x0121).action o 10 b t.epoch.toNat) := by
    unfold State.SameButBases at hw ⊢
    have seq : w.markSeq = s.markSeq := by rw [hw]
    have marks : w.marks = s.marks := by rw [hw]
    simp only [State.action, State.mark, State.baseEvent, State.raise_frame, seq, marks]
    conv_lhs => rw [hw]
    rfl
  unfold State.replaced
  dsimp only
  split
  · exact marked
  · exact marked.trans (baseEvent_same ..)


/-! ### The servo -/

section
variable (t : TimeBase) (st : BaseState) (clock iv err bound slewMax : Nat) (o : Int)

/-- Entering a state leaves the value, the offset, the EPOCH and the source's data as they are. -/
theorem enter_frame : (t.enter st).acc = t.acc ∧ (t.enter st).fo = t.fo ∧ (t.enter st).epoch = t.epoch ∧
    (t.enter st).state = st ∧ (t.enter st).lastUpdate = t.lastUpdate ∧ (t.enter st).srcErr = t.srcErr ∧
    (t.enter st).lockCount = t.lockCount := by
  cases st <;> exact ⟨rfl, rfl, rfl, rfl, rfl, rfl, rfl⟩

theorem updated_frame : (t.updated clock iv err).acc = t.acc ∧ (t.updated clock iv err).fo = t.fo ∧
    (t.updated clock iv err).epoch = t.epoch ∧ (t.updated clock iv err).lastUpdate = some clock ∧
    (t.updated clock iv err).srcErr = err := by
  unfold TimeBase.updated
  dsimp only
  split <;> exact ⟨rfl, rfl, rfl, rfl, rfl⟩

/-- A source update takes a base out of FREE and HOLDOVER, its count begun anew (R493). -/
theorem updated_state : (t.updated clock iv err).state = (match t.state with
      | .locked => .locked
      | _ => .acquiring) ∧
    (t.updated clock iv err).lockCount = (match t.state with
      | .locked | .acquiring => t.lockCount
      | _ => 0) := by
  unfold TimeBase.updated
  cases h : t.state <;> simp [TimeBase.enter]

theorem judged_frame : (t.judged bound).acc = t.acc ∧ (t.judged bound).fo = t.fo ∧ (t.judged bound).epoch = t.epoch ∧
    (t.judged bound).lastUpdate = t.lastUpdate := by
  by_cases near : t.foNs ≤ bound <;> by_cases many : 7 ≤ t.lockCount <;> cases state : t.state <;>
    simp [TimeBase.judged, TimeBase.enter, near, many, state]

/-- The eighth update in a row within the bound locks a base in ACQUIRING (R40). -/
theorem judged_state : (t.judged bound).state =
    if t.state = .acquiring ∧ 7 ≤ t.lockCount ∧ t.foNs ≤ bound then .locked else t.state := by
  by_cases near : t.foNs ≤ bound <;> by_cases many : 7 ≤ t.lockCount <;> cases state : t.state <;>
    simp [TimeBase.judged, TimeBase.enter, near, many, state]

/-- What one update that does not step makes of a base. -/
def TimeBase.filtered : TimeBase := ((t.updated clock iv err).filter o iv slewMax).judged bound

theorem filtered_frame : (t.filtered clock iv err bound slewMax o).acc = t.acc ∧
    (t.filtered clock iv err bound slewMax o).fo = t.fo + rnd (o - t.fo) 2 ∧
    (t.filtered clock iv err bound slewMax o).epoch = t.epoch ∧
    (t.filtered clock iv err bound slewMax o).lastUpdate = some clock := by
  obtain ⟨acc, fo, epoch, last, -⟩ := updated_frame t clock iv err
  obtain ⟨acc', fo', epoch', last'⟩ := judged_frame ((t.updated clock iv err).filter o iv slewMax) bound
  refine ⟨acc'.trans acc, fo'.trans ?_, epoch'.trans epoch, last'.trans last⟩
  simp only [TimeBase.filter, fo]

theorem filtered_state : (t.filtered clock iv err bound slewMax o).state = (match t.state with
    | .locked => .locked
    | .acquiring =>
      if 7 ≤ t.lockCount ∧ (t.filtered clock iv err bound slewMax o).foNs ≤ bound then .locked else .acquiring
    | _ => .acquiring) := by
  have far : (t.filtered clock iv err bound slewMax o).foNs = ((t.updated clock iv err).filter o iv slewMax).foNs := by
    obtain ⟨-, fo, -⟩ := judged_frame ((t.updated clock iv err).filter o iv slewMax) bound
    simp only [TimeBase.foNs, TimeBase.filtered, fo]
  obtain ⟨state, count⟩ := updated_state t clock iv err
  have state' : ((t.updated clock iv err).filter o iv slewMax).state = (t.updated clock iv err).state := rfl
  have count' : ((t.updated clock iv err).filter o iv slewMax).lockCount = (t.updated clock iv err).lockCount := rfl
  rw [far, TimeBase.filtered, judged_state, state', count', state, count]
  cases t.state <;> simp

end

theorem servo_of_steps {s : State} {b : Nat} {o : Int} (steps : s.steps b o = true) (err : Nat) :
    s.servo b o err = s.rebase b (((s.base b).updated s.clock (s.updateInterval b) err).stepTo
      (Int.ofNat ((s.base b).updated s.clock (s.updateInterval b) err).acc + o * subnsUnits).toNat) (some .mgmt) := by
  simp only [State.servo, steps, if_true]

theorem servo_of_not_steps {s : State} {b : Nat} {o : Int} (steps : s.steps b o = false) (err : Nat) :
    s.servo b o err = s.rebase b ((s.base b).filtered s.clock (s.updateInterval b) err (s.reg .timeBoundNs b).toNat
      (s.slewMax b) o) := by
  simp only [State.servo, steps, TimeBase.filtered, Bool.false_eq_true, if_false]

/-- An update that steps: the base moves by the offset, with a new EPOCH and no offset left. -/
theorem servo_base_of_steps {s : State} {b : Nat} {o : Int} (steps : s.steps b o = true) (err : Nat) :
    ((s.servo b o err).base b).acc = (((s.base b).acc : Int) + o * subnsUnits).toNat ∧ ((s.servo b o err).base b).fo = 0 ∧
    ((s.servo b o err).base b).epoch = (s.base b).epoch + 1 ∧ ((s.servo b o err).base b).lastUpdate = some s.clock ∧
    ((s.servo b o err).base b).srcErr = err := by
  obtain ⟨acc, -, epoch, last, src⟩ := updated_frame (s.base b) s.clock (s.updateInterval b) err
  rw [servo_of_steps steps]
  obtain ⟨e, he⟩ := rebase_base s b b (((s.base b).updated s.clock (s.updateInterval b) err).stepTo
      (Int.ofNat ((s.base b).updated s.clock (s.updateInterval b) err).acc + o * subnsUnits).toNat) (some .mgmt)
  rw [he, if_pos rfl, acc]
  exact ⟨rfl, rfl, congrArg (· + 1) epoch, last, src⟩

/-- A step leaves its mark (R36), and beside that the bases, the chain's flags and events alone change. -/
theorem servo_clock_ptm {s : State} {b : Nat} (o : Int) (err : Nat) :
    (s.servo b o err).clock = s.clock ∧ (s.servo b o err).ptm = s.ptm := by
  by_cases steps : s.steps b o = true
  · rw [servo_of_steps steps]
    obtain ⟨time, same⟩ := rebase_step_same s b (((s.base b).updated s.clock (s.updateInterval b) err).stepTo
      (Int.ofNat ((s.base b).updated s.clock (s.updateInterval b) err).acc + o * subnsUnits).toNat) .mgmt
    unfold State.SameButBases at same
    rw [same]
    exact ⟨rfl, rfl⟩
  · rw [servo_of_not_steps (by simpa using steps)]
    have same := rebase_same s b ((s.base b).filtered s.clock (s.updateInterval b) err (s.reg .timeBoundNs b).toNat
      (s.slewMax b) o)
    unfold State.SameButBases at same
    rw [same]
    exact ⟨rfl, rfl⟩

/-! ### Source updates -/

/-- A source update's data beside its offset: the Sync's interval, and the receipt of a PTM response (R39, R44). -/
def State.sourceNoted (s : State) (b : Fin 4) (l : Option Int) : State :=
  let s := if b = 0 then match l with
      | some l => { s with syncLog := some l }
      | none => s
    else s
  if b = 3 then { s with ptm := { s.ptm with response := s.stamp 3 } } else s

theorem sourceNoted_eq (s : State) (b : Fin 4) (l : Option Int) : s.sourceNoted b l =
    { s with syncLog := (s.sourceNoted b l).syncLog
             ptm := if b = 3 then { s.ptm with response := s.stamp 3 } else s.ptm } := by
  match b, l with
  | 0, some _ | 0, none | 1, _ | 2, _ | 3, _ => rfl

theorem exec_timeSourceUpdate {b : Fin 4} {s : State} {dt : Nat} (takes : (s.elapse dt).takesUpdates b = true) (o : Int)
    (l : Option Int) (e : Word) : exec (.timeSourceUpdate b o l e dt) s =
      .next (settle s (((s.elapse dt).sourceNoted b l).servo b o e.toNat)) := by
  show execTimeSourceUpdate b o l e dt s = _
  simp only [execTimeSourceUpdate, effect, takes, if_true]
  rfl

/-- Settles O10: each way in which an update acts on a base. -/
theorem sourceUpdates : Obligations.SourceUpdates := by
  have noted : ∀ (s : State) (b : Fin 4) (l : Option Int) (o : Int), (s.sourceNoted b l).steps b o = s.steps b o ∧
      (s.sourceNoted b l).base b = s.base b ∧ (s.sourceNoted b l).clock = s.clock ∧
      (s.sourceNoted b l).reg .timeBoundNs b = s.reg .timeBoundNs b := by
    intro s b l o
    rw [sourceNoted_eq]
    exact ⟨rfl, rfl, rfl, rfl⟩
  have aged : ∀ (s : State) (dt : Nat) (b : Fin 4), ((s.elapse dt).base b).epoch = (s.base b).epoch ∧
      ((s.elapse dt).base b).fo = (s.base b).fo ∧ ((s.elapse dt).base b).state = (s.base b).state ∧
      ((s.elapse dt).base b).lockCount = (s.base b).lockCount := by
    intro s dt b
    rw [base_elapse]
    exact ⟨rfl, rfl, rfl, rfl⟩
  refine ⟨?step, ?filter, ?idle, ?unfollowing, ?following, ?request⟩
  case step =>
    intro b o l e dt s takes steps
    obtain ⟨steps', base, clock, -⟩ := noted (s.elapse dt) b l o
    obtain ⟨epoch, -⟩ := aged s dt b
    obtain ⟨hacc, hfo, hepoch, hlast, hsrc⟩ := servo_base_of_steps (steps'.trans steps) e.toNat
    obtain ⟨hclock, hptm⟩ := servo_clock_ptm (s := (s.elapse dt).sourceNoted b l) (b := b) o e.toNat
    refine ⟨_, exec_timeSourceUpdate takes o l e, ?_⟩
    dsimp only
    rw [settle_base, settle_clock, settle_ptm, hacc, hfo, hepoch, hlast, hsrc, hclock, hptm, base, clock, epoch, sourceNoted_eq]
    exact ⟨rfl, rfl, rfl, rfl, rfl, rfl, fun h => by rw [h, if_pos rfl]⟩
  case filter =>
    intro b o l e dt s takes steps
    obtain ⟨steps', base, clock, reg⟩ := noted (s.elapse dt) b l o
    obtain ⟨epoch, fo, state, count⟩ := aged s dt b
    refine ⟨_, exec_timeSourceUpdate takes o l e, ?_⟩
    dsimp only
    rw [servo_of_not_steps (steps'.trans steps), base, clock, reg, settle_base]
    have bound : (s.elapse dt).reg .timeBoundNs b = s.reg .timeBoundNs b := rfl
    generalize ((s.elapse dt).sourceNoted b l).updateInterval b = iv
    generalize ((s.elapse dt).sourceNoted b l).slewMax b = slew
    obtain ⟨x, hx⟩ := rebase_base ((s.elapse dt).sourceNoted b l) b b (((s.elapse dt).base b).filtered (s.elapse dt).clock iv
      e.toNat ((s.elapse dt).reg .timeBoundNs b).toNat slew o) none
    rw [hx, if_pos rfl]
    obtain ⟨hacc, hfo, hepoch, hlast⟩ := filtered_frame ((s.elapse dt).base b) (s.elapse dt).clock iv e.toNat
      ((s.elapse dt).reg .timeBoundNs b).toNat slew o
    have hstate := filtered_state ((s.elapse dt).base b) (s.elapse dt).clock iv e.toNat
      ((s.elapse dt).reg .timeBoundNs b).toNat slew o
    rw [fo] at hfo
    rw [state, count, bound] at hstate
    exact ⟨hfo, hacc, hepoch.trans epoch, hlast, hstate⟩
  case idle =>
    intro b o l e dt s takes sound
    refine ⟨s.elapse dt, ?_, State.Kept.refl _⟩
    show execTimeSourceUpdate b o l e dt s = _
    exact effect_of_sound (by simp [takes]) (sound.elapse dt) rfl rfl
  case unfollowing =>
    intro dt s none sound
    refine ⟨s.elapse dt, ?_, State.Kept.refl _⟩
    show execTb1FollowSample dt s = _
    exact effect_of_sound (by simp only [none]) (sound.elapse dt) rfl rfl
  case following =>
    intro dt f s follows steps
    obtain ⟨epoch, -⟩ := aged s dt 1
    obtain ⟨hacc, hfo, hepoch, -⟩ := servo_base_of_steps steps 0
    have run : exec (.tb1FollowSample dt) s =
        .next (settle s ((s.elapse dt).servo 1 (((s.elapse dt).base f).subns - ((s.elapse dt).tb1.subns : Int)) 0)) := by
      show execTb1FollowSample dt s = _
      simp only [execTb1FollowSample, effect, follows]
    refine ⟨_, run, ?_⟩
    dsimp only
    rw [settle_tb1]
    refine ⟨(congrArg Int.ofNat hacc).trans ?_, hepoch.trans (congrArg (· + 1) epoch), hfo⟩
    have whole : (s.elapse dt).tb1.subns * subnsUnits ≤ (s.elapse dt).tb1.acc := Nat.div_mul_le_self ..
    have up : (0 : Int) ≤ (((s.elapse dt).base f).subns : Int) * subnsUnits := by positivity
    refine Int.toNat_of_nonneg ?_
    rw [Int.sub_mul]
    have : ((s.elapse dt).base 1).acc = (s.elapse dt).tb1.acc := rfl
    push_cast [this]
    zify at whole
    omega
  case request =>
    intro s sound src up
    refine ⟨_, ?_, rfl⟩
    show execPtmRequest s = _
    exact effect_of_sound (by simp [src, up]; rfl) sound rfl rfl


/-! ### Lost sources -/

theorem checkErrb_base_but_errb (s : State) (b c : Nat) : ∃ e, (s.checkErrb b).base c = { s.base c with errb := e } := by
  rw [checkErrb_base]
  split
  · exact ⟨_, rfl⟩
  · exact ⟨(s.base c).errb, rfl⟩

theorem checkErrb_chain (s : State) (b : Nat) : (s.checkErrb b).chain = s.chain := by
  unfold State.checkErrb
  dsimp only
  split
  · rfl
  · unfold State.setBase
    split <;> rfl

theorem checkErrb_regs (s : State) (b : Nat) : (s.checkErrb b).regs = s.regs := by
  have same := checkErrb_same s b
  unfold State.SameButBases at same
  rw [same]

/-- No base's ERRB counts in any error estimate. -/
theorem errNs_checkErrb (s : State) (b c : Nat) : (s.checkErrb b).errNs c = s.errNs c := by
  have far : ∀ (n f x : Nat), ((s.checkErrb b).base n).errNs f x = (s.base n).errNs f x := by
    intro n f x
    obtain ⟨e, he⟩ := checkErrb_base_but_errb s b n
    rw [he]
    rfl
  have source : ((s.checkErrb b).base c).srcErr = (s.base c).srcErr := by
    obtain ⟨e, he⟩ := checkErrb_base_but_errb s b c
    rw [he]
  have followed : (s.checkErrb b).followed = s.followed := by
    simp only [State.followed, State.field, State.reg, checkErrb_regs]
  unfold State.errNs
  dsimp only
  rw [far, far, source, checkErrb_chain, followed]
  cases s.followed <;> simp only [far]
theorem errbNow_checkErrb (s : State) (b c : Nat) : (s.checkErrb b).errbNow c = s.errbNow c := by
  have state : ((s.checkErrb b).base c).state = (s.base c).state := by
    obtain ⟨e, he⟩ := checkErrb_base_but_errb s b c
    rw [he]
  have bound : (s.checkErrb b).reg .timeBoundNs c = s.reg .timeBoundNs c := by simp only [State.reg, checkErrb_regs]
  unfold State.errbNow
  rw [state]
  cases (s.base c).state <;> simp only [bound, errNs_checkErrb]

/-- The base that is brought up to date carries the ERRB that it should. -/
theorem checkBases_errb (s : State) (b : Fin 4) : ((s.checkBases b).base b).errb = s.errbNow b := by
  simp only [State.checkBases, noteTimed_base, checkErrb_base, errbNow_checkErrb, if_true]
  split
  next h =>
    have one : b = 1 := by omega
    rw [one]
    rfl
  next => rfl

/-- A base that loses its source keeps its value and EPOCH; LOCKED leads to HOLDOVER at the frequency last filtered (R39, R40). -/
theorem lost_frame (t : TimeBase) (err : Nat) :
    (t.lost err).acc = t.acc ∧ (t.lost err).epoch = t.epoch ∧
    (t.lost err).state = (match t.state with
      | .locked => .holdover
      | .acquiring => if t.everLocked then .holdover else .free
      | st => st) ∧
    (t.state = .locked → (t.lost err).fr = t.fr ∧ (t.lost err).growth = 0) := by
  unfold TimeBase.lost
  cases h : t.state with
  | acquiring => cases t.everLocked <;> simp [TimeBase.enter]
  | _ => simp [TimeBase.enter, h]

theorem exec_sourceTimeout (b : Fin 4) (s : State) : exec (.sourceTimeout b) s =
    .next (settle s (if b = 2 || (b = 1 && s.follows.isSome) || !s.timedOut b then s else s.baseLost b)) := rfl

/-- Settles O11: a silence that is not yet a timeout, a timeout, and ERRB set in HOLDOVER. -/
theorem sourceLost : Obligations.SourceLost := by
  refine ⟨⟨?quiet, ?lost⟩, ?errb⟩
  case quiet =>
    intro b s h
    refine ⟨_, exec_sourceTimeout b s, fun c => ?_⟩
    rw [if_pos (by simpa [or_assoc] using h), settle_base]
  case lost =>
    intro b s own follows due
    have late : s.timedOut b = true := decide_eq_true due
    have due : ¬ (b = 2 || (b = 1 && s.follows.isSome) || !s.timedOut b) = true := by
      by_cases one : b = 1
      · subst one
        simpa [follows rfl] using late
      · simp [own, one, late]
    obtain ⟨acc, epoch, state, locked⟩ := lost_frame (s.base b) (s.errNs b)
    obtain ⟨e, he⟩ := rebase_base s b b ((s.base b).lost (s.errNs b)) none
    rw [if_pos rfl] at he
    have other : (b : Nat) % 4 ≠ 2 := by omega
    have run := exec_sourceTimeout b s
    rw [if_neg due] at run
    refine ⟨_, run, ?_, fun h => ?_, fun c => ?_, ?_⟩
    · rw [settle_base, State.baseLost, he]
      exact state
    · rw [settle_base, State.baseLost, he]
      exact locked h
    · obtain ⟨f, hf⟩ := rebase_base s b c ((s.base b).lost (s.errNs b)) none
      rw [settle_base, State.baseLost, hf]
      split
      next same =>
        have : c = b := by omega
        subst this
        exact ⟨acc, epoch⟩
      next => exact ⟨rfl, rfl⟩
    · have same := rebase_same s b ((s.base b).lost (s.errNs b))
      have tb2 : (s.rebase b ((s.base b).lost (s.errNs b))).tb2 = s.tb2 :=
        rebase_base_of_ne (c := 2) _ none (Ne.symm other) (by decide)
      have frame := settle_frame s (s.baseLost b)
      unfold State.SameButBases at same
      rw [tb2] at same
      simp only [settle_tb0, settle_tb1, settle_tb3, settle_chain, State.baseLost] at frame ⊢
      generalize settle s (s.rebase b ((s.base b).lost (s.errNs b))) = t at frame ⊢
      rw [same] at frame
      exact { frame with }
  case errb =>
    intro b s holdover grown
    have run : exec (.holdoverErrbSet b) s = .next (settle s (s.checkBases b)) := by
      show execHoldoverErrbSet b s = _
      simp only [execHoldoverErrbSet, effect, holdover, if_true]
    have low : deliveryReg (RegName.timeBoundNs.off b) = false := by
      refine deliveryReg_of_lt ?_
      simp only [RegName.off, RegName.row]
      omega
    refine ⟨_, run, ?_, fun c => ?_, ?_⟩
    · rw [settle_base, checkBases_errb]
      simp only [State.errbNow, holdover, grown, decide_true]
    · obtain ⟨e, he⟩ := checkBases_base s b c
      rw [settle_base, he]
      exact ⟨rfl, rfl⟩
    · have same := checkBases_same s b
      unfold State.SameButBases at same
      rw [settle_reg _ _ _ _ _ low, same]
      rfl


/-! ### Manual sets -/



theorem timeCfg_marked (b : Nat) : RegAt.marked ⟨.timeCfg, b, 0⟩ = true := by simp [RegAt.marked, RegName.row]

/-- What TIME_CFG written with SET does to a device whose source has been taken away before, if it was. -/
theorem accept_timeCfg_set (s : State) (o : Origin) (b : Nat) {v : Word} (set : bitOf v 7 = true) :
    s.accept o ⟨.timeCfg, b, 0⟩ v {} =
      State.restamp ((((((s.writeMarked o ⟨.timeCfg, b, 0⟩ v).timeCfgBefore b v).setReg .timeCfg b 0
        (RegName.timeCfg.row.merge (((s.writeMarked o ⟨.timeCfg, b, 0⟩ v).timeCfgBefore b v).reg .timeCfg b) v)).manualSet b o).checkBases b)) s.markSeq := by
  simp only [State.accept, timeCfg_marked, State.stored, State.actsA, State.actsB, set, if_true, State.writeMarked]
  exact if_neg (by decide)

theorem timeCfgBefore_same (s : State) (b : Nat) (v : Word) : s.SameButBases (s.timeCfgBefore b v) := by
  unfold State.timeCfgBefore
  dsimp only
  split
  · exact rebase_same ..
  · rfl

/-- A source taken away leaves each base its value and EPOCH. -/
theorem timeCfgBefore_base (s : State) (b c : Nat) (v : Word) :
    ((s.timeCfgBefore b v).base c).acc = (s.base c).acc ∧ ((s.timeCfgBefore b v).base c).epoch = (s.base c).epoch := by
  unfold State.timeCfgBefore
  dsimp only
  split
  · obtain ⟨e, he⟩ := rebase_base s b c ((s.base b).lost (s.errNs b)) none
    obtain ⟨acc, epoch, -⟩ := lost_frame (s.base b) (s.errNs b)
    rw [State.baseLost, he]
    split
    next h =>
      have index : s.base c = s.base b := by simp only [State.base, h]
      rw [index]
      exact ⟨acc, epoch⟩
    next => exact ⟨rfl, rfl⟩
  · exact ⟨rfl, rfl⟩

/-- Time as TIME_SET holds it for a base, in units (R37). -/
def State.setValue (s : State) (b : Nat) : Nat :=
  ((s.reg .timeSetNs b).toNat + ((s.reg .timeSetSecLo b).toNat + (s.reg .timeSetSecHi b).toNat * 2 ^ 32) * 1000000000) * nsUnits

theorem manualSet_base (s : State) (b : Nat) (o : Origin) :
    (((s.manualSet b o).checkBases b).base b).acc = s.setValue b ∧ (((s.manualSet b o).checkBases b).base b).state = .free ∧
    (((s.manualSet b o).checkBases b).base b).fo = 0 ∧
    (((s.manualSet b o).checkBases b).base b).epoch = (s.base b).epoch + 1 ∧
    (((s.manualSet b o).checkBases b).base b).everLocked = false := by
  obtain ⟨e, he⟩ := checkBases_base (s.manualSet b o) b b
  obtain ⟨f, hf⟩ := rebase_base s b b ({ (s.base b).stepTo (s.setValue b) with everLocked := false }.enter .free) (some o)
  have set : (s.manualSet b o).base b = _ := hf
  rw [he, set, if_pos rfl]
  exact ⟨rfl, rfl, rfl, rfl, rfl⟩

theorem manualSet_base_of_ne {s : State} {b c : Nat} (o : Origin) (other : c % 4 ≠ b % 4) :
    (((s.manualSet b o).checkBases b).base c).acc = (s.base c).acc ∧
    (((s.manualSet b o).checkBases b).base c).epoch = (s.base c).epoch := by
  obtain ⟨e, he⟩ := checkBases_base (s.manualSet b o) b c
  obtain ⟨f, hf⟩ := rebase_base s b c ({ (s.base b).stepTo (s.setValue b) with everLocked := false }.enter .free) (some o)
  have set : (s.manualSet b o).base c = _ := hf
  rw [he, set, if_neg other]
  exact ⟨rfl, rfl⟩

theorem manualSet_same (s : State) (b : Nat) (o : Origin) : ∃ time, State.SameButBases
    { s with
      marks := keepMarks ({ time, seq := s.markSeq, who := BitVec.ofNat 32 (10 + 3 * 2 ^ 23 + originCode o * 2 ^ 26)
                            old := BitVec.ofNat 32 b
                            new := BitVec.ofNat 32 ((s.base b).epoch + 1).toNat } :: s.marks)
      markSeq := s.markSeq + 1 } ((s.manualSet b o).checkBases b) := by
  obtain ⟨time, same⟩ := rebase_step_same s b ({ (s.base b).stepTo (s.setValue b) with everLocked := false }.enter .free) o
  exact ⟨time, same.trans (checkBases_same _ b)⟩

theorem restamp_base (s : State) (seq : Word) (c : Nat) : (s.restamp seq).base c = s.base c := rfl

theorem restamp_two {s : State} {m n : Mark} {ms : List Mark} {seq : Word} (h : s.markSeq = seq + 2) (marks : s.marks = n :: m :: ms) :
    (s.restamp seq).marks = { n with time := s.stamp } :: { m with time := s.stamp } :: ms := by
  have two : (s.markSeq - seq).toNat = 2 := by rw [h]; simp
  simp [State.restamp, two, marks]

/-- Marks of one origin made by one command. -/
theorem origin_eq_of_who {m n : Mark} {x y : Nat} {o : Origin} (hm : m.who = BitVec.ofNat 32 (x + originCode o * 2 ^ 26))
    (hn : n.who = BitVec.ofNat 32 (y + originCode o * 2 ^ 26)) (hx : x < 2 ^ 26) (hy : y < 2 ^ 26) : m.origin = n.origin := by
  have code : originCode o < 64 := by
    cases o with
    | domain d => simp only [originCode]; omega
    | peer a => simp only [originCode]; omega
    | _ => decide
  simp only [Mark.origin, hm, hn, BitVec.toNat_ofNat]
  omega

/-- Settles O12: the source goes where SRC is written 0, the value is stored, the base set, and both marks show TB1 as it is
left. -/
theorem manualSetTakesValue : Obligations.ManualSetTakesValue := by
  intro b o v s accepted
  refine completes_of_write (i := b) rfl accepted ?_
  have set : bitOf (v ||| 0x80) 7 = true := by simp [bitOf_eq_getLsbD]
  rw [accept_timeCfg_set s o b set]
  generalize v ||| 0x80 = v at *
  have lost := timeCfgBefore_same (s.writeMarked o ⟨.timeCfg, b, 0⟩ v) b v
  have kept : ∀ c : Nat, (((s.writeMarked o ⟨.timeCfg, b, 0⟩ v).timeCfgBefore b v).base c).acc = (s.base c).acc ∧
      (((s.writeMarked o ⟨.timeCfg, b, 0⟩ v).timeCfgBefore b v).base c).epoch = (s.base c).epoch := fun c =>
    timeCfgBefore_base (s.writeMarked o ⟨.timeCfg, b, 0⟩ v) b c v
  generalize (s.writeMarked o ⟨.timeCfg, b, 0⟩ v).timeCfgBefore b v = p at *
  unfold State.SameButBases at lost
  have held : ∀ c : Nat, (p.base c).acc = (s.base c).acc ∧ (p.base c).epoch = (s.base c).epoch := kept
  have regs : p.regs = s.regs := by rw [lost]; rfl
  have marks : p.marks = (s.writeMarked o ⟨.timeCfg, b, 0⟩ v).marks := by rw [lost]
  have seq : p.markSeq = s.markSeq + 1 := by rw [lost]; rfl
  clear lost kept
  have stored : p.reg .timeCfg b = s.reg .timeCfg b := by simp only [State.reg, regs]
  rw [stored]
  obtain ⟨acc, state, fo, epoch, ever⟩ :=
    manualSet_base (p.setReg .timeCfg b 0 (RegName.timeCfg.row.merge (s.reg .timeCfg b) v)) b o
  have others : ∀ c : Nat, c % 4 ≠ b % 4 → _ := fun c =>
    manualSet_base_of_ne (s := p.setReg .timeCfg b 0 (RegName.timeCfg.row.merge (s.reg .timeCfg b) v)) o
  obtain ⟨time, same⟩ := manualSet_same (p.setReg .timeCfg b 0 (RegName.timeCfg.row.merge (s.reg .timeCfg b) v)) b o
  generalize ((p.setReg .timeCfg b 0 (RegName.timeCfg.row.merge (s.reg .timeCfg b) v)).manualSet b o).checkBases b = r at *
  unfold State.SameButBases at same
  have value : State.setValue (p.setReg .timeCfg b 0 (RegName.timeCfg.row.merge (s.reg .timeCfg b) v)) b = s.setValue b := by
    unfold State.setValue
    rw [reg_setReg_of_name (by decide) b.isLt _ _ b.isLt, reg_setReg_of_name (by decide) b.isLt _ _ b.isLt,
      reg_setReg_of_name (by decide) b.isLt _ _ b.isLt]
    simp only [State.reg, regs]
  have rseq : r.markSeq = s.markSeq + 2 := by
    rw [same]
    show p.markSeq + 1 = _
    rw [seq, add_assoc]
    rfl
  have rmarks : ∃ m n, r.marks = n :: m :: s.marks.take 4094 ∧ m.seq = s.markSeq ∧ n.seq = s.markSeq + 1 ∧ m.new = v ∧
      m.who = BitVec.ofNat 32 (RegName.timeCfg.off b / 4 % 2 ^ 21 + originCode o * 2 ^ 26) ∧
      n.who = BitVec.ofNat 32 (10 + 3 * 2 ^ 23 + originCode o * 2 ^ 26) := by
    refine ⟨{ time := s.stamp, seq := s.markSeq, old := s.regValue ⟨.timeCfg, b, 0⟩, new := v
              who := BitVec.ofNat 32 (RegName.timeCfg.off b / 4 % 2 ^ 21 + originCode o * 2 ^ 26) },
      { time, seq := s.markSeq + 1, who := BitVec.ofNat 32 (10 + 3 * 2 ^ 23 + originCode o * 2 ^ 26)
        old := BitVec.ofNat 32 b, new := BitVec.ofNat 32 ((p.base b).epoch + 1).toNat }, ?_, rfl, rfl, rfl, rfl, rfl⟩
    rw [same]
    show keepMarks ({ time, seq := p.markSeq, .. } :: p.marks) = _
    rw [seq, marks]
    simp [State.writeMarked, State.markReg, State.mark, keepMarks, bit, List.take_take]
    rfl
  obtain ⟨m, n, rmarks, hm, hn, hnew, mwho, nwho⟩ := rmarks
  have rstored : r.reg .timeCfg b = RegName.timeCfg.row.merge (s.reg .timeCfg b) v := by
    rw [same]
    exact State.reg_setReg_self ..
  clear same
  have low : deliveryReg (RegName.timeCfg.off b) = false := by
    refine deliveryReg_of_lt ?_
    simp only [RegName.off, RegName.row]
    omega
  have one : Mark.origin { m with time := r.stamp } = Mark.origin { n with time := r.stamp } :=
    origin_eq_of_who mwho nwho (by omega) (by omega)
  have kept := restamp_two rseq rmarks
  simp only [settle_base, restamp_base, settle_stamp]
  rw [acc, state, fo, epoch, ever, value]
  refine ⟨rfl, rfl, rfl, congrArg (· + 1) (held b).2, rfl, (settle_reg _ _ _ _ _ low).trans rstored, ?_, fun c other => ?_⟩
  · refine ⟨{ m with time := r.stamp }, { n with time := r.stamp }, ?_, (settle_markSeq ..).trans rseq, rfl, rfl, hnew,
      mwho, nwho⟩
    have two : (r.restamp s.markSeq).markSeq = s.markSeq + 2 := rseq
    rw [settle_marks, orderMarks_of_two two kept hm hn one]
    simp [keepMarks]
  · obtain ⟨hacc, hepoch⟩ := others c (by omega)
    rw [hacc, hepoch]
    exact held c

end Sys2Proof.Machine
end

section
/-!
SUPPORT. The read sets of the time bases and the EDGE inputs (R45 to R49): what a snapshot, a read and a transition leave. From
these O9.
-/
namespace Sys2Proof.Machine

/-! ### Read sets -/

/-- A base with its read set latched, held by a snapshot or by a read (R49). -/
def TimeBase.latched (t : TimeBase) (b : Nat) (snap : Bool) : TimeBase :=
  { t with rdHeld := true, rdSnap := snap, rdAcc := t.acc, rdTag := BitVec.ofNat 16 (t.tag b) }

theorem snap_eq (s : State) : s.snap = { s with
    tb0 := s.tb0.latched 0 true, tb1 := s.tb1.latched 1 true, tb2 := s.tb2.latched 2 true, tb3 := s.tb3.latched 3 true } := rfl

theorem accept_snap (s : State) (o : Origin) : s.accept o ⟨.timeCtrl, 0, 0⟩ 1 {} =
    (s.setReg .timeCtrl 0 0 (RegName.timeCtrl.row.merge (s.reg .timeCtrl) 1)).snap := by
  have unmarked : RegAt.marked ⟨.timeCtrl, 0, 0⟩ = false := by decide
  have set : bitOf (1#32) 0 = true := by decide
  simp [State.accept, unmarked, State.stored, State.actsA, State.actsB, set]

theorem snap_completes (o : Origin) (s : State) (sound : s.Sound) (h : s.Accepts o ⟨.timeCtrl, 0, 0⟩ 1) :
    Completes (.snap o) s fun t =>
      (∀ b : Fin 4, t.base b = (s.base b).latched b true) ∧
      t = { s with tb0 := t.tb0, tb1 := t.tb1, tb2 := t.tb2, tb3 := t.tb3, regs := t.regs } := by
  refine completes_of_write rfl h ?_
  have quiet : (s.accept o ⟨.timeCtrl, 0, 0⟩ 1 {}).Sound := by
    obtain ⟨raised, held, service⟩ := sound
    rw [accept_snap]
    exact ⟨raised, held, service⟩
  rw [quiet.settle_eq (by rw [accept_snap]; rfl) (by rw [accept_snap]; rfl), accept_snap, snap_eq]
  refine ⟨fun b => ?_, rfl⟩
  match b with
  | 0 | 1 | 2 | 3 => rfl

/-- What leaves the device adds itself to a change of the bases. -/
theorem emit_tbs {s u : State} (same : u = { s with tb0 := u.tb0, tb1 := u.tb1, tb2 := u.tb2, tb3 := u.tb3 }) (e : Emission) :
    u.emit e = { s with tb0 := (u.emit e).tb0, tb1 := (u.emit e).tb1, tb2 := (u.emit e).tb2, tb3 := (u.emit e).tb3
                        out := (u.emit e).out } := by
  conv_lhs => rw [same]
  rw [State.emit, State.emit, show u.out = s.out by rw [same]]

theorem setBase_tbs (s : State) (b : Nat) (t : TimeBase) : s.setBase b t = { s with
    tb0 := (s.setBase b t).tb0, tb1 := (s.setBase b t).tb1, tb2 := (s.setBase b t).tb2, tb3 := (s.setBase b t).tb3 } := by
  unfold State.setBase
  split <;> rfl

/-- A base set to one with the same ERRB leaves the device as sound as it was. -/
theorem State.Sound.setBase {s : State} (h : s.Sound) (b : Nat) {t : TimeBase} (errb : t.errb = (s.base b).errb) :
    (s.setBase b t).Sound := by
  obtain ⟨raised, held, service⟩ := h
  have tb1 : (s.setBase b t).tb1.errb = s.tb1.errb := by
    have one := State.base_setBase s b 1 t
    have index : 1 % 4 = b % 4 → s.base b = s.tb1 := fun e => by simp only [State.base, ← e]
    show ((s.setBase b t).base 1).errb = _
    rw [one]
    split
    next e => rw [errb, index e]
    next => rfl
  rw [setBase_tbs]
  exact ⟨raised, held, by rw [service]; simp only [State.serviceNow, tb1]⟩

section
variable {s : State} (a : Accessor) (b : Fin 4) (open' : s.boot.win ≠ 2)
include open'

theorem live_of_win (off : Nat) : s.deadOffset off = false := by
  simp only [State.deadOffset, decide_eq_false open', Bool.false_and]

theorem readReg_subns (free : s.latched a (RegName.timeRdSubns.off b) = none) :
    s.readReg a (RegName.timeRdSubns.off b) = ((s.readSubns b).regValue ⟨.timeRdSubns, b, 0⟩, s.readSubns b) := by
  have l : locate (RegName.timeRdSubns.off b) = some ⟨.timeRdSubns, b, 0⟩ := registerMapUnambiguous _ _ _ b.isLt (by decide)
  have hi (u : State) : u.latchHi a ⟨.timeRdSubns, b, 0⟩ = u := latchHi_of_none _ _ rfl
  have rc (u : State) : u.clearRc ⟨.timeRdSubns, b, 0⟩ = u := clearRc_of_zero _ rfl
  simp [State.readReg, l, live_of_win open', free, State.beforeRead, State.afterRead, hi, rc]

theorem readReg_secHi (free : s.latched a (RegName.timeRdSecHi.off b) = none) :
    s.readReg a (RegName.timeRdSecHi.off b) =
      (s.regValue ⟨.timeRdSecHi, b, 0⟩, s.setBase b { s.base b with rdHeld := false, rdSnap := false }) := by
  have l : locate (RegName.timeRdSecHi.off b) = some ⟨.timeRdSecHi, b, 0⟩ := registerMapUnambiguous _ _ _ b.isLt (by decide)
  have hi (u : State) : u.latchHi a ⟨.timeRdSecHi, b, 0⟩ = u := latchHi_of_none _ _ rfl
  have rc (u : State) : u.clearRc ⟨.timeRdSecHi, b, 0⟩ = u := clearRc_of_zero _ rfl
  simp [State.readReg, l, live_of_win open', free, State.beforeRead, State.afterRead, hi, rc]

end

theorem readSubns_base (s : State) (b : Fin 4) :
    (s.readSubns b).base b = if (s.base b).rdSnap then s.base b else (s.base b).latched b false := by
  unfold State.readSubns
  split
  · rfl
  · simp only [State.latchSet, State.base_setBase, if_true]
    rfl

theorem readSubns_tbs (s : State) (b : Nat) : s.readSubns b = { s with
    tb0 := (s.readSubns b).tb0, tb1 := (s.readSubns b).tb1, tb2 := (s.readSubns b).tb2, tb3 := (s.readSubns b).tb3 } := by
  unfold State.readSubns
  split
  · rfl
  · exact setBase_tbs ..

theorem State.Sound.readSubns {s : State} (h : s.Sound) (b : Nat) : (s.readSubns b).Sound := by
  unfold State.readSubns
  split
  · exact h
  · exact h.setBase b rfl

theorem regValue_timeRdSubns (s : State) (b : Fin 4) :
    s.regValue ⟨.timeRdSubns, b, 0⟩ = BitVec.ofNat 32 ((s.base b).rdSub % 65536) := rfl

theorem regValue_timeRdSecHi (s : State) (b : Fin 4) :
    s.regValue ⟨.timeRdSecHi, b, 0⟩ = BitVec.ofNat 32 ((s.base b).rdSub / 65536 / 1000000000 / 2 ^ 32) := rfl

section
variable {a : Accessor} {b : Fin 4} {s : State} (sound : s.Sound) (whole : a.wholeWords = true) (reach : s.reaches a = true)
  (win : s.boot.win ≠ 2)
include sound whole reach win

theorem timeReadLatch_completes (free : s.latched a (RegName.timeRdSubns.off b) = none) :
    Completes (.timeReadLatch a b) s fun t =>
      t.base b = (if (s.base b).rdSnap then s.base b else (s.base b).latched b false) ∧
      t.out = .readData a (RegName.timeRdSubns.off b) (BitVec.ofNat 32 ((t.base b).rdSub % 65536)) :: s.out ∧
      t = { s with tb0 := t.tb0, tb1 := t.tb1, tb2 := t.tb2, tb3 := t.tb3, out := t.out } := by
  have same := readSubns_tbs s b
  have out : (s.readSubns b).out = s.out := by rw [same]
  exact ⟨_, effect_readCmd_whole whole reach (readReg_subns a b win free) (sound.readSubns b) (by rw [same]) (by rw [same]),
    readSubns_base s b, congrArg _ out, emit_tbs same _⟩

theorem secHiRead_completes (free : s.latched a (RegName.timeRdSecHi.off b) = none) :
    Completes (.readLo a (BitVec.ofNat 26 (RegName.timeRdSecHi.off b))) s fun t =>
      t.base b = { s.base b with rdHeld := false, rdSnap := false } ∧
      t.out = .readData a (RegName.timeRdSecHi.off b)
        (BitVec.ofNat 32 ((s.base b).rdSub / 65536 / 1000000000 / 2 ^ 32)) :: s.out ∧
      t = { s with tb0 := t.tb0, tb1 := t.tb1, tb2 := t.tb2, tb3 := t.tb3, out := t.out } := by
  have same := setBase_tbs s b { s.base b with rdHeld := false, rdSnap := false }
  have off : (BitVec.ofNat 26 (RegName.timeRdSecHi.off b)).toNat = RegName.timeRdSecHi.off b := by
    rw [BitVec.toNat_ofNat]
    refine Nat.mod_eq_of_lt ?_
    simp only [RegName.off, RegName.row]
    omega
  have out : (s.setBase b { s.base b with rdHeld := false, rdSnap := false }).out = s.out := by rw [same]
  have run : exec (.readLo a (BitVec.ofNat 26 (RegName.timeRdSecHi.off b))) s =
      effect (fun s => s.readCmd a (RegName.timeRdSecHi.off b)) s := by
    show effect (fun s => s.readCmd a (BitVec.ofNat 26 (RegName.timeRdSecHi.off b)).toNat) s = _
    rw [off]
  refine ⟨_, run.trans (effect_readCmd_whole whole reach (readReg_secHi a b win free) (sound.setBase b rfl) (by rw [same])
    (by rw [same])), (State.base_setBase ..).trans (if_pos rfl), congrArg _ out, emit_tbs same _⟩

end

/-! ### Captures are delivered -/

/-- What the delivery of captures leaves alone: all but the EDGE inputs and the events raised. -/
def State.SameButEdges (s t : State) : Prop := t = { s with edges := t.edges, raised := t.raised }

theorem State.SameButEdges.trans {s t u : State} (h : s.SameButEdges t) (g : t.SameButEdges u) : s.SameButEdges u := by
  unfold State.SameButEdges at *
  rw [g, h]

theorem State.SameButEdges.foldl {α : Type} {f : State → α → State} (h : ∀ (s : State) a, s.SameButEdges (f s a)) (l : List α)
    (s : State) : s.SameButEdges (l.foldl f s) := by
  induction l generalizing s with
  | nil => rfl
  | cons a l ih => exact (h s a).trans (ih _)

/-- The captures whose turn has come, each with its input, in the order of the inputs. -/
def State.dueCaptures (s : State) : List (Nat × EdgeCapture) :=
  (List.range 16).flatMap fun e => ((s.edge e).queue.takeWhile (s.captureDue e)).map fun c => (e, c)

/-- An input keeps the captures that are not delivered. -/
def State.keepCaptures (due : List (Nat × EdgeCapture)) (s : State) (e : Nat) : State :=
  s.setEdge e { s.edge e with queue := (s.edge e).queue.drop (due.filter (·.1 = e)).length }

theorem deliverCaptures_eq (s : State) : s.deliverCaptures =
    (sortBy (fun a b => decide (a.2.key ≤ b.2.key)) s.dueCaptures).foldl (fun s x => s.deliverCapture x.1 x.2)
      ((List.range 16).foldl (State.keepCaptures s.dueCaptures) s) := rfl

theorem deliverCapture_edges (s : State) (e : Nat) (c : EdgeCapture) :
    s.SameButEdges (s.deliverCapture e c) ∧ (s.deliverCapture e c).edges = s.edges := by
  unfold State.deliverCapture
  split <;> exact ⟨rfl, rfl⟩

theorem deliverCaptures_same (s : State) : s.SameButEdges s.deliverCaptures := by
  rw [deliverCaptures_eq]
  exact (State.SameButEdges.foldl (f := State.keepCaptures s.dueCaptures) (fun _ _ => rfl) _ _).trans
    (State.SameButEdges.foldl (f := fun s (x : Nat × EdgeCapture) => s.deliverCapture x.1 x.2)
      (fun s x => (deliverCapture_edges s x.1 x.2).1) _ _)

theorem deliverCapture_foldl_edges (l : List (Nat × EdgeCapture)) (s : State) :
    (l.foldl (fun s x => s.deliverCapture x.1 x.2) s).edges = s.edges := by
  induction l generalizing s with
  | nil => rfl
  | cons x l ih => exact (ih _).trans (deliverCapture_edges s x.1 x.2).2

theorem keepCaptures_foldl_edge (due : List (Nat × EdgeCapture)) {l : List Nat} (each : l.Nodup) {e : Nat} (mem : e ∈ l)
    (s : State) : ((l.foldl (State.keepCaptures due) s).edge e) =
      { s.edge e with queue := (s.edge e).queue.drop (due.filter (·.1 = e)).length } := by
  have other : ∀ (l : List Nat) (u : State), e ∉ l → (l.foldl (State.keepCaptures due) u).edge e = u.edge e := by
    intro l
    induction l with
    | nil => exact fun _ _ => rfl
    | cons i l ih =>
      intro u no
      rw [List.mem_cons, not_or] at no
      exact (ih _ no.2).trans (Store.get_put_of_ne _ _ _ no.1)
  induction l generalizing s with
  | nil => cases mem
  | cons i l ih =>
    obtain ⟨new, each⟩ := List.nodup_cons.mp each
    rcases List.mem_cons.mp mem with rfl | mem
    · exact (other l _ new).trans (Store.get_put_self ..)
    · have apart : e ≠ i := fun h => new (h ▸ mem)
      have same : (State.keepCaptures due s i).edge e = s.edge e := Store.get_put_of_ne _ _ _ apart
      rw [List.foldl_cons, ih each mem, same]

/-- Of all that is due, the captures of one input. -/
theorem filter_tagged {α : Type} {l : List Nat} (each : l.Nodup) {e : Nat} (mem : e ∈ l) (f : Nat → List α) :
    ((l.flatMap fun i => (f i).map fun c => (i, c)).filter (·.1 = e)).length = (f e).length := by
  have none : ∀ (l : List Nat), e ∉ l → (l.flatMap fun i => (f i).map fun c => (i, c)).filter (·.1 = e) = [] := by
    intro l no
    rw [List.filter_eq_nil_iff]
    intro x hx same
    obtain ⟨i, hi, hx⟩ := List.mem_flatMap.mp hx
    obtain ⟨c, -, rfl⟩ := List.mem_map.mp hx
    exact no (of_decide_eq_true same ▸ hi)
  induction l with
  | nil => cases mem
  | cons i l ih =>
    obtain ⟨new, each⟩ := List.nodup_cons.mp each
    rw [List.flatMap_cons, List.filter_append, List.length_append]
    rcases List.mem_cons.mp mem with rfl | mem
    · rw [none l new]
      simp [List.filter_map, Function.comp_def]
    · have apart : i ≠ e := fun h => new (h ▸ mem)
      rw [ih each mem]
      simp [List.filter_map, Function.comp_def, apart]

/-- The delivery takes from each input's queue those in front that are due. -/
theorem deliverCaptures_edge (s : State) (e : Fin 16) : s.deliverCaptures.edge e =
    { s.edge e with queue := (s.edge e).queue.drop ((s.edge e).queue.takeWhile (s.captureDue e)).length } := by
  have mem : (e : Nat) ∈ List.range 16 := List.mem_range.mpr e.isLt
  have kept := keepCaptures_foldl_edge s.dueCaptures List.nodup_range mem s
  have count : (s.dueCaptures.filter (·.1 = (e : Nat))).length = ((s.edge e).queue.takeWhile (s.captureDue e)).length :=
    filter_tagged List.nodup_range mem fun e => (s.edge e).queue.takeWhile (s.captureDue e)
  rw [count] at kept
  have edges := deliverCapture_foldl_edges (sortBy (fun a b => decide (a.2.key ≤ b.2.key)) s.dueCaptures)
    ((List.range 16).foldl (State.keepCaptures s.dueCaptures) s)
  rw [deliverCaptures_eq, ← kept]
  unfold State.edge
  rw [edges]

/-- A capture whose turn has not come waits on. -/
theorem mem_deliverCaptures {s : State} {e : Fin 16} {x : EdgeCapture} (mem : x ∈ (s.edge e).queue)
    (wait : s.captureDue e x = false) : x ∈ (s.deliverCaptures.edge e).queue := by
  have whole := List.takeWhile_append_dropWhile (p := s.captureDue e) (l := (s.edge e).queue)
  have left : (s.edge e).queue.drop ((s.edge e).queue.takeWhile (s.captureDue e)).length =
      (s.edge e).queue.dropWhile (s.captureDue e) := by
    conv_lhs => arg 2; rw [← whole]
    rw [List.drop_left]
  rw [deliverCaptures_edge, left]
  rw [← whole, List.mem_append] at mem
  refine mem.resolve_left fun front => ?_
  rw [List.mem_takeWhile_imp front] at wait
  cases wait

/-! ### A transition is accepted -/

/-- What only sends leaves all else alone. -/
def State.SameButOut (s t : State) : Prop := t = { s with out := t.out }

theorem State.SameButOut.trans {s t u : State} (h : s.SameButOut t) (g : t.SameButOut u) : s.SameButOut u := by
  unfold State.SameButOut at *
  rw [g, h]

theorem State.SameButOut.foldl {α : Type} {f : State → α → State} (h : ∀ (s : State) a, s.SameButOut (f s a)) (l : List α)
    (s : State) : s.SameButOut (l.foldl f s) := by
  induction l generalizing s with
  | nil => rfl
  | cons a l ih => exact (h s a).trans (ih _)

theorem sendChain_out (s : State) (x type hop orig flags tick : Nat) (body : List Byte) :
    s.SameButOut (s.sendChain x type hop orig flags tick body) := by
  unfold State.sendChain
  split <;> rfl

theorem sendAlarm_out (s : State) (kind index tf : Nat) : s.SameButOut (s.sendAlarm kind index tf) := by
  unfold State.sendAlarm
  split
  · rfl
  · refine State.SameButOut.foldl (fun s x => ?_) _ _
    split
    · exact sendChain_out ..
    · rfl

/-- The freeze tick that a trigger of this device sets (R241). -/
def State.triggerTick (s : State) : Nat := s.now + 1 + s.field .wallRclCfg 0 0 16 12

/-- A trigger of this device as the store accepts it, before it tells the chain (R240, R241, R442). -/
def State.triggerTaken (s : State) (kind index : Nat) (o : Origin) : State :=
  (State.action { s with rcl := { s.rcl with pend := true, kind := BitVec.ofNat 3 kind, origin := o, index := index
                                             tf := BitVec.ofNat 64 s.triggerTick } }
    o 11 (kind + (if kind = 1 then index * 256 else 0)) (s.triggerTick % 2 ^ 32)).raise 0x0510
      [(1, kind), (1, index), (1, bit false), (5, s.triggerTick)]

theorem trigger_of_ignored {s : State} (h : s.rcl.state ≠ .recording ∨ s.rcl.pend = true) (kind index : Nat) (o : Origin) :
    s.trigger kind index o none = (false, s.triggerIgnored kind index) := by
  unfold State.trigger
  exact if_pos (by simpa using h)

theorem trigger_of_recording {s : State} (rec : s.rcl.state = .recording) (idle : s.rcl.pend = false) (kind index : Nat)
    (o : Origin) : ∃ t, s.trigger kind index o none = (true, t) ∧ (s.triggerTaken kind index o).SameButOut t := by
  refine ⟨if kind ≠ 3 && (s.triggerTaken kind index o).flag .wallRclCfg 0 0 29 then
    (s.triggerTaken kind index o).sendAlarm kind (if kind = 1 then index else 0) s.triggerTick
    else s.triggerTaken kind index o, (if_neg (by simp [rec, idle])).trans rfl, ?_⟩
  split
  · exact sendAlarm_out ..
  · rfl

/-- What a trigger leaves alone: the registers but for WALL_RCL_IGN, and all but the recall store, the mark, events and what goes
out. -/
theorem trigger_same (s : State) (kind index : Nat) (o : Origin) :
    let t := (s.trigger kind index o none).2
    t = { s with rcl := t.rcl, regs := t.regs, marks := t.marks, markSeq := t.markSeq, raised := t.raised, out := t.out } ∧
    ∀ d off, off ≠ RegName.wallRclIgn.off → Store.get d t.regs off = Store.get d s.regs off := by
  by_cases ignored : s.rcl.state ≠ .recording ∨ s.rcl.pend = true
  · rw [trigger_of_ignored ignored]
    exact ⟨rfl, fun d off h => State.get_setReg_of_ne _ _ _ _ _ _ _ h⟩
  · rw [not_or, not_not, Bool.not_eq_true] at ignored
    obtain ⟨t, e, same⟩ := trigger_of_recording ignored.1 ignored.2 kind index o
    unfold State.SameButOut at same
    rw [e, same]
    exact ⟨rfl, fun _ _ _ => rfl⟩

/-- Two states in which the EDGE inputs see the same: the bases, and each input's configuration and delay. -/
structure State.SameEdgeView (s t : State) : Prop where
  base : ∀ b, t.base b = s.base b
  cfg : ∀ i < 16, t.reg .timeEdgeCfg i = s.reg .timeEdgeCfg i
  dly : ∀ i < 16, t.reg .timeEdgeDly i = s.reg .timeEdgeDly i

namespace State.SameEdgeView
variable {s t u : State}

theorem trans (h : s.SameEdgeView t) (g : t.SameEdgeView u) : s.SameEdgeView u where
  base b := (g.base b).trans (h.base b)
  cfg i hi := (g.cfg i hi).trans (h.cfg i hi)
  dly i hi := (g.dly i hi).trans (h.dly i hi)

/-- Registers of other names are not seen. -/
theorem setReg (s : State) {n : RegName} {i j : Nat} (v : Word) (hi : i < n.row.n1) (hj : j < n.row.n2)
    (cfg : .timeEdgeCfg ≠ n) (dly : .timeEdgeDly ≠ n) : s.SameEdgeView (s.setReg n i j v) where
  base _ := rfl
  cfg _ hk := reg_setReg_of_name cfg hk _ _ hi (by decide) hj
  dly _ hk := reg_setReg_of_name dly hk _ _ hi (by decide) hj

theorem settle (s0 u : State) : u.SameEdgeView (Machine.settle s0 u) where
  base := settle_base s0 u
  cfg _ hi := settle_reg _ _ _ _ _ (deliveryReg_of_lt (by simp only [RegName.off, RegName.row]; omega))
  dly _ hi := settle_reg _ _ _ _ _ (deliveryReg_of_lt (by simp only [RegName.off, RegName.row]; omega))

theorem ofSameButEdges (h : s.SameButEdges t) : s.SameEdgeView t := by
  unfold State.SameButEdges at h
  rw [h]
  exact ⟨fun _ => rfl, fun _ _ => rfl, fun _ _ => rfl⟩

theorem edgeCapture (h : s.SameEdgeView t) (e : Fin 16) (rising : Bool) (seq : Nat) :
    t.edgeCapture e rising seq = s.edgeCapture e rising seq := by
  have base : t.field .timeEdgeCfg e 0 4 2 = s.field .timeEdgeCfg e 0 4 2 := congrArg (bitsOf · 4 2) (h.cfg e e.isLt)
  have event : t.flag .timeEdgeCfg e 0 6 = s.flag .timeEdgeCfg e 0 6 := congrArg (bitOf · 6) (h.cfg e e.isLt)
  have delay : t.edgeDelay e = s.edgeDelay e := congrArg (4 * 65536 + BitVec.toNat ·) (h.dly e e.isLt)
  have stamp : t.edgeStamp e = s.edgeStamp e := by
    unfold State.edgeStamp
    rw [base, delay]
    dsimp only
    rw [h.base]
  unfold State.edgeCapture
  rw [base, delay, event, stamp]
  dsimp only
  rw [h.base]

theorem captureDue (h : s.SameEdgeView t) (e : Nat) (c : EdgeCapture) : t.captureDue e c = s.captureDue e c := by
  unfold State.captureDue
  rw [h.base, Bool.eq_iff_iff, Bool.or_eq_true, Bool.or_eq_true, List.all_eq_true, List.all_eq_true]
  refine or_congr_right (forall₂_congr fun i hi => ?_)
  have hi := List.mem_range.mp hi
  have base : t.field .timeEdgeCfg i 0 4 2 = s.field .timeEdgeCfg i 0 4 2 := congrArg (bitsOf · 4 2) (h.cfg i hi)
  have on : t.flag .timeEdgeCfg i 0 0 = s.flag .timeEdgeCfg i 0 0 := congrArg (bitOf · 0) (h.cfg i hi)
  have delay : t.edgeDelay i = s.edgeDelay i := congrArg (4 * 65536 + BitVec.toNat ·) (h.dly i hi)
  rw [base, on, delay]

end State.SameEdgeView

/-- Whether an accepted transition is missed: too near the capture before it, or the queue holds 16 (R47). -/
def State.edgeMissed (s : State) (e : Nat) : Bool :=
  (match (s.edge e).last with
    | some c => decide (4 * (s.clock - c) ≤ 16 * 5)
    | none => false) || 16 ≤ (s.edge e).queue.length

theorem edgeMissed_iff (s : State) (e : Nat) : s.edgeMissed e = true ↔
    (∃ c, (s.edge e).last = some c ∧ s.clock ≤ c + 20) ∨ 16 ≤ (s.edge e).queue.length := by
  unfold State.edgeMissed
  cases (s.edge e).last with
  | none => simp
  | some c =>
    simp only [Bool.or_eq_true, decide_eq_true_eq, Option.some.injEq, exists_eq_left']
    refine or_congr_left ?_
    omega

/-- The number that an accepted transition of an input takes. -/
def State.edgeNext (s : State) (e : Nat) : Nat := ((s.reg .timeEdgeSeq e).toNat + 1) % 65536

/-- An accepted transition, counted and captured or missed, before it triggers the recall store. -/
def State.edgeRecorded (s : State) (e : Nat) (rising : Bool) : State :=
  let u := s.setReg .timeEdgeSeq e 0 (BitVec.ofNat 32 (s.edgeNext e))
  if s.edgeMissed e then
    if (u.bump .timeEdgeMiss e).flag .timeEdgeCfg e 0 6 then
      (u.bump .timeEdgeMiss e).raise 0x0111 [(1, e), (1, bit rising), (2, s.edgeNext e), (4, 0)]
        (some ((u.bump .timeEdgeMiss e).edgeStamp e))
    else u.bump .timeEdgeMiss e
  else u.setEdge e { queue := (s.edge e).queue ++ [u.edgeCapture e rising (s.edgeNext e)], last := some s.clock }

theorem edgeAccepted_eq (s : State) (e : Nat) (rising : Bool) : s.edgeAccepted e rising =
    if (s.edgeRecorded e rising).flag .wallRclCfg 0 0 e then ((s.edgeRecorded e rising).trigger 1 e .auto none).2
    else s.edgeRecorded e rising := rfl

/-- What an accepted transition of input e leaves: its number, its capture or its miss, and all that the inputs see. -/
structure State.EdgeTaken (s t : State) (e : Fin 16) (rising : Bool) : Prop where
  clock : t.clock = s.clock
  view : s.SameEdgeView t
  seq : t.reg .timeEdgeSeq e = BitVec.ofNat 32 (s.edgeNext e)
  missed : s.edgeMissed e = true → t.reg .timeEdgeMiss e = satAdd (s.reg .timeEdgeMiss e) 1 ∧ t.edge e = s.edge e
  captured : s.edgeMissed e = false → t.reg .timeEdgeMiss e = s.reg .timeEdgeMiss e ∧
    t.edge e = { queue := (s.edge e).queue ++ [s.edgeCapture e rising (s.edgeNext e)], last := some s.clock }

theorem edgeRecorded_of_missed {s : State} {e : Nat} (h : s.edgeMissed e = true) (rising : Bool) : ∃ r, s.edgeRecorded e rising =
    { (s.setReg .timeEdgeSeq e 0 (BitVec.ofNat 32 (s.edgeNext e))).bump .timeEdgeMiss e with raised := r } := by
  unfold State.edgeRecorded
  dsimp only
  rw [if_pos h]
  split
  · exact ⟨_, rfl⟩
  · exact ⟨_, rfl⟩

theorem edgeRecorded_of_captured {s : State} {e : Nat} (h : s.edgeMissed e = false) (rising : Bool) : s.edgeRecorded e rising =
    (s.setReg .timeEdgeSeq e 0 (BitVec.ofNat 32 (s.edgeNext e))).setEdge e
      { queue := (s.edge e).queue ++
          [(s.setReg .timeEdgeSeq e 0 (BitVec.ofNat 32 (s.edgeNext e))).edgeCapture e rising (s.edgeNext e)]
        last := some s.clock } := by
  unfold State.edgeRecorded
  dsimp only
  rw [h]
  rfl

theorem edgeRecorded_taken (s : State) (e : Fin 16) (rising : Bool) : s.EdgeTaken (s.edgeRecorded e rising) e rising := by
  have numbered : s.SameEdgeView (s.setReg .timeEdgeSeq e 0 (BitVec.ofNat 32 (s.edgeNext e))) :=
    .setReg s _ e.isLt (by decide) (by decide) (by decide)
  have miss : (s.setReg .timeEdgeSeq e 0 (BitVec.ofNat 32 (s.edgeNext e))).reg .timeEdgeMiss e = s.reg .timeEdgeMiss e :=
    reg_setReg_of_name (by decide) e.isLt _ _ e.isLt
  by_cases h : s.edgeMissed e = true
  · obtain ⟨r, hr⟩ := edgeRecorded_of_missed h rising
    have counted := numbered.trans (.setReg _ (satAdd ((s.setReg .timeEdgeSeq e 0 (BitVec.ofNat 32 (s.edgeNext e))).reg
      .timeEdgeMiss e) 1) e.isLt (by decide) (by decide) (by decide) (n := .timeEdgeMiss) (j := 0))
    rw [hr]
    refine ⟨rfl, ⟨counted.base, counted.cfg, counted.dly⟩, ?_, fun _ => ⟨?_, rfl⟩, fun no => absurd (h.symm.trans no) (by decide)⟩
    · exact (reg_setReg_of_name (by decide) e.isLt _ _ e.isLt).trans (State.reg_setReg_self ..)
    · exact (State.reg_setReg_self ..).trans (by rw [miss])
  · rw [Bool.not_eq_true] at h
    rw [edgeRecorded_of_captured h, numbered.edgeCapture]
    refine ⟨rfl, ⟨numbered.base, numbered.cfg, numbered.dly⟩, State.reg_setReg_self .., fun yes => absurd (h.symm.trans yes) (by decide),
      fun _ => ⟨miss, Store.get_put_self ..⟩⟩

/-- A trigger of the recall store leaves what the inputs hold and see. -/
theorem edgeAccepted_taken (s : State) (e : Fin 16) (rising : Bool) : s.EdgeTaken (s.edgeAccepted e rising) e rising := by
  have taken := edgeRecorded_taken s e rising
  rw [edgeAccepted_eq]
  split
  · obtain ⟨same, regs⟩ := trigger_same (s.edgeRecorded e rising) 1 e .auto
    generalize ((s.edgeRecorded e rising).trigger 1 e .auto none).2 = t at same regs ⊢
    have reg : ∀ n : RegName, n ≠ .wallRclIgn → 0 < n.row.n2 → ∀ i < n.row.n1, t.reg n i = (s.edgeRecorded e rising).reg n i :=
      fun n other hj i hi => regs _ _ (off_ne_of_name other hi hj (by decide) (by decide))
    have base : ∀ b, t.base b = (s.edgeRecorded e rising).base b := by rw [same]; exact fun _ => rfl
    have clock : t.clock = (s.edgeRecorded e rising).clock := by rw [same]
    have edge : t.edge e = (s.edgeRecorded e rising).edge e := by rw [same]; rfl
    have view := taken.view.trans (u := t)
      ⟨base, reg .timeEdgeCfg (by decide) (by decide), reg .timeEdgeDly (by decide) (by decide)⟩
    have miss := reg .timeEdgeMiss (by decide) (by decide) e e.isLt
    refine ⟨clock.trans taken.clock, view, (reg .timeEdgeSeq (by decide) (by decide) e e.isLt).trans taken.seq, ?_, ?_⟩
    · rw [miss, edge]
      exact taken.missed
    · rw [miss, edge]
      exact taken.captured
  · exact taken

theorem edgeRecorded_quiet (s : State) (e : Fin 16) (rising : Bool) :
    (s.edgeRecorded e rising).marks = s.marks ∧ (s.edgeRecorded e rising).markSeq = s.markSeq ∧
    (s.edgeRecorded e rising).flag .wallRclCfg 0 0 e = s.flag .wallRclCfg 0 0 e := by
  have numbered : (s.setReg .timeEdgeSeq e 0 (BitVec.ofNat 32 (s.edgeNext e))).reg .wallRclCfg = s.reg .wallRclCfg :=
    reg_setReg_of_name (by decide) (by decide) _ _ e.isLt
  by_cases h : s.edgeMissed e = true
  · obtain ⟨r, hr⟩ := edgeRecorded_of_missed h rising
    rw [hr]
    exact ⟨rfl, rfl, congrArg (bitOf · e)
      ((reg_setReg_of_name (n := .timeEdgeMiss) (by decide) (by decide) _ _ e.isLt).trans numbered)⟩
  · rw [edgeRecorded_of_captured (by simpa using h)]
    exact ⟨rfl, rfl, congrArg (bitOf · e) numbered⟩

/-- A transition of an input that triggers nothing leaves no mark. -/
theorem edgeAccepted_quiet {s : State} {e : Fin 16} (off : s.flag .wallRclCfg 0 0 e = false) (rising : Bool) :
    (s.edgeAccepted e rising).marks = s.marks ∧ (s.edgeAccepted e rising).markSeq = s.markSeq := by
  obtain ⟨marks, seq, flag⟩ := edgeRecorded_quiet s e rising
  rw [edgeAccepted_eq, flag, off]
  exact ⟨marks, seq⟩

/-! ### EDGE_TRANSITION -/

/-- Whether a transition is taken (R46): the device is powered, the input and the direction are on, and it has stayed. -/
def State.takesEdge (s : State) (e : Fin 16) (rising : Bool) (samples : Nat) : Bool :=
  s.power.pstate ≠ .keep && s.power.pstate ≠ .reset &&
    (s.flag .timeEdgeCfg e 0 0 && (if rising then s.flag .timeEdgeCfg e 0 1 else s.flag .timeEdgeCfg e 0 2)) &&
    s.field .timeEdgeCfg e 0 8 8 ≤ samples

theorem exec_edgeTransition (e : Fin 16) (rising : Bool) (samples dt : Nat) (s : State) :
    exec (.edgeTransition e rising samples dt) s =
      .next (settle s (if (s.elapse dt).deliverCaptures.takesEdge e rising samples then
        ((s.elapse dt).deliverCaptures.edgeAccepted e rising).deliverCaptures else (s.elapse dt).deliverCaptures)) := rfl

theorem deliverCaptures_regs (s : State) : s.deliverCaptures.regs = s.regs ∧ s.deliverCaptures.clock = s.clock ∧
    s.deliverCaptures.power = s.power ∧ s.deliverCaptures.marks = s.marks ∧ s.deliverCaptures.markSeq = s.markSeq := by
  have same := deliverCaptures_same s
  unfold State.SameButEdges at same
  rw [same]
  exact ⟨rfl, rfl, rfl, rfl, rfl⟩

theorem takesEdge_iff (s : State) (e : Fin 16) (rising : Bool) (samples : Nat) : s.takesEdge e rising samples = true ↔
    s.power.pstate ≠ .keep ∧ s.power.pstate ≠ .reset ∧ s.flag .timeEdgeCfg e 0 0 = true ∧
      s.flag .timeEdgeCfg e 0 (if rising then 1 else 2) = true ∧ s.field .timeEdgeCfg e 0 8 8 ≤ samples := by
  unfold State.takesEdge
  cases rising <;> simp [and_assoc]

theorem deliverCaptures_reg (s : State) (n : RegName) (i j : Nat) : s.deliverCaptures.reg n i j = s.reg n i j := by
  simp only [State.reg, (deliverCaptures_regs s).1]

theorem deliverCaptures_last (s : State) (e : Fin 16) : (s.deliverCaptures.edge e).last = (s.edge e).last := by
  rw [deliverCaptures_edge]

theorem edgeTransition_completes (e : Fin 16) (rising : Bool) (samples dt : Nat) (s : State) (sound : s.Sound) :
    let accepted : Prop := s.power.pstate ≠ .keep ∧ s.power.pstate ≠ .reset ∧ s.flag .timeEdgeCfg e 0 0 = true ∧
      s.flag .timeEdgeCfg e 0 (if rising then 1 else 2) = true ∧ s.field .timeEdgeCfg e 0 8 8 ≤ samples
    let missed : Prop := (∃ c, (s.edge e).last = some c ∧ s.clock + dt ≤ c + 20) ∨
      16 ≤ ((s.elapse dt).deliverCaptures.edge e).queue.length
    Completes (.edgeTransition e rising samples dt) s fun t =>
      t.clock = s.clock + dt ∧
      (¬ accepted → t.reg .timeEdgeSeq e = s.reg .timeEdgeSeq e ∧ t.reg .timeEdgeMiss e = s.reg .timeEdgeMiss e ∧
        (t.edge e).last = (s.edge e).last) ∧
      (accepted → t.reg .timeEdgeSeq e = BitVec.ofNat 32 (((s.reg .timeEdgeSeq e).toNat + 1) % 65536)) ∧
      (accepted → missed → t.reg .timeEdgeMiss e = satAdd (s.reg .timeEdgeMiss e) 1 ∧ (t.edge e).last = (s.edge e).last) ∧
      (accepted → ¬ missed → t.reg .timeEdgeMiss e = s.reg .timeEdgeMiss e ∧ (t.edge e).last = some (s.clock + dt) ∧
        let x := ((s.elapse dt).edgeCapture e rising (((s.reg .timeEdgeSeq e).toNat + 1) % 65536))
        (t.captureDue e x = false → x ∈ (t.edge e).queue)) ∧
      (s.flag .wallRclCfg 0 0 e = false → t.marks = s.marks) := by
  intro accepted missed
  refine ⟨_, exec_edgeTransition e rising samples dt s, ?_⟩
  -- the registers of the inputs lie below those that the delivery of events writes
  have lowSeq : ∀ u, (settle s u).reg .timeEdgeSeq e = u.reg .timeEdgeSeq e := fun u =>
    settle_reg _ _ _ _ _ (deliveryReg_of_lt (by simp only [RegName.off, RegName.row]; omega))
  have lowMiss : ∀ u, (settle s u).reg .timeEdgeMiss e = u.reg .timeEdgeMiss e := fun u =>
    settle_reg _ _ _ _ _ (deliveryReg_of_lt (by simp only [RegName.off, RegName.row]; omega))
  have edge : ∀ u, (settle s u).edge e = u.edge e := fun u => by simp only [State.edge, settle_edges]
  have taken : (s.elapse dt).deliverCaptures.takesEdge e rising samples = true ↔ accepted := by
    rw [takesEdge_iff]
    obtain ⟨regs, -, power, -⟩ := deliverCaptures_regs (s.elapse dt)
    simp only [State.flag, State.field, State.reg, regs, power]
    exact Iff.rfl
  have late : (s.elapse dt).deliverCaptures.edgeMissed e = true ↔ missed := by
    rw [edgeMissed_iff, deliverCaptures_last, (deliverCaptures_regs _).2.1]
    exact Iff.rfl
  obtain ⟨regs, clock, -, marks, seq⟩ := deliverCaptures_regs (s.elapse dt)
  by_cases take : accepted
  · rw [if_pos (taken.mpr take)]
    have done := edgeAccepted_taken (s.elapse dt).deliverCaptures e rising
    obtain ⟨regs', clock', -, marks', seq'⟩ :=
      deliverCaptures_regs ((s.elapse dt).deliverCaptures.edgeAccepted e rising)
    have next : (s.elapse dt).deliverCaptures.edgeNext e = ((s.reg .timeEdgeSeq e).toNat + 1) % 65536 := by
      unfold State.edgeNext
      rw [deliverCaptures_reg]
      rfl
    have counted : ∀ b, (s.elapse dt).deliverCaptures.reg .timeEdgeMiss b = s.reg .timeEdgeMiss b := fun b =>
      deliverCaptures_reg ..
    refine ⟨(settle_clock ..).trans (clock'.trans (done.clock.trans clock)), fun h => absurd take h, fun _ => ?_, fun _ h => ?_,
      fun _ h => ?_, fun off => ?_⟩
    · rw [lowSeq, deliverCaptures_reg, done.seq, next]
    · obtain ⟨miss, same⟩ := done.missed (late.mpr h)
      rw [lowMiss, deliverCaptures_reg, miss, counted, edge, deliverCaptures_last, same, deliverCaptures_last]
      exact ⟨rfl, rfl⟩
    · obtain ⟨miss, taken⟩ := done.captured (Bool.eq_false_iff.mpr (mt late.mp h))
      have seen := (State.SameEdgeView.ofSameButEdges (deliverCaptures_same (s.elapse dt))).edgeCapture e rising
        (((s.reg .timeEdgeSeq e).toNat + 1) % 65536)
      have view := (State.SameEdgeView.ofSameButEdges
        (deliverCaptures_same ((s.elapse dt).deliverCaptures.edgeAccepted e rising))).trans (.settle s _)
      rw [next, seen, clock] at taken
      rw [lowMiss, deliverCaptures_reg, miss, counted, edge, deliverCaptures_last, taken]
      refine ⟨rfl, rfl, fun wait => mem_deliverCaptures ?_ (by rw [← view.captureDue]; exact wait)⟩
      rw [taken]
      exact List.mem_append_right _ (List.mem_singleton_self _)
    · obtain ⟨quiet, number⟩ := edgeAccepted_quiet (s := (s.elapse dt).deliverCaptures) (e := e)
        (by simp only [State.flag, deliverCaptures_reg]; exact off) rising
      have log := marks'.trans (quiet.trans marks)
      exact (settle_marks_of_none (seq'.trans (number.trans seq)) (by rw [log]; exact sound.2.1)).trans log
  · rw [if_neg (mt taken.mp take)]
    refine ⟨(settle_clock ..).trans clock, fun _ => ⟨?_, ?_, ?_⟩, fun h => absurd h take, fun h => absurd h take,
      fun h => absurd h take, fun _ => ?_⟩
    · rw [lowSeq, deliverCaptures_reg]
      rfl
    · rw [lowMiss, deliverCaptures_reg]
      rfl
    · rw [edge, deliverCaptures_last]
      rfl
    · exact (settle_marks_of_none seq (by rw [marks]; exact sound.2.1)).trans marks


/-- Settles O9: snapshots, the two reads that act on a read set, and transitions of the inputs. -/
theorem timeReadSets : Obligations.TimeReadSets :=
  ⟨fun o s sound h => snap_completes o s sound h,
    fun _ _ _ sound whole reach win free => timeReadLatch_completes sound whole reach win free,
    fun _ _ _ sound whole reach win free => secHiRead_completes sound whole reach win free,
    fun e rising samples dt s sound => edgeTransition_completes e rising samples dt s sound⟩

end Sys2Proof.Machine
end

section
/-!
SUPPORT. Supplies, resets and temperature (20, 21): what the delivery of events does to a device without rings, what a reset and a
gap of the main rails leave, and what samples, TRIP and PARK change. From these O55 to O58.
-/
namespace Sys2Proof.Machine

/-- The frame of a command that appends no mark. -/
theorem frame_settle {s0 u : State} (seq : u.markSeq = s0.markSeq) (held : u.marks.length ≤ 4096)
    (pending : u.pending = s0.pending) : State.Frame u (settle s0 u) :=
  { settle_frame s0 u with
    marks := settle_marks_of_none seq held
    pending := pending.symm }

/-! ### Delivery while every ring is OFF -/

/-- No ring of the device is enabled, the management queue's and the mirror's among them. -/
def State.RingsOff (s : State) : Prop := ∀ r, (s.ring r).state = .off

theorem ringsOff_of_rings {s t : State} (h : s.RingsOff) (same : t.rings = s.rings) : t.RingsOff := fun r => by
  rw [ring_of_rings same]
  exact h r

theorem ringsOff_of_no_rings {s : State} (h : s.rings = []) : s.RingsOff := fun r => by simp only [State.ring, h]; rfl

theorem take_of_ringsOff {s : State} (h : s.RingsOff) (q : Nat) (e : EventRec) : s.take q e = s := by
  unfold State.take
  split
  · rfl
  · simp only [h _, decide_true, Bool.true_or, if_true]

theorem offer_of_ringsOff {s : State} (h : s.RingsOff) (e : EventRec) : ∃ l, s.offer e = { s with held := l } := by
  have none : ∀ qs : List Nat, qs.foldl (fun s q => s.take q e) s = s := by
    intro qs
    induction qs with
    | nil => rfl
    | cons q qs ih => rw [List.foldl_cons, take_of_ringsOff h, ih]
  unfold State.offer
  split
  · exact ⟨_, rfl⟩
  · exact ⟨s.held, none _⟩

theorem deliver_of_ringsOff (n : Nat) {s : State} (h : s.RingsOff) :
    ∃ l, State.deliver n s = { s with held := l, raised := [] } := by
  have all : ∀ (es : List EventRec) (u : State), u.RingsOff → ∃ l, es.foldl State.offer u = { u with held := l } := by
    intro es
    induction es with
    | nil => exact fun u _ => ⟨u.held, rfl⟩
    | cons e es ih =>
      intro u hu
      obtain ⟨l, hl⟩ := offer_of_ringsOff hu e
      obtain ⟨k, hk⟩ := ih (u.offer e) (by rw [hl]; exact hu)
      exact ⟨k, by rw [List.foldl_cons, hk, hl]⟩
  induction n generalizing s with
  | zero => exact ⟨s.held, rfl⟩
  | succ n ih =>
    unfold State.deliver
    split
    next quiet => exact ⟨s.held, by rw [← quiet]⟩
    next =>
      obtain ⟨l, hl⟩ := all (sortBy eventLe s.raised) { s with raised := [] } h
      rw [hl]
      exact ih h

/-- A device without enabled rings ends a command with its marks in order, events held in the island and the service flags. -/
theorem settle_of_ringsOff (s0 : State) {u : State} (h : u.RingsOff) : ∃ l f, settle s0 u =
    { u with marks := keepMarks (orderMarks s0 u), pending := s0.pending, held := l, raised := [], service := f } := by
  obtain ⟨l, hl⟩ := deliver_of_ringsOff 64 (ringsOff_of_rings h (reportService_rings u))
  have ended : u.endClock = _ := hl
  have rest : u.reportService = { u with service := u.reportService.service, raised := u.reportService.raised } := by
    unfold State.reportService
    dsimp only
    split <;> rfl
  refine ⟨l, u.reportService.service, ?_⟩
  rw [settle, ended]
  rw [rest]
  rfl

theorem settle_of_no_rings (s0 : State) {u : State} (h : u.rings = []) : ∃ l f, settle s0 u =
    { u with marks := keepMarks (orderMarks s0 u), pending := s0.pending, held := l, raised := [], service := f } :=
  settle_of_ringsOff s0 (ringsOff_of_no_rings h)

/-! ### What a reset leaves -/

theorem Store.get_filter {α : Type} (d : α) (m : Store α) (p : Nat → Bool) (k : Nat) :
    Store.get d (m.filter fun e => p e.1) k = if p k then Store.get d m k else d := by
  induction m with
  | nil => simp
  | cons e m ih =>
    obtain ⟨j, v⟩ := e
    by_cases hj : p j = true <;> by_cases hk : j = k
    · subst hk
      simp [hj, Store.get]
    · simp [hj, hk, Store.get, ih]
    · subst hk
      simp only [hj, Bool.false_eq_true, if_false] at ih ⊢
      simpa [hj] using ih
    · simp [hj, hk, Store.get, ih]

/-- A device reset of a state that shares with `s` what a reset looks at. -/
theorem deviceReset_resetTo (s0 s : State) (cause : Nat) (o : Origin) (perst : Bool) :
    s.ResetTo (settle s0 { s.deviceReset cause o with power := { (s.deviceReset cause o).power with perst } }) cause := by
  obtain ⟨l, f, e⟩ := settle_of_no_rings s0
    (u := { s.deviceReset cause o with power := { (s.deviceReset cause o).power with perst } }) rfl
  rw [e]
  refine ⟨rfl, rfl, rfl, rfl, fun b => ?_, rfl, fun d off _ => ?_, ⟨rfl, rfl, rfl, rfl⟩,
    ⟨rfl, rfl, rfl, rfl, rfl, rfl, rfl, rfl⟩, rfl, rfl, rfl, rfl⟩
  · match b with
    | 0 | 1 | 2 | 3 => rfl
  · exact Store.get_filter d s.regs islandReg off

/-! ### Device resets -/

theorem exec_perstAssert (s : State) (free : s.power.pstate ≠ .keep ∧ s.power.por = false ∧ s.power.perst = false) :
    exec .perstAssert s = .next (settle s { s.deviceReset 1 .auto with
      power := { (s.deviceReset 1 .auto).power with perst := true } }) := by
  obtain ⟨keep, por, perst⟩ := free
  show execPerstAssert s = _
  simp [execPerstAssert, effect, keep, por, perst]

/-- DEVRST written resets the device behind the write's mark (R420). -/
theorem accept_devrst (s : State) (o : Origin) {v : Word} (set : bitOf v 0 = true) :
    s.accept o ⟨.glbCtrl, 0, 0⟩ v {} = (s.writeMarked o ⟨.glbCtrl, 0, 0⟩ v).deviceReset (if o = .tw0 then 3 else 2) o := by
  have marked : RegAt.marked ⟨.glbCtrl, 0, 0⟩ = true := by decide
  simp only [State.accept, marked, if_true, State.devrst, set]
  rfl

theorem State.ResetTo.of_writeMarked {s t : State} {o : Origin} {r : RegAt} {v : Word} {cause : Nat}
    (h : (s.writeMarked o r v).ResetTo t cause) : s.ResetTo t cause where
  pstate := h.pstate
  cause := h.cause
  trip := h.trip
  win := h.win
  base := h.base
  clock := h.clock
  regs := h.regs
  dram := h.dram
  units := h.units
  tick := h.tick
  tw0 := h.tw0
  fuses := h.fuses
  out := h.out

/-- Settles O58: PERST_N, the watchdog and DEVRST, each with its cause. -/
theorem deviceResets : Obligations.DeviceResets := by
  refine ⟨fun s keep por perst => ?_, fun s sound => ⟨fun held => ?_, fun down => ?_⟩, fun s keep reset => ?_,
    fun o v s accepted => ?_⟩
  · exact ⟨_, exec_perstAssert s ⟨keep, por, perst⟩, deviceReset_resetTo .., by rw [settle_power], by rw [settle_markSeq]; rfl⟩
  · refine ⟨_, ?_, rfl⟩
    show execPerstAssert s = _
    have out : (s.power.pstate = .keep || s.power.por || s.power.perst) = true := by simpa [or_assoc] using held
    refine effect_of_sound (by simp only [out, if_true]) ?_ rfl rfl
    exact sound
  · refine ⟨s, ?_, rfl⟩
    show execWatchdogExpiry s = _
    exact effect_of_sound (if_pos (by simpa using down)) sound rfl rfl
  · have run : exec .watchdogExpiry s = .next (settle s (s.deviceReset 4 .auto)) := by
      show execWatchdogExpiry s = _
      simp [execWatchdogExpiry, effect, keep, reset]
    exact ⟨_, run, deviceReset_resetTo s s 4 .auto s.power.perst, by rw [settle_markSeq]; rfl⟩
  · refine completes_of_write rfl accepted ?_
    rw [accept_devrst s o (by simp [bitOf_eq_getLsbD])]
    refine ⟨State.ResetTo.of_writeMarked (deviceReset_resetTo s _ _ o s.power.perst), ?_⟩
    rw [settle_markSeq]
    show s.markSeq + 1 + 1 = s.markSeq + 2
    rw [add_assoc]
    rfl

/-! ### The island and its supplies -/

theorem switched_facts (s : State) (n : RegName) (code event : Nat) :
    (s.switched n code event).markSeq = s.markSeq + 1 ∧ (s.switched n code event).reg n = satAdd (s.reg n) 1 ∧
    (s.switched n code event).power.onBack = s.power.onBack ∧ (s.switched n code event).power.mainOk = s.power.mainOk := by
  have counted : (s.bump n).reg n = satAdd (s.reg n) 1 := State.reg_setReg_self ..
  unfold State.switched
  dsimp only
  split
  · exact ⟨rfl, counted, rfl, rfl⟩
  · exact ⟨rfl, counted, rfl, rfl⟩

/-- BACK_OK changes, with its event; nothing else. -/
theorem backChange_frame {s : State} {ok : Bool} {cause : Nat} (onBack : s.power.onBack = false) (other : s.power.backOk ≠ ok)
    (supplied : s.power.supplied = true) (held : s.marks.length ≤ 4096) :
    (settle s (s.backChange ok cause)).power = { s.power with backOk := ok } ∧
    State.Frame { s with power := (settle s (s.backChange ok cause)).power } (settle s (s.backChange ok cause)) := by
  have changed : s.backChange ok cause = { s with power := { s.power with backOk := ok } }.raise 0x0B03 [(1, cause), (7, 0)] :=
    if_neg (by simp [onBack, other, supplied])
  rw [settle_power, changed]
  exact ⟨rfl, { frame_settle (s0 := s) (u := State.raise { s with power := { s.power with backOk := ok } } 0x0B03
    [(1, cause), (7, 0)]) rfl held rfl with }⟩

/-- Settles O56: power-on reset, the loss of the supply and its return, and the switches of the supply. -/
theorem islandAndPowerOnReset : Obligations.IslandAndPowerOnReset := by
  have lost : ∀ s : State, (settle s s.islandLost) = s.islandLost ∧
      settle s { s.islandLost with power := { s.islandLost.power with supplied := true } } =
        { s.islandLost with power := { s.islandLost.power with supplied := true } } := by
    intro s
    have marks : ∀ u : State, u.marks = [] → keepMarks (orderMarks s u) = [] := by
      intro u h
      simp [orderMarks, h, sortBy, renumber, keepMarks]
    constructor
    · rw [settle_quiet s s.islandLost rfl rfl, marks _ rfl]
      rfl
    · rw [settle_quiet s { s.islandLost with power := { s.islandLost.power with supplied := true } } rfl rfl, marks _ rfl]
      rfl
  have back : deliveryReg (RegName.pwrSwBack.off 0 0) = false := by decide
  have main : deliveryReg (RegName.pwrSwMain.off 0 0) = false := by decide
  refine ⟨fun straps s sound por reset supplied => ?_, ⟨fun s => ?_, fun s => ?_⟩, ?_, ?_, ?_, ?_⟩
  · refine ⟨_, ?_, rfl⟩
    show execPowerOnResetEnd straps s = _
    refine effect_of_sound (by simp [por, reset, supplied]) ?_ rfl rfl
    exact sound
  · exact ⟨_, rfl, (lost s).1⟩
  · exact ⟨_, rfl, (lost s).2⟩
  · intro s supplied onBack backOk
    have run : exec .switchToBack s = .next (settle s (State.switched
        { s with power := { s.power with onBack := true, mainOk := false } } .pwrSwBack 3 0x0B01)) := by
      show execSwitchToBack s = _
      simp [execSwitchToBack, effect, supplied, onBack, backOk]
    obtain ⟨seq, reg, on, ok⟩ := switched_facts { s with power := { s.power with onBack := true, mainOk := false } } .pwrSwBack 3 0x0B01
    exact ⟨_, run, by rw [settle_power, on], by rw [settle_power, ok], by rw [settle_reg _ _ _ _ _ back, reg]; rfl,
      by rw [settle_markSeq, seq]⟩
  · intro s supplied onBack
    have run : exec .switchToMain s = .next (settle s (State.switched
        { s with power := { s.power with onBack := false, mainOk := true } } .pwrSwMain 4 0x0B02)) := by
      show execSwitchToMain s = _
      simp [execSwitchToMain, effect, supplied, onBack]
    obtain ⟨seq, reg, on, ok⟩ := switched_facts { s with power := { s.power with onBack := false, mainOk := true } } .pwrSwMain 4 0x0B02
    exact ⟨_, run, by rw [settle_power, on], by rw [settle_power, ok], by rw [settle_reg _ _ _ _ _ main, reg]; rfl,
      by rw [settle_markSeq, seq]⟩
  · intro s sound supplied onBack
    exact ⟨fun ok => ⟨_, rfl, backChange_frame onBack (by rw [ok]; decide) supplied sound.2.1⟩,
      fun ok => ⟨_, rfl, backChange_frame onBack (by rw [ok]; decide) supplied sound.2.1⟩⟩
  · intro s sound
    refine ⟨fun idle => ⟨⟨s, ?_, rfl⟩, ⟨s, ?_, rfl⟩⟩, fun idle => ⟨s, ?_, rfl⟩, fun idle => ⟨s, ?_, rfl⟩⟩
    · show execSwitchToBack s = _
      exact effect_of_sound (if_neg (by rcases idle with h | h | h <;> simp [h])) sound rfl rfl
    · show execVkaBackLost s = _
      exact effect_of_sound (if_pos (by rcases idle with h | h | h <;> simp [h])) sound rfl rfl
    · show execSwitchToMain s = _
      exact effect_of_sound (if_neg (by rcases idle with h | h <;> simp [h])) sound rfl rfl
    · show execVkaBackRegained s = _
      exact effect_of_sound (if_pos (by rcases idle with h | h | h <;> simp [h])) sound rfl rfl

/-! ### The main rails -/

theorem gapBase_base (s : State) (b c : Nat) : ((s.gapBase b).base c).acc = (s.base c).acc ∧
    ((s.gapBase b).base c).state = (s.base c).state := by
  have index : c % 4 = b % 4 → s.base c = s.base b := fun h => by simp only [State.base, h]
  unfold State.gapBase
  dsimp only
  split
  · rw [State.base_setBase]
    split
    next h => rw [index h]; exact ⟨rfl, rfl⟩
    next => exact ⟨rfl, rfl⟩
  · exact ⟨rfl, rfl⟩

theorem gapBase_tbs (s : State) (b : Nat) : s.gapBase b = { s with
    tb0 := (s.gapBase b).tb0, tb1 := (s.gapBase b).tb1, tb2 := (s.gapBase b).tb2, tb3 := (s.gapBase b).tb3 } := by
  unfold State.gapBase
  dsimp only
  split
  · exact setBase_tbs ..
  · rfl

/-- The bases as the main rails fall: each keeps its value and state, and nothing else changes (R40, R41). -/
theorem gapBases (s : State) : ∃ t0 t1 t2 t3, (List.range 4).foldl State.gapBase s = { s with tb0 := t0, tb1 := t1, tb2 := t2, tb3 := t3 } ∧
    ∀ c, (((List.range 4).foldl State.gapBase s).base c).acc = (s.base c).acc ∧
      (((List.range 4).foldl State.gapBase s).base c).state = (s.base c).state := by
  have all : ∀ (l : List Nat) (u : State), ∃ t0 t1 t2 t3, l.foldl State.gapBase u = { u with tb0 := t0, tb1 := t1, tb2 := t2, tb3 := t3 } ∧
      ∀ c, ((l.foldl State.gapBase u).base c).acc = (u.base c).acc ∧ ((l.foldl State.gapBase u).base c).state = (u.base c).state := by
    intro l
    induction l with
    | nil => exact fun u => ⟨u.tb0, u.tb1, u.tb2, u.tb3, rfl, fun _ => ⟨rfl, rfl⟩⟩
    | cons b l ih =>
      intro u
      obtain ⟨t0, t1, t2, t3, same, kept⟩ := ih (u.gapBase b)
      refine ⟨t0, t1, t2, t3, ?_, fun c => ⟨(kept c).1.trans (gapBase_base u b c).1, (kept c).2.trans (gapBase_base u b c).2⟩⟩
      rw [List.foldl_cons, same, gapBase_tbs u b]
  exact all _ s

theorem railLoss_of_powered {s : State} (h : s.power.pstate ≠ .keep) :
    let u := ((List.range 4).foldl State.gapBase (s.action .power 1 0 0)).islandOnly
    s.railLoss = { u with power := { u.power with pstate := .keep, por := true, gapClock := u.clock, gapSwitches := 0
                                                  gapRecall := s.rcl.state.code } } := by
  obtain ⟨t0, t1, t2, t3, same, -⟩ := gapBases (s.action .power 1 0 0)
  unfold State.railLoss
  rw [if_neg h]
  dsimp only
  rw [same]
  rfl

/-- The loss of the main rails leaves the island alone, in KEEP (R403, R404). -/
theorem railLoss_leaves {s : State} (h : s.power.pstate ≠ .keep) :
    let t := settle s s.railLoss
    t.power.pstate = .keep ∧ t.power.por = true ∧ t.power.gapClock = s.clock ∧ t.clock = s.clock ∧
    t.markSeq = s.markSeq + 1 ∧ (∀ b : Fin 4, (t.base b).acc = (s.base b).acc ∧ (t.base b).state = (s.base b).state) ∧
    (∀ (d : Word) (off : Nat), deliveryReg off = false →
      Store.get d t.regs off = if islandReg off then Store.get d s.regs off else d) ∧
    t.fuses = s.fuses ∧ t.dram = [] ∧ t.trays = [] ∧ t.lanes = [] ∧ t.ports = [] ∧ t.rings = [] ∧ t.rcl = {} := by
  obtain ⟨t0, t1, t2, t3, same, kept⟩ := gapBases (s.action .power 1 0 0)
  rw [railLoss_of_powered h, same]
  rw [same] at kept
  obtain ⟨l, f, e⟩ := settle_of_no_rings s (u := { (State.islandOnly { s.action .power 1 0 0 with tb0 := t0, tb1 := t1, tb2 := t2, tb3 := t3 }) with
    power := { (State.islandOnly { s.action .power 1 0 0 with tb0 := t0, tb1 := t1, tb2 := t2, tb3 := t3 }).power with
      pstate := .keep, por := true, gapClock := s.clock, gapSwitches := 0, gapRecall := s.rcl.state.code } }) rfl
  dsimp only
  have ended := e
  refine ⟨congrArg (·.power.pstate) e, congrArg (·.power.por) e, congrArg (·.power.gapClock) e, congrArg (·.clock) e,
    congrArg (·.markSeq) e, fun b => ?_, fun d off _ => ?_, congrArg (·.fuses) e, congrArg (·.dram) e, congrArg (·.trays) e,
    congrArg (·.lanes) e, congrArg (·.ports) e, congrArg (·.rings) e, congrArg (·.rcl) e⟩
  · rw [settle_base]
    match b with
    | 0 => exact kept 0
    | 1 => exact kept 1
    | 2 => exact kept 2
    | 3 => exact kept 3
  · exact (congrArg (fun t => Store.get d t.regs off) e).trans (Store.get_filter d s.regs islandReg off)

theorem returnBase_same (s : State) (b : Nat) : s.SameButBases (s.returnBase b) := by
  unfold State.returnBase
  dsimp only
  split
  · rfl
  · split
    · exact ((setBase_same ..).trans (baseEvent_same ..)).trans (checkErrb_same ..)
    · exact (setBase_same ..).trans (checkErrb_same ..)

theorem returnBase_base_of_ne {s : State} {b c : Nat} (h : c % 4 ≠ b % 4) : (s.returnBase b).base c = s.base c := by
  unfold State.returnBase
  dsimp only
  split
  · rfl
  · split <;> simp only [checkErrb_base, if_neg h, baseEvent_base, State.base_setBase]

/-- A base as the main rails return: GAP, and HOLDOVER for one that was LOCKED (R41). -/
theorem returnBase_base {s : State} {b : Nat} (h : b ≠ 2) : ∃ e f, (s.returnBase b).base b =
    { s.base b with gap := true, state := if (s.base b).state = .locked then .holdover else (s.base b).state, fr := f, errb := e } := by
  unfold State.returnBase
  dsimp only
  rw [if_neg h]
  split
  · simp only [checkErrb_base, baseEvent_base, State.base_setBase, if_true]
    exact ⟨_, _, rfl⟩
  · simp only [checkErrb_base, State.base_setBase, if_true]
    exact ⟨_, (s.base b).fr, rfl⟩

/-- The four bases one after the other: each as its own return leaves it. -/
theorem returnBases (s : State) : s.SameButBases ((List.range 4).foldl State.returnBase s) ∧
    (∀ b : Fin 4, (((List.range 4).foldl State.returnBase s).base b).acc = (s.base b).acc ∧
      (b ≠ 2 → (((List.range 4).foldl State.returnBase s).base b).gap = true ∧
        (((List.range 4).foldl State.returnBase s).base b).state =
          if (s.base b).state = .locked then .holdover else (s.base b).state)) := by
  have unrolled : (List.range 4).foldl State.returnBase s =
    (((s.returnBase 0).returnBase 1).returnBase 2).returnBase 3 := rfl
  rw [unrolled]
  refine ⟨(((returnBase_same s 0).trans (returnBase_same _ 1)).trans (returnBase_same _ 2)).trans (returnBase_same _ 3), fun b => ?_⟩
  have base : ∃ u : State, u.base b = s.base b ∧
      ((((s.returnBase 0).returnBase 1).returnBase 2).returnBase 3).base b = (u.returnBase b).base b := by
    match b with
    | 0 => exact ⟨s, rfl, (returnBase_base_of_ne (by decide)).trans
        ((returnBase_base_of_ne (by decide)).trans (returnBase_base_of_ne (by decide)))⟩
    | 1 => exact ⟨s.returnBase 0, returnBase_base_of_ne (by decide),
        (returnBase_base_of_ne (by decide)).trans (returnBase_base_of_ne (by decide))⟩
    | 2 => exact ⟨(s.returnBase 0).returnBase 1, (returnBase_base_of_ne (by decide)).trans (returnBase_base_of_ne (by decide)),
        returnBase_base_of_ne (by decide)⟩
    | 3 => exact ⟨((s.returnBase 0).returnBase 1).returnBase 2, (returnBase_base_of_ne (by decide)).trans
        ((returnBase_base_of_ne (by decide)).trans (returnBase_base_of_ne (by decide))), rfl⟩
  obtain ⟨u, old, new⟩ := base
  rw [new, ← old]
  by_cases two : b = 2
  · subst two
    exact ⟨rfl, fun h => absurd rfl h⟩
  · obtain ⟨e, f, he⟩ := returnBase_base (s := u) (b := b) (by omega)
    rw [he]
    exact ⟨rfl, fun _ => ⟨rfl, rfl⟩⟩

/-- The event of a recall store whose content was lost in the gap (R244). -/
def State.gapLost (s : State) (lost : Nat) : State :=
  if lost ≠ 0 then { s with rcl := { s.rcl with lost := true } }.raise 0x0513 [(1, 2), (1, lost), (6, 0)] else s

theorem gapLost_facts (s : State) (lost : Nat) : (s.gapLost lost).clock = s.clock ∧ (∀ b, (s.gapLost lost).base b = s.base b) ∧
    (s.gapLost lost).regs = s.regs ∧ (s.gapLost lost).markSeq = s.markSeq := by
  unfold State.gapLost
  split <;> exact ⟨rfl, fun _ => rfl, rfl, rfl⟩

/-- The end of a gap once its length is held: its mark and events, and the device waits in RESET (R408). -/
def State.gapEnded (s : State) (ms n lost : Nat) : State :=
  let s := ((s.action .power 2 ms n).raise 0x0B10 [(4, ms), (2, n), (2, 0)]).gapLost lost
  { s with power := { s.power with pstate := .reset, returned := true, returnDone := [], gapRecall := 0 } }

theorem gapEnded_facts (s : State) (ms n lost : Nat) :
    (s.gapEnded ms n lost).clock = s.clock ∧ (∀ b, (s.gapEnded ms n lost).base b = s.base b) ∧
    (s.gapEnded ms n lost).regs = s.regs ∧ (s.gapEnded ms n lost).markSeq = s.markSeq + 1 ∧
    (s.gapEnded ms n lost).power.pstate = .reset ∧ (s.gapEnded ms n lost).power.returned = true := by
  obtain ⟨clock, base, regs, seq⟩ := gapLost_facts ((s.action .power 2 ms n).raise 0x0B10 [(4, ms), (2, n), (2, 0)]) lost
  exact ⟨clock, base, regs, seq, rfl, rfl⟩

/-- The gap is counted and its length held (R408). -/
def State.gapCounted (s : State) (ms : Nat) : State := (s.bump .pwrGaps).setReg .pwrGapLast 0 0 (BitVec.ofNat 32 ms)

theorem gapCounted_regs (s : State) (ms : Nat) : (s.gapCounted ms).reg .pwrGaps = satAdd (s.reg .pwrGaps) 1 ∧
    (s.gapCounted ms).reg .pwrGapLast = BitVec.ofNat 32 ms :=
  ⟨(reg_setReg_of_name (by decide) (by decide) _ _ (by decide)).trans (State.reg_setReg_self ..), State.reg_setReg_self ..⟩

theorem railReturn_eq (s : State) : s.railReturn =
    (((List.range 4).foldl State.returnBase s).gapCounted s.gapMs).gapEnded s.gapMs s.power.gapSwitches
      ((List.range 4).foldl State.returnBase s).power.gapRecall := rfl

/-- What the return of the main rails leaves (R408). -/
theorem railReturn_facts (s : State) :
    s.railReturn.clock = s.clock ∧ (∀ b : Fin 4, s.railReturn.base b = ((List.range 4).foldl State.returnBase s).base b) ∧
    s.railReturn.reg .pwrGaps = satAdd (s.reg .pwrGaps) 1 ∧
    s.railReturn.reg .pwrGapLast = BitVec.ofNat 32 s.gapMs ∧
    s.railReturn.markSeq = s.markSeq + 1 ∧ s.railReturn.power.pstate = .reset ∧ s.railReturn.power.returned = true := by
  obtain ⟨same, -⟩ := returnBases s
  rw [railReturn_eq]
  generalize s.gapMs = ms
  generalize (List.range 4).foldl State.returnBase s = u at same ⊢
  unfold State.SameButBases at same
  obtain ⟨clock, base, regs, seq, pstate, returned⟩ :=
    gapEnded_facts (u.gapCounted ms) ms s.power.gapSwitches u.power.gapRecall
  obtain ⟨gaps, last⟩ := gapCounted_regs u ms
  refine ⟨clock.trans ?_, fun b => base b, ?_, ?_, seq.trans ?_, pstate, returned⟩
  · show u.clock = s.clock
    rw [same]
  · rw [State.reg, regs, ← State.reg, gaps, same]
    rfl
  · rw [State.reg, regs, ← State.reg, last]
  · show u.markSeq + 1 = s.markSeq + 1
    rw [same]

/-- Settles O55: a loss of the main rails or of CLK_REF, the return, and either where it changes nothing. -/
theorem railsFallAndReturn : Obligations.RailsFallAndReturn := by
  refine ⟨fun s powered c hc => ?_, fun clocks s keep supplied => ?_, fun clocks s sound => ⟨fun keep c hc => ?_, fun idle => ?_⟩⟩
  · rcases hc with rfl | rfl
    · exact ⟨_, rfl, railLoss_leaves powered⟩
    · exact ⟨_, rfl, railLoss_leaves powered⟩
  · have run : exec (.mainRailReturn clocks) s = .next (settle s (s.elapse clocks).railReturn) := by
      show execMainRailReturn clocks s = _
      simp [execMainRailReturn, effect, keep, supplied]
    obtain ⟨clock, base, gaps, last, seq, pstate, returned⟩ := railReturn_facts (s.elapse clocks)
    obtain ⟨-, bases⟩ := returnBases (s.elapse clocks)
    refine ⟨_, run, (settle_clock ..).trans clock, fun b => ?_, fun b two => ?_, ?_, ?_, (settle_markSeq ..).trans seq, ?_, ?_⟩
    · rw [settle_base, base, (bases b).1, base_elapse]
      rfl
    · obtain ⟨gap, state⟩ := (bases b).2 two
      rw [settle_base, base, gap, state, base_elapse]
      exact ⟨rfl, rfl⟩
    · rw [settle_reg _ _ _ _ _ (by decide), gaps]
      rfl
    · rw [settle_reg _ _ _ _ _ (by decide), last]
      rfl
    · rw [settle_power, pstate]
    · rw [settle_power, returned]
  · have quiet : s.railLoss = s := if_pos keep
    refine ⟨s, ?_, rfl⟩
    rcases hc with rfl | rfl
    · show effect State.railLoss s = _
      exact effect_of_sound quiet sound rfl rfl
    · show effect State.railLoss s = _
      exact effect_of_sound quiet sound rfl rfl
  · refine ⟨s, ?_, rfl⟩
    show execMainRailReturn clocks s = _
    exact effect_of_sound (if_neg (by rcases idle with h | h <;> simp [h])) sound rfl rfl

end Sys2Proof.Machine
end

section
/-!
SUPPORT. Temperature samples, TRIP and PARK (R411, R415, R416): the highest reading, what a sample stores, and what entering and
leaving PARK change. From these O57.
-/
namespace Sys2Proof.Machine

/-! ### A register by its index -/

/-- Two indexes of one name have no offset in common (O5). -/
theorem off_ne_of_index (n : RegName) {i k : Nat} (other : i ≠ k) (hi : i < n.row.n1) (hk : k < n.row.n1)
    (h0 : 0 < n.row.n2 := by decide) : n.off i ≠ n.off k := by
  intro same
  have found := registerMapUnambiguous n i 0 hi h0
  rw [same, registerMapUnambiguous n k 0 hk h0] at found
  exact other (congrArg RegAt.i (Option.some.inj found)).symm

theorem reg_setReg_of_index (s : State) {n : RegName} {i k : Nat} (v : Word) (other : i ≠ k) (hi : i < n.row.n1)
    (hk : k < n.row.n1) (h0 : 0 < n.row.n2 := by decide) : (s.setReg n k 0 v).reg n i = s.reg n i :=
  State.reg_setReg_of_ne _ _ _ _ _ _ _ _ (off_ne_of_index n other hi hk h0)

/-! ### An accepted write to a register that acts -/

/-- An accepted write to any register but GLB_CTRL and TIME_CFG: its mark, what it stores and what it does. -/
theorem accept_of_acting (s : State) (o : Origin) {r : RegAt} (v : Word) (h : WriteHint) (glb : r.name ≠ .glbCtrl)
    (cfg : r.name ≠ .timeCfg) : s.accept o r v h =
      ((((if r.marked then s.writeMarked o r v else s).stored r v).actsA o r (s.reg r.name r.i r.j) v h).actsB o r
        (s.reg r.name r.i r.j) v h) := by
  unfold State.accept
  dsimp only
  rw [if_neg glb, if_neg cfg, if_neg cfg]
  rfl

/-! ### Samples -/

theorem hottest_max (k : Nat) (xs : List (BitVec 16)) : ∀ x ∈ xs, x.toInt ≤ (hottest k xs).1.toInt := by
  induction xs generalizing k with
  | nil => exact fun _ h => nomatch h
  | cons r rs ih =>
    intro x hx
    unfold hottest
    dsimp only
    split
    next h =>
      rcases List.mem_cons.mp hx with rfl | hx
      · exact le_refl _
      · exact (ih _ x hx).trans h
    next h =>
      rcases List.mem_cons.mp hx with rfl | hx
      · exact (not_le.mp h).le
      · exact ih _ x hx

theorem hottest_mem (k : Nat) {xs : List (BitVec 16)} (h : xs ≠ []) : (hottest k xs).1 ∈ xs := by
  induction xs generalizing k with
  | nil => exact absurd rfl h
  | cons r rs ih =>
    unfold hottest
    dsimp only
    split
    next => exact List.mem_cons_self
    next lower =>
      refine List.mem_cons_of_mem _ (ih _ ?_)
      rintro rfl
      exact lower (BitVec.le_toInt r)

/-- The sensors' registers as a sample leaves them. -/
def State.sampled (s : State) (xs : List (BitVec 16)) : State :=
  (List.range 8).foldl (fun s k => s.setReg .pwrTs k 0 ((xs.getD k 0).zeroExtend 32)) s

theorem sampled_reg (s : State) (xs : List (BitVec 16)) (k : Fin 8) :
    (s.sampled xs).reg .pwrTs k = (xs.getD k 0).zeroExtend 32 := by
  have each : ∀ (l : List Nat) (u : State), (∀ i ∈ l, i < 8) → (k : Nat) ∈ l ∨ u.reg .pwrTs k = (xs.getD k 0).zeroExtend 32 →
      (l.foldl (fun s k => s.setReg .pwrTs k 0 ((xs.getD k 0).zeroExtend 32)) u).reg .pwrTs k = (xs.getD k 0).zeroExtend 32 := by
    intro l
    induction l with
    | nil => exact fun u _ h => h.resolve_left List.not_mem_nil
    | cons i l ih =>
      intro u small h
      refine ih _ (fun j hj => small j (List.mem_cons_of_mem _ hj)) ?_
      by_cases same : (k : Nat) = i
      · subst same
        exact .inr (State.reg_setReg_self ..)
      · refine h.imp (fun mem => (List.mem_cons.mp mem).resolve_left same) fun held => ?_
        rw [reg_setReg_of_index u (n := .pwrTs) _ same k.isLt (small i List.mem_cons_self), held]
  exact each _ s (fun i hi => List.mem_range.mp hi) (.inl (List.mem_range.mpr k.isLt))

theorem sampled_reg_of_name {n : RegName} (other : n ≠ .pwrTs) (h1 : 0 < n.row.n1) (h2 : 0 < n.row.n2) (s : State)
    (xs : List (BitVec 16)) : (s.sampled xs).reg n = s.reg n := by
  have each : ∀ (l : List Nat) (u : State), (∀ i ∈ l, i < 8) →
      (l.foldl (fun s k => s.setReg .pwrTs k 0 ((xs.getD k 0).zeroExtend 32)) u).reg n = u.reg n := by
    intro l
    induction l with
    | nil => exact fun _ _ => rfl
    | cons i l ih =>
      intro u small
      have hi : i < RegName.pwrTs.row.n1 := small i List.mem_cons_self
      exact (ih _ fun j hj => small j (List.mem_cons_of_mem _ hj)).trans (reg_setReg_of_name other h1 _ _ hi h2)
  exact each _ s fun i hi => List.mem_range.mp hi

theorem sampled_power (s : State) (xs : List (BitVec 16)) : (s.sampled xs).power = s.power := rfl

/-- TJ and its peak held (R415). -/
def State.peaked (s : State) (tj : BitVec 16) : State :=
  let u := s.setReg .pwrTj 0 0 (tj.zeroExtend 32)
  if (BitVec.ofNat 16 (s.reg .pwrTjPeak).toNat).toInt < tj.toInt then u.setReg .pwrTjPeak 0 0 (tj.zeroExtend 32) else u

/-- The warning begins at its threshold and ends 5 °C below it (R415). -/
def State.warned (s : State) (tj : BitVec 16) (warn : Int) : State :=
  let s := { s with power := { s.power with tj := tj, monitored := true } }
  if !s.power.warn && warn * 16 ≤ tj.toInt then
    { s with power := { s.power with warn := true } }.raise 0x0B20 [(2, tj.toNat), (6, 0)]
  else if s.power.warn && tj.toInt < (warn - 5) * 16 then
    { s with power := { s.power with warn := false } }.raise 0x0B21 [(2, tj.toNat), (6, 0)]
  else s

theorem readSensors_eq (s : State) (xs : List (BitVec 16)) : s.readSensors xs =
    ((s.sampled xs).peaked (hottest 0 xs).1).warned (hottest 0 xs).1
      (((s.sampled xs).peaked (hottest 0 xs).1).field .pwrThermCfg 0 0 0 7) := rfl

theorem warned_facts (s : State) (tj : BitVec 16) (warn : Int) : (s.warned tj warn).regs = s.regs ∧
    (s.warned tj warn).power.tj = tj ∧ (s.warned tj warn).power.pstate = s.power.pstate ∧
    (warn * 16 ≤ tj.toInt → (s.warned tj warn).power.warn = true) ∧
    (tj.toInt < (warn - 5) * 16 → (s.warned tj warn).power.warn = false) := by
  have warm : warn * 16 ≤ tj.toInt → s.power.warn = true ∨ s.power.warn = false ∧ warn * 16 ≤ tj.toInt := fun h => by
    cases s.power.warn <;> simp [h]
  unfold State.warned
  dsimp only
  split
  next h =>
    simp only [Bool.and_eq_true, decide_eq_true_eq] at h
    exact ⟨rfl, rfl, rfl, fun _ => rfl, fun cold => by omega⟩
  next h =>
    simp only [Bool.and_eq_true, Bool.not_eq_true', decide_eq_true_eq, not_and, not_le] at h
    split
    next g =>
      simp only [Bool.and_eq_true, decide_eq_true_eq] at g
      exact ⟨rfl, rfl, rfl, fun hot => by omega, fun _ => rfl⟩
    next g =>
      simp only [Bool.and_eq_true, decide_eq_true_eq, not_and, not_lt] at g
      refine ⟨rfl, rfl, rfl, fun hot => ?_, fun cold => ?_⟩
      · rcases warm hot with on | ⟨off, -⟩
        · exact on
        · exact absurd (h off) (by omega)
      · by_contra on
        rw [Bool.not_eq_false] at on
        exact absurd (g on) (by omega)

theorem toNat_zeroExtend_tj (tj : BitVec 16) : BitVec.ofNat 16 (tj.zeroExtend 32).toNat = tj := by
  refine BitVec.eq_of_toNat_eq ?_
  simpa using tj.isLt

/-- The peak never falls (R415). -/
theorem peaked_facts (s : State) (tj : BitVec 16) : (s.peaked tj).reg .pwrTj = tj.zeroExtend 32 ∧
    ((s.peaked tj).reg .pwrTjPeak = s.reg .pwrTjPeak ∨ (s.peaked tj).reg .pwrTjPeak = tj.zeroExtend 32) ∧
    tj.toInt ≤ (BitVec.ofNat 16 ((s.peaked tj).reg .pwrTjPeak).toNat).toInt ∧ (s.peaked tj).power = s.power := by
  have kept : (s.setReg .pwrTj 0 0 (tj.zeroExtend 32)).reg .pwrTjPeak = s.reg .pwrTjPeak :=
    reg_setReg_of_name (by decide) (by decide) _ _ (by decide)
  unfold State.peaked
  dsimp only
  split
  next h =>
    have peak : ((s.setReg .pwrTj 0 0 (tj.zeroExtend 32)).setReg .pwrTjPeak 0 0 (tj.zeroExtend 32)).reg .pwrTjPeak =
        tj.zeroExtend 32 := State.reg_setReg_self ..
    refine ⟨(reg_setReg_of_name (by decide) (by decide) _ _ (by decide)).trans (State.reg_setReg_self ..), .inr peak, ?_, rfl⟩
    rw [peak, toNat_zeroExtend_tj]
  next h => exact ⟨State.reg_setReg_self .., .inl kept, by rw [kept]; exact not_lt.mp h, rfl⟩

theorem peaked_reg_of_name {n : RegName} {i : Nat} (tj' : n ≠ .pwrTj) (peak : n ≠ .pwrTjPeak) (h1 : i < n.row.n1)
    (h2 : 0 < n.row.n2) (s : State) (tj : BitVec 16) : (s.peaked tj).reg n i = s.reg n i := by
  have first : (s.setReg .pwrTj 0 0 (tj.zeroExtend 32)).reg n i = s.reg n i :=
    reg_setReg_of_name tj' h1 _ _ (by decide) h2
  unfold State.peaked
  dsimp only
  split
  · exact (reg_setReg_of_name peak h1 _ _ (by decide) h2).trans first
  · exact first

/-- A sample taken: every reading, the highest, its peak and the warning. -/
theorem temperatureSample_completes {xs : List (BitVec 16)} {s : State} (keep : s.power.pstate ≠ .keep)
    (reset : s.power.pstate ≠ .reset) (eight : xs.length = 8) : Completes (.temperatureSample xs) s fun t =>
      (∀ k : Fin 8, t.reg .pwrTs k = (xs.getD k 0).zeroExtend 32) ∧ t.power.tj ∈ xs ∧ (∀ x ∈ xs, x.toInt ≤ t.power.tj.toInt) ∧
      t.reg .pwrTj = t.power.tj.zeroExtend 32 ∧
      (t.reg .pwrTjPeak = s.reg .pwrTjPeak ∨ t.reg .pwrTjPeak = t.power.tj.zeroExtend 32) ∧
      t.power.tj.toInt ≤ (BitVec.ofNat 16 (t.reg .pwrTjPeak).toNat).toInt ∧
      ((s.field .pwrThermCfg 0 0 0 7 : Int) * 16 ≤ t.power.tj.toInt → t.power.warn = true) ∧
      (t.power.tj.toInt < ((s.field .pwrThermCfg 0 0 0 7 : Int) - 5) * 16 → t.power.warn = false) ∧
      t.power.pstate = s.power.pstate := by
  have run : exec (.temperatureSample xs) s = .next (settle s (s.readSensors xs)) := by
    show execTemperatureSample xs s = _
    simp [execTemperatureSample, effect, keep, reset, eight]
  have some : xs ≠ [] := by
    rintro rfl
    cases eight
  have therm : ((s.sampled xs).peaked (hottest 0 xs).1).field .pwrThermCfg 0 0 0 7 = s.field .pwrThermCfg 0 0 0 7 := by
    unfold State.field
    rw [peaked_reg_of_name (by decide) (by decide) (by decide) (by decide),
      sampled_reg_of_name (by decide) (by decide) (by decide)]
  obtain ⟨regs, tj, pstate, warm, cool⟩ := warned_facts ((s.sampled xs).peaked (hottest 0 xs).1) (hottest 0 xs).1
    (((s.sampled xs).peaked (hottest 0 xs).1).field .pwrThermCfg 0 0 0 7)
  obtain ⟨held, peak, top, power⟩ := peaked_facts (s.sampled xs) (hottest 0 xs).1
  rw [← readSensors_eq, therm] at warm cool
  rw [← readSensors_eq] at regs tj pstate
  have kept : ∀ n i, (settle s (s.readSensors xs)).reg n i = ((s.sampled xs).peaked (hottest 0 xs).1).reg n i ∨
      deliveryReg (n.off i) = true := by
    intro n i
    cases low : deliveryReg (n.off i)
    · exact .inl ((settle_reg _ _ _ _ _ low).trans (by simp only [State.reg, regs]))
    · exact .inr rfl
  refine ⟨_, run, fun k => ?_, ?_, ?_, ?_, ?_, ?_, ?_, ?_, ?_⟩
  · rw [(kept .pwrTs k).resolve_right (by rw [deliveryReg_of_ge (by simp only [RegName.off, RegName.row]; omega)]; decide),
      peaked_reg_of_name (by decide) (by decide) k.isLt (by decide), sampled_reg]
  all_goals
    rw [settle_power]
  · rw [tj]
    exact hottest_mem 0 some
  · rw [tj]
    exact hottest_max 0 xs
  · rw [tj, (kept .pwrTj 0).resolve_right (by decide), held]
  · rw [tj, (kept .pwrTjPeak 0).resolve_right (by decide),
      ← sampled_reg_of_name (n := .pwrTjPeak) (by decide) (by decide) (by decide) s xs]
    exact peak
  · rw [tj, (kept .pwrTjPeak 0).resolve_right (by decide)]
    exact top
  · rw [tj]
    exact warm
  · rw [tj]
    exact cool
  · rw [pstate, power, sampled_power]

/-! ### TRIP and PARK -/

/-- TRIP as it acts where sensor k is the hottest (R416). -/
def State.tripTaken (s : State) (k : Nat) : State :=
  let u := (s.action .auto 19 s.power.tj.toNat k).raise 0x0B22 [(2, s.power.tj.toNat), (1, k), (5, 0)]
  { u with power := { u.power with pstate := .trip, tripped := true } }

theorem tripTaken_eq (s : State) (k : Nat) : s.tripTaken k = { s with
    power := { s.power with pstate := .trip, tripped := true }, marks := (s.tripTaken k).marks
    markSeq := s.markSeq + 1, raised := (s.tripTaken k).raised } := rfl

/-- TRIP changes the power state and leaves its mark. -/
theorem tripTaken_settles (s : State) (k : Nat) : let t := settle s (s.tripTaken k)
    t.power = { s.power with pstate := .trip, tripped := true } ∧ t.markSeq = s.markSeq + 1 ∧
    State.Frame { s with power := t.power, marks := t.marks, markSeq := t.markSeq } t := by
  dsimp only
  rw [tripTaken_eq]
  generalize (s.tripTaken k).marks = m
  generalize (s.tripTaken k).raised = r
  have frame := settle_frame s { s with
    power := { s.power with pstate := .trip, tripped := true }, marks := m, markSeq := s.markSeq + 1, raised := r }
  rw [settle_power, settle_markSeq]
  exact ⟨rfl, rfl, { frame with }⟩

theorem exec_trip_of_hot {s : State} (keep : s.power.pstate ≠ .keep) (reset : s.power.pstate ≠ .reset)
    (trip : s.power.pstate ≠ .trip) (hot : 1920 ≤ s.power.tj.toInt) : exec .trip s = .next (settle s (s.tripTaken s.hotSensor)) := by
  have on : ¬ (s.power.pstate = .keep || s.power.pstate = .reset || s.power.pstate = .trip || s.power.tj.toInt < 1920) = true := by
    simp [keep, reset, trip, hot]
  show execTrip s = _
  exact congrArg (fun u => Host.Outcome.next (settle s u)) (if_neg on)

theorem bitOf_merge_pwrCtrl (old v : Word) : bitOf (RegName.pwrCtrl.row.merge old v) 0 = bitOf v 0 := by
  simp [bitOf_eq_getLsbD, RegRow.merge, RegName.row]

/-- PWR_CTRL as written and marked. -/
def State.parkStored (s : State) (o : Origin) (v : Word) : State :=
  (s.writeMarked o ⟨.pwrCtrl, 0, 0⟩ v).setReg .pwrCtrl 0 0 (RegName.pwrCtrl.row.merge (s.reg .pwrCtrl) v)

theorem accept_pwrCtrl (s : State) (o : Origin) (v : Word) :
    s.accept o ⟨.pwrCtrl, 0, 0⟩ v {} = (s.parkStored o v).parkWritten o v := by
  have marked : RegAt.marked ⟨.pwrCtrl, 0, 0⟩ = true := by decide
  rw [accept_of_acting _ _ _ _ (by decide) (by decide), marked]
  rfl

theorem parkStored_flag (s : State) (o : Origin) (v : Word) : (s.parkStored o v).flag .pwrCtrl 0 0 0 = bitOf v 0 := by
  simp only [State.flag, State.parkStored, State.reg_setReg_self, bitOf_merge_pwrCtrl]

theorem settle_pwrCtrl (s0 u : State) : (settle s0 u).flag .pwrCtrl 0 0 0 = u.flag .pwrCtrl 0 0 0 :=
  congrArg (bitOf · 0) (settle_reg _ _ _ _ _ (by decide))

/-- What training each of some channels leaves: new settings of those, and nothing else but the free values drawn. -/
theorem train_foldl (l : List Nat) (s : State) :
    l.foldl State.train s = { s with chans := (l.foldl State.train s).chans, free := (l.foldl State.train s).free } ∧
    ∀ n, ((l.foldl State.train s).chan n).state = (s.chan n).state ∧
      (n ∉ l → (l.foldl State.train s).chan n = s.chan n) ∧ (n ∈ l → ((l.foldl State.train s).chan n).settings = []) := by
  have one : ∀ (u : State) (c n : Nat), (u.train c).chan n =
      if n = c then { u.chan c with training := u.free + 1, settings := [], vrefs := [] } else u.chan n := fun u c n =>
    Store.get_put ..
  have kept : ∀ (l : List Nat) (u : State) n, (u.chan n).settings = [] → ((l.foldl State.train u).chan n).settings = [] := by
    intro l
    induction l with
    | nil => exact fun _ _ h => h
    | cons c l ih =>
      intro u n h
      refine ih _ n ?_
      rw [one]
      split
      · rfl
      · exact h
  induction l generalizing s with
  | nil => exact ⟨rfl, fun n => ⟨rfl, fun _ => rfl, fun h => absurd h List.not_mem_nil⟩⟩
  | cons c l ih =>
    obtain ⟨same, chans⟩ := ih (s.train c)
    refine ⟨by rw [List.foldl_cons, same]; rfl, fun n => ?_⟩
    obtain ⟨state, other, -⟩ := chans n
    rw [List.foldl_cons]
    refine ⟨state.trans ?_, fun no => ?_, fun mem => ?_⟩
    · rw [one]
      split
      next h => rw [h]
      next => rfl
    · rw [List.mem_cons, not_or] at no
      exact (other no.2).trans ((one ..).trans (if_neg no.1))
    · by_cases h : n = c
      · exact kept l _ n (by rw [one, if_pos h])
      · exact (chans n).2.2 ((List.mem_cons.mp mem).resolve_left h)

/-- PARK left: each active channel is trained, with its content preserved (R411, R412). -/
theorem parkLeave_facts (s : State) (o : Origin) :
    (s.parkLeave o).power = { s.power with pstate := if s.power.d3hot then .d3 else .run } ∧ (s.parkLeave o).regs = s.regs ∧
    (s.parkLeave o).markSeq = s.markSeq + 1 ∧ (s.parkLeave o).dram = s.dram ∧
    ∀ n, (s.parkLeave o).chan n = (s.activeNow.foldl State.train s).chan n := by
  obtain ⟨same, -⟩ := train_foldl s.activeNow s
  unfold State.parkLeave
  dsimp only
  generalize s.activeNow.foldl State.train s = u at same ⊢
  generalize u.chans = c at same
  generalize u.free = f at same
  subst same
  exact ⟨rfl, rfl, rfl, rfl, fun _ => rfl⟩

theorem mem_activeNow {s : State} {n : Nat} : n ∈ s.activeNow ↔ n ∈ s.active ∧ (s.chan n).state ≠ .retired := by
  simp [State.activeNow]

/-- Settles O57: samples taken and not, TRIP once, PARK entered and left. -/
theorem temperatureTripAndPark : Obligations.TemperatureTripAndPark := by
  refine ⟨fun xs s keep reset => ⟨fun n => if_pos n, temperatureSample_completes keep reset⟩,
    fun s sound => ⟨fun cold => ?_, fun down xs eight => ?_⟩, fun s keep reset trip hot => ?_, fun o v s accepted => ?_,
    fun o v s parked accepted => ?_⟩
  · refine ⟨s, ?_, rfl⟩
    show execTrip s = _
    exact effect_of_sound (if_pos (by simpa [or_assoc] using cold)) sound rfl rfl
  · refine ⟨s, ?_, rfl⟩
    show execTemperatureSample xs s = _
    rw [execTemperatureSample, if_neg (not_not.mpr eight)]
    exact effect_of_sound (if_pos (by simpa using down)) sound rfl rfl
  · exact ⟨_, exec_trip_of_hot keep reset trip hot, tripTaken_settles s s.hotSensor⟩
  · refine completes_of_write rfl accepted ?_
    have set : bitOf (v ||| 1) 0 = true := bitOf_or_one v
    rw [accept_pwrCtrl, State.parkWritten, if_pos set]
    refine ⟨?_, ?_, ?_, ?_, ?_, ?_⟩
    · rw [settle_power]
      rfl
    · rw [settle_tw0]
      rfl
    · rw [settle_tw0]
      rfl
    · rw [settle_pwrCtrl]
      exact (parkStored_flag s o (v ||| 1)).trans set
    · rw [settle_markSeq]
      show s.markSeq + 1 + 1 = _
      rw [add_assoc]
      rfl
    · rw [settle_dram]
      rfl
  · refine completes_of_write rfl accepted ?_
    have clear : bitOf (clearEn v) 0 = false := bitOf_clearEn v
    have park : (s.parkStored o (clearEn v)).power.pstate = .park := parked
    rw [accept_pwrCtrl, State.parkWritten, clear, if_neg (by decide), if_pos park]
    obtain ⟨power, regs, seq, dram, chans⟩ := parkLeave_facts (s.parkStored o (clearEn v)) o
    obtain ⟨-, trained⟩ := train_foldl (s.parkStored o (clearEn v)).activeNow (s.parkStored o (clearEn v))
    have chan : ∀ n, (settle s ((s.parkStored o (clearEn v)).parkLeave o)).chan n =
        ((s.parkStored o (clearEn v)).parkLeave o).chan n := fun n => by simp only [State.chan, settle_chans]
    refine ⟨(settle_power ..).trans power, ?_, ?_, (settle_dram ..).trans dram, fun n no => ?_, fun n mem live => ?_⟩
    · rw [settle_pwrCtrl, State.flag, State.reg, regs]
      exact (parkStored_flag s o (clearEn v)).trans clear
    · rw [settle_markSeq, seq]
      show s.markSeq + 1 + 1 = _
      rw [add_assoc]
      rfl
    · rw [chan, chans]
      exact (trained n).2.1 fun h => no (mem_activeNow.mp h).1
    · rw [chan, chans]
      exact ⟨(trained n).2.2 (mem_activeNow.mpr ⟨mem, live⟩), (trained n).1⟩

end Sys2Proof.Machine
end

section
/-!
SUPPORT. The DRAM channels (17): raw beats and the training helper (R365), reads that correct or poison (R359 to R363), and what parity,
retraining, recovery and retirement change (R364 to R373). From these O48, O49 and O50.
-/
namespace Sys2Proof.Machine

/-! ### Frames -/

/-- What is kept is kept whatever registers there were before. -/
theorem State.Frame.withRegs {u t : State} (h : State.Frame u t) : State.Frame { u with regs := t.regs } t :=
  { h with
    regs := fun _ _ _ => rfl
    status := fun _ _ _ => rfl
    drop := fun _ _ _ => rfl
    rings := fun r k => h.rings r ((h.kind r).symm.trans_ne k) }

/-- A command whose effect leaves the device alone. -/
theorem completes_idle {c : Instr} {s : State} {f : State → State} (run : exec c s = effect f s) (same : f s = s)
    (sound : s.Sound) : Completes c s fun t => t = s :=
  ⟨s, by rw [run]; exact effect_of_sound same sound rfl rfl, rfl⟩

/-! ### Raw beats -/

theorem readBytes_writeBytes (bs : List Byte) (m : Memory) (a : Nat) : Memory.readBytes (m.writeBytes a bs) a bs.length = bs := by
  rw [readBytes_eq_map]
  apply List.ext_getElem
  · simp
  · intro i hi hj
    rw [List.getElem_map, List.getElem_range', Nat.one_mul, Memory.read_writeBytes_inside _ _ _ _ hj]
    simp [hj]

theorem readBytes_congr {m w : Memory} {a n : Nat} (h : ∀ q, a ≤ q → q < a + n → w.read q = m.read q) :
    w.readBytes a n = m.readBytes a n := by
  rw [readBytes_eq_map, readBytes_eq_map]
  apply List.map_congr_left
  intro q hq
  obtain ⟨lo, hi⟩ := List.mem_range'_1.mp hq
  exact h q lo hi

theorem leBytes_length (n k : Nat) : (leBytes n k).length = n := by
  induction n generalizing k with
  | zero => rfl
  | succ n ih => simp [leBytes, ih]

theorem ofLe_leBytes {n k : Nat} (h : k < 256 ^ n) : ofLe (leBytes n k) = k := by
  induction n generalizing k with
  | zero => simp_all [leBytes, ofLe]
  | succ n ih =>
    have rest : k / 256 < 256 ^ n := by rw [Nat.pow_succ] at h; omega
    simp only [leBytes, ofLe, ih rest, BitVec.toNat_ofNat]
    omega

theorem readRaw_writeRaw_self (s : State) (p : Nat) (r : BitVec 80) : (s.writeRaw p r).readRaw p = r := by
  have bytes : Memory.readBytes (s.writeRaw p r).dram p 8 = leBytes 8 (beatData r).toNat := by
    have := readBytes_writeBytes (leBytes 8 (beatData r).toNat) s.dram p
    rwa [leBytes_length] at this
  unfold State.readRaw
  rw [bytes, ofLe_leBytes (beatData r).isLt, BitVec.ofNat_toNat, BitVec.setWidth_eq]
  simp only [State.writeRaw, Store.get_put_self]
  rw [BitVec.xor_comm r, ← BitVec.xor_assoc, BitVec.xor_self, BitVec.zero_xor]

theorem readRaw_writeRaw_of_ne {s : State} {p q : Nat} (r : BitVec 80) (bytes : p + 8 ≤ q ∨ q + 8 ≤ p) (beat : q / 8 ≠ p / 8) :
    (s.writeRaw p r).readRaw q = s.readRaw q := by
  unfold State.readRaw State.writeRaw
  rw [Store.get_put_of_ne 0 s.upsets _ beat, readBytes_congr fun b lo hi => Memory.read_writeBytes_outside _ _ _ _ (by
    rw [leBytes_length]; omega)]

theorem patternBeat_writeRaw (s : State) (p : Nat) (r : BitVec 80) (n pat k : Nat) :
    (s.writeRaw p r).patternBeat n pat k = s.patternBeat n pat k := rfl

/-! ### A run of the training helper -/

/-- A pattern changes nothing but DRAM and its upsets, and no byte outside it. -/
theorem writePattern_frame (ch pat p : Nat) (n k : Nat) (s : State) :
    s.writePattern ch pat p k n = { s with dram := (s.writePattern ch pat p k n).dram,
                                           upsets := (s.writePattern ch pat p k n).upsets } ∧
    ∀ q, q < p + 8 * k ∨ p + 8 * (k + n) ≤ q → Memory.read (s.writePattern ch pat p k n).dram q = Memory.read s.dram q := by
  induction n generalizing s k with
  | zero => exact ⟨rfl, fun _ _ => rfl⟩
  | succ n ih =>
    obtain ⟨same, outside⟩ := ih (k + 1) (s.writeRaw (p + 8 * k) (s.patternBeat ch pat k))
    refine ⟨same, fun q hq => (outside q (by omega)).trans (Memory.read_writeBytes_outside _ _ _ _ ?_)⟩
    rw [leBytes_length]
    omega

/-- Each beat of the pattern is read back as written. -/
theorem readRaw_writePattern (ch pat : Nat) {p : Nat} (aligned : p % 8 = 0) (n k : Nat) (s : State) :
    (∀ j, k ≤ j → j < k + n → (s.writePattern ch pat p k n).readRaw (p + 8 * j) = s.patternBeat ch pat j) ∧
    ∀ j, j < k → (s.writePattern ch pat p k n).readRaw (p + 8 * j) = s.readRaw (p + 8 * j) := by
  induction n generalizing s k with
  | zero => exact ⟨fun j lo hi => absurd hi (by omega), fun _ _ => rfl⟩
  | succ n ih =>
    obtain ⟨inside, before⟩ := ih (k + 1) (s.writeRaw (p + 8 * k) (s.patternBeat ch pat k))
    refine ⟨fun j lo hi => ?_, fun j hj => (before j (by omega)).trans (readRaw_writeRaw_of_ne _ (by omega) (by omega))⟩
    obtain rfl | later := Nat.eq_or_lt_of_le lo
    · exact (before k (by omega)).trans (readRaw_writeRaw_self _ _ _)
    · exact (inside j later (by omega)).trans (patternBeat_writeRaw _ _ _ _ _ _)

theorem laneErrors_of_clean {ds : List (BitVec 80)} (h : ∀ d ∈ ds, d = 0) : laneErrors ds = [] := by
  have none : ∀ i, ds.filter (fun d => d.toNat.testBit i) = [] := fun i =>
    List.filter_eq_nil_iff.mpr fun d hd => by simp [h d hd]
  unfold laneErrors
  simp only [none, List.length_nil, Nat.min_zero]
  generalize List.range 80 = l
  induction l with
  | nil => rfl
  | cons a l ih => exact ih

/-- A pattern that is written and received as sent differs nowhere. -/
theorem compareBeats_of_written (s : State) (n pat : Nat) {p : Nat} (aligned : p % 8 = 0) (beats : Nat)
    {flips : List (BitVec 80)} (right : ∀ f ∈ flips, f = 0) :
    ∀ d ∈ (s.writePattern n pat p 0 beats).compareBeats n pat p beats flips, d = 0 := by
  intro d hd
  obtain ⟨k, hk, rfl⟩ := List.mem_map.mp hd
  have pattern : (s.writePattern n pat p 0 beats).patternBeat n pat k = s.patternBeat n pat k := by
    rw [(writePattern_frame n pat p beats 0 s).1]
    rfl
  have flip : flips.getD k 0 = 0 := by
    rw [List.getD_eq_getElem?_getD]
    cases e : flips[k]? with
    | none => rfl
    | some f => exact right f (List.mem_of_getElem? e)
  rw [(readRaw_writePattern n pat aligned beats 0 s).1 k (Nat.zero_le k) (by simpa using hk), pattern, flip]
  simp

/-- What a run leaves in DRAM while it goes on. -/
def State.patternRun (s : State) (n : Nat) (v : Word) : State :=
  if bitOf v 3 then s
  else s.writePattern n (bitsOf v 0 3) (phys n (128 * (s.reg .dramTrnAddr n).toNat)) 0 (16 * (bitsOf v 4 6 + 1))

/-- What its comparator finds. -/
def State.helperFinds (s : State) (n : Nat) (v : Word) (flips : List (BitVec 80)) : List (BitVec 80) :=
  (s.patternRun n v).compareBeats n (bitsOf v 0 3) (phys n (128 * (s.reg .dramTrnAddr n).toNat)) (16 * (bitsOf v 4 6 + 1)) flips

/-- What a run leaves of what it found. -/
def State.found (s : State) (n : Nat) (ds : List (BitVec 80)) : State :=
  s.setChan n { s.chan n with
    trnErrs := laneErrors ds
    trnFirst := (ds.findIdx? (· ≠ 0)).map fun k => (BitVec.ofNat 4 (k % 16), BitVec.ofNat 7 (k / 16)) }

theorem helperRun_eq (s : State) (n : Nat) (v : Word) (flips : List (BitVec 80)) : s.helperRun n v flips =
    (if (s.chan n).state = .training then s.patternRun n v else s).found n (s.helperFinds n v flips) := rfl

theorem found_of_clean (s : State) (n : Nat) {ds : List (BitVec 80)} (clean : ∀ d ∈ ds, d = 0) :
    ((s.found n ds).chan n).trnErrs = [] ∧ ((s.found n ds).chan n).trnFirst = none := by
  have first : ds.findIdx? (· ≠ 0) = none := by
    rw [List.findIdx?_eq_none_iff]
    intro d hd
    simp [clean d hd]
  unfold State.found
  rw [first, laneErrors_of_clean clean]
  constructor <;> simp [State.chan, State.setChan]

theorem found_same (s : State) (n : Nat) (ds : List (BitVec 80)) : s.found n ds = { s with chans := (s.found n ds).chans } := rfl

theorem patternRun_frame (s : State) (n : Nat) (v : Word) :
    s.patternRun n v = { s with dram := (s.patternRun n v).dram, upsets := (s.patternRun n v).upsets } ∧
    ∀ q, q < phys n (128 * (s.reg .dramTrnAddr n).toNat) ∨
      phys n (128 * ((s.reg .dramTrnAddr n).toNat + bitsOf v 4 6 + 1)) ≤ q →
      Memory.read (s.patternRun n v).dram q = Memory.read s.dram q := by
  unfold State.patternRun
  split
  · exact ⟨rfl, fun _ _ => rfl⟩
  · obtain ⟨same, outside⟩ := writePattern_frame n (bitsOf v 0 3) (phys n (128 * (s.reg .dramTrnAddr n).toNat))
      (16 * (bitsOf v 4 6 + 1)) 0 s
    refine ⟨same, fun q hq => outside q ?_⟩
    unfold phys at hq ⊢
    generalize n * 2 ^ 33 = c at hq ⊢
    generalize (s.reg .dramTrnAddr n).toNat = a at hq ⊢
    generalize bitsOf v 4 6 = l at hq ⊢
    omega

theorem helperFinds_clean (s : State) (n : Nat) {v : Word} {flips : List (BitVec 80)} (right : ∀ f ∈ flips, f = 0)
    (written : bitOf v 3 = false) : ∀ d ∈ s.helperFinds n v flips, d = 0 := by
  unfold State.helperFinds State.patternRun
  rw [if_neg (by simp [written])]
  have aligned : phys n (128 * (s.reg .dramTrnAddr n).toNat) % 8 = 0 := by unfold phys; omega
  generalize 16 * (bitsOf v 4 6 + 1) = beats
  exact compareBeats_of_written s n (bitsOf v 0 3) aligned beats right

theorem helperRun_frame (s : State) (n : Nat) (v : Word) (flips : List (BitVec 80)) :
    let t := s.helperRun n v flips
    ((∀ f ∈ flips, f = 0) → bitOf v 3 = false → (t.chan n).trnErrs = [] ∧ (t.chan n).trnFirst = none) ∧
    ((s.chan n).state ≠ .training → t.dram = s.dram ∧ t.upsets = s.upsets) ∧
    (∀ q, q < phys n (128 * (s.reg .dramTrnAddr n).toNat) ∨
      phys n (128 * ((s.reg .dramTrnAddr n).toNat + bitsOf v 4 6 + 1)) ≤ q → Memory.read t.dram q = Memory.read s.dram q) ∧
    t = { s with chans := t.chans, dram := t.dram, upsets := t.upsets } := by
  obtain ⟨same, outside⟩ := patternRun_frame s n v
  have clean := helperFinds_clean s n (v := v) (flips := flips)
  rw [helperRun_eq]
  generalize s.patternRun n v = w at same outside ⊢
  generalize s.helperFinds n v flips = ds at clean ⊢
  refine ⟨fun right written => found_of_clean _ n (clean right written), fun other => ?_, fun q hq => ?_, ?_⟩
  · rw [if_neg other]
    exact ⟨rfl, rfl⟩
  · split
    · exact outside q hq
    · rfl
  · split
    · rw [same]
      rfl
    · rfl

/-- Settles O50: the helper's run leaves what it does not write, and a beat written raw is read back raw. -/
theorem trainingHelper : Obligations.TrainingHelper := by
  unfold Obligations.TrainingHelper
  refine ⟨fun n v flips s sound idle => ?_, fun n v flips s go off retired past => ?_,
    fun n v flips s sound go off retired fits => ?_⟩
  · refine completes_idle (f := fun s => s) ?_ rfl sound
    show execTrainingHelperGo n v flips s = _
    unfold execTrainingHelperGo
    exact if_pos (by simpa [or_assoc] using idle)
  · show execTrainingHelperGo n v flips s = _
    unfold execTrainingHelperGo
    rw [if_neg (by simp [go, off, retired]), if_pos past]
  · refine completes_of_effect (f := fun s => (s.setReg .dramTrnCtl n.val 0 (BitVec.ofNat 32 (v.toNat % 2048))).helperRun n.val v flips)
      ?_ ?_
    · show execTrainingHelperGo n v flips s = _
      simp only [execTrainingHelperGo, go, off, retired, Nat.not_lt.mpr fits, Bool.not_true, decide_false, Bool.or_false,
        Bool.false_eq_true, if_false]
    have addr : (s.setReg .dramTrnCtl n.val 0 (BitVec.ofNat 32 (v.toNat % 2048))).reg .dramTrnAddr n = s.reg .dramTrnAddr n :=
      reg_setReg_of_name (by decide) n.isLt s _ n.isLt
    obtain ⟨clean, other, outside, same⟩ :=
      helperRun_frame (s.setReg .dramTrnCtl n.val 0 (BitVec.ofNat 32 (v.toNat % 2048))) n v flips
    rw [addr] at outside
    generalize State.helperRun (s.setReg .dramTrnCtl n.val 0 (BitVec.ofNat 32 (v.toNat % 2048))) n v flips = u at *
    rw [settle_dram, settle_upsets, settle_chans]
    refine ⟨?_, other, outside, ?_⟩
    · unfold State.chan
      rw [settle_chans]
      exact clean
    · have frame := (frame_settle (s0 := s) (u := u) (by rw [same]; rfl) (by rw [same]; exact sound.2.1) (by rw [same]; rfl)).withRegs
      rw [same] at frame ⊢
      exact frame

end Sys2Proof.Machine
end

section
/-!
SUPPORT. Footprints: a set of fields of the state and of register offsets, outside which an operation leaves everything as it was.
Each operation of the model is within one footprint per layer, and what an obligation claims unchanged follows from it.
-/
namespace Sys2Proof.Machine

/-- The fields of the state beside its registers. -/
inductive Fld where
  | pending | clock | latches | tb0 | tb1 | tb2 | tb3 | ptm | edges | tick | trays | lanes | ports | mills | backWait
  | funnels | walls | rcl | rings | offered | engine | xcache | prqs | lookups | invals | atsOn | priOn | relaxedOn
  | priStop | pci | queues | held | splits | streams | syncLog | chain | cports | dram | upsets | chans | active | lastSlot
  | reduced | tw0 | twPorts | sdma | power | fuses | boot | marks | markSeq | markSelected | mirror | fatal | service
  | raised | free | out
  deriving DecidableEq

/-- The type of a field. -/
def Fld.type : Fld → Type
  | .pending => List Instr
  | .clock | .offered | .free => Nat
  | .latches => List (Accessor × Nat × Word)
  | .tb0 | .tb1 | .tb2 | .tb3 => TimeBase
  | .ptm => PtmStamps
  | .edges => Store EdgeIn
  | .tick => TickUnit
  | .trays => Store Tray
  | .lanes => Store Lane
  | .ports => Store Port
  | .mills => Store Mill
  | .backWait => List (Nat × List Byte)
  | .funnels => Store (List FunItem)
  | .walls => Store Wall
  | .rcl => Recall
  | .rings => Store Ring
  | .engine | .lastSlot => Option Nat
  | .xcache => List XEntry
  | .prqs | .lookups => List PageReq
  | .invals => List Invalidation
  | .atsOn | .priOn | .relaxedOn | .priStop | .reduced | .markSelected | .fatal => Bool
  | .pci => PciConfig
  | .queues => Store EvQueue
  | .held | .raised => List EventRec
  | .splits => Store SplitPort
  | .streams => Store Stream
  | .syncLog => Option Int
  | .chain => Chain
  | .cports => Store ChainPort
  | .dram => List Host.Cell
  | .upsets => Store (BitVec 80)
  | .chans => Store Channel
  | .active => List Nat
  | .tw0 => Tw0
  | .twPorts => Store TwPort
  | .sdma => Store SdmaChan
  | .power => Power
  | .fuses => Fuses
  | .boot => Boot
  | .marks => List Mark
  | .markSeq => Word
  | .mirror => Mirror
  | .service => BitVec 8
  | .out => List Emission

/-- The value of a field. -/
def Fld.get (s : State) : (f : Fld) → f.type
  | .pending => s.pending
  | .clock => s.clock
  | .latches => s.latches
  | .tb0 => s.tb0
  | .tb1 => s.tb1
  | .tb2 => s.tb2
  | .tb3 => s.tb3
  | .ptm => s.ptm
  | .edges => s.edges
  | .tick => s.tick
  | .trays => s.trays
  | .lanes => s.lanes
  | .ports => s.ports
  | .mills => s.mills
  | .backWait => s.backWait
  | .funnels => s.funnels
  | .walls => s.walls
  | .rcl => s.rcl
  | .rings => s.rings
  | .offered => s.offered
  | .engine => s.engine
  | .xcache => s.xcache
  | .prqs => s.prqs
  | .lookups => s.lookups
  | .invals => s.invals
  | .atsOn => s.atsOn
  | .priOn => s.priOn
  | .relaxedOn => s.relaxedOn
  | .priStop => s.priStop
  | .pci => s.pci
  | .queues => s.queues
  | .held => s.held
  | .splits => s.splits
  | .streams => s.streams
  | .syncLog => s.syncLog
  | .chain => s.chain
  | .cports => s.cports
  | .dram => s.dram
  | .upsets => s.upsets
  | .chans => s.chans
  | .active => s.active
  | .lastSlot => s.lastSlot
  | .reduced => s.reduced
  | .tw0 => s.tw0
  | .twPorts => s.twPorts
  | .sdma => s.sdma
  | .power => s.power
  | .fuses => s.fuses
  | .boot => s.boot
  | .marks => s.marks
  | .markSeq => s.markSeq
  | .markSelected => s.markSelected
  | .mirror => s.mirror
  | .fatal => s.fatal
  | .service => s.service
  | .raised => s.raised
  | .free => s.free
  | .out => s.out

/-- Fields and register offsets that an operation may change. -/
structure Footprint where
  has : Fld → Bool
  regs : Nat → Bool

/-- Nothing outside the footprint differs. -/
structure State.Within (P : Footprint) (s t : State) : Prop where
  field : ∀ f, P.has f = false → Fld.get t f = Fld.get s f
  reg : ∀ (d : Word) (off : Nat), P.regs off = false → Store.get d t.regs off = Store.get d s.regs off

/-- `s` with the fields of the footprint, and the registers, as they are in `t`. -/
def Footprint.merge (P : Footprint) (s t : State) : State where
  pending := bif P.has .pending then t.pending else s.pending
  clock := bif P.has .clock then t.clock else s.clock
  regs := t.regs
  latches := bif P.has .latches then t.latches else s.latches
  tb0 := bif P.has .tb0 then t.tb0 else s.tb0
  tb1 := bif P.has .tb1 then t.tb1 else s.tb1
  tb2 := bif P.has .tb2 then t.tb2 else s.tb2
  tb3 := bif P.has .tb3 then t.tb3 else s.tb3
  ptm := bif P.has .ptm then t.ptm else s.ptm
  edges := bif P.has .edges then t.edges else s.edges
  tick := bif P.has .tick then t.tick else s.tick
  trays := bif P.has .trays then t.trays else s.trays
  lanes := bif P.has .lanes then t.lanes else s.lanes
  ports := bif P.has .ports then t.ports else s.ports
  mills := bif P.has .mills then t.mills else s.mills
  backWait := bif P.has .backWait then t.backWait else s.backWait
  funnels := bif P.has .funnels then t.funnels else s.funnels
  walls := bif P.has .walls then t.walls else s.walls
  rcl := bif P.has .rcl then t.rcl else s.rcl
  rings := bif P.has .rings then t.rings else s.rings
  offered := bif P.has .offered then t.offered else s.offered
  engine := bif P.has .engine then t.engine else s.engine
  xcache := bif P.has .xcache then t.xcache else s.xcache
  prqs := bif P.has .prqs then t.prqs else s.prqs
  lookups := bif P.has .lookups then t.lookups else s.lookups
  invals := bif P.has .invals then t.invals else s.invals
  atsOn := bif P.has .atsOn then t.atsOn else s.atsOn
  priOn := bif P.has .priOn then t.priOn else s.priOn
  relaxedOn := bif P.has .relaxedOn then t.relaxedOn else s.relaxedOn
  priStop := bif P.has .priStop then t.priStop else s.priStop
  pci := bif P.has .pci then t.pci else s.pci
  queues := bif P.has .queues then t.queues else s.queues
  held := bif P.has .held then t.held else s.held
  splits := bif P.has .splits then t.splits else s.splits
  streams := bif P.has .streams then t.streams else s.streams
  syncLog := bif P.has .syncLog then t.syncLog else s.syncLog
  chain := bif P.has .chain then t.chain else s.chain
  cports := bif P.has .cports then t.cports else s.cports
  dram := bif P.has .dram then t.dram else s.dram
  upsets := bif P.has .upsets then t.upsets else s.upsets
  chans := bif P.has .chans then t.chans else s.chans
  active := bif P.has .active then t.active else s.active
  lastSlot := bif P.has .lastSlot then t.lastSlot else s.lastSlot
  reduced := bif P.has .reduced then t.reduced else s.reduced
  tw0 := bif P.has .tw0 then t.tw0 else s.tw0
  twPorts := bif P.has .twPorts then t.twPorts else s.twPorts
  sdma := bif P.has .sdma then t.sdma else s.sdma
  power := bif P.has .power then t.power else s.power
  fuses := bif P.has .fuses then t.fuses else s.fuses
  boot := bif P.has .boot then t.boot else s.boot
  marks := bif P.has .marks then t.marks else s.marks
  markSeq := bif P.has .markSeq then t.markSeq else s.markSeq
  markSelected := bif P.has .markSelected then t.markSelected else s.markSelected
  mirror := bif P.has .mirror then t.mirror else s.mirror
  fatal := bif P.has .fatal then t.fatal else s.fatal
  service := bif P.has .service then t.service else s.service
  raised := bif P.has .raised then t.raised else s.raised
  free := bif P.has .free then t.free else s.free
  out := bif P.has .out then t.out else s.out

namespace State.Within

variable {P : Footprint} {s t u : State}

theorem refl (P : Footprint) (s : State) : s.Within P s := ⟨fun _ _ => rfl, fun _ _ _ => rfl⟩

theorem trans (h : s.Within P t) (g : t.Within P u) : s.Within P u :=
  ⟨fun f no => (g.field f no).trans (h.field f no), fun d off no => (g.reg d off no).trans (h.reg d off no)⟩

theorem mono {Q : Footprint} (h : s.Within P t) (fields : ∀ f, Q.has f = false → P.has f = false)
    (regs : ∀ off, Q.regs off = false → P.regs off = false) : s.Within Q t :=
  ⟨fun f no => h.field f (fields f no), fun d off no => h.reg d off (regs off no)⟩

theorem eq_merge (h : s.Within P t) : t = P.merge s t := by
  have at_field : ∀ f, Fld.get t f = bif P.has f then Fld.get t f else Fld.get s f := fun f => by
    cases e : P.has f with
    | false => exact h.field f e
    | true => rfl
  cases t
  simp only [Footprint.merge, State.mk.injEq]
  exact ⟨at_field .pending, at_field .clock, trivial, at_field .latches, at_field .tb0, at_field .tb1, at_field .tb2,
    at_field .tb3, at_field .ptm, at_field .edges, at_field .tick, at_field .trays, at_field .lanes, at_field .ports,
    at_field .mills, at_field .backWait, at_field .funnels, at_field .walls, at_field .rcl, at_field .rings,
    at_field .offered, at_field .engine, at_field .xcache, at_field .prqs, at_field .lookups, at_field .invals,
    at_field .atsOn, at_field .priOn, at_field .relaxedOn, at_field .priStop, at_field .pci, at_field .queues,
    at_field .held, at_field .splits, at_field .streams, at_field .syncLog, at_field .chain, at_field .cports,
    at_field .dram, at_field .upsets, at_field .chans, at_field .active, at_field .lastSlot, at_field .reduced,
    at_field .tw0, at_field .twPorts, at_field .sdma, at_field .power, at_field .fuses, at_field .boot, at_field .marks,
    at_field .markSeq, at_field .markSelected, at_field .mirror, at_field .fatal, at_field .service, at_field .raised,
    at_field .free, at_field .out⟩

theorem of_merge (h : t = { P.merge s t with regs := s.regs }) : s.Within P t where
  field f no := (congrArg (fun x => Fld.get x f) h).trans (by
    cases f <;> (simp only [Footprint.merge, Fld.get, no, cond_false]; rfl))
  reg d off _ := by rw [congrArg State.regs h]

theorem foldl {α : Type} {f : State → α → State} (l : List α) (h : ∀ (s : State), ∀ a ∈ l, s.Within P (f s a)) (s : State) :
    s.Within P (l.foldl f s) := by
  induction l generalizing s with
  | nil => exact refl P s
  | cons a l ih =>
    exact (h s a (List.mem_cons_self ..)).trans (ih (fun s b hb => h s b (List.mem_cons_of_mem _ hb)) _)

theorem ite {c : Prop} [Decidable c] (h : s.Within P t) (g : s.Within P u) : s.Within P (if c then t else u) := by
  split
  · exact h
  · exact g

theorem setReg {n : RegName} {i j : Nat} (h : P.regs (n.off i j) = true) (v : Word) : s.Within P (s.setReg n i j v) where
  field f _ := by cases f <;> rfl
  reg d off no := State.get_setReg_of_ne s n i j v d off fun e => by rw [e, h] at no; cases no

theorem symm (h : s.Within P t) : t.Within P s :=
  ⟨fun f no => (h.field f no).symm, fun d off no => (h.reg d off no).symm⟩

/-- An update of the fields listed. -/
theorem update (l : List Fld) (has : l.all P.has = true)
    (h : t = { Footprint.merge ⟨fun f => decide (f ∈ l), fun _ => false⟩ s t with regs := s.regs }) : s.Within P t :=
  (of_merge h).mono (fun f no => decide_eq_false fun mem => by rw [List.all_eq_true.mp has f mem] at no; cases no) fun _ _ => rfl

theorem emit (e : Emission) (has : P.has .out = true) : s.Within P (s.emit e) := .update [.out] (by simp [has]) (by rfl)

theorem raise (type : Nat) (fs : List (Nat × Nat)) (has : P.has .raised = true) :
    s.Within P (s.raise type fs) := .update [.raised] (by simp [has]) (by rfl)

theorem draw (has : P.has .free = true) : s.Within P s.draw.2 := .update [.free] (by simp [has]) (by rfl)

theorem mark (o : Origin) (kind target : Nat) (old new : Word) (refused : Bool) (has : P.has .marks = true)
    (seq : P.has .markSeq = true) : s.Within P (s.mark o kind target old new refused) :=
  .update [.marks, .markSeq] (by simp [has, seq]) (by rfl)

theorem action (o : Origin) (code old new : Nat) (has : P.has .marks = true) (seq : P.has .markSeq = true) :
    s.Within P (s.action o code old new) := mark _ _ _ _ _ _ has seq

theorem bump {n : RegName} {i j k : Nat} (h : P.regs (n.off i j) = true) : s.Within P (s.bump n i j k) := setReg h _

theorem setField {n : RegName} {i j lo w x : Nat} (h : P.regs (n.off i j) = true) : s.Within P (s.setField n i j lo w x) := setReg h _

theorem setLane (i : Nat) (x : Lane) (has : P.has .lanes = true) : s.Within P (s.setLane i x) :=
  .update [.lanes] (by simp [has]) (by rfl)

theorem setPort (i : Nat) (x : Port) (has : P.has .ports = true) : s.Within P (s.setPort i x) :=
  .update [.ports] (by simp [has]) (by rfl)

theorem setMill (i : Nat) (x : Mill) (has : P.has .mills = true) : s.Within P (s.setMill i x) :=
  .update [.mills] (by simp [has]) (by rfl)

theorem setFunnel (i : Nat) (x : List FunItem) (has : P.has .funnels = true) : s.Within P (s.setFunnel i x) :=
  .update [.funnels] (by simp [has]) (by rfl)

theorem setWall (i : Nat) (x : Wall) (has : P.has .walls = true) : s.Within P (s.setWall i x) :=
  .update [.walls] (by simp [has]) (by rfl)

theorem setRing (i : Nat) (x : Ring) (has : P.has .rings = true) : s.Within P (s.setRing i x) :=
  .update [.rings] (by simp [has]) (by rfl)

theorem setQueue (i : Nat) (x : EvQueue) (has : P.has .queues = true) : s.Within P (s.setQueue i x) :=
  .update [.queues] (by simp [has]) (by rfl)

theorem setTray (i : Nat) (x : Tray) (has : P.has .trays = true) : s.Within P (s.setTray i x) :=
  .update [.trays] (by simp [has]) (by rfl)

theorem setEdge (i : Nat) (x : EdgeIn) (has : P.has .edges = true) : s.Within P (s.setEdge i x) :=
  .update [.edges] (by simp [has]) (by rfl)

theorem setSplit (i : Nat) (x : SplitPort) (has : P.has .splits = true) : s.Within P (s.setSplit i x) :=
  .update [.splits] (by simp [has]) (by rfl)

theorem setStream (i : Nat) (x : Stream) (has : P.has .streams = true) : s.Within P (s.setStream i x) :=
  .update [.streams] (by simp [has]) (by rfl)

theorem setCport (i : Nat) (x : ChainPort) (has : P.has .cports = true) : s.Within P (s.setCport i x) :=
  .update [.cports] (by simp [has]) (by rfl)

theorem setChan (i : Nat) (x : Channel) (has : P.has .chans = true) : s.Within P (s.setChan i x) :=
  .update [.chans] (by simp [has]) (by rfl)

theorem setTwPort (i : Nat) (x : TwPort) (has : P.has .twPorts = true) : s.Within P (s.setTwPort i x) :=
  .update [.twPorts] (by simp [has]) (by rfl)

theorem setSdma (i : Nat) (x : SdmaChan) (has : P.has .sdma = true) : s.Within P (s.setSdma i x) :=
  .update [.sdma] (by simp [has]) (by rfl)

end State.Within

end Sys2Proof.Machine
end

section
/-!
SUPPORT. The footprint of host accesses: lookups, halts and completions of a ring change rings, queues, the translation cache and the
registers from the RING block on, and nothing else of the device.
-/
namespace Sys2Proof.Machine

/-- What looking pages up and sending requests may change. -/
def lookSide : Footprint where
  has
    | .out | .xcache | .lookups => true
    | _ => false
  regs off := off == RegName.xlatHit.off

/-- What the rings' traffic with the host may change. -/
def hostSide : Footprint where
  has
    | .rings | .queues | .raised | .out | .xcache | .lookups | .prqs | .rcl | .free => true
    | _ => false
  regs off := decide (0x300010 ≤ off)

/-- The same with the write engine, which lets go of a record that is stopped. -/
def stopSide : Footprint where
  has
    | .engine => true
    | f => hostSide.has f
  regs := hostSide.regs

theorem hostSide_regs {n : RegName} (i j : Nat) (h : 0x300010 ≤ n.row.base) : hostSide.regs (n.off i j) = true :=
  decide_eq_true (h.trans (base_le_off n i j))

namespace State.Within

variable {s : State}

/-- Requests are part of the rings' traffic. -/
theorem host {t : State} (h : s.Within lookSide t) : s.Within hostSide t :=
  h.mono (fun f => by cases f <;> decide) fun off no => by
    have below : ¬ 0x300010 ≤ off := of_decide_eq_false no
    have other : off ≠ 0x340010 := by omega
    exact beq_false_of_ne other

theorem lookup (r page : Nat) (write : Bool) : s.Within lookSide (s.lookup r page write).2 := by
  unfold State.lookup
  split
  · exact refl _ _
  · extract_lets k
    split
    · dsimp only
      exact trans (update [.xcache] rfl (by rfl)) (bump rfl)
    · split
      · exact update [.lookups] rfl (by rfl)
      · dsimp only
        exact trans (update [.lookups] rfl (by rfl)) (emit _ rfl)

theorem lookupAll (r : Nat) (write : Bool) (ps : List Nat) : s.Within lookSide (s.lookupAll r write ps).2 := by
  induction ps generalizing s with
  | nil => exact refl _ _
  | cons p ps ih => exact (lookup r p write).trans ih

theorem prepare (r addr len : Nat) (write : Bool) : s.Within lookSide (s.prepare r addr len write).2 := by
  unfold State.prepare
  extract_lets allowed
  split
  · exact refl _ _
  · split
    · exact refl _ _
    · have within := lookupAll (s := s) r write (pagesOf addr len)
      split <;> (next e => rw [e] at within; exact within)

theorem issue (r addr : Nat) (bytes : List Byte) (relaxed : Bool) (ps : List Nat) :
    s.Within lookSide (s.issue r addr bytes relaxed ps) := by
  induction ps generalizing s addr bytes with
  | nil => exact refl _ _
  | cons p ps ih => exact (emit _ rfl).trans (ih _ _)

theorem readRun (r addr : Nat) (f n : Nat) : s.Within lookSide (s.readRun r addr f n) := by
  induction f generalizing s addr n with
  | zero => exact refl _ _
  | succ f ih =>
    cases n with
    | zero => exact refl _ _
    | succ n => exact (emit _ rfl).trans (ih _ _)

theorem issueRead (r addr len : Nat) (ps : List Nat) : s.Within lookSide (s.issueRead r addr len ps) := by
  induction ps generalizing s addr len with
  | nil => exact refl _ _
  | cons p ps ih => exact (readRun _ _ _ _).trans (ih _ _)

theorem dropRecord (r : Nat) (x : Record) : s.Within hostSide (s.dropRecord r x) :=
  trans (ite (bump (hostSide_regs _ _ (by decide))) (refl _ _)) (raise _ _ rfl)

theorem dropHold (r : Nat) : s.Within hostSide (s.dropHold r) := by
  unfold State.dropHold
  split
  · exact refl _ _
  · extract_lets n
    exact ite (refl _ _) ((bump (hostSide_regs _ _ (by decide))).trans (setQueue _ _ rfl))

theorem abandonRecords (r : Nat) : s.Within hostSide (s.abandonRecords r) :=
  (foldl _ (fun _ _ _ => dropRecord _ _) _).trans (setRing _ _ rfl)

theorem haltRing (r cause : Nat) : s.Within hostSide (s.haltRing r cause) := by
  unfold State.haltRing
  extract_lets x y
  split
  · exact (setRing _ _ rfl).trans (raise _ _ rfl)
  · next s1 s2 s3 c other =>
    have shown : s.Within hostSide s1 := ite (setField (hostSide_regs _ _ (by decide))) (refl _ _)
    exact ((shown.trans (dropHold r)).trans (ite (setRing _ _ rfl) ((setRing _ _ rfl).trans (abandonRecords r)))).trans (raise _ _ rfl)

theorem flushWith {halt : State → Nat → State} (halts : ∀ (s : State) (c : Nat), s.Within hostSide (halt s c)) (r : Nat)
    (ws : List PendingWrite) : s.Within hostSide (s.flushWith halt r ws) := by
  induction ws generalizing s with
  | nil =>
    unfold State.flushWith
    extract_lets x s1
    split
    · exact (setRing _ _ rfl).trans (halts _ _)
    · exact setRing _ _ rfl
  | cons w ws ih =>
    have prepared := host (prepare (s := s) r w.addr (w.bytes.length + w.ahead) true)
    unfold State.flushWith
    split
    · next e => rw [e] at prepared; exact prepared.trans (setRing _ _ rfl)
    · next e => rw [e] at prepared; exact prepared.trans (halts _ _)
    · next e =>
      rw [e] at prepared
      extract_lets s1 s2 s3
      have issued : s.Within hostSide s2 :=
        (prepared.trans (host (issue _ _ _ _ _))).trans (ite (setReg (hostSide_regs _ _ (by decide)) _) (refl _ _))
      refine (issued.trans ?_).trans ih
      unfold s3
      split
      · exact update [.raised] rfl (by rfl)
      · exact refl _ _

theorem releasesDone : s.Within hostSide s.releasesDone := by
  unfold State.releasesDone
  refine trans (update [.rcl] rfl (by rfl)) (foldl _ (fun s c _ => ?_) _)
  extract_lets x
  split
  · exact (setRing _ _ rfl).trans (ite (flushWith (fun _ _ => haltRing _ _) _ _) (refl _ _))
  · exact refl _ _

theorem release : s.Within hostSide s.release := update [.rcl] rfl (by rfl)

theorem exportLost (r : Nat) : s.Within hostSide (s.exportLost r) := by
  unfold State.exportLost
  split
  · extract_lets x s1
    have lost : s.Within hostSide s1 := trans (update [.rcl] rfl (by rfl)) (raise _ _ rfl)
    exact lost.trans (ite (refl _ _) (release.trans releasesDone))
  · exact refl _ _

theorem abandon (r : Nat) : s.Within hostSide (s.abandon r) := (abandonRecords r).trans (exportLost r)

theorem halt (r cause : Nat) : s.Within hostSide (s.halt r cause) := (haltRing r cause).trans (exportLost r)

theorem flushWrites (r : Nat) (ws : List PendingWrite) : s.Within hostSide (s.flushWrites r ws) := flushWith (fun _ _ => halt _ _) r ws

theorem faultDrop (r cause : Nat) : s.Within hostSide (s.faultDrop r cause) := by
  unfold State.faultDrop
  extract_lets x
  split
  · exact refl _ _
  · exact ((setRing _ _ rfl).trans (bump (hostSide_regs _ _ (by decide)))).trans (raise _ _ rfl)

theorem faultFinish (r cause : Nat) (halt : Option Nat) : s.Within hostSide (s.faultFinish r cause halt) :=
  ((faultDrop r cause).trans (setRing _ _ rfl)).trans (flushWrites _ _)

theorem transFail (r page : Nat) (write : Bool) (cause : Nat) : s.Within hostSide (s.transFail r page write cause) :=
  ((bump (hostSide_regs _ _ (by decide))).trans (raise _ _ rfl)).trans (ite (faultFinish _ _ _) (halt _ _))

theorem waitFor (r n : Nat) (w : PageWait) : s.Within hostSide (s.waitFor r n w) := setRing _ _ rfl

theorem requestPage (r page : Nat) (write : Bool) (n : Nat) : s.Within hostSide (s.requestPage r page write n) := by
  unfold State.requestPage
  extract_lets k
  split
  · exact trans (update [.prqs] rfl (by rfl)) (waitFor _ _ _)
  · split
    · exact waitFor _ _ _
    · next g s1 s2 found none full =>
      have asked : s.Within hostSide s2 := trans (trans (update [.prqs] rfl (by rfl)) (emit _ rfl)) (waitFor _ _ _)
      exact asked.trans (ite (raise _ _ rfl) (refl _ _))

theorem fault (r page : Nat) (write : Bool) : s.Within hostSide (s.fault r page write) := by
  unfold State.fault
  extract_lets s1 n
  have counted : s.Within hostSide s1 := bump (hostSide_regs _ _ (by decide))
  exact counted.trans (ite (transFail _ _ _ _) (ite (transFail _ _ _ _) (requestPage _ _ _ _)))

theorem drainWrites (r : Nat) : s.Within hostSide (s.drainWrites r) := ite (flushWrites _ _) (refl _ _)

theorem complete (r op tag : Nat) (evt : Bool) (status detail result : Nat) (first : List PendingWrite) :
    s.Within hostSide (s.complete r op tag evt status detail result first) := (setRing _ _ rfl).trans (drainWrites _)

/-! ### The recall store's content -/

theorem stops {t : State} (h : s.Within hostSide t) : s.Within stopSide t := h.mono (fun f => by cases f <;> decide) fun _ no => no

theorem exportStop : s.Within stopSide s.exportStop := by
  unfold State.exportStop
  split
  · exact refl _ _
  · dsimp only [State.draw]
    exact trans (trans (trans (draw (s := s) rfl) (ite (setRing _ _ rfl) (refl _ _))) (update [.engine, .rcl] rfl (by rfl))) (raise _ _ rfl)

theorem triggerIgnored (kind index : Nat) {P : Footprint} (reg : P.regs (RegName.wallRclIgn.off) = true)
    (has : P.has .raised = true) : s.Within P (s.triggerIgnored kind index) := (bump reg).trans (raise _ _ has)

end State.Within

end Sys2Proof.Machine
end

section
/-!
SUPPORT. DRAM channels (17): what parity, retraining, recovery and retirement change (R364 to R373), and reads that correct or poison
(R359 to R363). From these O48 and O49.
-/
namespace Sys2Proof.Machine

theorem settle_chan (s0 u : State) (n : Nat) : (settle s0 u).chan n = u.chan n := by
  unfold State.chan
  rw [settle_chans]

theorem chan_setChan_self (s : State) (n : Nat) (x : Channel) : (s.setChan n x).chan n = x := by simp [State.chan_setChan]

theorem chan_setChan_of_ne (s : State) {n k : Nat} (other : k ≠ n) (x : Channel) : (s.setChan n x).chan k = s.chan k := by
  simp [State.chan_setChan, other]

/-- The counters and positions of the DRAM block lie behind what a delivery may write. -/
theorem settle_reg_behind (s0 u : State) {n : RegName} (behind : 0x380230 ≤ n.row.base) (i j : Nat) :
    (settle s0 u).reg n i j = u.reg n i j :=
  settle_reg s0 u n i j (deliveryReg_of_ge (behind.trans (base_le_off n i j)))

/-- A command that changes channels and registers, and raises no event, changes nothing else. -/
theorem completes_chans {c : Instr} {s u : State} {f : State → State} {P : State → Prop} (run : exec c s = effect f s)
    (ends : f s = u) (same : u = { s with chans := u.chans }) (sound : s.Sound) (p : P u) : Completes c s P := by
  have quiet : u.Sound := by
    rw [same]
    exact sound
  have seq : u.markSeq = s.markSeq := by rw [same]
  have pending : u.pending = s.pending := by rw [same]
  exact ⟨u, by rw [run]; exact effect_of_sound ends quiet seq pending, p⟩

/-! ### Retirement -/

/-- What the loss of the recall store's content may change. -/
def contentSide : Footprint where
  has := stopSide.has
  regs off := hostSide.regs off || decide (off = RegName.wallRclIgn.off)

theorem State.Within.content {s t : State} (h : s.Within stopSide t) : s.Within contentSide t :=
  h.mono (fun _ no => no) fun _ no => (Bool.or_eq_false_iff.mp no).1

theorem contentLost_within (s : State) (cause : Nat) : s.Within contentSide (s.contentLost cause) := by
  unfold State.contentLost
  dsimp only
  split
  · exact .refl _ _
  · refine .trans (.trans (t := State.releasesDone _) ?_ (.ite (.triggerIgnored _ _ rfl rfl) (.refl _ _))) (.raise _ _ rfl)
    exact .trans (.trans State.Within.exportStop.content (.update [.rcl] rfl (by rfl))) State.Within.releasesDone.stops.content

/-- What the begin of reduced service may change. -/
def reducedSide : Footprint where
  has
    | .ports | .tick | .reduced | .marks | .markSeq => true
    | f => stopSide.has f
  regs := contentSide.regs

theorem enterReduced_within (s : State) : s.Within reducedSide s.enterReduced := by
  unfold State.enterReduced
  split
  · exact .refl _ _
  · have lost := contentLost_within { s with reduced := true, tick := { s.tick with shedSeen := true } }.markShed 1
    refine .trans (.trans (.trans (.trans (t := State.markShed _) ?_ (lost.mono ?_ fun _ no => no)) (.update [.rcl] rfl (by rfl))) (.action _ _ _ _ rfl rfl))
      (.raise _ _ rfl)
    · exact .update [.ports, .tick, .reduced] rfl (by rfl)
    · intro f no
      cases f <;> first | rfl | cases no

theorem enterReduced_facts (s : State) : s.enterReduced.reduced = (s.reduced || decide (3 ≤ s.retired)) ∧
    ∃ seen, s.enterReduced.tick = { s.tick with shedSeen := seen } := by
  unfold State.enterReduced
  split
  next no =>
    simp only [Bool.or_eq_true, decide_eq_true_eq] at no
    refine ⟨?_, _, rfl⟩
    obtain red | few := no
    · simp [red]
    · simp [Nat.not_le.mpr few]
  next yes =>
    simp only [Bool.or_eq_true, decide_eq_true_eq, not_or, Nat.not_lt] at yes
    have lost := contentLost_within { s with reduced := true, tick := { s.tick with shedSeen := true } }.markShed 1
    dsimp only
    generalize State.contentLost _ 1 = w at lost ⊢
    have reduced : w.reduced = true := lost.field .reduced rfl
    have tick : w.tick = { s.tick with shedSeen := true } := lost.field .tick rfl
    refine ⟨?_, true, tick⟩
    rw [decide_eq_true yes.2, Bool.or_true]
    exact reduced

/-- What a retirement leaves (R370 to R372). -/
structure State.RetiredTo (s t : State) (n cause : Nat) : Prop where
  state : (t.chan n).state = .retired
  xcause : (t.chan n).xcause = BitVec.ofNat 2 cause
  others : ∀ k, k ≠ n → t.chan k = s.chan k
  active : t.active = s.active
  capacity : t.tick.capacity = true
  remap : t.tick.remap = true
  reduced : t.reduced = (s.reduced || decide (3 ≤ t.retired))

theorem retireChan_within (s : State) (n cause : Nat) (o : Origin) : ∃ u : State, s.retireChan n cause o = u.enterReduced ∧
    u.chans = (s.setChan n { s.chan n with state := .retired, xcause := BitVec.ofNat 2 cause, att := 0, alert := 0, retry := 0
                                           inSlot := false, retrainAfter := false, parityAfter := false }).chans ∧
    u.active = s.active ∧ u.reduced = s.reduced ∧ u.tick.capacity = true ∧ u.tick.remap = true := ⟨_, rfl, rfl, rfl, rfl, rfl, rfl⟩

theorem chan_congr {s t : State} (h : t.chans = s.chans) (k : Nat) : t.chan k = s.chan k := by
  unfold State.chan
  rw [h]

theorem retired_congr {s t : State} (h : t.chans = s.chans) : t.retired = s.retired := by
  unfold State.retired State.chan
  rw [h]

theorem retireChan_retires (s : State) (n cause : Nat) (o : Origin) (s0 : State) :
    s.RetiredTo (settle s0 (s.retireChan n cause o)) n cause := by
  obtain ⟨u, e, chans, active, reduced, capacity, remap⟩ := retireChan_within s n cause o
  have within := enterReduced_within u
  obtain ⟨red, seen, tick⟩ := enterReduced_facts u
  rw [e]
  have same : (settle s0 u.enterReduced).chans = u.chans := (settle_chans _ _).trans (within.field .chans rfl)
  refine ⟨?_, ?_, fun k other => ?_, ?_, ?_, ?_, ?_⟩
  · rw [chan_congr same, chan_congr chans, chan_setChan_self]
  · rw [chan_congr same, chan_congr chans, chan_setChan_self]
  · rw [chan_congr same, chan_congr chans, chan_setChan_of_ne s other]
  · exact (settle_active _ _).trans ((within.field .active rfl).trans active)
  · rw [settle_tick, tick]
    exact capacity
  · rw [settle_tick, tick]
    exact remap
  · rw [settle_reduced, red, retired_congr same, reduced]

/-! ### O49 -/

theorem enterRecovery_chan (s : State) (n cause : Nat) : (s.enterRecovery n cause).chan n =
    { s.chan n with state := .recovery, recovering := s.clock, rcause := BitVec.ofNat 2 cause, att := 0, alert := 0, retry := 0
                    inSlot := false, retrainAfter := false, parityAfter := false } :=
  by simp [State.enterRecovery, State.chan, State.setChan, State.raise]

theorem enterRecovery_chan_of_ne (s : State) {n k : Nat} (other : k ≠ n) (cause : Nat) : (s.enterRecovery n cause).chan k = s.chan k :=
  by simp [State.enterRecovery, State.chan, State.setChan, State.raise, Store.get_put_of_ne, other]

/-- What an alert does to a channel, once counted (R364). -/
def State.alerted (s : State) (n : Nat) (c : Channel) : State :=
  if c.parityAfter then s.setChan n { c with alert := 1 }
  else if c.att = 3 then
    if c.inSlot then (s.raise 0x0910 [(1, n), (1, 3), (6, 0)]).setChan n { c with alert := 1, parityAfter := true }
    else if c.state = .recovery then (s.raise 0x0910 [(1, n), (1, 3), (6, 0)]).setChan n { c with alert := 0, att := 0, retry := 0 }
    else (s.raise 0x0910 [(1, n), (1, 3), (6, 0)]).enterRecovery n 2
  else s.draw.2.setChan n { c with att := c.att + 1, alert := 1, retry := BitVec.ofNat 7 (s.draw.1.toNat % 65) }

theorem exec_alertLow (n : Fin 16) (s : State) : exec (.alertLow n) s = effect (fun s =>
    if (s.chan n).state = .off || (s.chan n).state = .retired then s else (s.bump .dramPar n).alerted n (s.chan n)) s := rfl

theorem alerted_regs (s : State) (n : Nat) (c : Channel) : (s.alerted n c).regs = s.regs := by
  unfold State.alerted
  split
  · rfl
  · split
    · split
      · rfl
      · split <;> rfl
    · rfl

theorem alertLow_completes (n : Fin 16) (s : State) (on : (s.chan n).state = .service ∨ (s.chan n).state = .training) :
    Completes (.alertLow n) s fun t =>
      t.reg .dramPar n = satAdd (s.reg .dramPar n) 1 ∧
      ((s.chan n).att ≠ 3 → (s.chan n).parityAfter = false → (t.chan n).alert = 1 ∧ (t.chan n).att = (s.chan n).att + 1 ∧ (t.chan n).retry.toNat ≤ 64 ∧
        (t.chan n).state = (s.chan n).state) ∧
      ((s.chan n).att = 3 → (s.chan n).parityAfter = false → (s.chan n).inSlot = false →
        (t.chan n).state = .recovery ∧ (t.chan n).rcause = 2 ∧ (t.chan n).att = 0 ∧ (t.chan n).alert = 0) ∧
      ((s.chan n).att = 3 → (s.chan n).inSlot = true → (t.chan n).state = (s.chan n).state ∧ (t.chan n).parityAfter = true) ∧
      ∀ k, k ≠ n.val → t.chan k = s.chan k := by
  have notOff : (s.chan n).state ≠ .off := by obtain e | e := on <;> simp [e]
  have notRetired : (s.chan n).state ≠ .retired := by obtain e | e := on <;> simp [e]
  have notRecovering : (s.chan n).state ≠ .recovery := by obtain e | e := on <;> simp [e]
  refine completes_of_effect (exec_alertLow n s) ?_
  rw [settle_reg_behind _ _ (by decide), settle_chan]
  simp only [settle_chan]
  rw [if_neg (by simp [notOff, notRetired])]
  have counted : ((s.bump .dramPar n).alerted n (s.chan n)).reg .dramPar n = satAdd (s.reg .dramPar n) 1 := by
    unfold State.reg
    rw [alerted_regs]
    exact Store.get_put_self _ _ _ _
  have same : ∀ k, (s.bump .dramPar n).chan k = s.chan k := fun _ => rfl
  generalize s.bump .dramPar n = u at counted same ⊢
  generalize s.chan n = c at *
  unfold State.alerted at counted ⊢
  split
  next after =>
    rw [if_pos after] at counted
    refine ⟨counted, fun _ no => absurd (after.symm.trans no) (by simp), fun _ no => absurd (after.symm.trans no) (by simp), fun _ _ => ?_,
      fun k other => (chan_setChan_of_ne u other _).trans (same k)⟩
    rw [chan_setChan_self]
    exact ⟨rfl, after⟩
  · split
    next after last =>
      rw [if_neg after, if_pos last] at counted
      split
      next slot =>
        rw [if_pos slot] at counted
        refine ⟨counted, fun no => absurd last no, fun _ _ no => absurd (slot.symm.trans no) (by simp), fun _ _ => ?_,
          fun k other => (chan_setChan_of_ne _ other _).trans (same k)⟩
        rw [chan_setChan_self]
        exact ⟨rfl, rfl⟩
      next free =>
        rw [if_neg free, if_neg notRecovering] at counted
        refine ⟨counted, fun no => absurd last no, fun _ _ _ => ?_, fun _ yes => absurd yes free,
          fun k other => (enterRecovery_chan_of_ne _ other _).trans (same k)⟩
        rw [enterRecovery_chan]
        exact ⟨rfl, rfl, rfl, rfl⟩
    next after more =>
      rw [if_neg after, if_neg more] at counted
      refine ⟨counted, fun _ _ => ?_, fun yes => absurd yes more, fun yes => absurd yes more,
        fun k other => (chan_setChan_of_ne _ other _).trans (same k)⟩
      rw [chan_setChan_self]
      refine ⟨rfl, rfl, ?_, rfl⟩
      simp only [BitVec.toNat_ofNat]
      omega

theorem alertHigh_completes (n : Fin 16) (s : State) (sound : s.Sound) (low : (s.chan n).alert = 1) :
    Completes (.alertHigh n) s fun t =>
      (t.chan n).alert = 2 ∧ t.reg .dramReplay n = satAdd (s.reg .dramReplay n) (s.chan n).retry.toNat ∧
      State.Frame { s with chans := t.chans, regs := t.regs } t := by
  have ends : exec (.alertHigh n) s = .next ((s.setChan n { s.chan n with alert := 2 }).bump .dramReplay n 0 (s.chan n).retry.toNat) :=
    effect_of_sound (if_pos low) sound rfl rfl
  refine ⟨_, ends, ?_, ?_, .refl _⟩
  · exact congrArg Channel.alert ((chan_congr (s := s.setChan n _) rfl n).trans (chan_setChan_self s n _))
  · exact Store.get_put_self _ _ _ _

theorem dramCtrl_marked (n : Nat) : RegAt.marked ⟨.dramCtrl, n, 0⟩ = true := by simp [RegAt.marked, RegName.row]

/-- What an accepted write to DRAM_CTRL does. -/
theorem accept_dramCtrl (s : State) (o : Origin) (n : Nat) (v : Word) : ∃ u : State, s.accept o ⟨.dramCtrl, n, 0⟩ v {} = u.dramCtrl n o v ∧
    u.chans = s.chans ∧ u.active = s.active ∧ u.reduced = s.reduced ∧ u.markSeq = s.markSeq + 1 := by
  refine ⟨(s.writeMarked o ⟨.dramCtrl, n, 0⟩ v).stored ⟨.dramCtrl, n, 0⟩ v, ?_, rfl, rfl, rfl, rfl⟩
  rw [accept_of_acting s o (r := ⟨.dramCtrl, n, 0⟩) v {} (show RegName.dramCtrl ≠ .glbCtrl by decide)
    (show RegName.dramCtrl ≠ .timeCfg by decide), dramCtrl_marked]
  rfl

theorem dramCtrl_retrain (s : State) (n : Nat) (o : Origin) : s.dramCtrl n o 1 =
    if (s.chan n).inSlot then s.setChan n { s.chan n with retrainAfter := true } else s.enterRecovery n 3 := rfl

theorem dramCtrl_retire (s : State) (n : Nat) (o : Origin) : s.dramCtrl n o 2 = s.retireChan n 3 o := rfl

theorem retrain_completes (n : Fin 16) (o : Origin) (s : State) (h : s.Accepts o ⟨.dramCtrl, n.val, 0⟩ 1) :
    Completes (.retrain n o) s fun t =>
      ((s.chan n).inSlot = true → t.chan n = { s.chan n with retrainAfter := true }) ∧
      ((s.chan n).inSlot = false → (t.chan n).state = .recovery ∧ (t.chan n).rcause = 3 ∧ (t.chan n).att = 0) ∧
      t.markSeq = s.markSeq + 1 := by
  obtain ⟨u, ends, chans, -, -, seq⟩ := accept_dramCtrl s o n 1
  refine completes_of_write rfl h ?_
  rw [ends, dramCtrl_retrain, chan_congr chans, settle_chan, settle_markSeq]
  split
  next slot =>
    exact ⟨fun _ => chan_setChan_self u n _, fun no => absurd (slot.symm.trans no) (by simp), seq⟩
  next free =>
    rw [enterRecovery_chan]
    exact ⟨fun yes => absurd yes free, fun _ => ⟨rfl, rfl, rfl⟩, seq⟩

theorem State.RetiredTo.congr {s u t : State} {n cause : Nat} (h : u.RetiredTo t n cause) (chans : u.chans = s.chans)
    (active : u.active = s.active) (reduced : u.reduced = s.reduced) : s.RetiredTo t n cause :=
  { h with
    others := fun k other => (h.others k other).trans (chan_congr chans k)
    active := h.active.trans active
    reduced := by rw [h.reduced, reduced] }

theorem retire_completes (n : Fin 16) (o : Origin) (s : State) (h : s.Accepts o ⟨.dramCtrl, n.val, 0⟩ 2) :
    Completes (.retire n o) s fun t => s.RetiredTo t n 3 := by
  obtain ⟨u, ends, chans, active, reduced, -⟩ := accept_dramCtrl s o n 2
  refine completes_of_write rfl h ?_
  rw [ends, dramCtrl_retire]
  exact (retireChan_retires u n 3 o s).congr chans active reduced

theorem exec_recoveryTimeout (n : Fin 16) (s : State) : exec (.recoveryTimeout n) s = effect (fun s =>
    if (s.chan n).state = .recovery && s.recoveryOver n then s.retireChan n 2 .auto else s) s := rfl

theorem exec_recoveryComplete (n : Fin 16) (us : Word) (s : State) : exec (.recoveryComplete n us) s = effect (fun s =>
    if (s.chan n).state = .recovery && !s.recoveryOver n then
      (((s.train n).setChan n { (s.train n).chan n with state := .service, second := 0 }).bump .dramRecov n).raise 0x0921
        [(1, n.val), (4, us.toNat), (3, 0)]
    else s) s := rfl

theorem recoveryTimeout_completes (n : Fin 16) (s : State) (recovering : (s.chan n).state = .recovery)
    (late : s.recoveryOver n = true) : Completes (.recoveryTimeout n) s fun t => s.RetiredTo t n 2 := by
  refine completes_of_effect (exec_recoveryTimeout n s) ?_
  rw [if_pos (by simp [recovering, late])]
  exact retireChan_retires s n 2 .auto s

theorem recoveryComplete_completes (n : Fin 16) (us : Word) (s : State) (recovering : (s.chan n).state = .recovery)
    (within : s.recoveryOver n = false) : Completes (.recoveryComplete n us) s fun t =>
      (t.chan n).state = .service ∧ (t.chan n).second = 0 ∧ t.reg .dramRecov n = satAdd (s.reg .dramRecov n) 1 ∧
      ∀ k, k ≠ n.val → t.chan k = s.chan k := by
  refine completes_of_effect (exec_recoveryComplete n us s) ?_
  rw [if_pos (by simp [recovering, within]), settle_chan, settle_reg_behind _ _ (by decide)]
  simp only [settle_chan]
  have told := chan_setChan_self (s.train n) n { (s.train n).chan n with state := .service, second := 0 }
  refine ⟨congrArg Channel.state told, congrArg Channel.second told, Store.get_put_self _ _ _ _, fun k other => ?_⟩
  simp [State.raise, State.bump, State.setReg, State.train, State.chan, State.setChan, Store.get_put_of_ne, other]

/-! ### The retraining slot -/

/-- What the end of a slot leaves of its channel, before what waited for it (R368). -/
def State.slotEnded (s : State) (n : Nat) (moves : List LaneSetting) : State :=
  { s.setChan n { (s.chan n).applyMoves moves with
      inSlot := false, slots := BitVec.ofNat 16 (min 0xFFFF ((s.chan n).slots.toNat + 1)) } with lastSlot := some n }

theorem slotEnded_chan (s : State) (n : Nat) (moves : List LaneSetting) : (s.slotEnded n moves).chan n =
    { (s.chan n).applyMoves moves with
      inSlot := false, slots := BitVec.ofNat 16 (min 0xFFFF ((s.chan n).slots.toNat + 1)) } :=
  chan_setChan_self s n _

theorem exec_retrainingSlotEnd (n : Fin 16) (moves : List LaneSetting) (narrow : Bool) (s : State) :
    exec (.retrainingSlotEnd n moves narrow) s = effect (fun s =>
      if !(s.chan n).inSlot then s
      else if narrow then (s.slotEnded n moves).enterRecovery n 1
      else if (s.chan n).parityAfter then (s.slotEnded n moves).enterRecovery n 2
      else if (s.chan n).retrainAfter then (s.slotEnded n moves).enterRecovery n 3
      else s.slotEnded n moves) s := rfl

theorem retrainingSlotEnd_completes (n : Fin 16) (moves : List LaneSetting) (narrow : Bool) (s : State)
    (slot : (s.chan n).inSlot = true) : Completes (.retrainingSlotEnd n moves narrow) s fun t =>
      (t.chan n).inSlot = false ∧ (t.chan n).slots.toNat = min 65535 ((s.chan n).slots.toNat + 1) ∧ t.lastSlot = some n.val ∧
      (narrow = true → (t.chan n).state = .recovery ∧ (t.chan n).rcause = 1) ∧
      (narrow = false → (s.chan n).parityAfter = true → (t.chan n).state = .recovery ∧ (t.chan n).rcause = 2) ∧
      (narrow = false → (s.chan n).parityAfter = false → (s.chan n).retrainAfter = true → (t.chan n).state = .recovery ∧ (t.chan n).rcause = 3) ∧
      (narrow = false → (s.chan n).parityAfter = false → (s.chan n).retrainAfter = false → (t.chan n).state = (s.chan n).state) := by
  have slots : (BitVec.ofNat 16 (min 0xFFFF ((s.chan n).slots.toNat + 1))).toNat = min 65535 ((s.chan n).slots.toNat + 1) := by
    rw [BitVec.toNat_ofNat]
    omega
  have ended := slotEnded_chan s n moves
  have recovery : ∀ cause : Nat, ((s.slotEnded n moves).enterRecovery n cause).chan n = _ :=
    fun cause => enterRecovery_chan (s.slotEnded n moves) n cause
  refine completes_of_effect (exec_retrainingSlotEnd n moves narrow s) ?_
  rw [if_neg (by simp [slot]), settle_chan, settle_lastSlot]
  cases narrow
  · rw [if_neg (by simp)]
    split
    next after =>
      rw [recovery, ended]
      exact ⟨rfl, slots, rfl, fun no => absurd no (by simp), fun _ _ => ⟨rfl, rfl⟩, fun _ no => absurd (after.symm.trans no) (by simp),
        fun _ no => absurd (after.symm.trans no) (by simp)⟩
    · split
      next none after =>
        rw [recovery, ended]
        exact ⟨rfl, slots, rfl, fun no => absurd no (by simp), fun _ no => absurd no none, fun _ _ _ => ⟨rfl, rfl⟩,
          fun _ _ no => absurd (after.symm.trans no) (by simp)⟩
      next none idle =>
        rw [ended]
        exact ⟨rfl, slots, rfl, fun no => absurd no (by simp), fun _ no => absurd no none, fun _ _ no => absurd no idle,
          fun _ _ _ => rfl⟩
  · rw [if_pos rfl, recovery, ended]
    exact ⟨rfl, slots, rfl, fun _ => ⟨rfl, rfl⟩, fun no => absurd no (by simp), fun no => absurd no (by simp),
      fun no => absurd no (by simp)⟩

/-- The slot starts for the channel whose turn it is. -/
theorem exec_retrainingSlotStart (s : State) : exec .retrainingSlotStart s = effect (fun s =>
    if !s.flag .dramRt 0 0 0 || s.selfRefresh || !s.tick.started || s.tick.halted || s.now % max 1 s.tick.cycle ≠ 0 then s
    else match s.slotTurn with
      | none => s
      | some n => if (s.chan n).state = .service && (s.chan n).alert = 0 && (s.chan n).att = 0 then
          s.setChan n { s.chan n with inSlot := true } else s) s := rfl

theorem completes_mono {c : Instr} {s : State} {P Q : State → Prop} (h : Completes c s P) (weaker : ∀ t, P t → Q t) :
    Completes c s Q := by
  obtain ⟨t, run, p⟩ := h
  exact ⟨t, run, weaker t p⟩

/-- Settles O49: a channel's state follows from its record, and retirement leaves every other channel as it was. -/
theorem channelRecovery : Obligations.ChannelRecovery := by
  unfold Obligations.ChannelRecovery
  refine ⟨⟨alertLow_completes, alertHigh_completes, fun n s sound again => ?_, fun n s sound => ⟨fun off => ?_, fun high => ?_, fun none => ?_⟩⟩,
    ⟨fun n s sound on refresh started halted course turn serving alert att => ?_, fun s sound unused => ?_,
      fun n moves narrow s sound none => ?_, retrainingSlotEnd_completes, retrain_completes, fun n us s sound no => ?_,
      recoveryComplete_completes⟩, fun n o s h => ?_, fun n s sound no => ?_, fun n s recovering late => ?_⟩
  · refine ⟨s.setChan n { s.chan n with alert := 0, att := 0, retry := 0 }, effect_of_sound (if_pos again) sound rfl rfl,
      chan_setChan_self s n _, .refl _⟩
  · refine completes_idle (exec_alertLow n s) (if_pos ?_) sound
    simpa using off
  · exact completes_idle (c := .alertHigh n) rfl (if_neg high) sound
  · exact completes_idle (c := .replayRetired n) rfl (if_neg none) sound
  · refine ⟨s.setChan n { s.chan n with inSlot := true }, ?_, chan_setChan_self s n _, .refl _⟩
    rw [exec_retrainingSlotStart]
    refine effect_of_sound ?_ sound rfl rfl
    rw [if_neg (by simp [on, refresh, started, halted, course]), turn]
    exact if_pos (by simp [serving, alert, att])
  · refine completes_idle (exec_retrainingSlotStart s) ?_ sound
    split
    · rfl
    next used =>
      obtain off | park | before | halted | course | nobody := unused
      · simp [off] at used
      · simp [park] at used
      · simp [before] at used
      · simp [halted] at used
      · simp [course] at used
      · rw [nobody]
  · exact completes_idle (exec_retrainingSlotEnd n moves narrow s) (if_pos (by simp [none])) sound
  · refine completes_idle (exec_recoveryComplete n us s) (if_neg ?_) sound
    obtain other | late := no
    · simp [other]
    · simp [late]
  · obtain ⟨t, run, h⟩ := retire_completes n o s h
    exact ⟨t, run, h.state, h.xcause, h.others, h.active, h.capacity, h.remap, h.reduced⟩
  · refine completes_idle (exec_recoveryTimeout n s) (if_neg ?_) sound
    obtain other | early := no
    · simp [other]
    · simp [early]
  · obtain ⟨t, run, h⟩ := recoveryTimeout_completes n s recovering late
    exact ⟨t, run, h.state, h.xcause, h.others, h.active, h.capacity, h.remap, h.reduced⟩

end Sys2Proof.Machine
end

section
/-!
SUPPORT. Reads of DRAM (R359 to R363): what a received unit comes to, and the clocks of a channel. From these O48.
-/
namespace Sys2Proof.Machine

/-! ### What a received unit comes to -/

/-- What the beats of a unit decode as. -/
def unitResults (l : Nat) (beats : List (BitVec 80)) : List (BeatResult × BitVec 80) :=
  beats.mapIdx fun b r => bchDecode r (l + 8 * b)

/-- Beats that are corrected. -/
def ceCount (rs : List (BeatResult × BitVec 80)) : Nat :=
  (rs.filter fun r => match r.1 with
    | .ce _ => true
    | _ => false).length

/-- Whether a beat cannot be corrected. -/
def unitBad (rs : List (BeatResult × BitVec 80)) : Bool := rs.any fun r => r.1 = .ue || r.1 = .address

/-- Corrected beats are counted. -/
def State.ceCounted (s : State) (ch ces : Nat) : State :=
  let s := if ces = 0 then s else s.bump .dramCe ch 0 ces
  if ces = 0 then s else s.setChan ch { s.chan ch with second := (s.chan ch).second + ces }

/-- A unit is written whole, with the upset bits given. -/
def State.rewritten (s : State) (p : Nat) (bytes : List Byte) (mask : BitVec 80) : State :=
  { s with dram := Memory.writeBytes s.dram p bytes }.setUpsets p (List.replicate 8 mask)

/-- A unit that cannot be corrected is poisoned and reported (R360, R361). -/
def State.poisoned (s : State) (ch p : Nat) (bytes : List Byte) (addr : Word) (told : List (Nat × Nat)) : State :=
  (((s.rewritten p bytes poisonMask).bump .dramUe ch).setReg .dramUeAddr ch 0 addr).raise 0x0902 told

theorem decodeUnit_eq (s : State) (ch l src : Nat) (beats : List (BitVec 80)) : (s.decodeUnit ch l src beats).2 =
    if beats.all isMarker then s
    else if unitBad (unitResults l beats) then
      (s.ceCounted ch (ceCount (unitResults l beats))).poisoned ch (phys ch l) (beatBytes beats) (BitVec.ofNat 32 (l / 64 + 2 ^ 31))
        [(1, ch), (1, src), (4, l / 64), (1, bit ((unitResults l beats).any fun r => r.1 = .address)), (1, 0)]
    else if ceCount (unitResults l beats) = 0 then s.ceCounted ch (ceCount (unitResults l beats))
    else (s.ceCounted ch (ceCount (unitResults l beats))).rewritten (phys ch l)
      (beatBytes ((unitResults l beats).map (·.2))) 0 := by
  unfold State.decodeUnit
  split
  · rfl
  · exact apply_ite Prod.snd (unitBad (unitResults l beats) = true) _ _

theorem satAdd_zero (v : Word) : satAdd v 0 = v := by
  unfold satAdd
  have := v.isLt
  rw [Nat.add_zero, Nat.min_eq_left (by omega), BitVec.ofNat_toNat, BitVec.setWidth_eq]

theorem ceCounted_facts (s : State) (n : Fin 16) (ces : Nat) :
    (s.ceCounted n ces).reg .dramCe n = satAdd (s.reg .dramCe n) ces ∧
    ((s.ceCounted n ces).chan n).second = (s.chan n).second + ces ∧
    (∀ k, k ≠ n.val → (s.ceCounted n ces).chan k = s.chan k) ∧
    (s.ceCounted n ces).reg .dramUe n = s.reg .dramUe n ∧ (s.ceCounted n ces).dram = s.dram ∧ (s.ceCounted n ces).upsets = s.upsets := by
  unfold State.ceCounted
  by_cases none : ces = 0
  · subst none
    exact ⟨(satAdd_zero _).symm, rfl, fun _ _ => rfl, rfl, rfl, rfl⟩
  · simp only [if_neg none]
    refine ⟨Store.get_put_self _ _ _ _, congrArg Channel.second (chan_setChan_self _ _ _), fun k other => chan_setChan_of_ne _ other _, ?_, rfl, rfl⟩
    exact reg_setReg_of_name (by decide) n.isLt s _ n.isLt

theorem beatBytes_length (rs : List (BitVec 80)) : (beatBytes rs).length = 8 * rs.length := by
  unfold beatBytes
  induction rs with
  | nil => rfl
  | cons r rs ih =>
    rw [List.flatMap_cons, List.length_append, leBytes_length, ih, List.length_cons]
    omega

/-- A unit rewritten holds its bytes and upset bits, and no other byte changes. -/
theorem rewritten_facts (s : State) (p : Nat) {bytes : List Byte} (mask : BitVec 80) (whole : bytes.length = 64) :
    Memory.readBytes (s.rewritten p bytes mask).dram p 64 = bytes ∧
    (∀ b, b < 8 → Store.get 0 (s.rewritten p bytes mask).upsets (p / 8 + b) = mask) ∧
    (∀ q, q < p ∨ p + 64 ≤ q → Memory.read (s.rewritten p bytes mask).dram q = Memory.read s.dram q) := by
  refine ⟨?_, fun b hb => ?_, fun q hq => Memory.read_writeBytes_outside _ _ _ _ (by rwa [whole])⟩
  · rw [← whole]
    exact readBytes_writeBytes bytes s.dram p
  · simp only [State.rewritten, State.setUpsets]
    interval_cases b <;> simp [List.range_succ, Store.get_put]

theorem poisoned_facts (s : State) (n : Fin 16) (p : Nat) (bytes : List Byte) (addr : Word) (told : List (Nat × Nat)) :
    let t := s.poisoned n p bytes addr told
    t.reg .dramUe n = satAdd (s.reg .dramUe n) 1 ∧ t.reg .dramUeAddr n = addr ∧ t.reg .dramCe n = s.reg .dramCe n ∧
    t.chans = s.chans ∧ t.dram = (s.rewritten p bytes poisonMask).dram ∧ t.upsets = (s.rewritten p bytes poisonMask).upsets :=
  ⟨(reg_setReg_of_name (by decide) n.isLt _ _ n.isLt).trans (Store.get_put_self _ _ _ _), Store.get_put_self _ _ _ _,
    (reg_setReg_of_name (by decide) n.isLt _ _ n.isLt).trans (reg_setReg_of_name (by decide) n.isLt _ _ n.isLt), rfl, rfl, rfl⟩

/-- What a received unit leaves: its counts, the unit corrected or poisoned, and every other byte and channel as it was. -/
theorem decodeUnit_facts (s : State) (n : Fin 16) (u src : Nat) {beats : List (BitVec 80)} (unit : beats.length = 8)
    (received : beats.all isMarker = false) :
    let p := phys n (64 * u)
    let rs := unitResults (64 * u) beats
    let t := (s.decodeUnit n (64 * u) src beats).2
    t.reg .dramCe n = satAdd (s.reg .dramCe n) (ceCount rs) ∧ (t.chan n).second = (s.chan n).second + ceCount rs ∧
    (unitBad rs = true → t.reg .dramUe n = satAdd (s.reg .dramUe n) 1 ∧ t.reg .dramUeAddr n = BitVec.ofNat 32 (u + 2 ^ 31) ∧
      ∀ b, b < 8 → Store.get 0 t.upsets (p / 8 + b) = poisonMask) ∧
    (unitBad rs = false → t.reg .dramUe n = s.reg .dramUe n ∧ (ceCount rs = 0 → t.dram = s.dram ∧ t.upsets = s.upsets) ∧
      (ceCount rs ≠ 0 → Memory.readBytes t.dram p 64 = beatBytes (rs.map (·.2)) ∧
        ∀ b, b < 8 → Store.get 0 t.upsets (p / 8 + b) = 0)) ∧
    (∀ q, q < p ∨ p + 64 ≤ q → Memory.read t.dram q = Memory.read s.dram q) ∧ (∀ k, k ≠ n.val → t.chan k = s.chan k) := by
  intro p rs t
  have whole : (beatBytes beats).length = 64 := by rw [beatBytes_length, unit]
  have whole' : (beatBytes (rs.map (·.2))).length = 64 := by
    rw [beatBytes_length, List.length_map, show rs.length = 8 by simp [rs, unitResults, unit]]
  have t_eq : t = _ := decodeUnit_eq s n (64 * u) src beats
  rw [received, if_neg (by simp)] at t_eq
  obtain ⟨ce, second, others, ue, dram, upsets⟩ := ceCounted_facts s n (ceCount rs)
  change t = if unitBad rs = true then (s.ceCounted n (ceCount rs)).poisoned n p (beatBytes beats) (BitVec.ofNat 32 (64 * u / 64 + 2 ^ 31))
      [(1, n.val), (1, src), (4, 64 * u / 64), (1, bit (rs.any fun r => r.1 = .address)), (1, 0)]
    else if ceCount rs = 0 then s.ceCounted n (ceCount rs) else
      (s.ceCounted n (ceCount rs)).rewritten p (beatBytes (rs.map (·.2))) 0 at t_eq
  generalize s.ceCounted n (ceCount rs) = c at *
  clear_value t rs
  split at t_eq
  next bad =>
    obtain ⟨-, mask, outside⟩ := rewritten_facts c p poisonMask whole
    have addr : 64 * u / 64 = u := by omega
    rw [addr] at t_eq
    obtain ⟨at_ue, at_addr, at_ce, chans, memory, masks⟩ := poisoned_facts c n p (beatBytes beats) (BitVec.ofNat 32 (u + 2 ^ 31))
      [(1, n.val), (1, src), (4, u), (1, bit (rs.any fun r => r.1 = .address)), (1, 0)]
    rw [t_eq]
    refine ⟨at_ce.trans ce, ?_, fun _ => ⟨?_, at_addr, ?_⟩, fun good => absurd (bad.symm.trans good) (by simp), fun q hq => ?_, fun k other => ?_⟩
    · rw [chan_congr chans]
      exact second
    · rw [at_ue, ue]
    · rw [masks]
      exact mask
    · rw [memory, outside q hq, dram]
    · rw [chan_congr chans]
      exact others k other
  next good =>
    split at t_eq
    next clean =>
      rw [t_eq]
      exact ⟨ce, second, fun bad => absurd bad good, fun _ => ⟨ue, fun _ => ⟨dram, upsets⟩, fun some => absurd clean some⟩,
        fun q _ => by rw [dram], others⟩
    next some =>
      obtain ⟨bytes, mask, outside⟩ := rewritten_facts c p 0 whole'
      rw [t_eq]
      exact ⟨ce, second, fun bad => absurd bad good, fun _ => ⟨ue, fun clean => absurd clean some, fun _ => ⟨bytes, mask⟩⟩,
        fun q hq => by rw [outside q hq, dram], others⟩

/-! ### O48 -/

theorem receivedBeats_congr {s t : State} (dram : t.dram = s.dram) (upsets : t.upsets = s.upsets) (p : Nat) (flips : List (BitVec 80)) :
    t.receivedBeats p flips = s.receivedBeats p flips := by
  unfold State.receivedBeats State.unitBeats
  rw [dram, upsets]

/-- A read is counted as one that waited, or not. -/
def State.rawCounted (s : State) (n : Nat) : State := s.draw.2.bump .dramRawWait n 0 (s.draw.1.toNat % 2)

/-- The effect of a demand read, for any decoder of the unit. -/
theorem demandRead_eq (decode : State → Nat → Nat → Nat → List (BitVec 80) → (List Byte × Bool) × State) (n : Fin 16) (unit : BitVec 27)
    (flips : List (BitVec 80)) (s : State) :
    effect (fun s : State =>
      if (s.chan n.val).serves then
        let (v, s) := s.draw
        let s := s.bump .dramRawWait n.val 0 (v.toNat % 2)
        let l := 64 * unit.toNat
        (decode s n.val l 1 (s.receivedBeats (phys n.val l) flips)).2
      else s) s =
    effect (fun s =>
      if (s.chan n).serves then
        (decode (s.rawCounted n) n (64 * unit.toNat) 1 ((s.rawCounted n).receivedBeats (phys n (64 * unit.toNat)) flips)).2
      else s) s := rfl

theorem exec_dramReadData (n : Fin 16) (unit : BitVec 27) (flips : List (BitVec 80)) (s : State) :
    exec (.dramReadData n unit flips) s = effect (fun s =>
      if (s.chan n).serves then
        ((s.rawCounted n).decodeUnit n (64 * unit.toNat) 1
          ((s.rawCounted n).receivedBeats (phys n (64 * unit.toNat)) flips)).2
      else s) s := demandRead_eq State.decodeUnit n unit flips s

/-- The effect of a patrol read, for any decoder of the unit. -/
theorem patrolRead_eq (decode : State → Nat → Nat → Nat → List (BitVec 80) → (List Byte × Bool) × State) (n : Fin 16) (s : State) :
    effect (fun s : State =>
      if (s.chan n.val).serves && (s.chan n.val).alert = 0 && s.flag .dramScrub 0 0 8 && !s.selfRefresh then
        let (v, s) := s.draw
        let s := s.bump .dramRawWait n.val 0 (v.toNat % 2)
        let u := (s.reg .dramScrubPos n.val).toNat
        let p := phys n.val (64 * u)
        let s := if s.unitUpset p then (decode s n.val (64 * u) 2 (s.unitBeats p)).2 else s
        s.setReg .dramScrubPos n.val 0 (BitVec.ofNat 32 ((u + 1) % 2 ^ 27))
      else s) s =
    effect (fun s =>
      if (s.chan n).serves && (s.chan n).alert = 0 && s.flag .dramScrub 0 0 8 && !s.selfRefresh then
        let w := s.rawCounted n
        let u := (w.reg .dramScrubPos n).toNat
        let p := phys n (64 * u)
        State.setReg (if w.unitUpset p then (decode w n (64 * u) 2 (w.unitBeats p)).2 else w) .dramScrubPos n 0
          (BitVec.ofNat 32 ((u + 1) % 2 ^ 27))
      else s) s := rfl

theorem exec_patrolScrubRead (n : Fin 16) (s : State) : exec (.patrolScrubRead n) s = effect (fun s =>
    if (s.chan n).serves && (s.chan n).alert = 0 && s.flag .dramScrub 0 0 8 && !s.selfRefresh then
      let w := s.rawCounted n
      let u := (w.reg .dramScrubPos n).toNat
      let p := phys n (64 * u)
      State.setReg (if w.unitUpset p then (w.decodeUnit n (64 * u) 2 (w.unitBeats p)).2 else w) .dramScrubPos n 0
        (BitVec.ofNat 32 ((u + 1) % 2 ^ 27))
    else s) s := patrolRead_eq State.decodeUnit n s

theorem rawCounted_reg (s : State) {n : Fin 16} {m : RegName} (other : m ≠ .dramRawWait) (h1 : n < m.row.n1) (h2 : 0 < m.row.n2) :
    (s.rawCounted n).reg m n = s.reg m n := reg_setReg_of_name other h1 _ _ n.isLt h2

theorem rawCounted_memory (s : State) (n : Nat) : (s.rawCounted n).dram = s.dram ∧ (s.rawCounted n).upsets = s.upsets ∧
    (s.rawCounted n).chans = s.chans := ⟨rfl, rfl, rfl⟩

theorem dramReadData_completes (n : Fin 16) (unit : BitVec 27) (flips : List (BitVec 80)) (s : State)
    (serves : (s.chan n).serves = true)
    (received : (s.receivedBeats (phys n (64 * unit.toNat)) flips).all isMarker = false) :
    let p := phys n (64 * unit.toNat)
    let rs := unitResults (64 * unit.toNat) (s.receivedBeats p flips)
    Completes (.dramReadData n unit flips) s fun t =>
      t.reg .dramCe n = satAdd (s.reg .dramCe n) (ceCount rs) ∧ (t.chan n).second = (s.chan n).second + ceCount rs ∧
      (unitBad rs = true → t.reg .dramUe n = satAdd (s.reg .dramUe n) 1 ∧ t.reg .dramUeAddr n = BitVec.ofNat 32 (unit.toNat + 2 ^ 31) ∧
        ∀ b, b < 8 → Store.get 0 t.upsets (p / 8 + b) = poisonMask) ∧
      (unitBad rs = false → t.reg .dramUe n = s.reg .dramUe n ∧ (ceCount rs = 0 → t.dram = s.dram ∧ t.upsets = s.upsets) ∧
        (ceCount rs ≠ 0 → Memory.readBytes t.dram p 64 = beatBytes (rs.map (·.2)) ∧
          ∀ b, b < 8 → Store.get 0 t.upsets (p / 8 + b) = 0)) ∧
      (∀ q, q < p ∨ p + 64 ≤ q → Memory.read t.dram q = Memory.read s.dram q) ∧ (∀ k, k ≠ n.val → t.chan k = s.chan k) := by
  intro p rs
  refine completes_of_effect (exec_dramReadData n unit flips s) ?_
  rw [if_pos serves]
  have ce := rawCounted_reg s (n := n) (m := .dramCe) (by decide) n.isLt (by decide)
  have ue := rawCounted_reg s (n := n) (m := .dramUe) (by decide) n.isLt (by decide)
  obtain ⟨dram, upsets, same⟩ := rawCounted_memory s n
  generalize s.rawCounted n = w at *
  have chans := chan_congr same
  have beats := receivedBeats_congr dram upsets p flips
  rw [beats]
  have facts := decodeUnit_facts w n unit.toNat 1 (beats := s.receivedBeats p flips)
    (by simp [State.receivedBeats, State.unitBeats]) received
  rw [ce, ue, dram, upsets] at facts
  simp only [chans] at facts
  generalize (w.decodeUnit n (64 * unit.toNat) 1 (s.receivedBeats p flips)).2 = t at facts ⊢
  rw [settle_reg_behind s t (n := .dramCe) (by decide), settle_reg_behind s t (n := .dramUe) (by decide),
    settle_reg_behind s t (n := .dramUeAddr) (by decide), settle_chan, settle_dram, settle_upsets]
  simp only [settle_chan]
  exact facts

theorem patrolScrubRead_completes (n : Fin 16) (s : State) (serves : (s.chan n).serves = true) (alert : (s.chan n).alert = 0)
    (on : s.flag .dramScrub 0 0 8 = true) (awake : s.selfRefresh = false) : Completes (.patrolScrubRead n) s fun t =>
      t.reg .dramScrubPos n = BitVec.ofNat 32 (((s.reg .dramScrubPos n).toNat + 1) % 2 ^ 27) ∧
      (s.unitUpset (phys n (64 * (s.reg .dramScrubPos n).toNat)) = false →
        t.dram = s.dram ∧ t.upsets = s.upsets ∧ t.chans = s.chans) := by
  refine completes_of_effect (exec_patrolScrubRead n s) ?_
  rw [if_pos (by simp [serves, alert, on, awake])]
  have pos := rawCounted_reg s (n := n) (m := .dramScrubPos) (by decide) n.isLt (by decide)
  obtain memory := rawCounted_memory s n
  generalize s.rawCounted n = w at *
  dsimp only
  have upset : ∀ p, w.unitUpset p = s.unitUpset p := fun p => by
    unfold State.unitUpset
    rw [memory.2.1]
  rw [settle_reg_behind _ _ (by decide), settle_dram, settle_upsets, settle_chans, pos]
  generalize (s.reg .dramScrubPos n).toNat = u
  refine ⟨Store.get_put_self _ _ _ _, fun clean => ?_⟩
  rw [if_neg (by simp [upset, clean])]
  exact memory

/-- The second in which a channel counts ends (R362). -/
def State.secondEnded (s : State) (n : Nat) : State := s.setChan n { s.chan n with second := 0 }

theorem exec_ceSecondEnd (n : Fin 16) (s : State) : exec (.ceSecondEnd n) s = effect (fun s =>
    if s.field .dramCfg n 0 16 16 ≠ 0 && s.field .dramCfg n 0 16 16 < (s.chan n).second then
      (s.secondEnded n).raise 0x0901 [(1, n.val), (4, (s.chan n).second), (3, 0)]
    else s.secondEnded n) s := rfl

theorem ceSecondEnd_completes (n : Fin 16) (s : State) (sound : s.Sound) : Completes (.ceSecondEnd n) s fun t =>
    t.chan n = { s.chan n with second := 0 } ∧ (∀ k, k ≠ n.val → t.chan k = s.chan k) ∧ State.Frame { s with chans := t.chans } t := by
  refine completes_of_effect (exec_ceSecondEnd n s) ?_
  have ends : ∀ l, let u : State := { s.secondEnded n with raised := l }
      (settle s u).chan n = { s.chan n with second := 0 } ∧ (∀ k, k ≠ n.val → (settle s u).chan k = s.chan k) ∧
        State.Frame { s with chans := (settle s u).chans } (settle s u) := by
    intro l u
    have frame := frame_settle (s0 := s) (u := u) rfl sound.2.1 rfl
    refine ⟨(settle_chan s u n).trans (chan_setChan_self s n _), fun k other => (settle_chan s u k).trans (chan_setChan_of_ne s other _), ?_⟩
    rw [settle_chans]
    exact { frame with }
  split
  · exact ends _
  · exact ends s.raised

theorem exec_refresh (n : Fin 16) (bank : Fin 4) (s : State) : exec (.refresh n bank) s = effect (fun s =>
    match (s.chan n).state with
    | .off | .retired => s
    | _ => if s.selfRefresh then s else s.emit (.refresh n bank)) s := rfl

theorem exec_temperaturePoll (n : Fin 16) (hot : Bool) (s : State) : exec (.temperaturePoll n hot) s = effect (fun s =>
    match (s.chan n).state with
    | .off | .retired => s
    | _ => if s.selfRefresh then s else s.setChan n { s.chan n with hot := hot }) s := rfl

/-- Settles O48: a received unit is counted, corrected or poisoned, and the clocks of a channel act only while they may. -/
theorem dramReads : Obligations.DramReads := by
  unfold Obligations.DramReads
  refine ⟨fun n unit flips s serves => by
      intro p bs rs ces received
      exact dramReadData_completes n unit flips s serves received,
    fun n unit flips s sound idle => completes_idle (exec_dramReadData n unit flips s) (if_neg (by simp [idle])) sound,
    ceSecondEnd_completes, patrolScrubRead_completes, fun n s sound idle => ?_, fun n bank s sound refresh off retired => ?_,
    fun n hot s sound refresh off retired => ?_, fun n bank hot s sound idle => ?_⟩
  · refine completes_idle (exec_patrolScrubRead n s) (if_neg ?_) sound
    obtain idle | alert | off | asleep := idle
    · simp [idle]
    · simp only [decide_eq_false alert, Bool.and_false, Bool.false_and, Bool.false_eq_true, not_false_eq_true]
    · simp [off]
    · simp [asleep]
  · refine ⟨s.emit (.refresh n bank), (exec_refresh n bank s).trans (effect_of_sound ?_ sound rfl rfl), rfl⟩
    split
    · contradiction
    · contradiction
    · exact if_neg (by simp [refresh])
  · refine ⟨s.setChan n { s.chan n with hot := hot }, (exec_temperaturePoll n hot s).trans (effect_of_sound ?_ sound rfl rfl),
      chan_setChan_self s n _, .refl _⟩
    split
    · contradiction
    · contradiction
    · exact if_neg (by simp [refresh])
  · refine ⟨completes_idle (exec_refresh n bank s) ?_ sound, completes_idle (exec_temperaturePoll n hot s) ?_ sound⟩
    all_goals
      split
      · rfl
      · rfl
      next off retired => exact if_pos ((idle.resolve_right fun no => no.elim off retired))

end Sys2Proof.Machine
end

section
/-!
SUPPORT. The start of a service DMA transfer (R393, R394, R397): what GO leaves, where a rule refuses the transfer and where none does.
From these O53.
-/
namespace Sys2Proof.Machine

/-- What a transfer is depends on its set-up registers alone, not on SDMA_CTRL and SDMA_BYTES. -/
theorem sdmaRefusal_congr {s t : State} {c : Fin 8} (reg : ∀ n ∈ [RegName.sdmaCfg, .sdmaSrcLo, .sdmaSrcHi, .sdmaDstLo, .sdmaDstHi, .sdmaCount],
    t.reg n c = s.reg n c) (active : t.active = s.active) (tick : t.tick = s.tick) : t.sdmaRefusal c = s.sdmaRefusal c := by
  simp only [List.mem_cons, List.not_mem_nil, or_false, forall_eq_or_imp, forall_eq] at reg
  obtain ⟨cfg, srcLo, srcHi, dstLo, dstHi, count⟩ := reg
  have src : t.sdmaSrc c = s.sdmaSrc c := by simp only [State.sdmaSrc, State.flag, State.field, cfg, srcLo, srcHi]
  have dst : t.sdmaDst c = s.sdmaDst c := by simp only [State.sdmaDst, State.flag, State.field, cfg, dstLo, dstHi]
  have bytes : t.sdmaCount c = s.sdmaCount c := by simp only [State.sdmaCount, count]
  have beyond : ∀ x n, t.sdmaBeyond x n = s.sdmaBeyond x n := fun x n => by
    unfold State.sdmaBeyond State.dramSize
    rw [active]
  have placed : ∀ x n, t.sdmaPlaced x n = s.sdmaPlaced x n := fun x n => by simp only [State.sdmaPlaced, tick]
  unfold State.sdmaRefusal
  rw [src, dst, bytes]
  simp only [beyond, placed]

/-- The set-up registers of a channel stand beside SDMA_CTRL and SDMA_BYTES. -/
theorem sdmaSetup_kept (s : State) (c : Fin 8) {m : RegName} (own : m = .sdmaCtrl ∨ m = .sdmaBytes) (v : Word) :
    ∀ n ∈ [RegName.sdmaCfg, .sdmaSrcLo, .sdmaSrcHi, .sdmaDstLo, .sdmaDstHi, .sdmaCount],
      (s.setReg m c 0 v).reg n c = s.reg n c := by
  simp only [List.mem_cons, List.not_mem_nil, or_false, forall_eq_or_imp, forall_eq]
  obtain rfl | rfl := own
  all_goals
    refine ⟨?_, ?_, ?_, ?_, ?_, ?_⟩
    all_goals exact reg_setReg_of_name (by decide) c.isLt s v c.isLt

theorem accept_go (s : State) (o : Origin) (c : Nat) (h : WriteHint) : s.accept o ⟨.sdmaCtrl, c, 0⟩ 1 h =
    (s.setReg .sdmaCtrl c 0 (RegName.sdmaCtrl.row.merge (s.reg .sdmaCtrl c) 1)).sdmaGo c o := by
  have unmarked : RegAt.marked ⟨.sdmaCtrl, c, 0⟩ = false := by simp [RegAt.marked]
  have go : bitOf 1 0 = true := by decide
  have stop : bitOf 1 1 = false := by decide
  unfold State.accept
  rw [unmarked]
  simp only [reduceCtorEq, if_false, Bool.false_eq_true, State.actsB, State.actsA, State.stored, go, stop, if_true]

theorem sdmaGo_eq (s : State) (c : Nat) (o : Origin) : s.sdmaGo c o =
    if (s.sdmaChan c).busy then s
    else match ((s.setSdma c { busy := true, origin := o }).setReg .sdmaBytes c 0 0).sdmaRefusal c with
      | some code => ((s.setSdma c { busy := true, origin := o }).setReg .sdmaBytes c 0 0).sdmaEnd c code
      | none => (s.setSdma c { busy := true, origin := o }).setReg .sdmaBytes c 0 0 := rfl

theorem sdmaChan_congr {s t : State} (h : t.sdma = s.sdma) (c : Nat) : t.sdmaChan c = s.sdmaChan c := by
  unfold State.sdmaChan
  rw [h]

theorem sdmaChan_setSdma_self (s : State) (c : Nat) (x : SdmaChan) : (s.setSdma c x).sdmaChan c = x := by
  rw [State.sdmaChan_setSdma, if_pos rfl]

theorem sdmaChan_setSdma_of_ne (s : State) {c k : Nat} (other : k ≠ c) (x : SdmaChan) : (s.setSdma c x).sdmaChan k = s.sdmaChan k := by
  rw [State.sdmaChan_setSdma, if_neg other]

theorem sdmaEnd_facts (s : State) (c : Nat) (code : Nat) :
    (s.sdmaEnd c code).sdma = (s.setSdma c { s.sdmaChan c with busy := false, done := true, code := BitVec.ofNat 4 code }).sdma ∧
    (s.sdmaEnd c code).reg .sdmaBytes c = BitVec.ofNat 32 (s.sdmaChan c).moved ∧ (s.sdmaEnd c code).dram = s.dram ∧
    (s.sdmaEnd c code).markSeq = s.markSeq := by
  unfold State.sdmaEnd
  dsimp only
  split
  · exact ⟨rfl, Store.get_put_self _ _ _ _, rfl, rfl⟩
  · exact ⟨rfl, Store.get_put_self _ _ _ _, rfl, rfl⟩

theorem sdmaGo_of_ne (s : State) (o : Origin) {c k : Nat} (other : k ≠ c) : (s.sdmaGo c o).sdmaChan k = s.sdmaChan k := by
  rw [sdmaGo_eq]
  have started : ((s.setSdma c { busy := true, origin := o }).setReg .sdmaBytes c 0 0).sdmaChan k = s.sdmaChan k :=
    sdmaChan_setSdma_of_ne s other { busy := true, origin := o }
  split
  · rfl
  · split
    · obtain ⟨sdma, -⟩ := sdmaEnd_facts ((s.setSdma c { busy := true, origin := o }).setReg .sdmaBytes c 0 0) c _
      exact (sdmaChan_congr sdma k).trans ((sdmaChan_setSdma_of_ne _ other _).trans started)
    · exact started

/-- What GO leaves (R393, R394). -/
structure State.GoneTo (s t : State) (c : Fin 8) (o : Origin) : Prop where
  busy : (s.sdmaChan c).busy = true → t.sdma = s.sdma
  starts : (s.sdmaChan c).busy = false → s.sdmaRefusal c = none → t.sdmaChan c = { busy := true, origin := o } ∧ t.reg .sdmaBytes c = 0
  refused : ∀ code, (s.sdmaChan c).busy = false → s.sdmaRefusal c = some code →
    t.sdmaChan c = { done := true, code := BitVec.ofNat 4 code, origin := o } ∧ t.reg .sdmaBytes c = 0
  others : ∀ k : Fin 8, k ≠ c → t.sdmaChan k = s.sdmaChan k
  dram : t.dram = s.dram
  seq : t.markSeq = s.markSeq

theorem sdmaGo_goneTo (s : State) (c : Fin 8) (o : Origin) : s.GoneTo (s.sdmaGo c o) c o := by
  rw [sdmaGo_eq]
  split
  next busy =>
    exact ⟨fun _ => rfl, fun no => absurd (busy.symm.trans no) (by simp), fun _ no => absurd (busy.symm.trans no) (by simp),
      fun _ _ => rfl, rfl, rfl⟩
  next idle =>
    have refusal : ((s.setSdma c { busy := true, origin := o }).setReg .sdmaBytes c 0 0).sdmaRefusal c = s.sdmaRefusal c :=
      sdmaRefusal_congr (sdmaSetup_kept (s.setSdma c { busy := true, origin := o }) c (.inr rfl) 0) rfl rfl
    have own : ((s.setSdma c { busy := true, origin := o }).setReg .sdmaBytes c 0 0).sdmaChan c = { busy := true, origin := o } :=
      sdmaChan_setSdma_self s c { busy := true, origin := o }
    have other : ∀ k : Fin 8, k ≠ c → ((s.setSdma c { busy := true, origin := o }).setReg .sdmaBytes c 0 0).sdmaChan k = s.sdmaChan k :=
      fun k ne => sdmaChan_setSdma_of_ne s (fun e => ne (Fin.ext e)) { busy := true, origin := o }
    have bytes : ((s.setSdma c { busy := true, origin := o }).setReg .sdmaBytes c 0 0).reg .sdmaBytes c = 0 := State.reg_setReg_self _ _ _ _ _
    rw [refusal]
    split
    next code refused =>
      obtain ⟨sdma, counted, dram, seq⟩ := sdmaEnd_facts ((s.setSdma c { busy := true, origin := o }).setReg .sdmaBytes c 0 0) c code
      rw [own] at sdma counted
      refine ⟨fun yes => absurd yes idle, fun _ no => absurd (refused.symm.trans no) (by simp), fun code' _ same => ?_,
        fun k ne => ?_, dram, seq⟩
      · obtain rfl := Option.some.inj (refused.symm.trans same)
        exact ⟨(sdmaChan_congr sdma c).trans (sdmaChan_setSdma_self _ _ _), counted⟩
      · exact (sdmaChan_congr sdma k).trans ((sdmaChan_setSdma_of_ne _ (fun e => ne (Fin.ext e)) _).trans (other k ne))
    next free =>
      exact ⟨fun yes => absurd yes idle, fun _ _ => ⟨own, bytes⟩, fun code _ no => absurd (free.symm.trans no) (by simp), other, rfl, rfl⟩

theorem State.GoneTo.congr {s u t : State} {c : Fin 8} {o : Origin} (h : u.GoneTo t c o) (sdma : u.sdma = s.sdma)
    (refusal : u.sdmaRefusal c = s.sdmaRefusal c) (dram : u.dram = s.dram) (seq : u.markSeq = s.markSeq) : s.GoneTo t c o where
  busy b := (h.busy ((sdmaChan_congr sdma c).symm ▸ b)).trans sdma
  starts b r := h.starts ((sdmaChan_congr sdma c).symm ▸ b) (refusal.trans r)
  refused code b r := h.refused code ((sdmaChan_congr sdma c).symm ▸ b) (refusal.trans r)
  others k ne := (h.others k ne).trans (sdmaChan_congr sdma k)
  dram := h.dram.trans dram
  seq := h.seq.trans seq

theorem State.GoneTo.settled {s s0 t : State} {c : Fin 8} {o : Origin} (h : s.GoneTo t c o) : s.GoneTo (settle s0 t) c o where
  busy b := (settle_sdma s0 t).trans (h.busy b)
  starts b r := by
    rw [sdmaChan_congr (settle_sdma s0 t), settle_reg_behind _ _ (by decide)]
    exact h.starts b r
  refused code b r := by
    rw [sdmaChan_congr (settle_sdma s0 t), settle_reg_behind _ _ (by decide)]
    exact h.refused code b r
  others k ne := (sdmaChan_congr (settle_sdma s0 t) k).trans (h.others k ne)
  dram := (settle_dram s0 t).trans h.dram
  seq := (settle_markSeq s0 t).trans h.seq

/-- No channel is told to stop by a GO. -/
theorem State.GoneTo.noStop {s t : State} {c : Fin 8} {o : Origin} (h : s.GoneTo t c o) (quiet : s.NoStop) (hc : ∀ k, ¬ k < 8 → t.sdmaChan k = s.sdmaChan k) :
    t.NoStop := by
  intro k
  by_cases in_range : k < 8
  · by_cases own : (⟨k, in_range⟩ : Fin 8) = c
    · subst own
      cases b : (s.sdmaChan k).busy with
      | true => rw [sdmaChan_congr (h.busy b)]; exact quiet k
      | false =>
        cases r : s.sdmaRefusal k with
        | none => rw [(h.starts b r).1]
        | some code => rw [(h.refused code b r).1]
    · rw [h.others ⟨k, in_range⟩ own]
      exact quiet k
  · rw [hc k in_range]
    exact quiet k

/-- Settles O53: the rules that refuse a transfer look at its set-up registers, which GO leaves alone. -/
theorem serviceDmaStarts : Obligations.ServiceDmaStarts := by
  unfold Obligations.ServiceDmaStarts
  refine ⟨fun c o s quiet accepts => ?_, fun c s sound done code => ?_, fun c s sound idle => ?_⟩
  · have set : ∀ n ∈ _, (s.setReg .sdmaCtrl c 0 (RegName.sdmaCtrl.row.merge (s.reg .sdmaCtrl c) 1)).reg n c = s.reg n c :=
      sdmaSetup_kept s c (.inl rfl) _
    have gone : s.GoneTo (s.accept o ⟨.sdmaCtrl, c, 0⟩ 1 {}) c o := by
      rw [accept_go]
      exact (sdmaGo_goneTo _ c o).congr rfl (sdmaRefusal_congr set rfl rfl) rfl rfl
    have outside : ∀ k, ¬ k < 8 → (s.accept o ⟨.sdmaCtrl, c, 0⟩ 1 {}).sdmaChan k = s.sdmaChan k := fun k far => by
      rw [accept_go, sdmaGo_of_ne _ _ (by omega)]
      rfl
    have writes : s.writeNow o (RegName.sdmaCtrl.off c) 1 = s.accept o ⟨.sdmaCtrl, c, 0⟩ 1 {} :=
      writeNow_of_accepts accepts {} gone.seq
    have ends : (if s.writeReaches o then s.writeNow o (RegName.sdmaCtrl.off c) 1 else s) = s.accept o ⟨.sdmaCtrl, c, 0⟩ 1 {} := by
      rw [if_pos accepts.1, writes]
    have settled := gone.settled (s0 := { s.accept o ⟨.sdmaCtrl, c, 0⟩ 1 {} with pending := s.pending })
    exact ⟨_, regEffect_of_noStop (f := fun s => some (if s.writeReaches o then s.writeNow o (RegName.sdmaCtrl.off c) 1 else s))
      (congrArg some ends) (gone.noStop quiet outside),
      settled.busy, settled.starts, settled.refused, settled.others, settled.dram, settled.seq⟩
  · refine ⟨s.setSdma c { s.sdmaChan c with landed := true }, effect_of_sound (if_pos ?_) sound rfl rfl, sdmaChan_setSdma_self _ _ _, .refl _⟩
    obtain e | e | e | e := code <;> simp [done, e]
  · exact completes_idle (c := .sdmaLanded c) rfl (if_neg (by simp [idle])) sound

end Sys2Proof.Machine
end

section
/-!
SUPPORT. Fields of a stored word, and the two-wire controllers TW1 to TW4 (R386 to R391): the bytes that their data registers hold, the end
of a transfer and what each bus outcome leaves. From these O52.
-/
namespace Sys2Proof.Machine

/-! ### Fields of a stored word -/

theorem bitsOf_congr {v w : Word} {lo n : Nat} (h : ∀ i, i < n → bitOf v (lo + i) = bitOf w (lo + i)) : bitsOf v lo n = bitsOf w lo n := by
  apply Nat.eq_of_testBit_eq
  intro i
  unfold bitsOf
  rw [Nat.testBit_mod_two_pow, Nat.testBit_mod_two_pow, Nat.testBit_div_two_pow, Nat.testBit_div_two_pow]
  by_cases hi : i < n
  · simpa [hi, bitOf, Nat.add_comm] using h i hi
  · simp [hi]

/-- A field that is RW, or set in the boot window, takes the bits written. -/
theorem bitOf_merge_of_keep {r : RegRow} {i : Nat} (hi : i < 32) (keep : (r.rw ||| r.bw).testBit i = true)
    (w1s : r.w1s.testBit i = false) (w1c : r.w1c.testBit i = false) (rest : (0xFFFFFFFF - (r.rw ||| r.bw)).testBit i = false)
    (old v : Word) : bitOf (r.merge old v) i = bitOf v i := by
  have ones : (0xFFFFFFFF : Nat).testBit i = true := by
    rw [show (0xFFFFFFFF : Nat) = 2 ^ 32 - 1 by decide, Nat.testBit_two_pow_sub_one, decide_eq_true hi]
  rw [bitOf_eq_getLsbD, bitOf_eq_getLsbD]
  simp only [RegRow.merge, BitVec.getLsbD_and, BitVec.getLsbD_or, BitVec.getLsbD_xor, BitVec.getLsbD_ofNat, hi,
    decide_true, keep, w1s, w1c, rest, ones, Bool.and_false, Bool.and_true, Bool.or_false, Bool.false_or, Bool.xor_false]

/-! ### Bytes in data registers -/

theorem leBytes_leAt {all : List Byte} {i : Nat} (h : 4 * i + 4 ≤ all.length) :
    leBytes 4 (BitVec.ofNat 32 (leAt all (4 * i) 4)).toNat = (all.drop (4 * i)).take 4 := by
  have length : ((all.drop (4 * i)).take 4).length = 4 := by
    rw [List.length_take, List.length_drop]
    omega
  rw [BitVec.toNat_ofNat]
  exact leBytes_word length

/-- The thirty-two bytes of eight words are the bytes that they were made of. -/
theorem flatMap_words {all : List Byte} (h : all.length = 32) :
    ((List.range 8).flatMap fun i => leBytes 4 (BitVec.ofNat 32 (leAt all (4 * i) 4)).toNat) = all := by
  have words : ((List.range 8).flatMap fun i => leBytes 4 (BitVec.ofNat 32 (leAt all (4 * i) 4)).toNat) =
      (List.range 8).flatMap fun i => (all.drop (4 * i)).take 4 := by
    rw [List.flatMap_def, List.flatMap_def]
    congr 1
    refine List.map_congr_left fun i hi => leBytes_leAt ?_
    have := List.mem_range.mp hi
    omega
  rw [words]
  match all, h with
  | [_, _, _, _, _, _, _, _, _, _, _, _, _, _, _, _, _, _, _, _, _, _, _, _, _, _, _, _, _, _, _, _], _ => rfl

/-- The registers of a fold of stores over the words of one port. -/
theorem reg_foldl_setReg {n : RegName} {p : Nat} (hp : p < n.row.n1) (f : Nat → Word) (l : List Nat) (each : l.Nodup)
    (inside : ∀ i ∈ l, i < n.row.n2) (s : State) (i : Nat) (hi : i < n.row.n2) :
    (l.foldl (fun s i => s.setReg n p i (f i)) s).reg n p i = if i ∈ l then f i else s.reg n p i := by
  induction l generalizing s with
  | nil => rfl
  | cons k l ih =>
    rw [List.foldl_cons, ih (List.nodup_cons.mp each).2 (fun i hi => inside i (List.mem_cons_of_mem _ hi))]
    by_cases tail : i ∈ l
    · rw [if_pos tail, if_pos (List.mem_cons_of_mem _ tail)]
    · rw [if_neg tail]
      by_cases head : i = k
      · subst head
        rw [State.reg_setReg_self, if_pos (List.mem_cons_self ..)]
      · rw [if_neg (by simp [head, tail])]
        refine State.reg_setReg_of_ne _ _ _ _ _ _ _ _ fun same => head ?_
        have found := registerMapUnambiguous n p i hp hi
        rw [same, registerMapUnambiguous n p k hp (inside k (List.mem_cons_self ..))] at found
        exact (congrArg RegAt.j (Option.some.inj found)).symm

/-- The bytes put into eight data registers, behind them what was there. -/
theorem twBytes_putTwBytes {s : State} {n : RegName} {p : Nat} (hp : p < n.row.n1) (words : n.row.n2 = 8) (bs : List Byte) (len : Nat) :
    (s.putTwBytes n p bs).twBytes n p len = ((bs ++ (s.twBytes n p 32).drop bs.length).take 32).take len := by
  have held : (s.twBytes n p 32).length = 32 := by
    have : ∀ l : List Nat, (l.flatMap fun i => leBytes 4 (s.reg n p i).toNat).length = 4 * l.length := by
      intro l
      induction l with
      | nil => rfl
      | cons a l ih =>
        rw [List.flatMap_cons, List.length_append, ih, leBytes_length, List.length_cons]
        omega
    unfold State.twBytes
    rw [List.length_take, this, List.length_range]
    rfl
  have length : ((bs ++ (s.twBytes n p 32).drop bs.length).take 32).length = 32 := by
    rw [List.length_take, List.length_append, List.length_drop, held]
    omega
  unfold State.putTwBytes
  dsimp only
  generalize (bs ++ (s.twBytes n p 32).drop bs.length).take 32 = all at length
  unfold State.twBytes
  congr 1
  refine Eq.trans ?_ (flatMap_words length)
  rw [List.flatMap_def, List.flatMap_def]
  congr 1
  refine List.map_congr_left fun i hi => ?_
  have inside : ∀ i ∈ List.range 8, i < n.row.n2 := fun i hi => by rw [words]; exact List.mem_range.mp hi
  rw [reg_foldl_setReg hp (fun i => BitVec.ofNat 32 (leAt all (4 * i) 4)) _ List.nodup_range inside s i (inside i hi), if_pos hi]

/-! ### The end of a transfer -/

theorem settle_twPort (s0 u : State) (n : Nat) : (settle s0 u).twPort n = u.twPort n := by
  unfold State.twPort
  rw [settle_twPorts]

/-- A two-wire register keeps its value when a command ends. -/
theorem settle_twBytes (s0 u : State) {r : RegName} (behind : 0x380230 ≤ r.row.base) (n len : Nat) :
    (settle s0 u).twBytes r n len = u.twBytes r n len := by
  unfold State.twBytes
  simp only [settle_reg_behind s0 u behind]

theorem twPort_setTwPort_self (s : State) (n : Nat) (x : TwPort) : (s.setTwPort n x).twPort n = x := by
  rw [State.twPort_setTwPort, if_pos rfl]

theorem twPort_congr {s t : State} (h : t.twPorts = s.twPorts) (n : Nat) : t.twPort n = s.twPort n := by
  unfold State.twPort
  rw [h]

/-- The result word of a set whose transfer ends (R391). -/
def State.resWord (s : State) (n : Nat) (h : Fin 2) (code bytes : Nat) : Word :=
  BitVec.ofNat 32 (code + bytes * 16 + (bitsOf (s.reg .twbRes n h) 16 8 + 1) % 256 * 2 ^ 16)

theorem endTransfer_reg (s : State) (n : Nat) (h : Fin 2) (code bytes : Nat) :
    (s.endTransfer n h code bytes).reg .twbRes n h = s.resWord n h code bytes := State.reg_setReg_self s .twbRes n h _

theorem endTransfer_twPort (s : State) (n : Nat) (h : Fin 2) (code bytes : Nat) :
    (s.endTransfer n h code bytes).twPort n = { s.twPort n with pending := (s.twPort n).pending.erase h } :=
  twPort_setTwPort_self (s.setReg .twbRes n h (s.resWord n h code bytes)) n _

theorem endTransfer_reg_of_name {m : RegName} (other : m ≠ .twbRes) (s : State) (n : Fin 4) (h : Fin 2) (code bytes : Nat) {i j : Nat}
    (hi : i < m.row.n1) (hj : j < m.row.n2) : (s.endTransfer n h code bytes).reg m i j = s.reg m i j :=
  reg_setReg_of_name other hi s _ n.isLt hj h.isLt

theorem endTransfer_twBytes {m : RegName} (other : m ≠ .twbRes) (s : State) (n : Fin 4) (h : Fin 2) (code bytes : Nat)
    (ports : m.row.n1 = 4) (words : m.row.n2 = 8) (len : Nat) :
    (s.endTransfer n h code bytes).twBytes m n len = s.twBytes m n len := by
  unfold State.twBytes
  congr 1
  rw [List.flatMap_def, List.flatMap_def]
  congr 1
  refine List.map_congr_left fun i hi => ?_
  rw [endTransfer_reg_of_name other s n h code bytes (by rw [ports]; exact n.isLt) (by rw [words]; exact List.mem_range.mp hi)]

/-- The code of a result word. -/
theorem bitsOf_resWord (s : State) (n : Nat) (h : Fin 2) {code : Nat} (small : code < 16) (bytes : Nat) :
    bitsOf (s.resWord n h code bytes) 0 4 = code := by
  unfold State.resWord bitsOf
  rw [BitVec.toNat_ofNat]
  omega

/-! ### GO -/

theorem bitsOf_merge_twbXfer {lo n : Nat} (inside : lo + n ≤ 15) (old v : Word) :
    bitsOf (RegName.twbXfer.row.merge old (v ||| 0x10000)) lo n = bitsOf v lo n := by
  refine bitsOf_congr fun i hi => ?_
  have keeps : ∀ k, k < 15 → (RegName.twbXfer.row.rw ||| RegName.twbXfer.row.bw).testBit k = true ∧
      RegName.twbXfer.row.w1s.testBit k = false ∧ RegName.twbXfer.row.w1c.testBit k = false ∧
      (0xFFFFFFFF - (RegName.twbXfer.row.rw ||| RegName.twbXfer.row.bw)).testBit k = false ∧ (0x10000 : Nat).testBit k = false := by decide
  obtain ⟨keep, w1s, w1c, rest, go⟩ := keeps (lo + i) (by omega)
  rw [bitOf_merge_of_keep (by omega) keep w1s w1c rest, bitOf_eq_getLsbD, bitOf_eq_getLsbD, BitVec.getLsbD_or]
  rw [show (0x10000 : Word) = BitVec.ofNat 32 0x10000 from rfl, BitVec.getLsbD_ofNat, go, Bool.and_false, Bool.or_false]

theorem accept_twGo (s : State) (o : Origin) (n : Nat) (h : Fin 2) (v : Word) : s.accept o ⟨.twbXfer, n, h⟩ (v ||| 0x10000) {} =
    (s.setReg .twbXfer n h (RegName.twbXfer.row.merge (s.reg .twbXfer n h) (v ||| 0x10000))).twGo n h := by
  have unmarked : RegAt.marked ⟨.twbXfer, n, h⟩ = false := by simp [RegAt.marked]
  have go : bitOf (v ||| 0x10000) 16 = true := by
    rw [bitOf_eq_getLsbD, BitVec.getLsbD_or, show (0x10000 : Word).getLsbD 16 = true by decide, Bool.or_true]
  have set : Fin.ofNat 2 h.val = h := Fin.ext (Nat.mod_eq_of_lt h.isLt)
  unfold State.accept
  rw [unmarked]
  simp only [reduceCtorEq, if_false, Bool.false_eq_true, State.actsB, State.actsA, State.stored, go, if_true, set]

theorem twGo_completes (n : Fin 4) (h : Fin 2) (o : Origin) (v : Word) (s : State)
    (accepts : s.Accepts o ⟨.twbXfer, n.val, h.val⟩ (v ||| 0x10000)) :
    Completes (.twGo n h o v) s fun t =>
      (h ∈ (s.twPort n).pending → t.twPort n = s.twPort n) ∧
      (h ∉ (s.twPort n).pending → bitsOf v 8 2 ≠ 3 → t.twPort n = { s.twPort n with pending := (s.twPort n).pending ++ [h] }) ∧
      (h ∉ (s.twPort n).pending → bitsOf v 8 2 = 3 → (t.twPort n).pending = (s.twPort n).pending ∧
        bitsOf (t.reg .twbRes n h) 0 4 = 7) ∧
      t.xferAddr n h = bitsOf v 0 7 ∧ t.markSeq = s.markSeq := by
  refine completes_of_write (c := .twGo n h o v) rfl accepts ?_
  rw [accept_twGo, settle_twPort, settle_reg_behind _ _ (by decide), settle_markSeq]
  generalize merged : RegName.twbXfer.row.merge (s.reg .twbXfer n h) (v ||| 0x10000) = w
  have ptr : (s.setReg .twbXfer n h w).xferPtr n h = bitsOf v 8 2 := by
    rw [State.xferPtr, State.field, State.reg_setReg_self, ← merged, bitsOf_merge_twbXfer (by decide)]
  have addr : bitsOf w 0 7 = bitsOf v 0 7 := by rw [← merged, bitsOf_merge_twbXfer (by decide)]
  have port : (s.setReg .twbXfer n h w).twPort n = s.twPort n := rfl
  have at_addr : ∀ u : State, u.reg .twbXfer n h = w → (settle s u).xferAddr n h = bitsOf v 0 7 := fun u e => by
    rw [State.xferAddr, State.field, settle_reg_behind _ _ (by decide), e, addr]
  have stored : (s.setReg .twbXfer n h w).reg .twbXfer n h = w := State.reg_setReg_self _ _ _ _ _
  have seq : (s.setReg .twbXfer n h w).markSeq = s.markSeq := rfl
  unfold State.twGo
  dsimp only
  rw [port, ptr]
  generalize s.setReg .twbXfer n h w = u at *
  by_cases waits : h ∈ (s.twPort n).pending
  · rw [if_pos (by simpa using waits)]
    exact ⟨fun _ => port, fun no => absurd waits no, fun no => absurd waits no, at_addr u stored, seq⟩
  · rw [if_neg (by simpa using waits)]
    by_cases invalid : bitsOf v 8 2 = 3
    · rw [if_pos invalid, endTransfer_twPort, endTransfer_reg, bitsOf_resWord _ _ _ (by decide), port]
      refine ⟨fun yes => absurd yes waits, fun _ no => absurd invalid no, fun _ _ => ⟨List.erase_of_not_mem waits, rfl⟩, at_addr _ ?_, seq⟩
      rw [endTransfer_reg_of_name (by decide) u n h 7 0 n.isLt h.isLt, stored]
    · rw [if_neg invalid, twPort_setTwPort_self]
      exact ⟨fun yes => absurd yes waits, fun _ _ => rfl, fun _ yes => absurd yes invalid, at_addr _ stored, seq⟩

/-! ### Transfers -/

/-- The bus carries a set's bytes. -/
def State.busTaken (s : State) (n : Nat) (h : Fin 2) : State :=
  (s.emit (.twTransfer (n + 1) (s.twSent n h))).setTwPort n { s.twPort n with busBusy := false }

/-- The data of a read, as far as it came. -/
def State.dataRead (s : State) (n : Nat) (h : Fin 2) (read : Bool) (bs : List Byte) : State :=
  if read then s.putTwBytes (twData h) n bs else s

/-- How a transfer ends by what the bus does. -/
def State.busEnds (s : State) (n : Nat) (h : Fin 2) (len : Nat) (read : Bool) : TwBus → State
  | .done data => (s.dataRead n h read (padTo len data)).endTransfer n h 1 len
  | .addressNack => s.endTransfer n h 2 0
  | .dataNack acked => s.endTransfer n h 3 (min acked len)
  | .lost phase byteIndex bitNo acked data addressed =>
    let target := phase = 1 && addressed && (s.dataRead n h read (padTo (min acked len) data)).flag .twbCfg n 0 3
    let u := ((s.dataRead n h read (padTo (min acked len) data)).endTransfer n h 4 (min acked len)).bump .twbArb n
    (u.setTwPort n { u.twPort n with busBusy := true, target }).raise 0x0A01
      [(1, n + 1), (1, phase), (1, byteIndex), (1, bitNo), (1, bit target), (3, 0)]

theorem putTwBytes_same (s : State) (r : RegName) (n : Nat) (bs : List Byte) :
    s.putTwBytes r n bs = { s with regs := (s.putTwBytes r n bs).regs } := by
  unfold State.putTwBytes
  dsimp only
  generalize (bs ++ (s.twBytes r n 32).drop bs.length).take 32 = all
  generalize List.range 8 = l
  induction l generalizing s with
  | nil => rfl
  | cons a l ih =>
    rw [List.foldl_cons]
    rw [ih]
    rfl

theorem dataRead_same (s : State) (n : Nat) (h : Fin 2) (read : Bool) (bs : List Byte) :
    s.dataRead n h read bs = { s with regs := (s.dataRead n h read bs).regs } := by
  unfold State.dataRead
  split
  · exact putTwBytes_same s _ n bs
  · rfl

theorem putTwBytes_reg_of_name {m r : RegName} (other : m ≠ r) (s : State) (n : Fin 4) (bs : List Byte) (ports : r.row.n1 = 4)
    (words : r.row.n2 = 8) {i j : Nat} (hi : i < m.row.n1) (hj : j < m.row.n2) : (s.putTwBytes r n bs).reg m i j = s.reg m i j := by
  unfold State.putTwBytes
  dsimp only
  generalize (bs ++ (s.twBytes r n 32).drop bs.length).take 32 = all
  have inside : ∀ k ∈ List.range 8, k < r.row.n2 := fun k hk => by rw [words]; exact List.mem_range.mp hk
  generalize List.range 8 = l at inside
  induction l generalizing s with
  | nil => rfl
  | cons a l ih =>
    rw [List.foldl_cons, ih _ fun k hk => inside k (List.mem_cons_of_mem _ hk)]
    exact reg_setReg_of_name other hi s _ (by rw [ports]; exact n.isLt) hj (inside a (List.mem_cons_self ..))

theorem twData_row (h : Fin 2) : (twData h).row.n1 = 4 ∧ (twData h).row.n2 = 8 ∧ twData h ≠ .twbRes ∧ twData h ≠ .twbArb ∧ twData h ≠ .twbCfg ∧
    0x380230 ≤ (twData h).row.base := by
  match h with
  | 0 => decide
  | 1 => decide

theorem dataRead_reg {m : RegName} (other : m = .twbRes ∨ m = .twbArb ∨ m = .twbCfg) (s : State) (n : Fin 4) (h : Fin 2) (read : Bool) (bs : List Byte)
    {i j : Nat} (hi : i < m.row.n1) (hj : j < m.row.n2) : (s.dataRead n h read bs).reg m i j = s.reg m i j := by
  obtain ⟨ports, words, res, arb, cfg, -⟩ := twData_row h
  unfold State.dataRead
  split
  · refine putTwBytes_reg_of_name ?_ s n bs ports words hi hj
    obtain rfl | rfl | rfl := other
    · exact res.symm
    · exact arb.symm
    · exact cfg.symm
  · rfl

theorem resWord_congr {s u : State} {n : Nat} {h : Fin 2} (reg : u.reg .twbRes n h = s.reg .twbRes n h) (code bytes : Nat) :
    u.resWord n h code bytes = s.resWord n h code bytes := by
  unfold State.resWord
  rw [reg]

theorem padTo_length (n : Nat) (bs : List Byte) : (padTo n bs).length = n := by
  unfold padTo
  rw [List.length_take, List.length_append, List.length_replicate]
  omega

/-- What a transfer leaves, whatever the bus does: its result, its set idle, and the bus. -/
theorem busEnds_facts (s : State) (n : Fin 4) (h : Fin 2) {len : Nat} (short : len ≤ 32) (read : Bool) (bus : TwBus) :
    let t := s.busEnds n h len read bus
    (t.twPort n).pending = (s.twPort n).pending.erase h ∧ t.out = s.out ∧
    (∀ data, bus = .done data → t.reg .twbRes n h = s.resWord n h 1 len ∧ (t.twPort n).busBusy = (s.twPort n).busBusy ∧
      (read = true → t.twBytes (twData h) n len = padTo len data)) ∧
    (bus = .addressNack → t.reg .twbRes n h = s.resWord n h 2 0) ∧
    (∀ k, bus = .dataNack k → t.reg .twbRes n h = s.resWord n h 3 (min k len)) ∧
    (∀ ph i bitNo k data addressed, bus = .lost ph i bitNo k data addressed → t.reg .twbRes n h = s.resWord n h 4 (min k len) ∧
      t.reg .twbArb n = satAdd (s.reg .twbArb n) 1 ∧ (t.twPort n).busBusy = true ∧
      (t.twPort n).target = (ph = 1 && addressed && s.flag .twbCfg n 0 3)) := by
  obtain ⟨ports, words, res, arb, -⟩ := twData_row h
  cases bus with
  | done data =>
    have same := dataRead_same s n h read (padTo len data)
    have kept := dataRead_reg (.inl rfl) s n h read (padTo len data) n.isLt h.isLt
    have bytes : read = true → (s.dataRead n h read (padTo len data)).twBytes (twData h) n len = padTo len data := fun yes => by
      have n_in : n < (twData h).row.n1 := by rw [ports]; exact n.isLt
      rw [State.dataRead, if_pos yes, twBytes_putTwBytes n_in words, List.take_take, Nat.min_eq_left short]
      rw [List.take_append_of_le_length (by rw [padTo_length]), List.take_of_length_le (by rw [padTo_length])]
    have port : (s.dataRead n h read (padTo len data)).twPort n = s.twPort n := twPort_congr (by rw [same]) n
    have out : (s.dataRead n h read (padTo len data)).out = s.out := by rw [same]
    dsimp only [State.busEnds]
    rw [endTransfer_twPort, endTransfer_reg, endTransfer_twBytes res _ n h 1 len ports words, resWord_congr kept, port]
    refine ⟨rfl, out, fun data' e => ⟨rfl, rfl, fun yes => ?_⟩, fun e => by simp at e, fun k e => by simp at e, fun _ _ _ _ _ _ e => by simp at e⟩
    cases e
    exact bytes yes
  | addressNack =>
    refine ⟨congrArg TwPort.pending (endTransfer_twPort s n h 2 0), rfl, fun _ e => by simp at e, fun _ => endTransfer_reg s n h 2 0,
      fun k e => by simp at e, fun _ _ _ _ _ _ e => by simp at e⟩
  | dataNack k =>
    refine ⟨congrArg TwPort.pending (endTransfer_twPort s n h 3 (min k len)), rfl, fun _ e => by simp at e, fun e => by simp at e,
      fun k' e => ?_, fun _ _ _ _ _ _ e => by simp at e⟩
    cases e
    exact endTransfer_reg s n h 3 (min k len)
  | lost phase i bitNo k data addressed =>
    have same := dataRead_same s n h read (padTo (min k len) data)
    have kept := dataRead_reg (.inl rfl) s n h read (padTo (min k len) data) n.isLt h.isLt
    have arb := dataRead_reg (.inr (.inl rfl)) s n h read (padTo (min k len) data) (i := n) (j := 0) n.isLt (by decide)
    have role : (s.dataRead n h read (padTo (min k len) data)).flag .twbCfg n 0 3 = s.flag .twbCfg n 0 3 :=
      congrArg (bitOf · 3) (dataRead_reg (.inr (.inr rfl)) s n h read (padTo (min k len) data) (i := n) (j := 0) n.isLt (by decide))
    have port : (s.dataRead n h read (padTo (min k len) data)).twPort n = s.twPort n := twPort_congr (by rw [same]) n
    have out : (s.dataRead n h read (padTo (min k len) data)).out = s.out := by rw [same]
    have ended := endTransfer_reg (s.dataRead n h read (padTo (min k len) data)) n h 4 (min k len)
    have counted := endTransfer_reg_of_name (m := .twbArb) (by decide) (s.dataRead n h read (padTo (min k len) data)) n h 4 (min k len)
      (i := n) (j := 0) n.isLt (by decide)
    have idle := endTransfer_twPort (s.dataRead n h read (padTo (min k len) data)) n h 4 (min k len)
    have sent : ((s.dataRead n h read (padTo (min k len) data)).endTransfer n h 4 (min k len)).out = s.out := out
    rw [resWord_congr kept] at ended
    rw [arb] at counted
    rw [port] at idle
    dsimp only [State.busEnds]
    rw [role]
    generalize (s.dataRead n h read (padTo (min k len) data)).endTransfer n h 4 (min k len) = u at *
    have at_res : (u.bump .twbArb n).reg .twbRes n h = s.resWord n h 4 (min k len) :=
      (reg_setReg_of_name (by decide) n.isLt u _ n.isLt h.isLt).trans ended
    have at_arb : (u.bump .twbArb n).reg .twbArb n = satAdd (s.reg .twbArb n) 1 := by
      rw [State.bump, State.reg_setReg_self, counted]
    have at_port : (u.bump .twbArb n).twPort n = { s.twPort n with pending := (s.twPort n).pending.erase h } := idle
    have at_out : (u.bump .twbArb n).out = s.out := sent
    generalize u.bump .twbArb n = w at *
    have left := twPort_setTwPort_self w n { w.twPort n with busBusy := true, target := phase = 1 && addressed && s.flag .twbCfg n 0 3 }
    refine ⟨?_, ?_, fun _ e => by simp at e, fun e => by simp at e, fun k e => by simp at e, fun _ _ _ _ _ _ e => ?_⟩
    · exact (congrArg TwPort.pending left).trans (by rw [at_port])
    · exact at_out
    · cases e
      exact ⟨at_res, at_arb, congrArg TwPort.busBusy left, congrArg TwPort.target left⟩

theorem exec_transferStart (n : Fin 4) (bus : TwBus) (s : State) : exec (.transferStart n bus) s = effect (fun s =>
    match s.twNext n with
    | none => s
    | some h => (s.busTaken n h).busEnds n h (s.xferLen n h) (s.xferRead n h) bus) s := by
  cases bus <;> rfl

theorem xferLen_le (s : State) (n : Nat) (h : Fin 2) : s.xferLen n h ≤ 32 := by
  unfold State.xferLen State.field bitsOf
  omega

/-- What a command sends last is sent when it ends. -/
theorem sent_settle {s s0 u : State} {e : Emission} (out : u.out = e :: s.out) : s.Sent (settle s0 u) e := by
  obtain ⟨l, sent⟩ := (settle_kept u).out
  exact ⟨l, by rw [← out]; exact sent⟩

theorem transferStart_completes (n : Fin 4) (bus : TwBus) (h : Fin 2) (s : State) (next : s.twNext n = some h) :
    Completes (.transferStart n bus) s fun t =>
      let res := fun (code bytes : Nat) => t.reg .twbRes n h
        = BitVec.ofNat 32 (code + bytes * 16 + (bitsOf (s.reg .twbRes n h) 16 8 + 1) % 256 * 2 ^ 16)
      s.Sent t (.twTransfer (n + 1) (s.twSent n h)) ∧ (t.twPort n).pending = (s.twPort n).pending.erase h ∧
      (∀ data, bus = .done data → res 1 (s.xferLen n h) ∧ (t.twPort n).busBusy = false ∧
        (s.xferRead n h = true → t.twBytes (twData h) n (s.xferLen n h) = padTo (s.xferLen n h) data)) ∧
      (bus = .addressNack → res 2 0) ∧
      (∀ k, bus = .dataNack k → res 3 (min k (s.xferLen n h))) ∧
      (∀ ph i bitNo k data addressed, bus = .lost ph i bitNo k data addressed → res 4 (min k (s.xferLen n h)) ∧
        t.reg .twbArb n = satAdd (s.reg .twbArb n) 1 ∧ (t.twPort n).busBusy = true ∧
        (t.twPort n).target = (ph = 1 && addressed && s.flag .twbCfg n 0 3)) := by
  refine completes_of_effect (exec_transferStart n bus s) ?_
  have port : (s.busTaken n h).twPort n = { s.twPort n with busBusy := false } := twPort_setTwPort_self _ _ _
  have out : (s.busTaken n h).out = .twTransfer (n + 1) (s.twSent n h) :: s.out := rfl
  have reg : (s.busTaken n h).regs = s.regs := rfl
  have same : ∀ m i j, (s.busTaken n h).reg m i j = s.reg m i j := fun m i j => by
    unfold State.reg
    rw [reg]
  obtain ⟨-, -, -, -, -, behind⟩ := twData_row h
  have facts := busEnds_facts (s.busTaken n h) n h (xferLen_le s n h) (s.xferRead n h) bus
  have role : (s.busTaken n h).flag .twbCfg n 0 3 = s.flag .twbCfg n 0 3 := by
    unfold State.flag
    rw [same]
  rw [next]
  dsimp only at facts ⊢
  rw [role] at facts
  have res : ∀ code bytes, (s.busTaken n h).resWord n h code bytes = s.resWord n h code bytes := fun _ _ => resWord_congr (same _ _ _) _ _
  simp only [res, same, port] at facts
  rw [settle_twPort, settle_reg_behind _ _ (by decide), settle_reg_behind _ _ (by decide), settle_twBytes _ _ behind]
  obtain ⟨pending, sent, rest⟩ := facts
  exact ⟨sent_settle (sent.trans out), pending, rest⟩

/-! ### Time-outs, recovery and the target role -/

/-- The end of a transfer at which SCL is held low (R387). -/
def State.sclHeld (s : State) (n : Nat) (h : Fin 2) (bytes : Nat) : State :=
  ((s.endTransfer n h 6 bytes).setTwPort n { (s.endTransfer n h 6 bytes).twPort n with busBusy := true }).raise 0x0A03
    [(1, n + 1), (1, 3), (1, h.val), (5, 0)]

theorem exec_sclTimeout (n : Fin 4) (s : State) : exec (.sclTimeout n) s = effect (fun s =>
    match s.twNext n with
    | none => s
    | some h => s.draw.2.sclHeld n h (s.draw.1.toNat % (s.draw.2.xferLen n h + 1))) s := rfl

/-- A bus that does not recover (R390). -/
def State.busHung (s : State) (n : Nat) (h : Fin 2) (code cause : Nat) : State :=
  ((s.endTransfer n h code 0).setTwPort n { (s.endTransfer n h code 0).twPort n with hung := true }).raise 0x0A03
    [(1, n + 1), (1, cause), (1, h.val), (5, 0)]

theorem exec_hangRecovery (n : Fin 4) (res : HangResult) (s : State) : exec (.hangRecovery n res) s = effect (fun s =>
    match s.twNext n with
    | none => s
    | some h => match res with
      | .freed p => ((s.setTwPort n { s.twPort n with hung := false, busBusy := false }).bump .twbRecov n).raise 0x0A02
          [(1, n.val + 1), (1, p.val + 1), (6, 0)]
      | .sdaHeld => s.busHung n h 5 1
      | .sclHeld => s.busHung n h 6 2) s := by
  cases res <;> rfl

theorem sclTimeout_completes (n : Fin 4) (h : Fin 2) (s : State) (next : s.twNext n = some h) : Completes (.sclTimeout n) s fun t =>
    (∃ k, k ≤ s.xferLen n h ∧ t.reg .twbRes n h
      = BitVec.ofNat 32 (6 + k * 16 + (bitsOf (s.reg .twbRes n h) 16 8 + 1) % 256 * 2 ^ 16)) ∧
    (t.twPort n).pending = (s.twPort n).pending.erase h ∧ (t.twPort n).busBusy = true := by
  refine completes_of_effect (exec_sclTimeout n s) ?_
  rw [next, settle_reg_behind _ _ (by decide), settle_twPort]
  dsimp only
  have left := fun bytes => twPort_setTwPort_self (s.draw.2.endTransfer n h 6 bytes) n
    { (s.draw.2.endTransfer n h 6 bytes).twPort n with busBusy := true }
  have few : s.draw.1.toNat % (s.draw.2.xferLen n h + 1) ≤ s.xferLen n h := Nat.le_of_lt_succ (Nat.mod_lt _ (Nat.succ_pos _))
  generalize s.draw.1.toNat % (s.draw.2.xferLen n h + 1) = k at few ⊢
  refine ⟨⟨k, few, endTransfer_reg s.draw.2 n h 6 k⟩, ?_, congrArg TwPort.busBusy (left k)⟩
  exact (congrArg TwPort.pending (left k)).trans (congrArg TwPort.pending (endTransfer_twPort s.draw.2 n h 6 k))

theorem busHung_facts (s : State) (n : Nat) (h : Fin 2) {code : Nat} (small : code < 16) (cause : Nat) :
    ((s.busHung n h code cause).twPort n).hung = true ∧ bitsOf ((s.busHung n h code cause).reg .twbRes n h) 0 4 = code ∧
    ((s.busHung n h code cause).twPort n).pending = (s.twPort n).pending.erase h := by
  have left := twPort_setTwPort_self (s.endTransfer n h code 0) n { (s.endTransfer n h code 0).twPort n with hung := true }
  refine ⟨congrArg TwPort.hung left, ?_, (congrArg TwPort.pending left).trans (congrArg TwPort.pending (endTransfer_twPort s n h code 0))⟩
  show bitsOf ((s.endTransfer n h code 0).reg .twbRes n h) 0 4 = code
  rw [endTransfer_reg, bitsOf_resWord s n h small]

theorem hangRecovery_completes (n : Fin 4) (h : Fin 2) (res : HangResult) (s : State) (next : s.twNext n = some h) :
    Completes (.hangRecovery n res) s fun t =>
    (∀ p, res = .freed p → t.twPort n = { s.twPort n with hung := false, busBusy := false } ∧
      t.reg .twbRecov n = satAdd (s.reg .twbRecov n) 1 ∧ t.reg .twbRes n h = s.reg .twbRes n h) ∧
    (res = .sdaHeld → (t.twPort n).hung = true ∧ bitsOf (t.reg .twbRes n h) 0 4 = 5 ∧
      (t.twPort n).pending = (s.twPort n).pending.erase h) ∧
    (res = .sclHeld → (t.twPort n).hung = true ∧ bitsOf (t.reg .twbRes n h) 0 4 = 6 ∧
      (t.twPort n).pending = (s.twPort n).pending.erase h) := by
  refine completes_of_effect (exec_hangRecovery n res s) ?_
  rw [next, settle_reg_behind _ _ (by decide), settle_reg_behind _ _ (by decide), settle_twPort]
  cases res with
  | freed p =>
    refine ⟨fun _ _ => ⟨twPort_setTwPort_self s n { s.twPort n with hung := false, busBusy := false },
      State.reg_setReg_self (s.setTwPort n { s.twPort n with hung := false, busBusy := false }) .twbRecov n 0 _, ?_⟩, fun e => by simp at e, fun e => by simp at e⟩
    exact reg_setReg_of_name (m := .twbRes) (n := .twbRecov) (by decide) n.isLt
      (s.setTwPort n { s.twPort n with hung := false, busBusy := false }) _ n.isLt h.isLt
  | sdaHeld => exact ⟨fun _ e => by simp at e, fun _ => busHung_facts s n h (by decide) 1, fun e => by simp at e⟩
  | sclHeld => exact ⟨fun _ e => by simp at e, fun e => by simp at e, fun _ => busHung_facts s n h (by decide) 2⟩

theorem twBytes_congr {s t : State} (h : t.regs = s.regs) (r : RegName) (n len : Nat) : t.twBytes r n len = s.twBytes r n len := by
  unfold State.twBytes State.reg
  rw [h]

/-- The target role ends (R389). -/
def State.targetEnded (s : State) (n : Nat) (p : TwPort) (got : List Byte) (read : Bool) : State :=
  ((s.putTwBytes .twbRx n got).setTwPort n { p with target := false, busBusy := false, rxLen := got.length }).raise 0x0A06
    [(1, n + 1), (1, got.length), (1, bit read), (5, 0)]

theorem targetEnded_regs (s : State) (n : Nat) (p : TwPort) (got : List Byte) (read : Bool) :
    (s.targetEnded n p got read).regs = (s.putTwBytes .twbRx n got).regs := rfl

theorem exec_targetTransaction (n : Fin 4) (read : Bool) (bytes : List Byte) (s : State) :
    exec (.targetTransaction n read bytes) s = effect (fun s =>
      if !(s.twPort n).target then s else s.targetEnded n (s.twPort n) (if read then [] else bytes.take 32) read) s := rfl

theorem targetTransaction_completes (n : Fin 4) (read : Bool) (bytes : List Byte) (s : State) (role : (s.twPort n).target = true) :
    Completes (.targetTransaction n read bytes) s fun t =>
      (t.twPort n).target = false ∧ (t.twPort n).busBusy = false ∧ (t.twPort n).pending = (s.twPort n).pending ∧
      (read = false → (t.twPort n).rxLen = min 32 bytes.length ∧ t.twBytes .twbRx n (min 32 bytes.length) = bytes.take 32) ∧
      (read = true → (t.twPort n).rxLen = 0 ∧ t.twBytes .twbRx n 32 = s.twBytes .twbRx n 32) := by
  refine completes_of_effect (exec_targetTransaction n read bytes s) ?_
  rw [if_neg (by simp [role]), settle_twPort, settle_twBytes _ _ (by decide), settle_twBytes _ _ (by decide)]
  generalize got_eq : (if read then [] else bytes.take 32) = got
  have left : (s.targetEnded n (s.twPort n) got read).twPort n = _ :=
    twPort_setTwPort_self (s.putTwBytes .twbRx n got) n { s.twPort n with target := false, busBusy := false, rxLen := got.length }
  have ports : n < RegName.twbRx.row.n1 := n.isLt
  have words : RegName.twbRx.row.n2 = 8 := rfl
  have held : ∀ len, (s.targetEnded n (s.twPort n) got read).twBytes .twbRx n len =
      ((got ++ (s.twBytes .twbRx n 32).drop got.length).take 32).take len := fun len =>
    (twBytes_congr (targetEnded_regs s n (s.twPort n) got read) .twbRx n len).trans (twBytes_putTwBytes ports words got len)
  rw [left]
  refine ⟨rfl, rfl, rfl, fun no => ?_, fun yes => ?_⟩
  · subst no
    have taken : got = bytes.take 32 := got_eq.symm
    have length : got.length = min 32 bytes.length := by rw [taken, List.length_take]
    refine ⟨length, ?_⟩
    rw [held, List.take_take, Nat.min_eq_left (Nat.min_le_left _ _), ← length, List.take_left, taken]
  · subst yes
    have none : got = [] := got_eq.symm
    subst none
    refine ⟨rfl, ?_⟩
    rw [held]
    simp [State.twBytes, List.take_take]

/-- Settles O52: a transfer ends in its set's result word, and its data registers hold what was read. -/
theorem twoWireControllers : Obligations.TwoWireControllers := by
  unfold Obligations.TwoWireControllers
  refine ⟨twGo_completes, transferStart_completes, sclTimeout_completes, hangRecovery_completes, targetTransaction_completes,
    fun n s sound => ⟨fun none => ⟨fun bus => ?_, ?_, fun res => ?_⟩, fun off read bytes => ?_⟩⟩
  · exact completes_idle (exec_transferStart n bus s) (by rw [none]) sound
  · exact completes_idle (exec_sclTimeout n s) (by rw [none]) sound
  · exact completes_idle (exec_hangRecovery n res s) (by rw [none]) sound
  · exact completes_idle (exec_targetTransaction n read bytes s) (if_pos (by simp [off])) sound

end Sys2Proof.Machine
end

section
/-!
SUPPORT. Consumer counts (R255, R256, R301): neither the delivery of events nor a queue that goes on changes the count up to which the
host has taken a queue's records. From this, O31.
-/
namespace Sys2Proof.Machine

/-- Every queue keeps its consumer count. -/
def State.KeepsConsumed (s t : State) : Prop := ∀ q, (t.queue q).ch = (s.queue q).ch

theorem dropHold_of_queueOf {s : State} {r q : Nat} (h : s.queueOf r = some q) (some : (s.queue q).hold ≠ []) : s.dropHold r =
    (s.bump .evtLost q 0 ((s.queue q).hold.filter fun b => !ownBytes b).length).setQueue q
      { s.queue q with hold := [], lostNow := (s.queue q).lostNow + ((s.queue q).hold.filter fun b => !ownBytes b).length } := by
  have full : (s.queue q).hold.isEmpty = false := by simpa using some
  unfold State.dropHold
  simp only [h, full, Bool.false_eq_true, if_false]

theorem dropHold_of_empty {s : State} {r q : Nat} (h : s.queueOf r = some q) (none : (s.queue q).hold = []) : s.dropHold r = s := by
  unfold State.dropHold
  simp only [h, none, List.isEmpty_nil, if_true]

theorem dropHold_of_other {s : State} {r : Nat} (h : s.queueOf r = none) : s.dropHold r = s := by
  unfold State.dropHold
  simp only [h]

namespace State.KeepsConsumed

variable {s t u : State}

theorem of_queues (h : t.queues = s.queues) : s.KeepsConsumed t := fun q => by simp only [State.queue, h]

theorem refl (s : State) : s.KeepsConsumed s := fun _ => rfl

theorem trans (h : s.KeepsConsumed t) (g : t.KeepsConsumed u) : s.KeepsConsumed u := fun q => (g q).trans (h q)

/-- What follows leaves the queues alone. -/
theorem next (h : s.KeepsConsumed t) (g : u.queues = t.queues) : s.KeepsConsumed u := h.trans (of_queues g)

theorem ite {c : Prop} [Decidable c] (h : s.KeepsConsumed t) (g : s.KeepsConsumed u) : s.KeepsConsumed (if c then t else u) := by
  split
  · exact h
  · exact g

theorem foldl {α : Type} {f : State → α → State} (h : ∀ (t : State) (a : α), s.KeepsConsumed t → s.KeepsConsumed (f t a)) (l : List α)
    (g : s.KeepsConsumed t) : s.KeepsConsumed (l.foldl f t) := by
  induction l generalizing t with
  | nil => exact g
  | cons a l ih => exact ih (h t a g)

theorem put {q : Nat} {x : EvQueue} (h : s.KeepsConsumed t) (same : x.ch = (t.queue q).ch) : s.KeepsConsumed (t.setQueue q x) := fun p => by
  rw [State.queue_setQueue]
  split
  next e => exact same.trans ((congrArg (fun i => (t.queue i).ch) e).symm.trans (h p))
  next => exact h p

/-! ### What a halt and a record's write leave -/

theorem lookup (h : s.KeepsConsumed t) (r page : Nat) (write : Bool) : s.KeepsConsumed (t.lookup r page write).2 := by
  unfold State.lookup
  split
  · exact h
  · dsimp only
    split
    · exact h.next (by rfl)
    · split <;> exact h.next (by rfl)

theorem lookupAll (h : s.KeepsConsumed t) (r : Nat) (write : Bool) (ps : List Nat) : s.KeepsConsumed (t.lookupAll r write ps).2 := by
  induction ps generalizing t with
  | nil => exact h
  | cons p ps ih => exact ih (h.lookup r p write)

theorem prepare (h : s.KeepsConsumed t) (r addr len : Nat) (write : Bool) : s.KeepsConsumed (t.prepare r addr len write).2 := by
  unfold State.prepare
  extract_lets allowed
  split
  · exact h
  · split
    · exact h
    · have kept := h.lookupAll r write (pagesOf addr len)
      split <;> (next e => rw [e] at kept; exact kept)

theorem issue (h : s.KeepsConsumed t) (r : Nat) (relaxed : Bool) (ps : List Nat) (addr : Nat) (bytes : List Byte) :
    s.KeepsConsumed (t.issue r addr bytes relaxed ps) := by
  induction ps generalizing t addr bytes with
  | nil => exact h
  | cons p ps ih => exact ih (h.next (u := t.emit _) rfl) _ _

theorem dropHold (h : s.KeepsConsumed t) (r : Nat) : s.KeepsConsumed (t.dropHold r) := by
  unfold State.dropHold
  split
  · exact h
  · extract_lets n
    exact ite h (put (h.next (u := t.bump .evtLost _ 0 n) rfl) (by rfl))

theorem dropRecord (h : s.KeepsConsumed t) (r : Nat) (x : Record) : s.KeepsConsumed (t.dropRecord r x) := by
  unfold State.dropRecord
  split <;> exact h.next (by rfl)

theorem abandonRecords (h : s.KeepsConsumed t) (r : Nat) : s.KeepsConsumed (t.abandonRecords r) :=
  next (foldl (fun _ y g => g.dropRecord r y) (t.ring r).records h) rfl

theorem haltRing (h : s.KeepsConsumed t) (r cause : Nat) : s.KeepsConsumed (t.haltRing r cause) := by
  unfold State.haltRing
  extract_lets x y
  split
  · exact h.next (by rfl)
  · next s1 s2 s3 c other =>
    have shown : s.KeepsConsumed s1 := ite (h.next (by rfl)) h
    have lost : s.KeepsConsumed s2 := shown.dropHold r
    have gone : s.KeepsConsumed s3 := ite (lost.next (by rfl)) (abandonRecords (lost.next (by rfl)) r)
    exact gone.next (by rfl)

theorem sendMsix (h : s.KeepsConsumed t) (v : Nat) : s.KeepsConsumed (t.sendMsix v) := by
  unfold State.sendMsix
  split <;> exact h.next (by rfl)

theorem signal (h : s.KeepsConsumed t) (q sev : Nat) : s.KeepsConsumed (t.signal q sev) := by
  unfold State.signal
  dsimp only
  exact ite (sendMsix (put h (by rfl)) _) (put h (by rfl))

theorem writeRecord (h : s.KeepsConsumed t) (q r : Nat) (b : BitVec 256) : s.KeepsConsumed (t.writeRecord q r b).2 := by
  unfold State.writeRecord
  extract_lets x n l addr
  have prepared := h.prepare r addr 32 true
  split
  next e => rwa [e] at prepared
  next e => rw [e] at prepared; exact prepared.haltRing r 2
  next v e =>
    rw [e] at prepared
    exact signal (put (prepared.issue _ _ _ _ _) (by rfl)) q _

theorem holdRecord (h : s.KeepsConsumed t) (q : Nat) (b : BitVec 256) : s.KeepsConsumed (t.holdRecord q b) := put h (by rfl)

theorem putRecord (h : s.KeepsConsumed t) (q r : Nat) (b : BitVec 256) : s.KeepsConsumed (t.putRecord q r b) := by
  have written := h.writeRecord q r b
  unfold State.putRecord
  exact ite (h.holdRecord q b) (ite written (written.holdRecord q b))

theorem lose (h : s.KeepsConsumed t) (q : Nat) : s.KeepsConsumed (t.lose q) := put (h.next (u := t.bump .evtLost q) rfl) (by rfl)

/-! ### Delivery -/

theorem take (h : s.KeepsConsumed t) (q : Nat) (e : EventRec) : s.KeepsConsumed (t.take q e) := by
  unfold State.take
  split
  · exact h
  · next r found =>
    extract_lets x blk seq s1
    have numbered : s.KeepsConsumed s1 := h.next (by rfl)
    have full : s.KeepsConsumed (s1.setQueue q { s1.queue q with overflow := true, lostNow := 0 }) := put numbered (by rfl)
    exact ite h (ite (numbered.lose q) (ite (numbered.putRecord _ _ _) (lose (ite (full.putRecord _ _ _) full) q)))

theorem offer (h : s.KeepsConsumed t) (e : EventRec) : s.KeepsConsumed (t.offer e) :=
  ite (h.next (by rfl)) (foldl (fun _ q g => g.take q e) _ h)

theorem deliver (n : Nat) (h : s.KeepsConsumed t) : s.KeepsConsumed (State.deliver n t) := by
  induction n generalizing t with
  | zero => exact h.next (by rfl)
  | succ n ih =>
    unfold State.deliver
    split
    · exact h
    · exact ih (foldl (fun _ e g => g.offer e) _ (h.next (by rfl)))

theorem settle (s0 s : State) : s.KeepsConsumed (settle s0 s) := by
  have reported : s.KeepsConsumed s.reportService := by
    unfold State.reportService
    extract_lets v
    exact ite (refl s) (of_queues rfl)
  exact (reported.deliver 64).next (by rfl)

/-! ### A queue goes on -/

theorem endOverflow (h : s.KeepsConsumed t) (q r : Nat) : s.KeepsConsumed (t.endOverflow q r) := by
  have ended : s.KeepsConsumed (t.setQueue q { t.queue q with overflow := false, lostNow := 0 }) := put h (by rfl)
  exact ite (ended.putRecord q r _) h

theorem writeHeld (h : s.KeepsConsumed t) (q r : Nat) (bs : List (BitVec 256)) : s.KeepsConsumed (t.writeHeld q r bs).2 := by
  induction bs generalizing t with
  | nil => exact h
  | cons b bs ih =>
    unfold State.writeHeld
    split
    · next c o _ =>
      have written := h.writeRecord q r c
      dsimp only
      generalize (t.writeRecord q r c).2 = v at written ⊢
      have counted : s.KeepsConsumed (v.setQueue q { v.queue q with lostNow := 0 }) := put written (by rfl)
      split
      · exact ih (put counted (by rfl))
      · exact counted
    · exact ih (h.lose q)
    · next c _ =>
      have written := h.writeRecord q r c
      dsimp only
      generalize (t.writeRecord q r c).2 = v at written ⊢
      split
      · exact ih (lose (put written (by rfl)) q)
      · exact written
    · exact ih (put h (by rfl))

theorem drainHold (h : s.KeepsConsumed t) (q r : Nat) : s.KeepsConsumed (t.drainHold q r) := by
  unfold State.drainHold
  have begun : s.KeepsConsumed (t.setQueue q { t.queue q with hold := [], overflow := heldOverflow (t.queue q).hold, lostNow := 0 }) :=
    put h (by rfl)
  have written := begun.writeHeld q r (t.queue q).hold
  dsimp only
  generalize State.writeHeld _ q r (t.queue q).hold = p at written ⊢
  exact ite (h.endOverflow q r) (ite (foldl (fun _ _ g => g.lose q) _ written) (ite (endOverflow (put written (by rfl)) q r) (put written (by rfl))))

theorem mqDrained (h : s.KeepsConsumed t) (r : Nat) : s.KeepsConsumed (t.mqDrained r) := ite (h.next (by rfl)) h

theorem resumeQueue (h : s.KeepsConsumed t) (q : Nat) : s.KeepsConsumed (t.resumeQueue q) := by
  unfold State.resumeQueue
  split
  · exact ite (mqDrained (h.drainHold q _) _) h
  · exact h

end State.KeepsConsumed

/-! ### Consumer counts -/

/-- Queue q with its consumer count at v. -/
def State.consumedTo (s : State) (q : Nat) (v : Word) : State := s.setQueue q { s.queue q with ch := v }

@[simp] theorem consumedTo_ch (s : State) (q : Nat) (v : Word) : ((s.consumedTo q v).queue q).ch = v := by
  simp [State.consumedTo]

/-- A count that frees no more than is written is taken. -/
theorem consume_of_le {s : State} {q r : Nat} {v : Word} (fits : (v - (s.queue q).ch).toNat ≤ ((s.queue q).pd - (s.queue q).ch).toNat) :
    ∃ t, s.consume q r v = some t ∧ (s.consumedTo q v).KeepsConsumed t ∧
      ((s.queue q).hold = [] → (s.queue q).overflow = false → t = s.consumedTo q v) := by
  have taken : s.consume q r v = some (if ((s.consumedTo q v).queue q).hold.isEmpty then (s.consumedTo q v).endOverflow q r
      else (s.consumedTo q v).resumeQueue q) := if_pos fits
  refine ⟨_, taken, .ite (.endOverflow (.refl _) q r) (.resumeQueue (.refl _) q), fun empty calm => ?_⟩
  have same : (s.consumedTo q v).queue q = { s.queue q with ch := v } := by simp [State.consumedTo]
  simp only [same, empty, List.isEmpty_nil, if_true, State.endOverflow, calm, Bool.false_and, Bool.false_eq_true, if_false]

theorem consume_of_lt {s : State} {q r : Nat} {v : Word} (more : ((s.queue q).pd - (s.queue q).ch).toNat < (v - (s.queue q).ch).toNat) :
    s.consume q r v = none := if_neg (Nat.not_le.mpr more)

theorem State.Sound.consumedTo {s : State} (h : s.Sound) (q : Nat) (v : Word) : (s.consumedTo q v).Sound := h

/-! ### Doorbells -/

theorem badDoorbell_hostDbBad (s : State) (ring dom slot : Nat) (v : Word) :
    (s.badDoorbell ring dom slot v).reg .hostDbBad = satAdd (s.reg .hostDbBad) 1 := State.reg_setReg_self _ _ _ _ _

/-- A doorbell access that is ignored is counted, and counts nothing else. -/
theorem badDoorbell_settles (s : State) (ring dom slot : Nat) (v : Word) :
    (settle s (s.badDoorbell ring dom slot v)).reg .hostDbBad = satAdd (s.reg .hostDbBad) 1 :=
  (settle_reg _ _ _ _ _ (by decide)).trans (badDoorbell_hostDbBad s ring dom slot v)

theorem badDoorbell_frame (s : State) (ring dom slot : Nat) (v : Word) :
    State.Frame { s with regs := (settle s (s.badDoorbell ring dom slot v)).regs
                         marks := (settle s (s.badDoorbell ring dom slot v)).marks }
      (settle s (s.badDoorbell ring dom slot v)) :=
  have framed := (settle_frame s (s.badDoorbell ring dom slot v)).withRegs
  { framed with }

theorem badDoorbell_keeps (s : State) (ring dom slot : Nat) (v : Word) : s.KeepsConsumed (settle s (s.badDoorbell ring dom slot v)) :=
  .trans (t := s.badDoorbell ring dom slot v) (.of_queues rfl) (.settle _ _)

/-- HOST_DB_BAD is no producer count. -/
theorem badDoorbell_prod (s : State) {r : Nat} (h : r < 1024) (ring dom slot : Nat) (v : Word) :
    (settle s (s.badDoorbell ring dom slot v)).prod r = s.prod r := by
  have number : RegName.ringProd.off r = 0x300014 + 32 * r := by simp [RegName.off, RegName.row]
  refine (settle_reg _ _ _ _ _ ?_).trans (reg_setReg_of_name (by decide) h s _ (by decide) (by decide) (by decide))
  rw [number]
  simp only [deliveryReg, Bool.or_eq_false_iff, Bool.and_eq_false_iff, decide_eq_false_iff_not]
  omega

theorem queueOf_of_kind {s : State} {r : Nat} (h : r < 1024) (k : s.kind r ≠ 3) : s.queueOf r = none := by
  have other : r ≠ mqRing := fun e => by subst e; exact absurd h (by decide)
  simp [State.queueOf, other, k]

theorem slotWrite_up {s : State} (up : s.hostUp = true) (d slot : Nat) (word : SlotWord) (v : Word) : s.slotWrite d slot word v =
    if word.poisoned then (s.bump .errUnmapped).emit (.aer aerPoisoned)
    else match s.slotRing d slot with
      | none => s.badDoorbell 0xFFFF d slot v
      | some r =>
        if !word.whole || word.byte.toNat % 4 ≠ 0 then s.badDoorbell r d slot v
        else if word.byte = 0 then s.doorbell d slot r v else s := by
  unfold State.slotWrite
  simp only [up, Bool.not_true, Bool.false_eq_true, if_false] <;> rfl

/-- A whole write to a slot's DOORBELL word rings the doorbell of its ring. -/
theorem slotWrite_doorbell {s : State} (up : s.hostUp = true) {d slot r : Nat} (found : s.slotRing d slot = some r) (v : Word) :
    s.slotWrite d slot { byte := 0 } v = s.doorbell d slot r v := by
  rw [slotWrite_up up, found]
  rfl

/-- The doorbell of a ring that is no event queue. -/
theorem doorbell_of_producer {s : State} {r : Nat} (none : s.queueOf r = none) (d slot : Nat) (v : Word) : s.doorbell d slot r v =
    if ((s.ring r).state = .run ∨ (s.ring r).state = .wait) ∧ (v - s.cons r).toNat ≤ 2 ^ s.log2s r ∧
      (s.prod r - s.cons r).toNat ≤ (v - s.cons r).toNat then s.setReg .ringProd r 0 v else s.badDoorbell r d slot v := by
  simp only [State.doorbell, none, Bool.and_eq_true, Bool.or_eq_true, decide_eq_true_eq, and_assoc]

/-- The consumer count of an event queue. -/
theorem doorbell_of_queue {s : State} {r q : Nat} (found : s.queueOf r = some q) (d slot : Nat) (v : Word) :
    s.doorbell d slot r v = (s.consume q r v).getD (s.badDoorbell r d slot v) := by
  simp only [State.doorbell, found]
  cases s.consume q r v <;> rfl

theorem exec_doorbellWrite (d : Fin 16) (slot : Fin 64) (word : SlotWord) (v : Word) (s : State) :
    exec (.doorbellWrite d slot word v) s = effect (fun s => s.slotWrite d.val slot.val word v) s := rfl

theorem exec_slotConsumer (d : Fin 16) (slot : Fin 64) (o : Origin) (v : Word) (s : State) :
    exec (.consumerCountWrite (.slot d slot) o v) s = effect (fun s => s.slotWrite d.val slot.val { byte := 0 } v) s := rfl

theorem exec_managementConsumer (o : Origin) (v : Word) (s : State) :
    exec (.consumerCountWrite .management o v) s = effect (fun s => s.writeFrom o .evtMqCons 0 0 v) s := rfl

/-- A producer count that posts no more than the ring holds is taken; any other is counted. -/
theorem producerCount_completes (d : Fin 16) (slot : Fin 64) (v : Word) (r : Nat) (s : State) (sound : s.Sound) (up : s.hostUp = true)
    (found : s.slotRing d slot = some r) (bound : r < 1024) (kind : s.kind r ≠ 3) :
    Completes (.doorbellWrite d slot { byte := 0 } v) s fun t =>
      ((s.ring r).state = .run ∨ (s.ring r).state = .wait → (v - s.cons r).toNat ≤ 2 ^ s.log2s r →
        (s.prod r - s.cons r).toNat ≤ (v - s.cons r).toNat → t = s.setReg .ringProd r 0 v) ∧
      ((s.ring r).state = .halt ∨ (s.ring r).state = .drain ∨ 2 ^ s.log2s r < (v - s.cons r).toNat ∨
        (v - s.cons r).toNat < (s.prod r - s.cons r).toNat →
        t.prod r = s.prod r ∧ t.reg .hostDbBad = satAdd (s.reg .hostDbBad) 1) := by
  refine completes_of_effect (exec_doorbellWrite d slot _ v s) ?_
  rw [slotWrite_doorbell up found, doorbell_of_producer (queueOf_of_kind bound kind)]
  split
  next taken =>
    obtain ⟨runs, most, least⟩ := taken
    refine ⟨fun _ _ _ => (State.Sound.setReg sound _ _ _ _).settle_eq rfl rfl, fun bad => ?_⟩
    rcases bad with stops | stops | more | fewer
    · rcases runs with e | e <;> rw [stops] at e <;> cases e
    · rcases runs with e | e <;> rw [stops] at e <;> cases e
    · exact absurd more (Nat.not_lt.mpr most)
    · exact absurd fewer (Nat.not_lt.mpr least)
  next refused =>
    refine ⟨fun runs most least => absurd ⟨runs, most, least⟩ refused, fun _ => ?_⟩
    exact ⟨badDoorbell_prod s bound _ _ _ _, badDoorbell_settles s _ _ _ _⟩

/-- Accesses to a doorbell slot that ring no doorbell. -/
theorem slotAccess_completes (d : Fin 16) (slot : Fin 64) (word : SlotWord) (v : Word) (s : State) (up : s.hostUp = true) :
    Completes (.doorbellWrite d slot word v) s fun t =>
      (word.poisoned = true → t.reg .errUnmapped = satAdd (s.reg .errUnmapped) 1 ∧ s.Sent t (.aer aerPoisoned) ∧
        State.Frame { s with regs := t.regs, out := t.out, marks := t.marks } t) ∧
      (word.poisoned = false → s.slotRing d slot = none ∨ word.whole = false ∨ word.byte.toNat % 4 ≠ 0 →
        t.reg .hostDbBad = satAdd (s.reg .hostDbBad) 1 ∧ State.Frame { s with regs := t.regs, marks := t.marks } t) ∧
      (s.Sound → word.poisoned = false → (s.slotRing d slot).isSome = true → word.whole = true →
        word.byte.toNat % 4 = 0 → word.byte ≠ 0 → t = s) := by
  refine completes_of_effect (exec_doorbellWrite d slot word v s) ?_
  rw [slotWrite_up up]
  cases poisoned : word.poisoned with
  | true =>
    refine ⟨fun _ => ?_, fun no => absurd no (by decide), fun _ no => absurd no (by decide)⟩
    rw [if_pos rfl]
    refine ⟨(settle_reg _ _ _ _ _ (by decide)).trans (State.reg_setReg_self _ _ _ _ _), sent_settle rfl, ?_⟩
    have framed := (settle_frame s ((s.bump .errUnmapped).emit (.aer aerPoisoned))).withRegs
    exact { framed with out := ⟨[], rfl⟩ }
  | false =>
    rw [if_neg Bool.false_ne_true]
    refine ⟨fun no => absurd no (by decide), fun _ bad => ?_, fun sound _ found whole aligned other => ?_⟩
    · have ignored : ∃ ring, (match s.slotRing d slot with
          | none => s.badDoorbell 0xFFFF d slot v
          | some r =>
            if !word.whole || word.byte.toNat % 4 ≠ 0 then s.badDoorbell r d slot v
            else if word.byte = 0 then s.doorbell d slot r v else s) = s.badDoorbell ring d slot v := by
        cases found : s.slotRing d slot with
        | none => exact ⟨_, rfl⟩
        | some r =>
          refine ⟨r, if_pos ?_⟩
          rcases bad with none | part | odd
          · exact absurd (found.symm.trans none) (by simp)
          · simp [part]
          · simp [odd]
      obtain ⟨ring, e⟩ := ignored
      rw [e]
      exact ⟨badDoorbell_settles s _ _ _ _, badDoorbell_frame s _ _ _ _⟩
    · obtain ⟨r, found⟩ := Option.isSome_iff_exists.mp found
      simp only [found, whole, aligned, other, Bool.not_true, ne_eq, not_true_eq_false, decide_false, Bool.or_self,
        Bool.false_eq_true, if_false]
      exact sound.settle_eq rfl rfl

/-- The consumer count of a slot whose ring is an event queue. -/
theorem slotConsumer_completes (d : Fin 16) (slot : Fin 64) (o : Origin) (v : Word) (r q : Nat) (s : State) (up : s.hostUp = true)
    (found : s.slotRing d slot = some r) (queue : s.queueOf r = some q) :
    Completes (.consumerCountWrite (.slot d slot) o v) s fun t =>
      ((v - (s.queue q).ch).toNat ≤ ((s.queue q).pd - (s.queue q).ch).toNat → (t.queue q).ch = v ∧
        (s.Sound → (s.queue q).hold = [] → (s.queue q).overflow = false →
          t = s.setQueue q { s.queue q with ch := v })) ∧
      (((s.queue q).pd - (s.queue q).ch).toNat < (v - (s.queue q).ch).toNat →
        (t.queue q).ch = (s.queue q).ch ∧ t.reg .hostDbBad = satAdd (s.reg .hostDbBad) 1) := by
  refine completes_of_effect (exec_slotConsumer d slot o v s) ?_
  rw [slotWrite_doorbell up found, doorbell_of_queue queue]
  refine ⟨fun fits => ?_, fun more => ?_⟩
  · obtain ⟨t, taken, kept, quiet⟩ := consume_of_le (r := r) fits
    rw [taken]
    refine ⟨((kept.trans (.settle s t)) q).trans (consumedTo_ch s q v), fun sound empty calm => ?_⟩
    rw [quiet empty calm]
    exact (sound.consumedTo q v).settle_eq rfl rfl
  · rw [consume_of_lt more]
    exact ⟨badDoorbell_keeps s _ _ _ _ q, badDoorbell_settles s _ _ _ _⟩

theorem accept_evtMqCons (s : State) (o : Origin) (v : Word) : s.accept o ⟨.evtMqCons, 0, 0⟩ v {} = s.mqConsume v := by
  have unmarked : RegAt.marked ⟨.evtMqCons, 0, 0⟩ = false := by decide
  rw [accept_of_acting s o v {} (by decide) (by decide), unmarked]
  rfl

/-- The consumer count of the management queue. -/
theorem managementConsumer_completes (o : Origin) (v : Word) (s : State) (accepts : s.Accepts o ⟨.evtMqCons, 0, 0⟩ v) :
    Completes (.consumerCountWrite .management o v) s fun t =>
      ((v - (s.queue 16).ch).toNat ≤ ((s.queue 16).pd - (s.queue 16).ch).toNat →
        (t.queue 16).ch = v ∧ t.reg .evtMqCons = v ∧
        (s.Sound → (s.queue 16).hold = [] → (s.queue 16).overflow = false →
          t = (s.setQueue 16 { s.queue 16 with ch := v }).setReg .evtMqCons 0 0 v)) ∧
      (((s.queue 16).pd - (s.queue 16).ch).toNat < (v - (s.queue 16).ch).toNat →
        (t.queue 16).ch = (s.queue 16).ch ∧ t.reg .hostDbBad = satAdd (s.reg .hostDbBad) 1) := by
  refine completes_of_write (exec_managementConsumer o v s) accepts ?_
  rw [accept_evtMqCons]
  refine ⟨fun fits => ?_, fun more => ?_⟩
  · obtain ⟨t, taken, kept, quiet⟩ := consume_of_le (r := mqRing) fits
    rw [State.mqConsume, taken]
    have keeps := kept.trans (.next (.settle s (t.setReg .evtMqCons 0 0 v)) rfl)
    refine ⟨(keeps 16).trans (consumedTo_ch s 16 v), (settle_reg _ _ _ _ _ (by decide)).trans (State.reg_setReg_self _ _ _ _ _),
      fun sound empty calm => ?_⟩
    rw [quiet empty calm]
    exact ((sound.consumedTo 16 v).setReg _ _ _ _).settle_eq rfl rfl
  · rw [State.mqConsume, consume_of_lt more]
    exact ⟨badDoorbell_keeps s _ _ _ _ 16, badDoorbell_settles s _ _ _ _⟩

/-- Settles O31: a doorbell or a consumer count that counts what there is is taken as it stands, and any other is counted. -/
theorem ringCounts : Obligations.RingCounts := by
  unfold Obligations.RingCounts
  exact ⟨⟨producerCount_completes, slotAccess_completes⟩, slotConsumer_completes, managementConsumer_completes⟩

end Sys2Proof.Machine
end

section
/-!
SUPPORT. The rings (R252 to R254, R289): what enabling starts anew, what a ring that drains has left, and that the delivery of events
leaves a stopped ring as it is. From these, O30.
-/
namespace Sys2Proof.Machine

/-! ### Stopped rings -/

/-- A ring that neither runs nor waits. -/
def Ring.Stopped (x : Ring) : Prop := x.state ≠ .run ∧ x.state ≠ .wait

theorem take_ring_of_stopped (s : State) (q : Nat) (e : EventRec) {i : Nat} (h : (s.ring i).Stopped) : (s.take q e).ring i = s.ring i := by
  by_cases own : s.queueRing q = some i
  · obtain ⟨run, wait⟩ := h
    unfold State.take
    simp only [own]
    split
    · rfl
    next live =>
      have stopped : (s.ring i).state = .halt ∨ (s.ring i).state = .drain := by
        cases state : (s.ring i).state with
        | off => simp [state] at live
        | run => exact absurd state run
        | wait => exact absurd state wait
        | halt => exact .inl rfl
        | drain => exact .inr rfl
      have lost : ((s.setReg .evtSeq q 0 (s.reg .evtSeq q + 1)).lose q).ring i = s.ring i := rfl
      have same : (s.setReg .evtSeq q 0 (s.reg .evtSeq q + 1)).ring i = s.ring i := rfl
      exact (congrArg (fun t : State => t.ring i) (if_pos (by rw [same]; rcases stopped with e | e <;> simp [e]))).trans lost
  · exact take_ring_of_ne s q e own

theorem foldl_ring_of_stopped {α : Type} {f : State → α → State} {i : Nat} (h : ∀ s a, (s.ring i).Stopped → (f s a).ring i = s.ring i)
    (l : List α) {s : State} (stopped : (s.ring i).Stopped) : (l.foldl f s).ring i = s.ring i := by
  induction l generalizing s with
  | nil => rfl
  | cons a l ih =>
    have first := h s a stopped
    exact (ih (first ▸ stopped)).trans first

theorem offer_ring_of_stopped (s : State) (e : EventRec) {i : Nat} (h : (s.ring i).Stopped) : (s.offer e).ring i = s.ring i := by
  unfold State.offer
  split
  · rfl
  · exact foldl_ring_of_stopped (fun u q => take_ring_of_stopped u q e) _ h

theorem deliver_ring_of_stopped (n : Nat) {s : State} {i : Nat} (h : (s.ring i).Stopped) : (State.deliver n s).ring i = s.ring i := by
  induction n generalizing s with
  | zero => rfl
  | succ n ih =>
    unfold State.deliver
    split
    · rfl
    · have offered : ∀ l : List EventRec, (l.foldl State.offer { s with raised := [] }).ring i = s.ring i := fun l =>
        foldl_ring_of_stopped (fun u e => offer_ring_of_stopped u e) l (s := { s with raised := [] }) h
      exact (ih (by rw [offered]; exact h)).trans (offered _)

/-- A command leaves a stopped ring as its effect does. -/
theorem settle_ring_of_stopped (s0 : State) {u : State} {i : Nat} (h : (u.ring i).Stopped) : (settle s0 u).ring i = u.ring i := by
  have reported : u.reportService.ring i = u.ring i := ring_of_rings (reportService_rings u) i
  exact (deliver_ring_of_stopped 64 (reported.symm ▸ h)).trans reported

/-! ### Rings that drain -/

/-- A ring without records and buffers, of whose writes `P` holds; where `off` is so, it drains, its replay discarded. -/
structure Ring.Bare (off : Prop) (P : PendingWrite → Prop) (x : Ring) : Prop where
  records : x.records = []
  bufs : x.bufs = []
  writes : ∀ w ∈ x.writes, P w
  drains : off → x.state = .drain ∧ x.replays = [] ∧ x.eots = []

/-- What a halt leaves of a ring, its records and buffers apart. -/
def Ring.halted (x : Ring) : Ring :=
  { x with waits := [], preempted := false, writes := [], busy := false, fetched := none, unitsRead := 0, halting := none }

/-- A ring without its records and buffers. -/
def Ring.abandoned (x : Ring) : Ring := { x with records := [], done := 0, unitsDone := 0, bufs := [], filled := [] }

theorem abandonRecords_ring (s : State) (r : Nat) : (s.abandonRecords r).ring r = (s.ring r).abandoned := by
  have kept : ∀ l : List Record, (l.foldl (fun s y => s.dropRecord r y) s).ring r = s.ring r := fun l =>
    foldl_ring (fun u y => ring_of_rings (dropRecord_rings u r y) r) l s
  unfold State.abandonRecords
  dsimp only
  rw [State.ring_setRing, if_pos rfl, kept]
  rfl

theorem haltRing_ring_of_live {s : State} {r cause : Nat} (bound : r < 1024) (h : (s.ring r).state ≠ .drain) :
    (s.haltRing r cause).ring r = { (s.ring r).halted with state := .halt }.abandoned := by
  have mirror : r ≠ mirrorRing := fun e => by subst e; exact absurd bound (by decide)
  unfold State.haltRing
  simp only [if_neg mirror, h, if_false]
  rw [raise_ring, abandonRecords_ring, State.ring_setRing, if_pos rfl]
  rfl

theorem haltRing_ring_of_drain {s : State} {r cause : Nat} (bound : r < 1024) (h : (s.ring r).state = .drain) :
    (s.haltRing r cause).ring r = { (s.ring r).halted with state := .drain } := by
  have mirror : r ≠ mirrorRing := fun e => by subst e; exact absurd bound (by decide)
  have mq : r ≠ mqRing := fun e => by subst e; exact absurd bound (by decide)
  unfold State.haltRing
  simp only [if_neg mirror, if_neg mq, h, if_true]
  rw [raise_ring, State.ring_setRing, if_pos rfl]
  rfl

theorem abandonRecords_rcl (s : State) (r : Nat) : (s.abandonRecords r).rcl = s.rcl := by
  have dropped : ∀ (l : List Record) (u : State), (l.foldl (fun u y => u.dropRecord r y) u).rcl = u.rcl := fun l => by
    induction l with
    | nil => exact fun _ => rfl
    | cons y l ih =>
      exact fun u => (ih _).trans (by unfold State.dropRecord; split <;> rfl)
  exact dropped (s.ring r).records s

theorem dropHold_rcl (s : State) (r : Nat) : (s.dropHold r).rcl = s.rcl := by
  unfold State.dropHold
  split
  · rfl
  · dsimp only
    split <;> rfl

theorem haltRing_rcl (s : State) (r cause : Nat) : (s.haltRing r cause).rcl = s.rcl := by
  unfold State.haltRing
  extract_lets x y
  split
  · rfl
  next s1 s2 s3 c other =>
    have shown : s1.rcl = s.rcl := by unfold s1; split <;> rfl
    have gone : s3.rcl = s2.rcl := by
      unfold s3
      split
      · rfl
      · exact abandonRecords_rcl _ r
    exact gone.trans ((dropHold_rcl s1 r).trans shown)

/-- Ring r is bare; an export whose end could give it a write of its own gives only what `P` allows. -/
structure State.Bare (s : State) (r : Nat) (off : Prop) (P : PendingWrite → Prop) : Prop where
  ring : (s.ring r).Bare off P
  exporting : s.rcl.state = .exporting → ∀ w, P w

namespace State.Bare

variable {s t : State} {r : Nat} {off : Prop} {P : PendingWrite → Prop}

theorem next (h : s.Bare r off P) (rings : t.rings = s.rings) (rcl : t.rcl = s.rcl) : t.Bare r off P :=
  ⟨ring_of_rings rings r ▸ h.ring, fun e => h.exporting (rcl ▸ e)⟩

theorem setRing (h : s.Bare r off P) {x : Ring} (g : x.Bare off P) : (s.setRing r x).Bare r off P :=
  ⟨by rw [State.ring_setRing, if_pos rfl]; exact g, h.exporting⟩

theorem setOther (h : s.Bare r off P) {i : Nat} (x : Ring) (other : r ≠ i) : (s.setRing i x).Bare r off P :=
  ⟨by rw [State.ring_setRing, if_neg other]; exact h.ring, h.exporting⟩

theorem withWrites (h : s.Bare r off P) (i : Nat) {ws : List PendingWrite} (allowed : r = i → ∀ w ∈ ws, P w) :
    (s.setRing i { s.ring i with writes := ws }).Bare r off P := by
  by_cases other : r = i
  · subst other
    exact h.setRing { h.ring with writes := allowed rfl }
  · exact h.setOther _ other

theorem prepare (h : s.Bare r off P) (i addr len : Nat) (write : Bool) : (s.prepare i addr len write).2.Bare r off P :=
  h.next (prepare_rings ..) (State.Kept.prepare s i addr len write).rcl

theorem issue (h : s.Bare r off P) (i : Nat) (relaxed : Bool) (ps : List Nat) (addr : Nat) (bytes : List Byte) :
    (s.issue i addr bytes relaxed ps).Bare r off P :=
  h.next (issue_rings ..) (State.Kept.issue i relaxed ps s addr bytes).rcl

theorem ite {c : Prop} [Decidable c] (h : s.Bare r off P) (g : t.Bare r off P) : (if c then s else t).Bare r off P := by
  split
  · exact h
  · exact g

theorem haltRing (h : s.Bare r off P) (bound : r < 1024) (i cause : Nat) : (s.haltRing i cause).Bare r off P := by
  refine ⟨?_, fun e => h.exporting (haltRing_rcl s i cause ▸ e)⟩
  by_cases other : r = i
  · subst other
    obtain ⟨records, bufs, -, drains⟩ := h.ring
    by_cases state : (s.ring r).state = .drain
    · rw [haltRing_ring_of_drain bound state]
      exact ⟨records, bufs, fun w no => absurd no List.not_mem_nil, fun strict => ⟨rfl, (drains strict).2⟩⟩
    · rw [haltRing_ring_of_live bound state]
      exact ⟨rfl, rfl, fun w no => absurd no List.not_mem_nil, fun strict => absurd (drains strict).1 state⟩
  · rw [haltRing_ring_of_ne s cause other]
    exact h.ring

/-- Writes go out, in order, and what still waits was waiting. -/
theorem flushWith {halt : State → Nat → State} (i : Nat)
    (halts : ∀ (s : State) (c : Nat), s.Bare r off P → (halt s c).Bare r off P) (ws : List PendingWrite) (h : s.Bare r off P)
    (allowed : r = i → ∀ w ∈ ws, P w) : (s.flushWith halt i ws).Bare r off P := by
  induction ws generalizing s with
  | nil =>
    have emptied : (s.setRing i { s.ring i with writes := [] }).Bare r off P := h.withWrites i fun _ _ no => absurd no (List.not_mem_nil)
    unfold State.flushWith
    dsimp only
    split
    · exact halts _ _ emptied
    · exact emptied
  | cons w ws ih =>
    have prepared := h.prepare i w.addr (w.bytes.length + w.ahead) true
    unfold State.flushWith
    split
    next e => rw [e] at prepared; exact prepared.withWrites i allowed
    next e => rw [e] at prepared; exact halts _ _ prepared
    next ps v e =>
      rw [e] at prepared
      extract_lets s1 s2 s3
      refine ih ?_ fun same x hx => allowed same x (List.mem_cons_of_mem _ hx)
      have issued := prepared.issue i w.relaxed (ps.take (pagesOf w.addr w.bytes.length).length) w.addr w.bytes
      have advanced : s2.Bare r off P := ite (issued.next rfl rfl) issued
      unfold s3
      split
      · exact advanced.next rfl rfl
      · exact advanced

theorem releasesDone (h : s.Bare r off P) (bound : r < 1024) (all : ∀ w, P w) : s.releasesDone.Bare r off P := by
  refine List.foldlRecOn (motive := fun v : State => v.Bare r off P) _ _ ?_ fun u (g : u.Bare r off P) c _ => ?_
  · exact ⟨h.ring, fun _ => all⟩
  dsimp only
  refine ite ?_ g
  have begun : (u.setRing c.ring { u.ring c.ring with busy := false, writes := (u.ring c.ring).writes ++
      [u.completionOf c.ring (u.cons c.ring) 9 c.opTag c.evt 0 0 0] }).Bare r off P := by
    by_cases other : r = c.ring
    · rw [← other]
      exact g.setRing { g.ring with writes := fun w _ => all w }
    · exact g.setOther _ other
  exact ite (begun.flushWith c.ring (fun v n d => d.haltRing bound c.ring n) _ fun _ w _ => all w) begun

theorem exportLost (h : s.Bare r off P) (bound : r < 1024) (i : Nat) : (s.exportLost i).Bare r off P := by
  unfold State.exportLost
  split
  next left =>
    have all : ∀ w, P w := h.exporting (by simp at left; exact left.1)
    have ended : State.Bare (({ s with rcl := { s.rcl with state := .frozen, exported := 0, budget := 0 } }.raise 0x0512
      [(4, s.rcl.exported), (1, 3), (3, 0)])) r off P := ⟨h.ring, fun _ => all⟩
    exact ite ended (releasesDone ⟨ended.ring, fun _ => all⟩ bound all)
  next => exact h

theorem drainWrites (h : s.Bare r off P) (bound : r < 1024) : (s.drainWrites r).Bare r off P :=
  ite (h.flushWith r (fun _ c g => (g.haltRing bound r c).exportLost bound r) _ fun _ => h.ring.writes) h

end State.Bare

/-! ### EN of a ring -/

/-- What a ring lets go of before it drains. -/
def State.letGo (s : State) (r : Nat) : State :=
  if (s.ring r).state = .wait then (s.abandon r).dropHold r else s.abandon r

theorem bitOf_merge_ringCfg (old v : Word) : bitOf (RegName.ringCfg.row.merge old v) 0 = bitOf v 0 := by
  simp [bitOf_eq_getLsbD, RegRow.merge, RegName.row]

/-- An accepted write to a ring's CFG, marked and stored. -/
def State.ringCfgStored (s : State) (o : Origin) (r : Nat) (v : Word) : State :=
  (s.writeMarked o ⟨.ringCfg, r, 0⟩ v).setReg .ringCfg r 0 (RegName.ringCfg.row.merge (s.reg .ringCfg r) v)

theorem accept_ringCfg (s : State) (o : Origin) (r : Nat) (v : Word) : s.accept o ⟨.ringCfg, r, 0⟩ v {} =
    if s.flag .ringCfg r 0 0 = bitOf v 0 then s.ringCfgStored o r v
    else if bitOf v 0 then (s.ringCfgStored o r v).enableRing r else (s.ringCfgStored o r v).disableRing r := by
  have marked : RegAt.marked ⟨.ringCfg, r, 0⟩ = true := by simp [RegAt.marked, RegName.row]
  rw [accept_of_acting s o v {} RegName.noConfusion RegName.noConfusion, marked]
  rfl

/-- A ring that starts with nothing posted, nothing consumed and no record. -/
def State.startRing (s : State) (r : Nat) : State :=
  (((s.setRing r { state := .run, inc := (s.ring r).inc + 1 }).setReg .ringProd r 0 0).setReg .ringCons r 0 0).setReg .ringSeq r 0 0

theorem enableRing_eq (s : State) (r : Nat) : s.enableRing r =
    match (s.startRing r).queueOf r with
    | some q => (s.startRing r).freshQueue q
    | none => s.startRing r := rfl

theorem startRing_ring (s : State) (r q : Nat) :
    (s.startRing r).ring q = if q = r then { state := .run, inc := (s.ring r).inc + 1 } else s.ring q :=
  State.ring_setRing s r q { state := .run, inc := (s.ring r).inc + 1 }

theorem startRing_counts (s : State) {r : Nat} (bound : r < 1024) :
    (s.startRing r).cons r = 0 ∧ (s.startRing r).prod r = 0 ∧ (s.startRing r).reg .ringSeq r = 0 := by
  have cons : (s.startRing r).cons r = 0 :=
    (reg_setReg_of_name (by decide) bound _ _ bound (by decide) (by decide)).trans (State.reg_setReg_self _ _ _ _ _)
  have prod : (s.startRing r).prod r = 0 :=
    ((reg_setReg_of_name (by decide) bound _ _ bound (by decide) (by decide)).trans
      (reg_setReg_of_name (by decide) bound _ _ bound (by decide) (by decide))).trans (State.reg_setReg_self _ _ _ _ _)
  exact ⟨cons, prod, State.reg_setReg_self _ _ _ _ _⟩

/-- The counts of a ring are not its queue's. -/
theorem freshQueue_reg (s : State) {n : RegName} (other : n ≠ .evtSeq) {r q : Nat} (bound : r < n.row.n1) (one : 0 < n.row.n2) (le : q ≤ 16) :
    (s.freshQueue q).reg n r = s.reg n r :=
  reg_setReg_of_name other bound (s.setQueue q {}) 0 (Nat.lt_succ_of_le le) one (by decide)

/-- A ring that is enabled holds nothing and has counted nothing. -/
theorem enableRing_facts (s : State) {r : Nat} (bound : r < 1024) :
    (s.enableRing r).ring r = { state := .run, inc := (s.ring r).inc + 1 } ∧ (s.enableRing r).cons r = 0 ∧
      (s.enableRing r).prod r = 0 ∧ (s.enableRing r).reg .ringSeq r = 0 ∧ ∀ q, q ≠ r → (s.enableRing r).ring q = s.ring q := by
  obtain ⟨cons, prod, seq⟩ := startRing_counts s bound
  have own : (s.startRing r).ring r = { state := .run, inc := (s.ring r).inc + 1 } := by rw [startRing_ring, if_pos rfl]
  have rest : ∀ q, q ≠ r → (s.startRing r).ring q = s.ring q := fun q other => by rw [startRing_ring, if_neg other]
  rw [enableRing_eq]
  split
  next q found =>
    have le := State.Kept.queueOf_le found
    exact ⟨own, (freshQueue_reg _ (by decide) bound (by decide) le).trans cons,
      (freshQueue_reg _ (by decide) bound (by decide) le).trans prod, (freshQueue_reg _ (by decide) bound (by decide) le).trans seq, rest⟩
  next => exact ⟨own, cons, prod, seq, rest⟩

theorem queueOf_of_domain {s : State} {r d : Nat} (bound : r < 1024) (kind : s.kind r = 3) (domain : s.ringDomain r = some d) :
    s.queueOf r = some d := by
  have other : r ≠ mqRing := fun e => by subst e; exact absurd bound (by decide)
  simp [State.queueOf, other, bound, kind, domain]

/-- An event queue that is enabled starts anew. -/
theorem enableRing_queue (s : State) {r d : Nat} (found : (s.startRing r).queueOf r = some d) :
    (s.enableRing r).queue d = {} ∧ (s.enableRing r).reg .evtSeq d = 0 := by
  rw [enableRing_eq, found]
  exact ⟨(State.queue_setQueue (s.startRing r) d d {}).trans (if_pos rfl), State.reg_setReg_self _ _ _ _ _⟩

theorem startRing_reg (s : State) {n : RegName} (prod : n ≠ .ringProd) (cons : n ≠ .ringCons) (seq : n ≠ .ringSeq) {r i : Nat} (bound : r < 1024)
    (hi : i < n.row.n1) (one : 0 < n.row.n2) : (s.startRing r).reg n i = s.reg n i :=
  ((reg_setReg_of_name seq hi _ _ bound one (by decide)).trans (reg_setReg_of_name cons hi _ _ bound one (by decide))).trans
    (reg_setReg_of_name prod hi _ _ bound one (by decide))

theorem startRing_queueOf (s : State) {r : Nat} (bound : r < 1024) : (s.startRing r).queueOf r = s.queueOf r := by
  have cfg : (s.startRing r).reg .ringCfg r = s.reg .ringCfg r := startRing_reg s (by decide) (by decide) (by decide) bound bound (by decide)
  have prot : (s.startRing r).reg .protRing r = s.reg .protRing r := startRing_reg s (by decide) (by decide) (by decide) bound bound (by decide)
  have kind : (s.startRing r).kind r = s.kind r := by simp only [State.kind, State.field, cfg]
  have domain : (s.startRing r).ringDomain r = s.ringDomain r := by simp only [State.ringDomain, prot]
  simp only [State.queueOf, kind, domain]

theorem enableRing_quiet (s : State) (r : Nat) :
    s.enableRing r = { s with rings := (s.enableRing r).rings, queues := (s.enableRing r).queues, regs := (s.enableRing r).regs } := by
  rw [enableRing_eq]
  split <;> rfl

theorem ringCfgStored_kind (s : State) (o : Origin) {r : Nat} (bound : r < 1024) (v : Word) : (s.ringCfgStored o r v).kind r = bitsOf v 2 2 := by
  have stored : (s.ringCfgStored o r v).reg .ringCfg r = RegName.ringCfg.row.merge (s.reg .ringCfg r) v := State.reg_setReg_self _ _ _ _ _
  simp only [State.kind, if_pos bound, State.field, stored]
  refine bitsOf_congr fun i hi => ?_
  have two : i = 0 ∨ i = 1 := by omega
  rcases two with rfl | rfl
  · simp [bitOf_eq_getLsbD, RegRow.merge, RegName.row]
  · simp [bitOf_eq_getLsbD, RegRow.merge, RegName.row]

theorem ringEnable_completes (r : Fin 1024) (o : Origin) (v : Word) (s : State) (sound : s.Sound)
    (accepts : s.Accepts o ⟨.ringCfg, r.val, 0⟩ (v ||| 1)) (disabled : s.flag .ringCfg r 0 0 = false) :
    Completes (.ringEnable r o v) s fun t => t.ring r = { state := .run, inc := (s.ring r).inc + 1 } ∧ t.cons r = 0 ∧
      t.prod r = 0 ∧ t.reg .ringSeq r = 0 ∧ (∀ q, q ≠ r.val → t.ring q = s.ring q) ∧
      (∀ d, bitsOf v 2 2 = 3 → s.ringDomain r = some d → t.queue d = {} ∧ t.reg .evtSeq d = 0) := by
  refine completes_of_write rfl accepts ?_
  rw [accept_ringCfg, disabled, bitOf_or_one, if_neg (by decide), if_pos rfl]
  have kind : (s.ringCfgStored o r (v ||| 1)).kind r = bitsOf v 2 2 :=
    (ringCfgStored_kind s o r.isLt _).trans (bitsOf_congr fun i hi => by
      have two : i = 0 ∨ i = 1 := by omega
      rcases two with rfl | rfl <;> simp [bitOf_eq_getLsbD])
  have domain : (s.ringCfgStored o r (v ||| 1)).ringDomain r = s.ringDomain r := by
    have prot : (s.ringCfgStored o r (v ||| 1)).reg .protRing r = s.reg .protRing r :=
      reg_setReg_of_name (by decide) r.isLt _ _ r.isLt (by decide) (by decide)
    simp only [State.ringDomain, prot]
  have ring : ∀ q, (s.ringCfgStored o r (v ||| 1)).ring q = s.ring q := fun _ => rfl
  have quiet : (s.ringCfgStored o r (v ||| 1)).raised = [] ∧
      (s.ringCfgStored o r (v ||| 1)).service = (s.ringCfgStored o r (v ||| 1)).serviceNow := ⟨sound.1, sound.2.2⟩
  generalize s.ringCfgStored o r (v ||| 1) = u at kind domain ring quiet ⊢
  obtain ⟨own, cons, prod, seq, rest⟩ := enableRing_facts u r.isLt
  have settled : settle s (u.enableRing r) =
      { u.enableRing r with marks := keepMarks (orderMarks s (u.enableRing r)), pending := s.pending } :=
    settle_quiet s _ (by rw [enableRing_quiet]; exact quiet.1) (by rw [enableRing_quiet]; exact quiet.2)
  rw [settled]
  refine ⟨ring r ▸ own, cons, prod, seq, fun q other => (rest q other).trans (ring q), fun d queue found => ?_⟩
  exact enableRing_queue u ((startRing_queueOf u r.isLt).trans (queueOf_of_domain r.isLt (kind.trans queue) (domain.trans found)))

theorem drainEnd_completes (r : Fin 1024) (s : State) (sound : s.Sound) :
    Completes (.drainEnd r) s fun t =>
      (s.drained r = true → t.ring r = { s.ring r with state := .off, replays := [], eots := [] } ∧
        t = { s with rings := t.rings }) ∧
      (s.drained r = false → t = s) := by
  refine completes_of_effect rfl ?_
  dsimp only
  cases drained : s.drained r with
  | true =>
    rw [if_pos rfl, State.Sound.settle_eq (by exact sound) (by rfl) (by rfl)]
    exact ⟨fun _ => ⟨by rw [State.ring_setRing, if_pos rfl], rfl⟩, fun no => absurd no (by decide)⟩
  | false =>
    rw [if_neg (by decide), sound.settle_eq rfl rfl]
    exact ⟨fun no => absurd no (by decide), fun _ => rfl⟩

theorem disableRing_of_live {s : State} {r : Nat} (live : (s.ring r).state = .run ∨ (s.ring r).state = .wait) : s.disableRing r =
    ((s.letGo r).setRing r ((s.letGo r).ring r).draining).drainWrites r := by
  unfold State.disableRing
  rcases live with e | e
  · simp only [e, State.letGo, if_neg (show ¬RingState.run = .wait by decide)]
  · simp only [e, State.letGo, if_true]

theorem exporting_of_letGo {s : State} {r : Nat} (h : (s.letGo r).rcl.state = .exporting) : s.rcl.state = .exporting := by
  by_contra other
  have kept : s.abandon r = s.abandonRecords r := by
    unfold State.abandon State.exportLost
    simp only [abandonRecords_rcl, other, decide_false, Bool.false_and, Bool.false_eq_true, if_false]
  have same : (s.letGo r).rcl = s.rcl := by
    unfold State.letGo
    split
    · rw [dropHold_rcl, kept, abandonRecords_rcl]
    · rw [kept, abandonRecords_rcl]
  exact other (same ▸ h)

/-- A ring that ran or waited drains: what it writes still, it was to write before, and no response block. -/
theorem disableRing_drains {s : State} {r : Nat} (bound : r < 1024) (live : (s.ring r).state = .run ∨ (s.ring r).state = .wait)
    {P : PendingWrite → Prop} (allowed : s.rcl.state = .exporting → ∀ w, P w)
    (mine : ∀ w ∈ (s.ring r).writes, w.response = false → P w) : (s.disableRing r).Bare r True P := by
  rw [disableRing_of_live live]
  have abandoned : (s.abandon r).Bare r False fun w => w.response = false → P w := by
    refine State.Bare.exportLost (s := s.abandonRecords r) ⟨?_, fun e w _ => ?_⟩ bound r
    · rw [abandonRecords_ring]
      exact ⟨rfl, rfl, mine, False.elim⟩
    · exact allowed (abandonRecords_rcl s r ▸ e) w
  have gone : (s.letGo r).Bare r False fun w => w.response = false → P w :=
    .ite (abandoned.next (dropHold_rings _ r) (dropHold_rcl _ r)) abandoned
  obtain ⟨⟨records, bufs, writes, -⟩, exporting⟩ := gone
  refine State.Bare.drainWrites (s := (s.letGo r).setRing r ((s.letGo r).ring r).draining) ⟨?_, fun e w => ?_⟩ bound
  · rw [State.ring_setRing, if_pos rfl]
    refine ⟨records, bufs, fun w hw => ?_, fun _ => ⟨rfl, rfl, rfl⟩⟩
    obtain ⟨held, own⟩ := List.mem_filter.mp hw
    exact writes w held (by simpa using own)
  · exact allowed (exporting_of_letGo e) w

theorem ringDisable_completes (r : Fin 1024) (o : Origin) (v : Word) (s : State) (accepts : s.Accepts o ⟨.ringCfg, r.val, 0⟩ (clearEn v))
    (enabled : s.flag .ringCfg r 0 0 = true) :
    Completes (.ringDisable r o v) s fun t =>
      ((s.ring r).state = .run ∨ (s.ring r).state = .wait → (t.ring r).state = .drain ∧ (t.ring r).records = [] ∧
        (t.ring r).bufs = [] ∧ (t.ring r).replays = [] ∧ (t.ring r).eots = [] ∧
        (s.rcl.state ≠ .exporting → ∀ w ∈ (t.ring r).writes, w ∈ (s.ring r).writes ∧ w.response = false)) ∧
      ((s.ring r).state = .halt → (t.ring r).state = .off) := by
  refine completes_of_write rfl accepts ?_
  rw [accept_ringCfg, enabled, bitOf_clearEn, if_neg (by decide), if_neg (by decide)]
  generalize stored : s.ringCfgStored o r (clearEn v) = u
  have ring : u.ring r = s.ring r := by rw [← stored]; rfl
  have rcl : u.rcl = s.rcl := by rw [← stored]; rfl
  refine ⟨fun live => ?_, fun halted => ?_⟩
  · have bare := disableRing_drains (P := fun w => s.rcl.state ≠ .exporting → w ∈ (s.ring r).writes ∧ w.response = false)
      r.isLt (ring.symm ▸ live) (fun e w no => absurd (rcl ▸ e) no) (fun w hw own _ => ⟨ring ▸ hw, own⟩)
    obtain ⟨⟨records, bufs, writes, drains⟩, -⟩ := bare
    obtain ⟨state, replays, eots⟩ := drains trivial
    rw [settle_ring_of_stopped s ⟨by rw [state]; decide, by rw [state]; decide⟩]
    exact ⟨state, records, bufs, replays, eots, fun quiet w hw => writes w hw quiet⟩
  · have off : (u.disableRing r).ring r = { s.ring r with state := .off } := by
      unfold State.disableRing
      rw [ring]
      simp only [halted]
      rw [State.ring_setRing, if_pos rfl]
    rw [settle_ring_of_stopped s ⟨by rw [off]; exact RingState.noConfusion, by rw [off]; exact RingState.noConfusion⟩, off]

/-- Settles O30: a ring enabled holds nothing of what it held, and one disabled drains with what it has in execution alone. -/
theorem ringEnableAndDisable : Obligations.RingEnableAndDisable := by
  unfold Obligations.RingEnableAndDisable
  exact ⟨⟨ringEnable_completes, fun r o v s accepts enabled _ => ringDisable_completes r o v s accepts enabled⟩, drainEnd_completes⟩

end Sys2Proof.Machine
end

section
/-!
SUPPORT. The management queue and the coalescing times (R299, R301, R306, R307, R492). From these, O33.
-/
namespace Sys2Proof.Machine

/-! ### EN of the management queue -/

theorem queueOf_mqRing (s : State) : s.queueOf mqRing = some 16 := by simp [State.queueOf]

theorem bitOf_merge_evtMqCtl (old v : Word) : bitOf (RegName.evtMqCtl.row.merge old v) 0 = bitOf v 0 := by
  simp [bitOf_eq_getLsbD, RegRow.merge, RegName.row]

/-- An accepted write to EVT_MQ_CTL, marked and stored. -/
def State.mqCtlStored (s : State) (o : Origin) (v : Word) : State :=
  (s.writeMarked o ⟨.evtMqCtl, 0, 0⟩ v).setReg .evtMqCtl 0 0 (RegName.evtMqCtl.row.merge (s.reg .evtMqCtl) v)

theorem mqCtlStored_flag (s : State) (o : Origin) (v : Word) : (s.mqCtlStored o v).flag .evtMqCtl 0 0 0 = bitOf v 0 := by
  simp only [State.flag, State.mqCtlStored, State.reg_setReg_self, bitOf_merge_evtMqCtl]

theorem accept_evtMqCtl (s : State) (o : Origin) (v : Word) : s.accept o ⟨.evtMqCtl, 0, 0⟩ v {} =
    if s.flag .evtMqCtl 0 0 0 = bitOf v 0 then s.mqCtlStored o v
    else if bitOf v 0 then (s.mqCtlStored o v).enableMq else (s.mqCtlStored o v).disableMq := by
  have marked : RegAt.marked ⟨.evtMqCtl, 0, 0⟩ = true := by simp [RegAt.marked, RegName.row]
  rw [accept_of_acting s o v {} (by decide) (by decide), marked]
  rfl

/-- What becomes of the management queue's records: nothing else changes but the count of those lost. -/
theorem dropHold_mqRing (s : State) : s.dropHold mqRing = { s with queues := (s.dropHold mqRing).queues, regs := (s.dropHold mqRing).regs } ∧
    ((s.dropHold mqRing).queue 16).hold = [] ∧
    (s.dropHold mqRing).reg .evtLost 16 = satAdd (s.reg .evtLost 16) ((s.queue 16).hold.filter fun b => !ownBytes b).length ∧
    (s.dropHold mqRing).reg .evtMqCtl = s.reg .evtMqCtl := by
  by_cases empty : (s.queue 16).hold = []
  · rw [dropHold_of_empty (queueOf_mqRing s) empty]
    rw [show ((s.queue 16).hold.filter fun b => !ownBytes b).length = 0 by rw [empty]; rfl]
    exact ⟨rfl, empty, (satAdd_zero _).symm, rfl⟩
  · rw [dropHold_of_queueOf (queueOf_mqRing s) empty]
    exact ⟨rfl, by simp, State.reg_setReg_self _ _ _ _ _, State.reg_setReg_of_ne _ _ _ _ _ _ _ _ (by decide)⟩

theorem enableMq_of_none {s : State} (none : (s.dropHold mqRing).held = []) : s.enableMq =
    ((s.dropHold mqRing).setRing mqRing { state := .run, inc := ((s.dropHold mqRing).ring mqRing).inc + 1 }).freshQueue 16 := by
  unfold State.enableMq
  extract_lets s1 s2 s3 held
  have empty : held = [] := none
  rw [empty, List.foldl_nil, ← (empty : s3.held = [])]

/-- Enabled while no event is held for it, the management queue starts anew. -/
theorem enableMq_facts {s : State} (none : s.held = []) :
    s.enableMq = { s with rings := s.enableMq.rings, queues := s.enableMq.queues, regs := s.enableMq.regs } ∧
      s.enableMq.ring mqRing = { state := .run, inc := (s.ring mqRing).inc + 1 } ∧ s.enableMq.queue 16 = {} ∧
      s.enableMq.reg .evtSeq 16 = 0 ∧ s.enableMq.reg .evtMqCtl = s.reg .evtMqCtl := by
  obtain ⟨rest, -, -, ctl⟩ := dropHold_mqRing s
  have inc : (s.dropHold mqRing).ring mqRing = s.ring mqRing := ring_of_rings (dropHold_rings s mqRing) _
  have held : (s.dropHold mqRing).held = [] := by rw [rest]; exact none
  rw [enableMq_of_none held, inc]
  generalize s.dropHold mqRing = u at rest ctl ⊢
  refine ⟨by rw [rest]; rfl, ?_, ?_, State.reg_setReg_self _ _ _ _ _, ?_⟩
  · exact (State.ring_setRing u mqRing mqRing { state := .run, inc := (s.ring mqRing).inc + 1 }).trans (if_pos rfl)
  · exact (State.queue_setQueue (u.setRing mqRing { state := .run, inc := (s.ring mqRing).inc + 1 }) 16 16 {}).trans (if_pos rfl)
  · exact (State.reg_setReg_of_ne _ _ _ _ _ _ _ _ (by decide)).trans ctl

theorem mqEnable_completes (o : Origin) (v : Word) (s : State) (accepts : s.Accepts o ⟨.evtMqCtl, 0, 0⟩ (v ||| 1))
    (disabled : s.flag .evtMqCtl 0 0 0 = false) (none : s.held = []) (sound : s.Sound) :
    Completes (.mqEnable o v) s fun t => t.ring mqRing = { state := .run, inc := (s.ring mqRing).inc + 1 } ∧
      t.queue 16 = {} ∧ t.reg .evtSeq 16 = 0 ∧ t.flag .evtMqCtl 0 0 0 = true ∧ t.markSeq = s.markSeq + 1 := by
  refine completes_of_write rfl accepts ?_
  rw [accept_evtMqCtl, disabled, bitOf_or_one, if_neg (by decide), if_pos rfl]
  have flag := mqCtlStored_flag s o (v ||| 1)
  have quiet : (s.mqCtlStored o (v ||| 1)).raised = [] ∧
      (s.mqCtlStored o (v ||| 1)).service = (s.mqCtlStored o (v ||| 1)).serviceNow := ⟨sound.1, sound.2.2⟩
  have ring : (s.mqCtlStored o (v ||| 1)).ring mqRing = s.ring mqRing := rfl
  have seq : (s.mqCtlStored o (v ||| 1)).markSeq = s.markSeq + 1 := rfl
  have held : (s.mqCtlStored o (v ||| 1)).held = [] := none
  generalize s.mqCtlStored o (v ||| 1) = u at flag quiet ring seq held ⊢
  obtain ⟨rest, own, queue, number, ctl⟩ := enableMq_facts held
  rw [settle_quiet s u.enableMq (by rw [rest]; exact quiet.1) (by rw [rest]; exact quiet.2)]
  refine ⟨ring ▸ own, queue, number, ?_, ?_⟩
  · exact (congrArg (fun w => bitOf w 0) ctl).trans (flag.trans (bitOf_or_one v))
  · exact (congrArg State.markSeq rest).trans seq

/-- The management queue drains, and is OFF where it holds no record. -/
def State.mqDrain (s : State) : State := (s.setRing mqRing { s.ring mqRing with state := .drain }).mqDrained mqRing

theorem mqDrain_facts (s : State) : s.mqDrain = { s with rings := s.mqDrain.rings } ∧
    ((s.queue 16).hold = [] → s.mqDrain.ring mqRing = { inc := (s.ring mqRing).inc }) ∧
    ((s.queue 16).hold ≠ [] → (s.mqDrain.ring mqRing).state = .drain) := by
  have drains : (s.setRing mqRing { s.ring mqRing with state := .drain }).ring mqRing = { s.ring mqRing with state := .drain } := by
    rw [State.ring_setRing, if_pos rfl]
  have held : (s.setRing mqRing { s.ring mqRing with state := .drain }).queue 16 = s.queue 16 := rfl
  unfold State.mqDrain State.mqDrained
  rw [drains, held]
  refine ⟨by split <;> rfl, fun empty => ?_, fun some => ?_⟩
  · rw [if_pos (by simp [empty]), State.ring_setRing, if_pos rfl]
  · rw [if_neg (by simp [some]), drains]

/-- The management queue keeps the record in progress alone. -/
def State.mqTrim (s : State) : State :=
  let t := (s.setQueue 16 { s.queue 16 with hold := (s.queue 16).hold.drop 1 }).dropHold mqRing
  t.setQueue 16 { t.queue 16 with hold := (s.queue 16).hold.take 1 }

theorem mqTrim_facts (s : State) : s.mqTrim = { s with queues := s.mqTrim.queues, regs := s.mqTrim.regs } ∧
    (s.mqTrim.queue 16).hold = (s.queue 16).hold.take 1 ∧
    s.mqTrim.reg .evtLost 16 = satAdd (s.reg .evtLost 16) (((s.queue 16).hold.drop 1).filter fun b => !ownBytes b).length ∧
    s.mqTrim.reg .evtMqCtl = s.reg .evtMqCtl := by
  generalize begun : s.setQueue 16 { s.queue 16 with hold := (s.queue 16).hold.drop 1 } = u
  have hold : (u.queue 16).hold = (s.queue 16).hold.drop 1 := by rw [← begun, State.queue_setQueue, if_pos rfl]
  have same : u = { s with queues := u.queues } := by rw [← begun]; rfl
  have lost : u.reg .evtLost 16 = s.reg .evtLost 16 := by rw [← begun]; rfl
  have kept : u.reg .evtMqCtl = s.reg .evtMqCtl := by rw [← begun]; rfl
  obtain ⟨rest, -, count, ctl⟩ := dropHold_mqRing u
  rw [hold, lost] at count
  rw [kept] at ctl
  unfold State.mqTrim
  rw [begun]
  generalize u.dropHold mqRing = t at rest count ctl ⊢
  exact ⟨by rw [rest, same]; rfl, by simp, count, ctl⟩

theorem disableMq_of_stopped {s : State} (h : (s.ring mqRing).Stopped) :
    s.disableMq = (s.dropHold mqRing).setRing mqRing { inc := (s.ring mqRing).inc } := by
  obtain ⟨run, wait⟩ := h
  unfold State.disableMq
  dsimp only
  split
  next e => exact absurd e run
  next e => exact absurd e wait
  next => rfl

/-- What clearing EN of the management queue leaves. -/
theorem disableMq_facts (s : State) :
    s.disableMq = { s with rings := s.disableMq.rings, queues := s.disableMq.queues, regs := s.disableMq.regs } ∧
      s.disableMq.reg .evtMqCtl = s.reg .evtMqCtl ∧
      (((s.ring mqRing).state ≠ .run ∧ (s.ring mqRing).state ≠ .wait) ∨ (s.queue 16).hold = [] →
        s.disableMq.ring mqRing = { inc := (s.ring mqRing).inc } ∧ (s.disableMq.queue 16).hold = []) ∧
      ((s.ring mqRing).state = .run → (s.queue 16).hold ≠ [] →
        (s.disableMq.ring mqRing).state = .drain ∧ s.disableMq.queue 16 = s.queue 16) ∧
      ((s.ring mqRing).state = .wait → (s.queue 16).hold ≠ [] →
        (s.disableMq.ring mqRing).state = .drain ∧ (s.disableMq.queue 16).hold = (s.queue 16).hold.take 1 ∧
        s.disableMq.reg .evtLost 16 =
          satAdd (s.reg .evtLost 16) (((s.queue 16).hold.drop 1).filter fun b => !ownBytes b).length) := by
  have stopped : ∀ {st : RingState}, s.disableMq = (s.dropHold mqRing).setRing mqRing { inc := (s.ring mqRing).inc } → st ≠ .run ∧ st ≠ .wait →
      s.disableMq = { s with rings := s.disableMq.rings, queues := s.disableMq.queues, regs := s.disableMq.regs } ∧
      s.disableMq.reg .evtMqCtl = s.reg .evtMqCtl ∧
      ((st ≠ .run ∧ st ≠ .wait) ∨ (s.queue 16).hold = [] →
        s.disableMq.ring mqRing = { inc := (s.ring mqRing).inc } ∧ (s.disableMq.queue 16).hold = []) ∧
      (st = .run → (s.queue 16).hold ≠ [] →
        (s.disableMq.ring mqRing).state = .drain ∧ s.disableMq.queue 16 = s.queue 16) ∧
      (st = .wait → (s.queue 16).hold ≠ [] →
        (s.disableMq.ring mqRing).state = .drain ∧ (s.disableMq.queue 16).hold = (s.queue 16).hold.take 1 ∧
        s.disableMq.reg .evtLost 16 =
          satAdd (s.reg .evtLost 16) (((s.queue 16).hold.drop 1).filter fun b => !ownBytes b).length) := fun e h => by
    obtain ⟨rest, all, -, ctl⟩ := dropHold_mqRing s
    rw [e]
    generalize s.dropHold mqRing = u at rest all ctl ⊢
    exact ⟨by rw [rest]; rfl, ctl, fun _ => ⟨(State.ring_setRing u mqRing mqRing { inc := (s.ring mqRing).inc }).trans (if_pos rfl), all⟩,
      fun run => absurd run h.1, fun wait => absurd wait h.2⟩
  cases state : (s.ring mqRing).state with
  | run =>
    have drained : s.disableMq = s.mqDrain := by simp only [State.disableMq, state, State.mqDrain]
    obtain ⟨rest, empty, full⟩ := mqDrain_facts s
    rw [drained]
    generalize s.mqDrain = t at rest empty full ⊢
    have queue : t.queue 16 = s.queue 16 := by rw [rest]; rfl
    refine ⟨by rw [rest], by rw [rest]; rfl, fun none => ?_, fun _ some => ⟨full some, queue⟩, fun no => absurd no (by decide)⟩
    have hold : (s.queue 16).hold = [] := none.resolve_left fun no => no.1 rfl
    exact ⟨empty hold, queue ▸ hold⟩
  | wait =>
    obtain ⟨trimRest, hold, count, ctl⟩ := mqTrim_facts s
    have ring : s.mqTrim.ring mqRing = s.ring mqRing := by rw [trimRest]; rfl
    have drained : s.disableMq = s.mqTrim.mqDrain := by
      rw [State.mqDrain, ring]
      simp only [State.disableMq, state]
      rfl
    obtain ⟨rest, empty, full⟩ := mqDrain_facts s.mqTrim
    rw [drained]
    generalize s.mqTrim = u at trimRest hold count ctl ring rest empty full ⊢
    generalize u.mqDrain = t at rest empty full ⊢
    have queue : t.queue 16 = u.queue 16 := by rw [rest]; rfl
    rw [queue, hold]
    refine ⟨by rw [rest, trimRest], by rw [rest]; exact ctl, fun none => ?_, fun no => absurd no (by decide), fun _ some => ?_⟩
    · have none : (s.queue 16).hold = [] := none.resolve_left fun no => no.2 rfl
      rw [none] at hold ⊢
      exact ⟨ring ▸ empty hold, rfl⟩
    · refine ⟨full ?_, rfl, by rw [rest]; exact count⟩
      rw [hold]
      exact fun e => some (List.take_eq_nil_iff.mp e |>.resolve_left (by decide))
  | off => exact stopped (disableMq_of_stopped ⟨by rw [state]; decide, by rw [state]; decide⟩) ⟨by decide, by decide⟩
  | halt => exact stopped (disableMq_of_stopped ⟨by rw [state]; decide, by rw [state]; decide⟩) ⟨by decide, by decide⟩
  | drain => exact stopped (disableMq_of_stopped ⟨by rw [state]; decide, by rw [state]; decide⟩) ⟨by decide, by decide⟩

theorem mqDisable_completes (o : Origin) (v : Word) (s : State) (accepts : s.Accepts o ⟨.evtMqCtl, 0, 0⟩ (clearEn v))
    (enabled : s.flag .evtMqCtl 0 0 0 = true) (sound : s.Sound) :
    Completes (.mqDisable o v) s fun t => t.flag .evtMqCtl 0 0 0 = false ∧
      (((s.ring mqRing).state ≠ .run ∧ (s.ring mqRing).state ≠ .wait) ∨ (s.queue 16).hold = [] →
        t.ring mqRing = { inc := (s.ring mqRing).inc } ∧ (t.queue 16).hold = []) ∧
      ((s.ring mqRing).state = .run → (s.queue 16).hold ≠ [] →
        (t.ring mqRing).state = .drain ∧ t.queue 16 = s.queue 16) ∧
      ((s.ring mqRing).state = .wait → (s.queue 16).hold ≠ [] →
        (t.ring mqRing).state = .drain ∧ (t.queue 16).hold = (s.queue 16).hold.take 1 ∧
        t.reg .evtLost 16 =
          satAdd (s.reg .evtLost 16) (((s.queue 16).hold.drop 1).filter fun b => !ownBytes b).length) := by
  refine completes_of_write rfl accepts ?_
  rw [accept_evtMqCtl, enabled, bitOf_clearEn, if_neg (by decide), if_neg (by decide)]
  have flag := mqCtlStored_flag s o (clearEn v)
  have quiet : (s.mqCtlStored o (clearEn v)).raised = [] ∧
      (s.mqCtlStored o (clearEn v)).service = (s.mqCtlStored o (clearEn v)).serviceNow := ⟨sound.1, sound.2.2⟩
  have ring : (s.mqCtlStored o (clearEn v)).ring mqRing = s.ring mqRing := rfl
  have queue : (s.mqCtlStored o (clearEn v)).queue 16 = s.queue 16 := rfl
  have lost : (s.mqCtlStored o (clearEn v)).reg .evtLost 16 = s.reg .evtLost 16 :=
    State.reg_setReg_of_ne _ _ _ _ _ _ _ _ (by decide)
  generalize s.mqCtlStored o (clearEn v) = u at flag quiet ring queue lost ⊢
  obtain ⟨rest, ctl, facts⟩ := disableMq_facts u
  rw [settle_quiet s u.disableMq (by rw [rest]; exact quiet.1) (by rw [rest]; exact quiet.2)]
  rw [ring, queue, lost] at facts
  exact ⟨(congrArg (fun w => bitOf w 0) ctl).trans (flag.trans (bitOf_clearEn v)), facts⟩

/-! ### Coalescing -/

/-- Whether the end of its coalescing time makes queue q send its message. -/
def State.coalesces (s : State) (q : Nat) : Bool :=
  (s.queue q).timer && s.flag .evtMsi q 0 11 && s.field .evtCoal q 0 0 16 ≠ 0 && !s.power.d3hot

theorem exec_coalescingTimeout (q : Fin 17) (s : State) : exec (.coalescingTimeout q) s = effect (fun s =>
    if s.coalesces q then (s.setQueue q { s.queue q with sinceMsg := 0, timer := false }).sendMsix (s.field .evtMsi q 0 0 11) else s) s := rfl

/-- A message goes out, or its pending bit is set while its vector is masked. -/
theorem sendMsix_facts (s : State) (v : Nat) : s.sendMsix v = { s with regs := (s.sendMsix v).regs, out := (s.sendMsix v).out } ∧
    (s.flag .msixTable v 3 0 = false → (s.sendMsix v).out = .msix v :: s.out) ∧
    (s.flag .msixTable v 3 0 = true → (s.sendMsix v).flag .msixPba (v / 32) 0 (v % 32) = true ∧ (s.sendMsix v).out = s.out) := by
  unfold State.sendMsix
  cases masked : s.flag .msixTable v 3 0 with
  | false => exact ⟨rfl, fun _ => rfl, fun no => absurd no (by decide)⟩
  | true =>
    refine ⟨rfl, fun no => absurd no (by decide), fun _ => ⟨?_, rfl⟩⟩
    rw [if_pos rfl, State.flag, State.reg_setReg_self, bitOf_eq_getLsbD, BitVec.getLsbD_or, BitVec.getLsbD_ofNat]
    have small : v % 32 < 32 := Nat.mod_lt _ (by decide)
    simp [small]

theorem coalescingTimeout_completes (q : Fin 17) (s : State) (sound : s.Sound) : Completes (.coalescingTimeout q) s fun t =>
    ((s.queue q).timer = false ∨ s.flag .evtMsi q 0 11 = false ∨ s.field .evtCoal q 0 0 16 = 0 ∨
      s.power.d3hot = true → t = s) ∧
    ((s.queue q).timer = true → s.flag .evtMsi q 0 11 = true → s.field .evtCoal q 0 0 16 ≠ 0 → s.power.d3hot = false →
      t.queue q = { s.queue q with sinceMsg := 0, timer := false } ∧
      (s.flag .msixTable (s.field .evtMsi q 0 0 11) 3 0 = false → t.out = .msix (s.field .evtMsi q 0 0 11) :: s.out) ∧
      (s.flag .msixTable (s.field .evtMsi q 0 0 11) 3 0 = true →
        t.flag .msixPba (s.field .evtMsi q 0 0 11 / 32) 0 (s.field .evtMsi q 0 0 11 % 32) = true ∧ t.out = s.out) ∧
      t = { s with queues := t.queues, regs := t.regs, out := t.out }) := by
  refine completes_of_effect (exec_coalescingTimeout q s) ?_
  dsimp only
  cases due : s.coalesces q with
  | false =>
    rw [if_neg (by decide), sound.settle_eq rfl rfl]
    refine ⟨fun _ => rfl, fun timer flag time up => ?_⟩
    simp [State.coalesces, timer, flag, time, up] at due
  | true =>
    simp only [State.coalesces, Bool.and_eq_true, decide_eq_true_eq, Bool.not_eq_true'] at due
    obtain ⟨⟨⟨timer, flag⟩, time⟩, up⟩ := due
    rw [if_pos rfl]
    have sent := sendMsix_facts (s.setQueue q { s.queue q with sinceMsg := 0, timer := false }) (s.field .evtMsi q 0 0 11)
    generalize (s.setQueue q { s.queue q with sinceMsg := 0, timer := false }).sendMsix (s.field .evtMsi q 0 0 11) = t at sent ⊢
    obtain ⟨rest, open', masked⟩ := sent
    have quiet : t.Sound := by rw [rest]; exact sound
    rw [quiet.settle_eq (by rw [rest]; rfl) (by rw [rest]; rfl)]
    refine ⟨fun no => ?_, fun _ _ _ _ => ⟨?_, open', masked, ?_⟩⟩
    · simp [timer, flag, time, up] at no
    · rw [rest]
      exact (State.queue_setQueue s q q _).trans (if_pos rfl)
    · rw [rest]
      rfl

/-- Settles O33: each command leaves the events and the service flags alone, so that its own changes are all that it shows. -/
theorem eventQueueSignals : Obligations.EventQueueSignals := by
  unfold Obligations.EventQueueSignals
  exact ⟨⟨mqEnable_completes, mqDisable_completes⟩, coalescingTimeout_completes⟩

end Sys2Proof.Machine
end

section
/-!
SUPPORT. The translation cache (R272 to R274, R280, R295): what an invalidation, a flush and a completed translation leave of it and of
the lookups. From these, O34.
-/
namespace Sys2Proof.Machine

/-! ### Invalidation and flush -/

/-- An invalidation takes what it names from the cache, and waits to be answered. -/
def State.invalidated (s : State) (tag : Fin 32) (pv : Bool) (pasid : BitVec 20) (addr : BitVec 64) (size : Nat) : State :=
  { s.bump .xlatInv with
    xcache := s.xcache.filter fun e => !e.overlaps pv pasid addr.toNat size
    invals := s.invals ++ [Invalidation.mk tag.val pv pasid addr.toNat size] }

theorem exec_invalidateRequest (tag : Fin 32) (pv : Bool) (pasid : BitVec 20) (addr : BitVec 64) (size : Nat) (s : State) :
    exec (.invalidateRequest tag pv pasid addr size) s = effect (fun s => s.invalidated tag pv pasid addr size) s := rfl

theorem exec_invalidateCompletion (tag : Fin 32) (s : State) : exec (.invalidateCompletion tag) s = effect (fun s =>
    match s.invals.find? fun v => v.opTag = tag.val with
    | some v => if s.power.d3hot then s else { s with invals := s.invals.erase v }.emit (.invalidateDone tag.val)
    | none => s) s := rfl

theorem invalidateRequest_completes (tag : Fin 32) (pv : Bool) (pasid : BitVec 20) (addr : BitVec 64) (size : Nat) (s : State) (sound : s.Sound) :
    Completes (.invalidateRequest tag pv pasid addr size) s fun t =>
      t.xcache = s.xcache.filter (fun e => !e.overlaps pv pasid addr.toNat size) ∧
      t.invals = s.invals ++ [⟨tag, pv, pasid, addr.toNat, size⟩] ∧ t.reg .xlatInv = satAdd (s.reg .xlatInv) 1 ∧
      t = { s with xcache := t.xcache, invals := t.invals, regs := t.regs } :=
  ⟨_, (exec_invalidateRequest tag pv pasid addr size s).trans
      (effect_of_sound (t := s.invalidated tag pv pasid addr size) rfl (by exact sound) rfl rfl), rfl, rfl, State.reg_setReg_self _ _ _ _ _, rfl⟩

theorem invalidateCompletion_completes (tag : Fin 32) (s : State) (sound : s.Sound) :
    Completes (.invalidateCompletion tag) s fun t =>
      (∀ v, s.power.d3hot = false → (s.invals.find? fun v => v.opTag = tag.val) = some v →
        t = { s with invals := s.invals.erase v, out := Emission.invalidateDone tag :: s.out }) ∧
      (s.power.d3hot = true ∨ (s.invals.find? fun v => v.opTag = tag.val) = none → t = s) := by
  refine completes_of_effect (exec_invalidateCompletion tag s) ?_
  cases found : s.invals.find? fun v => v.opTag = tag.val with
  | none => exact ⟨fun _ _ no => absurd no (by simp), fun _ => sound.settle_eq rfl rfl⟩
  | some v =>
    dsimp only
    cases off : s.power.d3hot with
    | true =>
      rw [if_pos rfl]
      exact ⟨fun _ no => absurd no (by decide), fun _ => sound.settle_eq rfl rfl⟩
    | false =>
      rw [if_neg (by decide)]
      refine ⟨fun w _ same => ?_, fun no => absurd no (by simp)⟩
      cases same
      exact State.Sound.settle_eq (by exact sound) (by rfl) (by rfl)

theorem bitOf_or_two (v : Word) : bitOf (v ||| 2) 1 = true := by
  simp [bitOf_eq_getLsbD]

theorem accept_xlatCfg (s : State) (o : Origin) {v : Word} (h : bitOf v 1 = true) : s.accept o ⟨.xlatCfg, 0, 0⟩ v {} =
    ((s.writeMarked o ⟨.xlatCfg, 0, 0⟩ v).setReg .xlatCfg 0 0 (RegName.xlatCfg.row.merge (s.reg .xlatCfg) v)).flushCache := by
  have marked : RegAt.marked ⟨.xlatCfg, 0, 0⟩ = true := by simp [RegAt.marked, RegName.row]
  rw [accept_of_acting s o v {} (by decide) (by decide), marked]
  exact if_pos h

theorem flush_completes (o : Origin) (v : Word) (s : State) (sound : s.Sound) (accepts : s.Accepts o ⟨.xlatCfg, 0, 0⟩ (v ||| 2)) :
    Completes (.flush o v) s fun t => t.xcache = [] ∧
      t = { s with xcache := [], regs := t.regs, marks := t.marks, markSeq := t.markSeq } := by
  refine completes_of_write rfl accepts ?_
  rw [accept_xlatCfg s o (bitOf_or_two v), settle_quiet s _ (by exact sound.1) (by exact sound.2.2)]
  exact ⟨rfl, rfl⟩

/-! ### Completed translations -/

/-- Whether a completion that translates [addr, addr + size) answers a lookup. -/
def PageReq.answered (pv : Bool) (pasid : BitVec 20) (addr : BitVec 64) (size : Nat) (q : PageReq) : Bool :=
  q.pv = pv && q.pasid = pasid && decide (addr.toNat / 4096 ≤ q.page) && decide (q.page < addr.toNat / 4096 + max 1 (size / 4096))

/-- The cache takes the entry of one lookup. -/
def State.cacheFill (s : State) (pv : Bool) (pasid : BitVec 20) (addr : BitVec 64) (size : Nat) (taddr : BitVec 64) (rd wr : Bool) (q : PageReq) :
    State :=
  let e := entryOf pv pasid q.page (addr.toNat / 4096 * 4096) (max 4096 size) taddr.toNat rd wr
  { s with xcache := cacheInsert (s.xcache.filter fun x => !x.holds pv pasid q.page) e }.bump .xlatMiss

theorem exec_atsCompletion (pv : Bool) (pasid : BitVec 20) (addr : BitVec 64) (size : Nat) (taddr : BitVec 64) (rd wr : Bool) (s : State) :
    exec (.atsCompletion pv pasid addr size taddr rd wr) s = effect (fun s =>
      let qs := s.lookups.filter (PageReq.answered pv pasid addr size)
      let s := { s with lookups := s.lookups.filter fun q => !PageReq.answered pv pasid addr size q }
      if !s.atsOn then s
      else
        let s := if rd || wr then qs.foldl (fun s q => s.cacheFill pv pasid addr size taddr rd wr q) s else s
        qs.foldl (fun s q => s.answerLookup q (if q.write then wr else rd)) s) s := rfl

theorem atsCompletion_other (pv : Bool) (pasid : BitVec 20) (addr : BitVec 64) (size : Nat) (taddr : BitVec 64) (rd wr : Bool) (s : State)
    (sound : s.Sound) : Completes (.atsCompletion pv pasid addr size taddr rd wr) s fun t =>
      (s.atsOn = false → t = { s with lookups := t.lookups } ∧ ∀ q ∈ t.lookups, q ∈ s.lookups) ∧
      ((s.lookups.all fun q => q.pv ≠ pv || q.pasid ≠ pasid) = true → t = s) := by
  refine completes_of_effect (exec_atsCompletion pv pasid addr size taddr rd wr s) ?_
  dsimp only
  refine ⟨fun off => ?_, fun others => ?_⟩
  · rw [if_pos (by simp [off]), State.Sound.settle_eq (by exact sound) (by rfl) (by rfl)]
    exact ⟨rfl, fun q hq => List.mem_of_mem_filter hq⟩
  · have foreign : ∀ q ∈ s.lookups, PageReq.answered pv pasid addr size q = false := fun q hq => by
      have differs := List.all_eq_true.mp others q hq
      simp only [ne_eq, decide_not, Bool.or_eq_true, Bool.not_eq_true', decide_eq_false_iff_not] at differs
      rcases differs with e | e <;> simp [PageReq.answered, e]
    have none : s.lookups.filter (PageReq.answered pv pasid addr size) = [] :=
      List.filter_eq_nil_iff.mpr fun q hq => by simp [foreign q hq]
    have all : (s.lookups.filter fun q => !PageReq.answered pv pasid addr size q) = s.lookups :=
      List.filter_eq_self.mpr fun q hq => by simp [foreign q hq]
    rw [none, all]
    simp only [List.foldl_nil, ite_self]
    exact sound.settle_eq rfl rfl

/-- The one lookup outstanding is answered, and the cache has taken its page. -/
theorem atsCompletion_one {pv : Bool} {pasid : BitVec 20} {addr : BitVec 64} {size : Nat} (taddr : BitVec 64) {rd wr : Bool} {s : State} {q : PageReq}
    (one : s.lookups = [q]) (mine : q.answered pv pasid addr size = true) (on : s.atsOn = true) (granted : rd = true ∨ wr = true) :
    exec (.atsCompletion pv pasid addr size taddr rd wr) s = effect (fun s =>
      ({ s with lookups := [] }.cacheFill pv pasid addr size taddr rd wr q).answerLookup q (if q.write then wr else rd)) s := by
  have some : (rd || wr) = true := by simpa using granted
  rw [exec_atsCompletion, effect, effect]
  dsimp only
  rw [one, List.filter_cons_of_pos mine, List.filter_cons_of_neg (by simp [mine]), on, some]
  rfl

theorem answered_small {q : PageReq} (bound : q.page < 2 ^ 52) : (BitVec.ofNat 64 (q.page * 4096)).toNat / 4096 = q.page := by
  rw [BitVec.toNat_ofNat]
  omega

theorem answered_large {q : PageReq} (bound : q.page < 2 ^ 52) :
    (BitVec.ofNat 64 (q.page / 512 * 2097152)).toNat / 4096 = q.page / 512 * 512 := by
  rw [BitVec.toNat_ofNat]
  omega

/-- What the cache holds of the page, once filled. -/
theorem cacheFill_facts (s : State) (q : PageReq) (taddr : BitVec 64) (rd wr : Bool) {addr : BitVec 64} {size : Nat}
    {big : Bool} (form : (big = false ∧ size = 4096 ∧ addr.toNat / 4096 = q.page) ∨
      (big = true ∧ size = 2097152 ∧ addr.toNat / 4096 = q.page / 512 * 512)) :
    let t := s.cacheFill q.pv q.pasid addr size taddr rd wr q
    t.reg .xlatMiss = satAdd (s.reg .xlatMiss) 1 ∧
      ∃ e, t.xcache.head? = some e ∧ e.holds q.pv q.pasid q.page = true ∧ e.big = big ∧ e.target = taddr.toNat / 4096 ∧ e.rd = rd ∧ e.wr = wr := by
  refine ⟨State.reg_setReg_self _ _ _ _ _, entryOf q.pv q.pasid q.page (addr.toNat / 4096 * 4096) (max 4096 size) taddr.toNat rd wr, rfl, ?_⟩
  rcases form with ⟨rfl, rfl, page⟩ | ⟨rfl, rfl, page⟩
  · rw [page]
    simp [entryOf, XEntry.holds]
  · rw [page]
    simp [entryOf, XEntry.holds]

theorem answerLookup_of_no_rings (s : State) {q : PageReq} (none : q.rings = []) (ok : Bool) : s.answerLookup q ok = s := by
  simp only [State.answerLookup, none, List.filter_nil, List.foldl_nil]

/-- A completed translation that no ring waits for. -/
theorem atsCompletion_fills {q : PageReq} (taddr : BitVec 64) {rd wr : Bool} {s : State} (one : s.lookups = [q]) (none : q.rings = [])
    (sound : s.Sound) (on : s.atsOn = true) (granted : rd = true ∨ wr = true) {addr : BitVec 64} {size : Nat} {big : Bool}
    (form : (big = false ∧ size = 4096 ∧ addr.toNat / 4096 = q.page) ∨
      (big = true ∧ size = 2097152 ∧ addr.toNat / 4096 = q.page / 512 * 512)) :
    Completes (.atsCompletion q.pv q.pasid addr size taddr rd wr) s fun t =>
      t.lookups = [] ∧ t.reg .xlatMiss = satAdd (s.reg .xlatMiss) 1 ∧
      ∃ e, t.xcache.head? = some e ∧ e.holds q.pv q.pasid q.page = true ∧ e.big = big ∧
        e.target = taddr.toNat / 4096 ∧ e.rd = rd ∧ e.wr = wr := by
  have mine : q.answered q.pv q.pasid addr size = true := by
    simp only [PageReq.answered, Bool.and_eq_true, decide_eq_true_eq]
    rcases form with ⟨-, rfl, page⟩ | ⟨-, rfl, page⟩
    · rw [page]
      exact ⟨⟨⟨trivial, trivial⟩, le_refl _⟩, by omega⟩
    · rw [page]
      exact ⟨⟨⟨trivial, trivial⟩, by omega⟩, by omega⟩
  refine completes_of_effect (atsCompletion_one taddr one mine on granted) ?_
  have facts := cacheFill_facts { s with lookups := [] } q taddr rd wr form
  rw [answerLookup_of_no_rings _ none, State.Sound.settle_eq (by exact sound) (by rfl) (by rfl)]
  exact ⟨rfl, facts⟩

theorem drainWrites_of_idle {s : State} {r : Nat} (idle : (s.ring r).writes = []) (alive : (s.ring r).halting = none) :
    s.drainWrites r = if (s.ring r).mayWrite then s.setRing r { s.ring r with writes := [] } else s := by
  unfold State.drainWrites State.flushWrites
  dsimp only
  rw [idle]
  unfold State.flushWith
  dsimp only
  rw [alive]

theorem goOn_of_producer {s : State} {r : Nat} (none : (s.drainWrites r).queueOf r = none) : s.goOn r = s.drainWrites r := by
  unfold State.goOn
  simp only [none]

/-- A ring with nothing to write goes on as it is. -/
theorem goOn_of_idle {s : State} {r : Fin 1024} (kind : s.kind r ≠ 3) (idle : (s.ring r).writes = []) (alive : (s.ring r).halting = none) :
    s.goOn r = { s with rings := (s.goOn r).rings } ∧ ((s.goOn r).ring r).state = (s.ring r).state ∧
      ((s.goOn r).ring r).waits = (s.ring r).waits := by
  have drained := drainWrites_of_idle idle alive
  cases may : (s.ring r).mayWrite with
  | true =>
    rw [may, if_pos rfl] at drained
    rw [goOn_of_producer (by rw [drained]; exact queueOf_of_kind r.isLt kind), drained]
    exact ⟨rfl, by rw [State.ring_setRing, if_pos rfl], by rw [State.ring_setRing, if_pos rfl]⟩
  | false =>
    rw [may, if_neg (by decide)] at drained
    rw [goOn_of_producer (by rw [drained]; exact queueOf_of_kind r.isLt kind), drained]
    exact ⟨rfl, rfl, rfl⟩

/-- A ring that ran out of pages to wait for. -/
def Ring.found (x : Ring) (page : Nat) : Ring :=
  { x with waits := [], faults := x.faults.filter (·.1 ≠ page), state := .run, preempted := false }

/-- A ring whose one page is translated goes on. -/
theorem granted_runs {s : State} {q : PageReq} {r : Fin 1024} {w : PageWait} (kind : s.kind r ≠ 3)
    (waits : (s.ring r).state = .wait) (free : (s.ring r).preempted = false) (idle : (s.ring r).writes = []) (alive : (s.ring r).halting = none)
    (one : (s.ring r).waits = [w]) (page : w.page = q.page) (write : w.write = q.write) :
    s.granted r q.page q.write = { s with rings := (s.granted r q.page q.write).rings } ∧
      ((s.granted r q.page q.write).ring r).state = .run ∧ ((s.granted r q.page q.write).ring r).waits = [] := by
  have ends : s.granted r q.page q.write = (s.setRing r ((s.ring r).found q.page)).goOn r := by
    unfold State.granted
    simp only [one, page, write, waits, free, List.filter_cons, decide_true, Bool.and_self, Bool.not_true, Bool.false_eq_true, if_false,
      List.filter_nil, List.isEmpty_nil, Bool.not_false, if_true]
    rfl
  have same : (s.setRing r ((s.ring r).found q.page)).ring r = (s.ring r).found q.page := by rw [State.ring_setRing, if_pos rfl]
  obtain ⟨rest, run, clear⟩ := goOn_of_idle (s := s.setRing r ((s.ring r).found q.page)) kind (by rw [same]; exact idle) (by rw [same]; exact alive)
  rw [same] at run clear
  rw [ends]
  exact ⟨rest, run, clear⟩

theorem atsCompletion_resumes (q : PageReq) (r : Fin 1024) (w : PageWait) (taddr : BitVec 64) (rd wr : Bool) (s : State) (one : s.lookups = [q])
    (ring : q.rings = [r.val]) (sound : s.Sound) (bound : q.page < 2 ^ 52) (on : s.atsOn = true) (granted : (if q.write then wr else rd) = true)
    (kind : s.kind r ≠ 3) (waits : (s.ring r).state = .wait) (free : (s.ring r).preempted = false) (idle : (s.ring r).writes = [])
    (alive : (s.ring r).halting = none) (single : (s.ring r).waits = [w]) (page : w.page = q.page) (write : w.write = q.write) :
    Completes (.atsCompletion q.pv q.pasid (BitVec.ofNat 64 (q.page * 4096)) 4096 taddr rd wr) s fun t =>
      (t.ring r).state = .run ∧ (t.ring r).waits = [] ∧ t.lookups = [] := by
  have mine : q.answered q.pv q.pasid (BitVec.ofNat 64 (q.page * 4096)) 4096 = true := by
    simp only [PageReq.answered, Bool.and_eq_true, decide_eq_true_eq, answered_small bound]
    exact ⟨⟨⟨trivial, trivial⟩, le_refl _⟩, by omega⟩
  have some : rd = true ∨ wr = true := by
    split at granted
    · exact .inr granted
    · exact .inl granted
  refine completes_of_effect (atsCompletion_one taddr one mine on some) ?_
  rw [granted]
  have other : (State.cacheFill { s with lookups := [] } q.pv q.pasid (BitVec.ofNat 64 (q.page * 4096)) 4096 taddr rd wr q).kind r = s.kind r := by
    have cfg : (State.cacheFill { s with lookups := [] } q.pv q.pasid (BitVec.ofNat 64 (q.page * 4096)) 4096 taddr rd wr q).reg .ringCfg r =
      s.reg .ringCfg r := reg_setReg_of_name (by decide) r.isLt _ _ (by decide) (by decide) (by decide)
    simp only [State.kind, State.field, cfg]
  have same : (State.cacheFill { s with lookups := [] } q.pv q.pasid (BitVec.ofNat 64 (q.page * 4096)) 4096 taddr rd wr q).ring r = s.ring r := rfl
  have none : (State.cacheFill { s with lookups := [] } q.pv q.pasid (BitVec.ofNat 64 (q.page * 4096)) 4096 taddr rd wr q).lookups = [] := rfl
  have quiet : (State.cacheFill { s with lookups := [] } q.pv q.pasid (BitVec.ofNat 64 (q.page * 4096)) 4096 taddr rd wr q).Sound := sound
  have seq : (State.cacheFill { s with lookups := [] } q.pv q.pasid (BitVec.ofNat 64 (q.page * 4096)) 4096 taddr rd wr q).markSeq = s.markSeq := rfl
  have pending : (State.cacheFill { s with lookups := [] } q.pv q.pasid (BitVec.ofNat 64 (q.page * 4096)) 4096 taddr rd wr q).pending = s.pending := rfl
  generalize State.cacheFill { s with lookups := [] } q.pv q.pasid (BitVec.ofNat 64 (q.page * 4096)) 4096 taddr rd wr q = u
    at other same none quiet seq pending ⊢
  rw [← same] at waits free idle alive single
  obtain ⟨rest, run, clear⟩ := granted_runs (other ▸ kind) waits free idle alive single page write
  have lives : u.ringLives r = true := by simp [State.ringLives, waits]
  have answered : u.answerLookup q true = u.granted r q.page q.write := by
    simp only [State.answerLookup, ring, List.filter_cons, lives, if_true, List.filter_nil, List.foldl_cons, List.foldl_nil]
  rw [answered]
  generalize u.granted r q.page q.write = t at rest run clear ⊢
  have quiet : t.Sound := by rw [rest]; exact quiet
  rw [quiet.settle_eq (by rw [rest]; exact seq) (by rw [rest]; exact pending)]
  exact ⟨run, clear, by rw [rest]; exact none⟩

/-- Settles O34: no event is raised and no service flag changes, so that each command ends as its own effect leaves the cache. -/
theorem translationCache : Obligations.TranslationCache := by
  unfold Obligations.TranslationCache
  refine ⟨⟨invalidateRequest_completes, invalidateCompletion_completes, flush_completes⟩, atsCompletion_other,
    fun q taddr rd wr s one none sound bound on granted => ⟨?_, ?_⟩, atsCompletion_resumes⟩
  · exact atsCompletion_fills taddr one none sound on granted (.inl ⟨rfl, rfl, answered_small bound⟩)
  · exact atsCompletion_fills taddr one none sound on granted (.inr ⟨rfl, rfl, answered_large bound⟩)

end Sys2Proof.Machine
end

section
/-!
SUPPORT. What a halt, and the end of an export with it, spares: another ring, its status, and the waits of every ring (R242, R253,
R453). From these what completions with errors do (O32).
-/
namespace Sys2Proof.Machine

/-! ### Fields and stores -/

theorem bitsOf_setBits (v : Word) {lo n : Nat} (x : Nat) (inside : lo + n ≤ 32) : bitsOf (setBits v lo n x) lo n = x % 2 ^ n := by
  obtain ⟨k, hk⟩ := Nat.exists_eq_add_of_le inside
  have size : 2 ^ k * (2 ^ n * 2 ^ lo) = 2 ^ 32 := by rw [hk, pow_add, pow_add]; ring
  have bound := v.isLt
  have posL : 0 < 2 ^ lo := Nat.two_pow_pos lo
  have posN : 0 < 2 ^ n := Nat.two_pow_pos n
  have parts : v.toNat = v.toNat / 2 ^ lo / 2 ^ n * (2 ^ n * 2 ^ lo) + bitsOf v lo n * 2 ^ lo + v.toNat % 2 ^ lo := by
    have low := Nat.div_add_mod v.toNat (2 ^ lo)
    have high := Nat.div_add_mod (v.toNat / 2 ^ lo) (2 ^ n)
    calc v.toNat = 2 ^ lo * (2 ^ n * (v.toNat / 2 ^ lo / 2 ^ n) + v.toNat / 2 ^ lo % 2 ^ n) + v.toNat % 2 ^ lo := by rw [high, low]
      _ = _ := by rw [bitsOf]; ring
  have few : v.toNat / 2 ^ lo / 2 ^ n < 2 ^ k := by
    rw [Nat.div_div_eq_div_mul, Nat.div_lt_iff_lt_mul (Nat.mul_pos posL posN), Nat.mul_comm (2 ^ lo), size]
    exact bound
  have small : x % 2 ^ n < 2 ^ n := Nat.mod_lt _ posN
  have rest : v.toNat % 2 ^ lo < 2 ^ lo := Nat.mod_lt _ posL
  have value : v.toNat - bitsOf v lo n * 2 ^ lo + x % 2 ^ n * 2 ^ lo =
      (v.toNat / 2 ^ lo / 2 ^ n * 2 ^ n + x % 2 ^ n) * 2 ^ lo + v.toNat % 2 ^ lo := by
    have q : v.toNat / 2 ^ lo / 2 ^ n * (2 ^ n * 2 ^ lo) = v.toNat / 2 ^ lo / 2 ^ n * 2 ^ n * 2 ^ lo := (Nat.mul_assoc ..).symm
    rw [add_mul]
    omega
  have fits : (v.toNat / 2 ^ lo / 2 ^ n * 2 ^ n + x % 2 ^ n) * 2 ^ lo + v.toNat % 2 ^ lo < 2 ^ 32 := by
    calc _ < ((v.toNat / 2 ^ lo / 2 ^ n * 2 ^ n + x % 2 ^ n) + 1) * 2 ^ lo := by rw [Nat.succ_mul]; omega
      _ ≤ ((v.toNat / 2 ^ lo / 2 ^ n + 1) * 2 ^ n) * 2 ^ lo := Nat.mul_le_mul_right _ (by rw [Nat.succ_mul]; omega)
      _ ≤ (2 ^ k * 2 ^ n) * 2 ^ lo := Nat.mul_le_mul_right _ (Nat.mul_le_mul_right _ few)
      _ = 2 ^ 32 := by rw [Nat.mul_assoc, size]
  rw [setBits, value, bitsOf, BitVec.toNat_ofNat, Nat.mod_eq_of_lt fits, Nat.mul_comm _ (2 ^ lo), Nat.mul_add_div posL,
    Nat.div_eq_of_lt rest, Nat.add_zero, Nat.mul_comm _ (2 ^ n), Nat.mul_add_mod, Nat.mod_mod]

theorem Store.mem_of_get_ne {α : Type} {d : α} {m : Store α} {k : Nat} (h : Store.get d m k ≠ d) : (k, Store.get d m k) ∈ m := by
  induction m with
  | nil => exact absurd rfl h
  | cons e m ih =>
    obtain ⟨j, v⟩ := e
    simp only [Store.get] at h ⊢
    split
    next same =>
      subst same
      exact List.mem_cons_self ..
    next other =>
      rw [if_neg other] at h
      exact List.mem_cons_of_mem _ (ih h)

theorem Store.mem_put {α : Type} [DecidableEq α] {d : α} {m : Store α} {k : Nat} {v : α} {e : Nat × α} (h : e ∈ Store.put d m k v) :
    e = (k, v) ∨ e ∈ m := by
  unfold Store.put at h
  split at h
  · exact .inr (Store.mem_erase h)
  · exact Store.mem_insert h

/-! ### What is spared -/

/-- No ring waits for a place of a page request. -/
def State.NoPlaces (s : State) : Prop := ∀ e ∈ s.rings, ∀ w ∈ e.2.waits, w.place = false

theorem State.NoPlaces.ring {s : State} (h : s.NoPlaces) (i : Nat) : ∀ w ∈ (s.ring i).waits, w.place = false := by
  intro w hw
  by_cases none : s.ring i = {}
  · rw [none] at hw
    exact absurd hw List.not_mem_nil
  · exact h _ (Store.mem_of_get_ne none) w hw

theorem State.NoPlaces.setRing {s : State} (h : s.NoPlaces) (i : Nat) {x : Ring} (g : ∀ w ∈ x.waits, w.place = false) :
    (s.setRing i x).NoPlaces := fun e he => by
  rcases Store.mem_put he with rfl | old
  · exact g
  · exact h e old

/-- CFG and STATUS of ring r, and XLAT_FAIL. -/
def sparedReg (r off : Nat) : Prop := off = RegName.ringCfg.off r ∨ off = RegName.ringStatus.off r ∨ off = RegName.xlatFail.off

/-- Ring r with its status is as it was, and what else the end of a page request shows. -/
structure State.Spares (r : Nat) (s t : State) : Prop where
  ring : t.ring r = s.ring r
  regs : ∀ (d : Word) (off : Nat), sparedReg r off → Store.get d t.regs off = Store.get d s.regs off
  out : ∃ l, t.out = l ++ s.out
  places : s.NoPlaces → t.NoPlaces

namespace State.Spares

variable {r : Nat} {s t u : State}

theorem cfg (h : s.Spares r t) : t.reg .ringCfg r = s.reg .ringCfg r := h.regs _ _ (.inl rfl)

theorem status (h : s.Spares r t) : t.reg .ringStatus r = s.reg .ringStatus r := h.regs _ _ (.inr (.inl rfl))

theorem fail (h : s.Spares r t) : t.reg .xlatFail = s.reg .xlatFail := h.regs _ _ (.inr (.inr rfl))

theorem refl (r : Nat) (s : State) : s.Spares r s := ⟨rfl, fun _ _ _ => rfl, ⟨[], rfl⟩, id⟩

theorem trans (h : s.Spares r t) (g : t.Spares r u) : s.Spares r u := by
  obtain ⟨a, ha⟩ := h.out
  obtain ⟨b, hb⟩ := g.out
  exact ⟨g.ring.trans h.ring, fun d off own => (g.regs d off own).trans (h.regs d off own), ⟨b ++ a, by rw [hb, ha, List.append_assoc]⟩, g.places ∘ h.places⟩

theorem ite {c : Prop} [Decidable c] (h : s.Spares r t) (g : s.Spares r u) : s.Spares r (if c then t else u) := by
  split
  · exact h
  · exact g

/-- What leaves rings, registers and the log of what was sent alone. -/
theorem next (h : s.Spares r t) (rings : u.rings = t.rings) (regs : u.regs = t.regs) (out : u.out = t.out) : s.Spares r u := by
  refine h.trans ⟨ring_of_rings rings r, fun d off _ => ?_, ⟨[], out⟩, fun none => ?_⟩
  · rw [regs]
  · rw [State.NoPlaces, rings]
    exact none

theorem emit (h : s.Spares r t) (e : Emission) : s.Spares r (t.emit e) := h.trans ⟨rfl, fun _ _ _ => rfl, ⟨[e], rfl⟩, id⟩

/-- Registers of the ring block and of the queues, but for the status of ring r. -/
theorem setReg (h : s.Spares r t) {n : RegName} {i j : Nat} (v : Word) (other : ¬ sparedReg r (n.off i j)) :
    s.Spares r (t.setReg n i j v) :=
  h.trans ⟨rfl, fun _ _ own => State.get_setReg_of_ne _ _ _ _ _ _ _ fun same => other (same ▸ own), ⟨[], rfl⟩, id⟩

theorem setRing (h : s.Spares r t) {i : Nat} (other : r ≠ i) {x : Ring} (waits : ∀ w ∈ x.waits, w ∈ (t.ring i).waits) :
    s.Spares r (t.setRing i x) :=
  h.trans ⟨by rw [State.ring_setRing, if_neg other], fun _ _ _ => rfl, ⟨[], rfl⟩, fun none => none.setRing i fun w hw => none.ring i w (waits w hw)⟩

theorem look (h : t.Within lookSide u) (bound : r < 1024) (rings : u.rings = t.rings) (out : ∃ l, u.out = l ++ t.out) : t.Spares r u :=
  ⟨ring_of_rings rings r, fun _ _ own => h.reg _ _ (beq_false_of_ne (by simp [sparedReg, RegName.off, RegName.row] at own ⊢; omega)), out,
    fun none => by
      rw [State.NoPlaces, rings]
      exact none⟩

theorem prepare (h : s.Spares r t) (bound : r < 1024) (i addr len : Nat) (write : Bool) : s.Spares r (t.prepare i addr len write).2 :=
  h.trans (look (State.Within.prepare ..) bound (prepare_rings ..) (State.Kept.prepare ..).out)

theorem issue (h : s.Spares r t) (bound : r < 1024) (i : Nat) (relaxed : Bool) (ps : List Nat) (addr : Nat) (bytes : List Byte) :
    s.Spares r (t.issue i addr bytes relaxed ps) :=
  h.trans (look (State.Within.issue ..) bound (issue_rings ..) (State.Kept.issue ..).out)

theorem dropRecord (h : s.Spares r t) (i : Nat) (x : Record) : s.Spares r (t.dropRecord i x) := by
  unfold State.dropRecord
  split
  · exact (h.setReg _ (by simp [sparedReg, RegName.off, RegName.row]; omega)).next rfl rfl rfl
  · exact h.next rfl rfl rfl

theorem dropHold (h : s.Spares r t) (i : Nat) : s.Spares r (t.dropHold i) := by
  by_cases empty : ∃ q, t.queueOf i = some q ∧ (t.queue q).hold ≠ []
  · obtain ⟨q, found, some⟩ := empty
    rw [dropHold_of_queueOf found some]
    have le := State.Kept.queueOf_le found
    exact (h.setReg _ (by simp [sparedReg, RegName.off, RegName.row]; omega)).next rfl rfl rfl
  · have same : t.dropHold i = t := by
      cases found : t.queueOf i with
      | none => exact dropHold_of_other found
      | some q => exact dropHold_of_empty found (by_contra fun some => empty ⟨q, found, some⟩)
    rw [same]
    exact h

theorem abandonRecords (h : s.Spares r t) {i : Nat} (other : r ≠ i) : s.Spares r (t.abandonRecords i) := by
  have dropped : s.Spares r ((t.ring i).records.foldl (fun t y => t.dropRecord i y) t) :=
    List.foldlRecOn (motive := fun u : State => s.Spares r u) _ _ h fun u g y _ => g.dropRecord i y
  exact dropped.setRing other fun w hw => hw

theorem haltRing (h : s.Spares r t) {i : Nat} (other : r ≠ i) (cause : Nat) : s.Spares r (t.haltRing i cause) := by
  unfold State.haltRing
  extract_lets x y
  split
  · refine next (setRing h other fun w hw => ?_) rfl rfl rfl
    split at hw
    · exact absurd hw List.not_mem_nil
    · exact absurd hw List.not_mem_nil
  next s1 s2 s3 c mirror =>
    have shown : s.Spares r s1 := by
      unfold s1
      split
      · exact h.setReg _ (by simp [sparedReg, RegName.off, RegName.row]; omega)
      · exact h
    have lost : s.Spares r s2 := shown.dropHold i
    have gone : s.Spares r s3 := ite (lost.setRing other fun w hw => by split at hw <;> exact absurd hw List.not_mem_nil)
      (abandonRecords (lost.setRing other fun w hw => absurd hw List.not_mem_nil) other)
    exact gone.next rfl rfl rfl

/-- Another ring's writes go out. -/
theorem flushWith {halt : State → Nat → State} (bound : r < 1024) {i : Nat} (other : r ≠ i)
    (halts : ∀ (t : State) (c : Nat), s.Spares r t → s.Spares r (halt t c)) (ws : List PendingWrite) (h : s.Spares r t) :
    s.Spares r (t.flushWith halt i ws) := by
  induction ws generalizing t with
  | nil =>
    have emptied : s.Spares r (t.setRing i { t.ring i with writes := [] }) := h.setRing other fun _ hw => hw
    unfold State.flushWith
    dsimp only
    split
    · exact halts _ _ emptied
    · exact emptied
  | cons w ws ih =>
    have prepared := h.prepare bound i w.addr (w.bytes.length + w.ahead) true
    unfold State.flushWith
    split
    next e => rw [e] at prepared; exact prepared.setRing other fun _ hw => hw
    next e => rw [e] at prepared; exact halts _ _ prepared
    next ps v e =>
      rw [e] at prepared
      extract_lets s1 s2 s3
      have issued : s.Spares r s1 := prepared.issue bound i w.relaxed (ps.take (pagesOf w.addr w.bytes.length).length) w.addr w.bytes
      have advanced : s.Spares r s2 :=
        ite (issued.setReg _ (by simp [sparedReg, RegName.off, RegName.row]; omega)) issued
      refine ih ?_
      unfold s3
      split
      · exact advanced.next rfl rfl rfl
      · exact advanced

theorem releasesDone (h : s.Spares r t) (bound : r < 1024) (idle : (s.ring r).busy = false) : s.Spares r t.releasesDone := by
  refine List.foldlRecOn (motive := fun v : State => s.Spares r v) _ _ (h.next rfl rfl rfl) fun u (g : s.Spares r u) c _ => ?_
  dsimp only
  split
  next busy =>
    have other : r ≠ c.ring := fun same => by
      rw [← same, g.ring, idle, Bool.and_false] at busy
      cases busy
    have begun : s.Spares r (u.setRing c.ring { u.ring c.ring with busy := false, writes := (u.ring c.ring).writes ++
        [u.completionOf c.ring (u.cons c.ring) 9 c.opTag c.evt 0 0 0] }) := g.setRing other fun _ hw => hw
    exact ite (begun.flushWith bound other (fun v n d => d.haltRing other n) _) begun
  next => exact g

theorem exportLost (h : s.Spares r t) (bound : r < 1024) (idle : (s.ring r).busy = false) (i : Nat) : s.Spares r (t.exportLost i) := by
  unfold State.exportLost
  split
  · extract_lets x s1
    have lost : s.Spares r s1 := h.next rfl rfl rfl
    exact ite lost (releasesDone (lost.next rfl rfl rfl) bound idle)
  · exact h

end State.Spares

/-! ### A ring that is halted -/

/-- Ring r is halted with a cause, or drains and shows it; what else the end of a page request shows. -/
structure State.HaltedBy (r : Nat) (s : State) (cause : Nat) (t : State) : Prop where
  status : t.field .ringStatus r 0 8 4 = cause
  live : (s.ring r).state ≠ .drain → (t.ring r).state = .halt ∧ (t.ring r).records = []
  drains : (s.ring r).state = .drain → (t.ring r).state = .drain ∧ (t.ring r).writes = []
  cfg : t.reg .ringCfg r = s.reg .ringCfg r
  fail : t.reg .xlatFail = s.reg .xlatFail
  out : ∃ l, t.out = l ++ s.out
  places : s.NoPlaces → t.NoPlaces

theorem field_setField (s : State) (n : RegName) {i j lo w x : Nat} (fits : x < 2 ^ w) (inside : lo + w ≤ 32) :
    (s.setField n i j lo w x).field n i j lo w = x := by
  have stored : (s.setField n i j lo w x).reg n i j = setBits (s.reg n i j) lo w x := State.reg_setReg_self _ _ _ _ _
  rw [State.field, stored, bitsOf_setBits _ _ inside, Nat.mod_eq_of_lt fits]

/-- A ring's own records go: its status and everything else that `HaltedBy` speaks of stays. -/
theorem abandonRecords_keeps (s : State) (r : Nat) :
    (∀ (d : Word) (off : Nat), sparedReg r off → Store.get d (s.abandonRecords r).regs off = Store.get d s.regs off) ∧
    (∃ l, (s.abandonRecords r).out = l ++ s.out) ∧ (s.NoPlaces → (s.abandonRecords r).NoPlaces) := by
  have dropped : s.Spares r ((s.ring r).records.foldl (fun t y => t.dropRecord r y) s) :=
    List.foldlRecOn (motive := fun u : State => s.Spares r u) _ _ (.refl r s) fun u g y _ => g.dropRecord r y
  exact ⟨dropped.regs, dropped.out, fun none => (dropped.places none).setRing r ((dropped.places none).ring r)⟩

theorem haltRing_halted (s : State) {r : Nat} (bound : r < 1024) {cause : Nat} (fits : cause < 16) :
    State.HaltedBy r s cause (s.haltRing r cause) ∧ ((s.haltRing r cause).ring r).busy = false := by
  have mirror : r ≠ mirrorRing := fun e => by subst e; exact absurd bound (by decide)
  have mq : r ≠ mqRing := fun e => by subst e; exact absurd bound (by decide)
  have caused := State.Spares.refl r (s.setField .ringStatus r 0 8 4 cause) |>.dropHold r
  have shown := field_setField s .ringStatus (i := r) (j := 0) (lo := 8) (w := 4) fits (by decide)
  have fail : (s.setField .ringStatus r 0 8 4 cause).reg .xlatFail = s.reg .xlatFail :=
    State.reg_setReg_of_ne _ _ _ _ _ _ _ _ (by simp [RegName.off, RegName.row]; omega)
  have cfg : (s.setField .ringStatus r 0 8 4 cause).reg .ringCfg r = s.reg .ringCfg r :=
    State.reg_setReg_of_ne _ _ _ _ _ _ _ _ (by simp [RegName.off, RegName.row])
  generalize hu : (s.setField .ringStatus r 0 8 4 cause).dropHold r = u at caused
  have status : u.field .ringStatus r 0 8 4 = cause := (congrArg (fun w => bitsOf w 8 4) caused.status).trans shown
  have ring : u.ring r = s.ring r := caused.ring
  have fails : u.reg .xlatFail = s.reg .xlatFail := caused.fail.trans fail
  have cfgs : u.reg .ringCfg r = s.reg .ringCfg r := caused.cfg.trans cfg
  have none : s.NoPlaces → u.NoPlaces := caused.places
  by_cases drains : (s.ring r).state = .drain
  · have ends : ∃ type fs, s.haltRing r cause = (u.setRing r { (s.ring r).halted with state := .drain }).raise type fs := by
      unfold State.haltRing
      simp only [if_neg mirror, if_pos bound, hu, drains, if_true, if_neg mq]
      exact ⟨_, _, rfl⟩
    obtain ⟨type, fs, ends⟩ := ends
    rw [ends]
    have own : (u.setRing r { (s.ring r).halted with state := .drain }).ring r = { (s.ring r).halted with state := .drain } := by
      rw [State.ring_setRing, if_pos rfl]
    refine ⟨⟨status, fun no => absurd drains no, fun _ => ?_, cfgs, fails, caused.out, fun quiet => State.NoPlaces.setRing (x := { (s.ring r).halted with state := .drain }) (none quiet) r fun w no => absurd no List.not_mem_nil⟩, ?_⟩
    · rw [raise_ring, own]
      exact ⟨rfl, rfl⟩
    · rw [raise_ring, own]
      rfl
  · have ends : ∃ type fs, s.haltRing r cause = ((u.setRing r { (s.ring r).halted with state := .halt }).abandonRecords r).raise type fs := by
      unfold State.haltRing
      simp only [if_neg mirror, if_pos bound, hu, drains, if_false]
      exact ⟨_, _, rfl⟩
    obtain ⟨type, fs, ends⟩ := ends
    rw [ends]
    obtain ⟨kept, ⟨l, hl⟩, keptPlaces⟩ := abandonRecords_keeps (u.setRing r { (s.ring r).halted with state := .halt }) r
    obtain ⟨m, hm⟩ := caused.out
    have own : ((u.setRing r { (s.ring r).halted with state := .halt }).abandonRecords r).ring r =
        { (s.ring r).halted with state := .halt }.abandoned := by
      rw [abandonRecords_ring, State.ring_setRing, if_pos rfl]
    refine ⟨⟨(congrArg (fun w => bitsOf w 8 4) (kept _ _ (.inr (.inl rfl)))).trans status, fun _ => ?_, fun no => absurd no drains,
      (kept _ _ (.inl rfl)).trans cfgs, (kept _ _ (.inr (.inr rfl))).trans fails, ⟨l ++ m, by rw [List.append_assoc]; exact hl.trans (congrArg (l ++ ·) hm)⟩, fun quiet => keptPlaces (State.NoPlaces.setRing (x := { (s.ring r).halted with state := .halt }) (none quiet) r fun w no => absurd no List.not_mem_nil)⟩, ?_⟩
    · rw [raise_ring, own]
      exact ⟨rfl, rfl⟩
    · rw [raise_ring, own]
      rfl

theorem halt_halted (s : State) {r : Nat} (bound : r < 1024) {cause : Nat} (fits : cause < 16) :
    State.HaltedBy r s cause (s.halt r cause) := by
  obtain ⟨halted, idle⟩ := haltRing_halted s bound fits
  have spared := (State.Spares.refl r (s.haltRing r cause)).exportLost bound idle r
  obtain ⟨l, hl⟩ := halted.out
  obtain ⟨m, hm⟩ := spared.out
  exact ⟨(congrArg (fun w => bitsOf w 8 4) spared.status).trans halted.status, spared.ring ▸ halted.live, spared.ring ▸ halted.drains,
    spared.cfg.trans halted.cfg, spared.fail.trans halted.fail, ⟨m ++ l, by rw [State.halt, hm, hl, List.append_assoc]⟩, spared.places ∘ halted.places⟩

/-! ### Completions with errors -/

theorem exec_hostCompletion (r : Fin 1024) (st : HostStatus) (dr : Bool) (s : State) : exec (.hostCompletion r st dr) s = effect (fun s =>
    if !s.ringBusy r.val then s
    else match st with
      | .ok => s
      | .poison =>
        let s := s.emit (.aer aerPoisoned)
        if dr then s.halt r.val 3 else s
      | .unsupported | .abort => if dr then s.halt r.val 1 else s) s := rfl

theorem exec_completionTimeout (r : Fin 1024) (s : State) : exec (.completionTimeout r) s =
    effect (fun s => if s.ringBusy r.val then (s.emit (.aer aerTimeout)).halt r.val 1 else s) s := rfl

/-- A halt with its cause, as the end of the command leaves it. -/
theorem State.HaltedBy.settle {s0 s u : State} {r : Fin 1024} {cause : Nat} (h : State.HaltedBy r s cause u) (kind : s.kind r ≠ 3) :
    (settle s0 u).field .ringStatus r 0 8 4 = cause ∧
      ((s.ring r).state ≠ .drain → ((settle s0 u).ring r).state = .halt ∧ ((settle s0 u).ring r).records = []) ∧
      ((s.ring r).state = .drain → ((settle s0 u).ring r).state = .drain ∧ ((settle s0 u).ring r).writes = []) := by
  have same : u.kind r ≠ 3 := by
    simp only [State.kind, State.field, h.cfg] at kind ⊢
    exact kind
  rw [State.field, settle_status s0 u r same, settle_ring s0 u r same]
  exact ⟨h.status, h.live, h.drains⟩

/-- What was sent first stays behind what a command sends after it. -/
theorem sent_of_grows {s v u : State} {e : Emission} (first : v.out = e :: s.out) (grows : ∃ l, u.out = l ++ v.out) :
    s.Sent (settle s u) e := by
  obtain ⟨l, hl⟩ := grows
  obtain ⟨m, hm⟩ := (settle_kept u).out
  exact ⟨m ++ l, by rw [show (settle s u).out = m ++ u.out from hm, hl, first, List.append_assoc]⟩

theorem hostCompletion_completes (r : Fin 1024) (st : HostStatus) (dr : Bool) (s : State) (kind : s.kind r ≠ 3) (busy : s.ringBusy r = true) :
    Completes (.hostCompletion r st dr) s fun t =>
      (st = .ok ∨ dr = false → t.ring r = s.ring r) ∧ (st = .poison → s.Sent t (.aer aerPoisoned)) ∧
      (dr = true → st ≠ .ok → t.field .ringStatus r 0 8 4 = (if st = .poison then 3 else 1) ∧
        ((s.ring r).state ≠ .drain → (t.ring r).state = .halt ∧ (t.ring r).records = []) ∧
        ((s.ring r).state = .drain → (t.ring r).state = .drain ∧ (t.ring r).writes = [])) := by
  refine completes_of_effect (exec_hostCompletion r st dr s) ?_
  dsimp only
  rw [busy, Bool.not_true, if_neg (by decide)]
  have left : (settle s s).ring r = s.ring r := settle_ring s s r kind
  have failed : st ≠ .ok → st ≠ .poison → (st = .ok ∨ dr = false → (settle s (if dr then s.halt r.val 1 else s)).ring r = s.ring r) ∧
      (st = .poison → s.Sent (settle s (if dr then s.halt r.val 1 else s)) (.aer aerPoisoned)) ∧
      (dr = true → st ≠ .ok → (settle s (if dr then s.halt r.val 1 else s)).field .ringStatus r 0 8 4 = (if st = .poison then 3 else 1) ∧
        ((s.ring r).state ≠ .drain → ((settle s (if dr then s.halt r.val 1 else s)).ring r).state = .halt ∧
          ((settle s (if dr then s.halt r.val 1 else s)).ring r).records = []) ∧
        ((s.ring r).state = .drain → ((settle s (if dr then s.halt r.val 1 else s)).ring r).state = .drain ∧
          ((settle s (if dr then s.halt r.val 1 else s)).ring r).writes = [])) := fun bad clean => by
    cases dr with
    | false => exact ⟨fun _ => left, fun no => absurd no clean, fun no => absurd no (by decide)⟩
    | true =>
      rw [if_pos rfl, if_neg clean]
      exact ⟨fun no => no.elim (fun no => absurd no bad) (fun no => absurd no (by decide)), fun no => absurd no clean,
        fun _ _ => (halt_halted s r.isLt (by decide)).settle kind⟩
  cases st with
  | ok => exact ⟨fun _ => left, fun no => absurd no (by decide), fun _ no => absurd rfl no⟩
  | unsupported => exact failed (by decide) (by decide)
  | abort => exact failed (by decide) (by decide)
  | poison =>
    dsimp only
    cases dr with
    | false =>
      rw [if_neg (by decide)]
      exact ⟨fun _ => settle_ring s (s.emit (.aer aerPoisoned)) r kind, fun _ => sent_settle rfl, fun no => absurd no (by decide)⟩
    | true =>
      have halted := halt_halted (s.emit (.aer aerPoisoned)) r.isLt (cause := 3) (by decide)
      rw [if_pos rfl, if_pos rfl]
      exact ⟨fun no => no.elim (fun no => absurd no (by decide)) (fun no => absurd no (by decide)), fun _ => sent_of_grows rfl halted.out,
        fun _ _ => halted.settle kind⟩

theorem completionTimeout_completes (r : Fin 1024) (s : State) (kind : s.kind r ≠ 3) (busy : s.ringBusy r = true) :
    Completes (.completionTimeout r) s fun t => t.field .ringStatus r 0 8 4 = 1 ∧ s.Sent t (.aer aerTimeout) ∧
      ((s.ring r).state ≠ .drain → (t.ring r).state = .halt ∧ (t.ring r).records = []) ∧
      ((s.ring r).state = .drain → (t.ring r).state = .drain ∧ (t.ring r).writes = []) := by
  refine completes_of_effect (exec_completionTimeout r s) ?_
  rw [if_pos busy]
  have halted := halt_halted (s.emit (.aer aerTimeout)) r.isLt (cause := 1) (by decide)
  obtain ⟨status, rest⟩ := halted.settle (s0 := s) kind
  exact ⟨status, sent_of_grows rfl halted.out, rest⟩

/-- Settles O32: a halt strikes its ring whatever the end of an export does to others, and other completions change nothing here. -/
theorem hostErrorsHaltRing : Obligations.HostErrorsHaltRing := by
  unfold Obligations.HostErrorsHaltRing
  refine ⟨fun r st dr s kind busy => ⟨hostCompletion_completes r st dr s kind busy, completionTimeout_completes r s kind busy⟩,
    fun r st dr s sound idle => ⟨?_, ?_⟩⟩
  · exact completes_idle (exec_hostCompletion r st dr s) (by simp [idle]) sound
  · exact completes_idle (exec_completionTimeout r s) (by simp [idle]) sound

end Sys2Proof.Machine
end

section
/-!
SUPPORT. The ends of page requests (R276 to R278): what they leave of the requests, of the rings that waited and of the lookups. From
these, O35.
-/
namespace Sys2Proof.Machine

/-! ### Rings that wait -/

theorem State.NoPlaces.of_all {s : State} (h : (s.rings.all fun e => e.2.waits.all fun w => !w.place) = true) : s.NoPlaces := fun e he w hw => by
  have all := List.all_eq_true.mp (List.all_eq_true.mp h e he) w hw
  simpa using all

/-- Where no ring waits for a place, none is filled. -/
theorem fillPlaces_of_none {s : State} (h : s.NoPlaces) : s.fillPlaces = s := by
  have none : ((s.rings.filter fun e => s.ringLives e.1).flatMap fun e => (e.2.waits.filter (·.place)).map fun w => (e.1, w)) = [] := by
    refine List.flatMap_eq_nil_iff.mpr fun e he => ?_
    have empty : e.2.waits.filter (·.place) = [] := List.filter_eq_nil_iff.mpr fun w hw => by simp [h e (List.mem_of_mem_filter he) w hw]
    rw [empty, List.map_nil]
  unfold State.fillPlaces
  rw [none]
  rfl

theorem waiters_of_none (s : State) {q : PageReq} (none : q.rings = []) : s.waiters q = [] := by
  simp only [State.waiters, none, List.filter_nil]

/-- The one ring that waits on a request. -/
theorem waiters_of_one {s : State} {q : PageReq} {r : Nat} {w : PageWait} (one : q.rings = [r]) (waits : (s.ring r).state = .wait)
    (single : (s.ring r).waits = [w]) (on : w.on q = true) : s.waiters q = [r] := by
  have lives : s.ringLives r = true := by simp [State.ringLives, waits]
  simp [State.waiters, one, lives, single, on]

theorem lookAgain_nil (s : State) (q : PageReq) (b : Bool) : s.lookAgain q [] b = s := by
  simp [State.lookAgain]

/-- The page is translated again for a ring that waits with the permission asked for. -/
theorem lookAgain_of_waits {s : State} {q : PageReq} {r : Nat} {w : PageWait} (single : (s.ring r).waits = [w]) (on : w.on q = true) :
    s.lookAgain q [r] w.write = { s.setRing r { s.ring r with waits := [{ w with answered := true }] } with
      lookups := s.lookups ++ [{ q with write := w.write, rings := [r] }] }.emit (.translationRequest q.pv q.pasid q.page) := by
  simp [State.lookAgain, single, on]

theorem lookAgain_of_other {s : State} {q : PageReq} {r : Nat} {w : PageWait} {b : Bool} (single : (s.ring r).waits = [w])
    (other : w.on q = false ∨ w.write ≠ b) : s.lookAgain q [r] b = s := by
  have none : ((s.ring r).waits.any fun w => w.on q && decide (w.write = b)) = false := by
    rcases other with e | e <;> simp [single, e]
  simp [State.lookAgain, none]

theorem closeRequest_facts (s : State) (q : PageReq) : s.closeRequest q = { s with prqs := s.prqs.filter fun y => y.prg ≠ q.prg } := rfl

/-! ### The commands -/

theorem exec_pageRequestResponse (prg : Fin 512) (c : PriCode) (s : State) : exec (.pageRequestResponse prg c) s = effect (fun s =>
    match s.prqs.find? fun q => q.prg = prg.val with
    | none => s
    | some q =>
      match c with
      | .success => s.requestSucceeds q
      | .invalid => s.requestFails q 2
      | .failure => ({ s with priStop := true }.requestFails q 3).raise 0x0613 [(8, 0)]) s := rfl

theorem exec_pageRequestTimeout (prg : Fin 512) (s : State) : exec (.pageRequestTimeout prg) s = effect (fun s =>
    match s.prqs.find? fun q => q.prg = prg.val with
    | none => s
    | some q => s.requestFails q 4) s := rfl

/-! ### Requests that no ring waits on -/

theorem requestFails_of_none {s : State} {q : PageReq} (none : q.rings = []) (places : s.NoPlaces) (cause : Nat) :
    s.requestFails q cause = s.closeRequest q := by
  rw [State.requestFails, waiters_of_none s none, List.foldl_nil]
  exact fillPlaces_of_none (s := s.closeRequest q) places

theorem requestSucceeds_of_none {s : State} {q : PageReq} (none : q.rings = []) (places : s.NoPlaces) :
    s.requestSucceeds q = s.closeRequest q := by
  unfold State.requestSucceeds
  dsimp only
  rw [waiters_of_none s none, lookAgain_nil, lookAgain_nil]
  exact fillPlaces_of_none (s := s.closeRequest q) places

theorem pageRequestResponse_unwaited (prg : Fin 512) (q : PageReq) (c : PriCode) (s : State) (sound : s.Sound)
    (found : (s.prqs.find? fun q => q.prg = prg.val) = some q) (none : q.rings = []) (places : s.NoPlaces) :
    Completes (.pageRequestResponse prg c) s fun t =>
      t.prqs = s.prqs.filter (fun y => y.prg ≠ q.prg) ∧ t.priStop = (if c = .failure then true else s.priStop) ∧
      State.Frame { s with prqs := t.prqs, priStop := t.priStop } t := by
  refine completes_of_effect (exec_pageRequestResponse prg c s) ?_
  rw [found]
  have closed : (settle s (s.closeRequest q)) = s.closeRequest q := State.Sound.settle_eq (by exact sound) rfl rfl
  cases c with
  | success =>
    dsimp only
    rw [requestSucceeds_of_none none places, closed]
    exact ⟨rfl, rfl, State.Kept.refl _⟩
  | invalid =>
    dsimp only
    rw [requestFails_of_none none places, closed]
    exact ⟨rfl, rfl, State.Kept.refl _⟩
  | failure =>
    dsimp only
    rw [requestFails_of_none (s := { s with priStop := true }) none places]
    have framed := frame_settle (s0 := s) (u := (State.closeRequest { s with priStop := true } q).raise 0x0613 [(8, 0)]) rfl sound.2.1 rfl
    exact ⟨framed.prqs, framed.priStop, { framed with prqs := rfl, priStop := rfl }⟩

theorem pageRequestTimeout_unwaited (prg : Fin 512) (q : PageReq) (s : State) (sound : s.Sound)
    (found : (s.prqs.find? fun q => q.prg = prg.val) = some q) (none : q.rings = []) (places : s.NoPlaces) :
    Completes (.pageRequestTimeout prg) s fun t => t.prqs = s.prqs.filter (fun y => y.prg ≠ q.prg) ∧
      State.Frame { s with prqs := t.prqs } t := by
  refine completes_of_effect (exec_pageRequestTimeout prg s) ?_
  rw [found]
  dsimp only
  rw [requestFails_of_none none places, State.Sound.settle_eq (s0 := s) (u := s.closeRequest q) (by exact sound) rfl rfl]
  exact ⟨rfl, State.Kept.refl _⟩

/-! ### A ring that waits -/

/-- A request ends without its page: the command ring that waits on it halts with cause 4. -/
theorem requestFails_halts {s : State} {q : PageReq} {r : Fin 1024} {w : PageWait} (one : q.rings = [r.val]) (kind : s.kind r = 0)
    (waits : (s.ring r).state = .wait) (single : (s.ring r).waits = [w]) (on : w.on q = true) (places : s.NoPlaces) (cause : Nat) :
    ∃ v : State, State.HaltedBy r v 4 (s.requestFails q cause) ∧ (v.ring r).state = .wait ∧ v.kind r = 0 ∧
      v.reg .xlatFail = satAdd (s.reg .xlatFail) 1 := by
  generalize hv : ((s.closeRequest q).bump .xlatFail).raise 0x0612 [(2, r.val), (1, cause), (1, 0), (4, q.page % 2 ^ 32)] = v
  have ring : v.ring r = s.ring r := by rw [← hv]; rfl
  have same : v.kind r = 0 := by
    have cfg : v.reg .ringCfg r = s.reg .ringCfg r := by
      rw [← hv]
      exact reg_setReg_of_name (by decide) r.isLt (s.closeRequest q) _ (by decide) (by decide) (by decide)
    simp only [State.kind, State.field, cfg]
    exact kind
  have fail : v.reg .xlatFail = satAdd (s.reg .xlatFail) 1 := by
    rw [← hv]
    exact State.reg_setReg_self _ _ _ _ _
  have halted := halt_halted v r.isLt (cause := 4) (by decide)
  have struck : s.requestFails q cause = (v.halt r 4).fillPlaces := by
    unfold State.requestFails
    rw [waiters_of_one one waits single on, List.foldl_cons, List.foldl_nil, State.transFail, hv, same, if_neg (by simp)]
  refine ⟨v, ?_, ring ▸ waits, same, fail⟩
  rw [struck, fillPlaces_of_none (halted.places (by rw [← hv]; exact places))]
  exact halted

/-- What the failed request leaves, whatever is reported behind it. -/
theorem halted_settles {s v u : State} {r : Fin 1024} (h : State.HaltedBy r v 4 u) (waits : (v.ring r).state = .wait) (kind : v.kind r = 0) :
    ((settle s u).ring r).state = .halt ∧ (settle s u).field .ringStatus r 0 8 4 = 4 ∧ (settle s u).reg .xlatFail = v.reg .xlatFail := by
  obtain ⟨status, live, -⟩ := h.settle (s0 := s) (by rw [kind]; decide)
  exact ⟨(live (by rw [waits]; decide)).1, status, (settle_reg _ _ _ _ _ (by decide)).trans h.fail⟩

theorem HaltedBy_raise {r : Nat} {v u : State} {cause : Nat} (h : State.HaltedBy r v cause u) (type : Nat) (fs : List (Nat × Nat)) :
    State.HaltedBy r v cause (u.raise type fs) :=
  ⟨h.status, h.live, h.drains, h.cfg, h.fail, h.out, h.places⟩

section
variable (prg : Fin 512) (q : PageReq) (w : PageWait) (r : Fin 1024) (s : State) (found : (s.prqs.find? fun q => q.prg = prg.val) = some q)
  (one : q.rings = [r.val]) (kind : s.kind r = 0) (waits : (s.ring r).state = .wait) (single : (s.ring r).waits = [w]) (on : w.on q = true)
  (places : s.NoPlaces)
include found one kind waits single on places

theorem pageRequestResponse_fails (c : PriCode) (bad : c ≠ .success) : Completes (.pageRequestResponse prg c) s fun t =>
    (t.ring r).state = .halt ∧ t.field .ringStatus r 0 8 4 = 4 ∧ t.reg .xlatFail = satAdd (s.reg .xlatFail) 1 := by
  refine completes_of_effect (exec_pageRequestResponse prg c s) ?_
  rw [found]
  cases c with
  | success => exact absurd rfl bad
  | invalid =>
    obtain ⟨v, halted, state, command, fail⟩ := requestFails_halts one kind waits single on places 2
    rw [← fail]
    exact halted_settles halted state command
  | failure =>
    obtain ⟨v, halted, state, command, fail⟩ := requestFails_halts (s := { s with priStop := true }) one kind waits single on places 3
    rw [show satAdd (s.reg .xlatFail) 1 = v.reg .xlatFail from fail.symm]
    exact halted_settles (HaltedBy_raise halted 0x0613 [(8, 0)]) state command

theorem pageRequestTimeout_fails : Completes (.pageRequestTimeout prg) s fun t =>
    (t.ring r).state = .halt ∧ t.field .ringStatus r 0 8 4 = 4 ∧ t.reg .xlatFail = satAdd (s.reg .xlatFail) 1 := by
  refine completes_of_effect (exec_pageRequestTimeout prg s) ?_
  rw [found]
  obtain ⟨v, halted, state, command, fail⟩ := requestFails_halts one kind waits single on places 4
  rw [← fail]
  exact halted_settles halted state command

theorem pageRequestResponse_looksAgain : Completes (.pageRequestResponse prg .success) s fun t =>
    t.prqs = s.prqs.filter (fun y => y.prg ≠ q.prg) ∧ (t.ring r).state = .wait ∧
      s.Sent t (.translationRequest q.pv q.pasid q.page) ∧
      (s.Sound → t.lookups = s.lookups ++ [{ q with write := w.write, rings := [r.val] }]) := by
  refine completes_of_effect (exec_pageRequestResponse prg .success s) ?_
  rw [found]
  generalize hu : { (s.closeRequest q).setRing r { s.ring r with waits := [{ w with answered := true }] } with
    lookups := s.lookups ++ [{ q with write := w.write, rings := [r.val] }] }.emit (.translationRequest q.pv q.pasid q.page) = u
  have ring : u.ring r = { s.ring r with waits := [{ w with answered := true }] } := by
    rw [← hu]
    exact (State.ring_setRing (s.closeRequest q) r r _).trans (if_pos rfl)
  have noPlaces : u.NoPlaces := by
    rw [← hu]
    refine State.NoPlaces.setRing (s := s.closeRequest q) places r fun x hx => ?_
    rw [List.mem_singleton.mp hx]
    exact places.ring r w (by rw [single]; exact List.mem_singleton_self w)
  have asked : (s.closeRequest q).lookAgain q [r.val] w.write = u :=
    (lookAgain_of_waits (s := s.closeRequest q) single on).trans hu
  have done : u.lookAgain q [r.val] false = u :=
    lookAgain_of_other (by rw [ring]) (.inl (by simp [PageWait.on]))
  have ends : s.requestSucceeds q = u := by
    unfold State.requestSucceeds
    dsimp only
    rw [waiters_of_one one waits single on]
    cases write : w.write with
    | true => rw [← write, asked, done, fillPlaces_of_none noPlaces]
    | false =>
      have first : (s.closeRequest q).lookAgain q [r.val] true = s.closeRequest q :=
        lookAgain_of_other (s := s.closeRequest q) single (.inr (by rw [write]; decide))
      rw [first, ← write, asked, fillPlaces_of_none noPlaces]
  dsimp only
  rw [ends]
  have sent : u.out = .translationRequest q.pv q.pasid q.page :: s.out := by rw [← hu]; rfl
  refine ⟨?_, ?_, sent_settle sent, fun sound => ?_⟩
  · rw [settle_prqs, ← hu]
    rfl
  · have command : u.kind r ≠ 3 := by
      rw [← hu]
      exact ne_of_eq_of_ne kind (by decide)
    rw [settle_ring s u r command, ring]
    exact waits
  · rw [State.Sound.settle_eq (s0 := s) (u := u) (by rw [← hu]; exact sound) (by rw [← hu]; rfl) (by rw [← hu]; rfl), ← hu]
    rfl

end

/-- Settles O35: a request that ends is outstanding no more, and the rings that waited on it look again or halt. -/
theorem pageRequests : Obligations.PageRequests := by
  unfold Obligations.PageRequests
  refine ⟨⟨fun prg q c s sound found none all => ⟨?_, ?_⟩, fun prg c s sound all => ⟨?_, ?_⟩⟩,
    fun prg q w r s found one kind waits single on all => ⟨?_, ?_, ?_⟩⟩
  · exact pageRequestResponse_unwaited prg q c s sound found none (.of_all all)
  · exact pageRequestTimeout_unwaited prg q s sound found none (.of_all all)
  · have none : (s.prqs.find? fun q => q.prg = prg.val) = none := List.find?_eq_none.mpr fun q hq => by
      simpa using List.all_eq_true.mp all q hq
    exact completes_idle (exec_pageRequestResponse prg c s) (by simp only [none]) sound
  · have none : (s.prqs.find? fun q => q.prg = prg.val) = none := List.find?_eq_none.mpr fun q hq => by
      simpa using List.all_eq_true.mp all q hq
    exact completes_idle (exec_pageRequestTimeout prg s) (by simp only [none]) sound
  · exact pageRequestResponse_looksAgain prg q w r s found one kind waits single on (.of_all all)
  · exact pageRequestResponse_fails prg q w r s found one kind waits single on (.of_all all)
  · exact pageRequestTimeout_fails prg q w r s found one kind waits single on (.of_all all)

end Sys2Proof.Machine
end

section
/-!
SUPPORT. The state of the function (R246, R247, R410, R418 to R422): configuration requests, D3hot and the return to D0, the link, and a
function reset. From these, O36.
-/
namespace Sys2Proof.Machine

/-! ### Configuration and the link -/

theorem exec_configRequest (c : ConfigAccess) (s : State) : exec (.configRequest c) s = effect (fun s =>
    if s.power.pstate = .keep || s.power.pstate = .reset then s
    else if s.boot.win = 0 then s.emit (.configStatus true)
    else
      let s := s.emit (.configStatus false)
      match c with
      | .read i => s.emit (.configData i (s.configRead i))
      | .write e => s.configWrite e
      | .writeBar n v => { s with pci := { s.pci with bars := Store.put 0 s.pci.bars n.val v } }) s := rfl

theorem configWrite_facts (s : State) (e : ConfigEnables) :
    let t := s.configWrite e
    t.atsOn = e.ats ∧ t.priOn = e.pri ∧ t.relaxedOn = e.relaxed ∧
      t.pci = { bars := s.pci.bars, pasid := e.pasid, msix := e.msix, msixMask := e.msixMask, tags10 := e.tags10
                maxPayload := e.maxPayload, maxRead := e.maxRead, correctedMask := e.correctedMask } ∧
      (e.ats = false → t.xcache = [] ∧ t.lookups = []) ∧
      t = { s with atsOn := e.ats, priOn := e.pri, relaxedOn := e.relaxed, pci := t.pci, priStop := t.priStop, xcache := t.xcache
                   lookups := t.lookups } := by
  unfold State.configWrite
  cases ats : e.ats with
  | true => exact ⟨rfl, rfl, rfl, rfl, fun no => absurd no (by decide), rfl⟩
  | false => exact ⟨rfl, rfl, rfl, rfl, fun _ => ⟨rfl, rfl⟩, rfl⟩

theorem configRead_writeBar (s : State) (n : Fin 6) (v : Word) :
    State.configRead { s with pci := { s.pci with bars := Store.put 0 s.pci.bars n.val v } } (.bar n) =
      ((v &&& (barMask n.val).1) ||| (barMask n.val).2) := by
  simp [State.configRead]

theorem configRequest_completes (c : ConfigAccess) (s : State) (sound : s.Sound) : Completes (.configRequest c) s fun t =>
    (s.power.pstate = .keep ∨ s.power.pstate = .reset → t = s) ∧
    (s.power.pstate ≠ .keep → s.power.pstate ≠ .reset →
      (s.boot.win = 0 → t = { s with out := Emission.configStatus true :: s.out }) ∧
      (s.boot.win ≠ 0 →
        (∀ i, c = .read i → t = { s with out := .configData i (s.configRead i) :: .configStatus false :: s.out }) ∧
        (∀ n v, c = .writeBar n v → t = { s with out := .configStatus false :: s.out, pci := t.pci } ∧
          t.configRead (.bar n) = ((v &&& (barMask n.val).1) ||| (barMask n.val).2)) ∧
        (∀ e, c = .write e → t.atsOn = e.ats ∧ t.priOn = e.pri ∧ t.relaxedOn = e.relaxed ∧
          t.pci = { bars := s.pci.bars, pasid := e.pasid, msix := e.msix, msixMask := e.msixMask, tags10 := e.tags10
                    maxPayload := e.maxPayload, maxRead := e.maxRead,
                    correctedMask := e.correctedMask } ∧ (e.ats = false → t.xcache = [] ∧ t.lookups = []) ∧
          t = { s with out := .configStatus false :: s.out, atsOn := e.ats, priOn := e.pri, relaxedOn := e.relaxed
                       pci := t.pci, priStop := t.priStop, xcache := t.xcache, lookups := t.lookups }))) := by
  refine completes_of_effect (exec_configRequest c s) ?_
  dsimp only
  by_cases off : s.power.pstate = .keep ∨ s.power.pstate = .reset
  · rw [if_pos (by simpa using off), sound.settle_eq rfl rfl]
    exact ⟨fun _ => rfl, fun keep reset => (off.elim keep reset).elim⟩
  · rw [if_neg (by simpa using off)]
    refine ⟨fun no => absurd no off, fun _ _ => ?_⟩
    by_cases window : s.boot.win = 0
    · rw [if_pos window, State.Sound.settle_eq (s0 := s) (u := s.emit (.configStatus true)) (by exact sound) rfl rfl]
      exact ⟨fun _ => rfl, fun no => absurd window no⟩
    · rw [if_neg window]
      refine ⟨fun no => absurd no window, fun _ => ?_⟩
      cases c with
      | read i =>
        dsimp only
        rw [State.Sound.settle_eq (by exact sound) (by rfl) (by rfl)]
        exact ⟨fun j same => by cases same; rfl, fun _ _ no => ConfigAccess.noConfusion no, fun _ no => ConfigAccess.noConfusion no⟩
      | writeBar n v =>
        dsimp only
        rw [State.Sound.settle_eq (by exact sound) (by rfl) (by rfl)]
        refine ⟨fun _ no => ConfigAccess.noConfusion no, fun m w same => ?_, fun _ no => ConfigAccess.noConfusion no⟩
        cases same
        exact ⟨rfl, configRead_writeBar (s.emit (.configStatus false)) n v⟩
      | write e =>
        dsimp only
        obtain ⟨ats, pri, relaxed, pci, emptied, rest⟩ := configWrite_facts (s.emit (.configStatus false)) e
        generalize (s.emit (.configStatus false)).configWrite e = u at ats pri relaxed pci emptied rest ⊢
        rw [State.Sound.settle_eq (s0 := s) (u := u) (by rw [rest]; exact sound) (by rw [rest]; rfl) (by rw [rest]; rfl)]
        refine ⟨fun _ no => ConfigAccess.noConfusion no, fun _ _ no => ConfigAccess.noConfusion no, fun f same => ?_⟩
        cases same
        exact ⟨ats, pri, relaxed, pci, emptied, rest⟩

theorem exec_linkChange (w : BitVec 5) (rate : BitVec 3) (flit up : Bool) (s : State) : exec (.linkChange w rate flit up) s = effect (fun s =>
    let v := if up then w.toNat + rate.toNat * 256 + bit flit * 4096 + 8192 else 0
    let t := s.setReg .hostLink 0 0 (BitVec.ofNat 32 v)
    if (s.reg .hostLink).toNat % 4096 = v % 4096 then t else { t with tick := { t.tick with capacity := true } }) s := rfl

theorem linkChange_completes (w : BitVec 5) (rate : BitVec 3) (flit up : Bool) (s : State) (sound : s.Sound) :
    Completes (.linkChange w rate flit up) s fun t =>
      t.reg .hostLink = (if up then BitVec.ofNat 32 (w.toNat + rate.toNat * 256 + bit flit * 4096 + 8192) else 0) ∧
      (t.tick.capacity = true ↔ s.tick.capacity = true ∨
        (s.reg .hostLink).toNat % 4096 ≠ (t.reg .hostLink).toNat % 4096) ∧
      t.tick = { s.tick with capacity := t.tick.capacity } ∧
      t = { s with regs := t.regs, tick := t.tick } := by
  refine completes_of_effect (exec_linkChange w rate flit up s) ?_
  dsimp only
  generalize hv : (if up then w.toNat + rate.toNat * 256 + bit flit * 4096 + 8192 else 0) = v
  have shown : (if up then BitVec.ofNat 32 (w.toNat + rate.toNat * 256 + bit flit * 4096 + 8192) else 0) = BitVec.ofNat 32 v := by
    rw [← hv]
    split <;> rfl
  have low : (BitVec.ofNat 32 v).toNat % 4096 = v % 4096 := by
    rw [BitVec.toNat_ofNat]
    omega
  rw [shown]
  split
  next same =>
    rw [State.Sound.settle_eq (s0 := s) (u := s.setReg .hostLink 0 0 (BitVec.ofNat 32 v)) (by exact sound) rfl rfl, State.reg_setReg_self]
    exact ⟨rfl, ⟨.inl, fun h => h.elim id fun no => absurd (same.trans low.symm) no⟩, rfl, rfl⟩
  next differs =>
    rw [State.Sound.settle_eq (by exact sound) (by rfl) (by rfl)]
    have stored : State.reg { s.setReg .hostLink 0 0 (BitVec.ofNat 32 v) with tick := { s.tick with capacity := true } } .hostLink =
      BitVec.ofNat 32 v := State.reg_setReg_self _ _ _ _ _
    exact ⟨stored, ⟨fun _ => .inr fun same => differs (same.trans ((congrArg (fun x => x.toNat % 4096) stored).trans low)), fun _ => rfl⟩, rfl, rfl⟩

/-! ### Queues and rings go on -/

namespace State.Within

variable {s : State}

theorem sendMsix (v : Nat) : s.Within hostSide (s.sendMsix v) :=
  ite (setReg (hostSide_regs _ _ (by decide)) _) (emit _ rfl)

theorem signal (q sev : Nat) : s.Within hostSide (s.signal q sev) := by
  unfold State.signal
  dsimp only
  exact ite ((setQueue _ _ rfl).trans (sendMsix _)) (setQueue _ _ rfl)

theorem writeRecord (q r : Nat) (b : BitVec 256) : s.Within hostSide (s.writeRecord q r b).2 := by
  unfold State.writeRecord
  extract_lets x n l addr
  have prepared := host (prepare (s := s) r addr 32 true)
  split
  next e => rwa [e] at prepared
  next e => rw [e] at prepared; exact prepared.trans (haltRing r 2)
  next e =>
    rw [e] at prepared
    exact ((prepared.trans (host (issue _ _ _ _ _))).trans (setQueue _ _ rfl)).trans (signal _ _)

theorem putRecord (q r : Nat) (b : BitVec 256) : s.Within hostSide (s.putRecord q r b) :=
  ite (setQueue _ _ rfl) (ite (writeRecord q r b) ((writeRecord q r b).trans (setQueue _ _ rfl)))

theorem lose (q : Nat) : s.Within hostSide (s.lose q) := (bump (hostSide_regs _ _ (by decide))).trans (setQueue _ _ rfl)

theorem endOverflow (q r : Nat) : s.Within hostSide (s.endOverflow q r) :=
  ite ((setQueue _ _ rfl).trans (putRecord _ _ _)) (refl _ _)

theorem writeHeld (q r : Nat) (bs : List (BitVec 256)) : s.Within hostSide (s.writeHeld q r bs).2 := by
  induction bs generalizing s with
  | nil => exact refl _ _
  | cons b bs ih =>
    unfold State.writeHeld
    split
    · next c o _ =>
      have counted : s.Within hostSide ((s.writeRecord q r c).2.setQueue q { (s.writeRecord q r c).2.queue q with lostNow := 0 }) :=
        (writeRecord q r c).trans (setQueue _ _ rfl)
      dsimp only
      split
      · exact (counted.trans (setQueue _ _ rfl)).trans ih
      · exact counted
    · exact (lose q).trans ih
    · next c _ =>
      dsimp only
      split
      · exact (((writeRecord q r c).trans (setQueue _ _ rfl)).trans (lose q)).trans ih
      · exact writeRecord q r c
    · exact (setQueue _ _ rfl).trans ih

theorem drainHold (q r : Nat) : s.Within hostSide (s.drainHold q r) := by
  unfold State.drainHold
  dsimp only
  have written := trans (setQueue (s := s) (P := hostSide) q { s.queue q with hold := [], overflow := heldOverflow (s.queue q).hold, lostNow := 0 } rfl)
    (writeHeld q r (s.queue q).hold)
  exact ite (endOverflow q r) (ite (written.trans (foldl _ (fun _ _ _ => lose q) _))
    (ite ((written.trans (setQueue _ _ rfl)).trans (endOverflow q r)) (written.trans (setQueue _ _ rfl))))

theorem resumeQueue (q : Nat) : s.Within hostSide (s.resumeQueue q) := by
  unfold State.resumeQueue
  split
  · exact ite ((drainHold q _).trans (ite (setRing _ _ rfl) (refl _ _))) (refl _ _)
  · exact refl _ _

theorem goOn (r : Nat) : s.Within hostSide (s.goOn r) := by
  unfold State.goOn
  dsimp only
  split
  · exact (drainWrites r).trans (resumeQueue _)
  · exact drainWrites r

end State.Within

/-! ### D3hot -/

theorem dropWaiting_within (s : State) (i : Nat) : s.Within hostSide (s.dropWaiting i) := by
  unfold State.dropWaiting
  dsimp only
  exact .ite (.refl _ _) (.trans (.setRing _ _ rfl) (.foldl _ (fun _ _ _ => .dropRecord _ _) _))

theorem dropWaiting_of_other {s : State} {i : Nat} (other : s.kind i ≠ 1) : s.dropWaiting i = s := if_pos other

/-- The output records that wait go, those of an export stay. -/
theorem dropWaiting_of_output {s : State} {i : Nat} (output : s.kind i = 1) : ∃ x : Ring, x.records = (s.ring i).records.filter (·.oclass = 3) ∧
    s.dropWaiting i = ((s.ring i).records.filter (·.oclass ≠ 3)).foldl (fun s y => s.dropRecord i y) (s.setRing i x) := by
  refine ⟨_, ?_, if_neg (not_not_intro output)⟩
  rfl

theorem foldl_dropRecord_ring (i r : Nat) (l : List Record) (s : State) : (l.foldl (fun s y => s.dropRecord i y) s).ring r = s.ring r :=
  foldl_ring (fun u y => ring_of_rings (dropRecord_rings u i y) r) l s

theorem dropWaiting_ring_of_ne (s : State) {i r : Nat} (other : r ≠ i) : (s.dropWaiting i).ring r = s.ring r := by
  by_cases output : s.kind i = 1
  · obtain ⟨x, -, e⟩ := dropWaiting_of_output output
    rw [e, foldl_dropRecord_ring, State.ring_setRing, if_neg other]
  · rw [dropWaiting_of_other output]

theorem dropWaiting_records (s : State) {r : Nat} (output : s.kind r = 1) :
    ((s.dropWaiting r).ring r).records = (s.ring r).records.filter (·.oclass = 3) := by
  obtain ⟨x, records, e⟩ := dropWaiting_of_output output
  rw [e, foldl_dropRecord_ring, State.ring_setRing, if_pos rfl, records]

theorem dropWaiting_cfg (s : State) (i r : Nat) : (s.dropWaiting i).reg .ringCfg r = s.reg .ringCfg r := by
  have dropped : ∀ (u : State) (y : Record), (u.dropRecord i y).reg .ringCfg r = u.reg .ringCfg r := fun u y => by
    unfold State.dropRecord
    split
    · exact State.reg_setReg_of_ne _ _ _ _ _ _ _ _ (by simp [RegName.off, RegName.row]; omega)
    · rfl
  by_cases output : s.kind i = 1
  · obtain ⟨x, -, e⟩ := dropWaiting_of_output output
    rw [e]
    exact List.foldlRecOn (motive := fun u : State => u.reg .ringCfg r = s.reg .ringCfg r) _ _ rfl fun u g y _ => (dropped u y).trans g
  · rw [dropWaiting_of_other output]

/-- No record of ring r but those of an export. -/
def State.OnlyExports (s : State) (r : Nat) : Prop := ∀ y ∈ (s.ring r).records, y.oclass = 3

theorem foldl_dropWaiting (r : Nat) (l : List Nat) (s : State) (output : s.kind r = 1) (met : r ∈ l ∨ s.OnlyExports r) :
    (l.foldl State.dropWaiting s).kind r = 1 ∧ (l.foldl State.dropWaiting s).OnlyExports r := by
  induction l generalizing s with
  | nil => exact ⟨output, met.resolve_left List.not_mem_nil⟩
  | cons i l ih =>
    have same : (s.dropWaiting i).kind r = 1 := by
      simp only [State.kind, State.field, dropWaiting_cfg] at output ⊢
      exact output
    refine ih (s.dropWaiting i) same ?_
    by_cases own : r = i
    · subst own
      refine .inr fun y hy => ?_
      rw [dropWaiting_records s output] at hy
      simpa using List.of_mem_filter hy
    · refine met.imp (fun mem => (List.mem_cons.mp mem).resolve_left own) fun only y hy => ?_
      rw [dropWaiting_ring_of_ne s own] at hy
      exact only y hy

/-- The device enters D3hot. -/
def State.enterD3hot (s : State) (p : PState) : State :=
  ((s.rings.map (·.1)).filter (· < 1024)).foldl State.dropWaiting { s with power := { s.power with d3hot := true, pstate := p } }

theorem exec_d3hotEntry (s : State) : exec .d3hotEntry s = effect (fun s =>
    if s.boot.win ≠ 1 || s.power.d3hot then s
    else match s.power.pstate with
      | .run => s.enterD3hot .d3
      | .park => s.enterD3hot .park
      | _ => s) s := rfl

theorem enterD3hot_settles (s : State) (p : PState) : (settle s (s.enterD3hot p)).power = { s.power with d3hot := true, pstate := p } ∧
    (∀ r : Fin 1024, s.kind r = 1 → (settle s (s.enterD3hot p)).OnlyExports r) ∧
    (settle s (s.enterD3hot p)).tick = s.tick ∧ (settle s (s.enterD3hot p)).trays = s.trays := by
  have within : State.Within hostSide { s with power := { s.power with d3hot := true, pstate := p } } (s.enterD3hot p) :=
    .foldl _ (fun u i _ => dropWaiting_within u i) _
  refine ⟨(settle_power _ _).trans (within.field .power rfl), fun r output => ?_, (settle_tick _ _).trans (within.field .tick rfl),
    (settle_trays _ _).trans (within.field .trays rfl)⟩
  have met : r.val ∈ (s.rings.map (·.1)).filter (· < 1024) ∨ s.OnlyExports r := by
    by_cases none : s.ring r = {}
    · refine .inr fun y hy => ?_
      rw [none] at hy
      exact absurd hy List.not_mem_nil
    · exact .inl (List.mem_filter.mpr ⟨List.mem_map.mpr ⟨_, Store.mem_of_get_ne none, rfl⟩, by simp⟩)
  obtain ⟨kind, only⟩ := foldl_dropWaiting r _ { s with power := { s.power with d3hot := true, pstate := p } } output met
  intro y hy
  rw [settle_ring s (s.enterD3hot p) r (ne_of_eq_of_ne kind (by decide))] at hy
  exact only y hy

theorem d3hotEntry_completes (s : State) (window : s.boot.win = 1) (up : s.power.d3hot = false)
    (runs : s.power.pstate = .run ∨ s.power.pstate = .park) : Completes .d3hotEntry s fun t =>
      t.power = { s.power with d3hot := true, pstate := if s.power.pstate = .run then .d3 else .park } ∧
      (∀ r : Fin 1024, s.kind r = 1 → ∀ y ∈ (t.ring r).records, y.oclass = 3) ∧ t.tick = s.tick ∧ t.trays = s.trays := by
  refine completes_of_effect (exec_d3hotEntry s) ?_
  dsimp only
  rw [if_neg (by simp [window, up])]
  rcases runs with run | park
  · rw [run]
    exact enterD3hot_settles s .d3
  · rw [park]
    exact enterD3hot_settles s .park

theorem exec_d0Return (s : State) : exec .d0Return s = effect (fun s =>
    if !s.power.d3hot then s
    else (s.rings.map (·.1)).foldl State.goOn { s with power := { s.power with
      d3hot := false, pstate := if s.power.pstate = PState.d3 then PState.run else s.power.pstate } }) s := rfl

theorem d0Return_completes (s : State) (down : s.power.d3hot = true) : Completes .d0Return s fun t =>
    t.power = { s.power with d3hot := false, pstate := if s.power.pstate = .d3 then .run else s.power.pstate } := by
  refine completes_of_effect (exec_d0Return s) ?_
  dsimp only
  rw [if_neg (by simp [down]), settle_power]
  exact (State.Within.foldl (P := hostSide) (f := State.goOn) _ (fun u i _ => .goOn i) _).field .power rfl

/-! ### A function reset -/

/-- A commit whose completion is written nowhere. -/
def CommitRec.quiet (c : CommitRec) : CommitRec := { c with mute := true }

/-- What a function reset clears, the export and the ports of replaying mills apart. -/
def State.functionCleared (s : State) : State :=
  { s.clearRings with
    tick := { s.tick with judging := s.tick.judging.map CommitRec.quiet, armed := s.tick.armed.map CommitRec.quiet
                          landings := s.tick.landings.map fun x => { x with owner := x.owner.quiet } }
    regs := Store.clear s.regs 0x300000 0x400000
    power := { s.power with d3hot := false, pstate := if s.power.pstate = PState.d3 then PState.run else s.power.pstate } }

/-- HOST_LINK goes on reporting a link that stays up. -/
def State.linkKept (s : State) (k : FunctionResetKind) (link : Word) : State :=
  match k with
  | .flr => s.setReg .hostLink 0 0 link
  | _ => s

theorem functionReset_eq (s : State) (k : FunctionResetKind) : s.functionReset k =
    (((s.functionCleared.linkKept k (s.reg .hostLink)).exportLost s.rcl.exportRing).strandPorts ((List.range 64).filter s.replaying)).action .bar0 6 0 0 := by
  cases k <;> rfl

/-- A cleared ring keeps the count of its enables alone. -/
theorem clearRings_ring (s : State) (r : Nat) : ∃ n, s.clearRings.ring r = { inc := n } := by
  have each : ∀ l : List (Nat × Ring), ∃ n, Store.get ({} : Ring) (l.map fun e => (e.1, { inc := e.2.inc + 1 })) r = { inc := n } := fun l => by
    induction l with
    | nil => exact ⟨0, rfl⟩
    | cons e l ih =>
      simp only [List.map_cons, Store.get]
      split
      · exact ⟨_, rfl⟩
      · exact ih
  exact each s.rings

/-- Without a ring whose release waits, the end of an export frees the store and nothing else. -/
theorem exportLost_of_idle {s : State} (idle : ∀ r, (s.ring r).busy = false) (i : Nat) :
    s.exportLost i = { s with rcl := (s.exportLost i).rcl, raised := (s.exportLost i).raised } ∧
      (s.rcl.state ≠ .exporting → (s.exportLost i).rcl = s.rcl) ∧
      (s.rcl.state = .exporting → s.rcl.exportRing = i → (s.exportLost i).rcl.state = .frozen) := by
  have released : ∀ u : State, u.rings = s.rings → u.releasesDone = { u with rcl := { u.rcl with releasing := [] } } := fun u same => by
    refine List.foldlRecOn (motive := fun v : State => v = { u with rcl := { u.rcl with releasing := [] } }) _ _ rfl fun v g c _ => ?_
    have ring : v.ring c.ring = s.ring c.ring := by
      rw [g]
      exact ring_of_rings same _
    dsimp only
    rw [ring, idle, Bool.and_false, if_neg (by decide)]
    exact g
  unfold State.exportLost
  split
  next exports =>
    simp only [Bool.and_eq_true, decide_eq_true_eq] at exports
    extract_lets x s1
    refine ⟨?_, fun no => absurd exports.1 no, fun _ _ => ?_⟩
    · split
      · rfl
      · rw [released s1.release rfl]
        rfl
    · split
      · rfl
      · rw [released s1.release rfl]
        rfl
  next not =>
    exact ⟨rfl, fun _ => rfl, fun state ring => absurd (by simp [state, ring]) not⟩

/-- The ports of mills that replayed are stranded. -/
theorem strandPorts_facts (s : State) (mills : List Nat) : s.strandPorts mills = { s with ports := (s.strandPorts mills).ports } ∧
    ∀ i, (s.strandPorts mills).port i = if i ∈ s.enabledPorts ∧ i / 8 ∈ mills then { s.port i with stranded := true } else s.port i := by
  have each : ∀ (l : List Nat) (u : State), let t := l.foldl (fun s i => s.setPort i { s.port i with stranded := true }) u
      t = { u with ports := t.ports } ∧ ∀ i, t.port i = if i ∈ l then { u.port i with stranded := true } else u.port i := fun l => by
    induction l with
    | nil => exact fun u => ⟨rfl, fun i => by simp⟩
    | cons k l ih =>
      intro u
      obtain ⟨rest, ports⟩ := ih (u.setPort k { u.port k with stranded := true })
      refine ⟨rest.trans rfl, fun i => ?_⟩
      rw [List.foldl_cons, ports, State.port_setPort]
      by_cases own : i = k
      · subst own
        simp
      · simp [own]
  obtain ⟨rest, ports⟩ := each (s.enabledPorts.filter fun i => mills.contains (i / 8)) s
  refine ⟨rest, fun i => (ports i).trans ?_⟩
  simp [List.mem_filter]

theorem linkKept_facts (s : State) (k : FunctionResetKind) (link : Word) : s.linkKept k link = { s with regs := (s.linkKept k link).regs } ∧
    (k = .flr → (s.linkKept k link).reg .hostLink = link) ∧
    ∀ (n : RegName) (r : Nat), n ≠ .hostLink → r < n.row.n1 → 0 < n.row.n2 → (s.linkKept k link).reg n r = s.reg n r := by
  cases k with
  | flr => exact ⟨rfl, fun _ => State.reg_setReg_self _ _ _ _ _, fun n r other hr one =>
      reg_setReg_of_name other hr s link (by decide) one (by decide)⟩
  | hotReset => exact ⟨rfl, fun no => FunctionResetKind.noConfusion no, fun _ _ _ _ _ => rfl⟩
  | linkDisable => exact ⟨rfl, fun no => FunctionResetKind.noConfusion no, fun _ _ _ _ _ => rfl⟩
  | linkLoss => exact ⟨rfl, fun no => FunctionResetKind.noConfusion no, fun _ _ _ _ _ => rfl⟩

/-- The registers of the rings are cleared. -/
theorem functionCleared_reg (s : State) {n : RegName} {r : Nat} (lo : 0x300000 ≤ n.off r) (hi : n.off r < 0x400000) (zero : RegAt.reset ⟨n, r, 0⟩ = 0) :
    s.functionCleared.reg n r = 0 := by
  have cleared := Store.get_filter (RegAt.reset ⟨n, r, 0⟩) s.regs (fun k => decide (k < 0x300000) || decide (0x400000 ≤ k)) (n.off r)
  have gone : (decide (n.off r < 0x300000) || decide (0x400000 ≤ n.off r)) = false := by simp; omega
  rw [gone] at cleared
  exact cleared.trans zero

/-- The state that a function reset leaves, its events not yet offered. -/
theorem functionReset_facts (s : State) (k : FunctionResetKind) : ∃ w v : State, s.functionReset k = v.action .bar0 6 0 0 ∧
    w = { s.functionCleared with regs := w.regs } ∧ (k = .flr → w.reg .hostLink = s.reg .hostLink) ∧
    (∀ r : Fin 1024, w.cons r = 0 ∧ w.prod r = 0) ∧
    v = { w with rcl := v.rcl, raised := v.raised, ports := v.ports } ∧
    (s.rcl.state ≠ .exporting → v.rcl = s.rcl) ∧ (s.rcl.state = .exporting → v.rcl.state = .frozen) ∧
    ∀ i : Fin 512, v.port i = if i.val ∈ s.enabledPorts ∧ s.replaying (i / 8) = true then { s.port i with stranded := true } else s.port i := by
  obtain ⟨rest, link, regs⟩ := linkKept_facts s.functionCleared k (s.reg .hostLink)
  generalize hw : s.functionCleared.linkKept k (s.reg .hostLink) = w at rest link regs
  have ring : ∀ r, w.ring r = s.clearRings.ring r := fun r => by rw [rest]; rfl
  have idle : ∀ r, (w.ring r).busy = false := fun r => by
    obtain ⟨n, e⟩ := clearRings_ring s r
    rw [ring, e]
  obtain ⟨ended, kept, frozen⟩ := exportLost_of_idle idle s.rcl.exportRing
  have rcl : w.rcl = s.rcl := by rw [rest]; rfl
  generalize hx : w.exportLost s.rcl.exportRing = x at ended kept frozen
  obtain ⟨stranded, ports⟩ := strandPorts_facts x ((List.range 64).filter s.replaying)
  refine ⟨w, _, by rw [functionReset_eq, hw, hx], rest, link, fun r => ⟨?_, ?_⟩, ?_, ?_, ?_, fun i => ?_⟩
  · rw [State.cons, regs .ringCons r (by decide) r.isLt (by decide)]
    exact functionCleared_reg s (by simp [RegName.off, RegName.row]; omega) (by simp [RegName.off, RegName.row]; omega) rfl
  · rw [State.prod, regs .ringProd r (by decide) r.isLt (by decide)]
    exact functionCleared_reg s (by simp [RegName.off, RegName.row]; omega) (by simp [RegName.off, RegName.row]; omega) rfl
  · generalize x.strandPorts ((List.range 64).filter s.replaying) = v at stranded ⊢
    rw [stranded, ended]
  · intro state
    have same : (x.strandPorts ((List.range 64).filter s.replaying)).rcl = x.rcl := by rw [stranded]
    rw [same, kept (rcl ▸ state), rcl]
  · intro state
    have same : (x.strandPorts ((List.range 64).filter s.replaying)).rcl = x.rcl := by rw [stranded]
    rw [same]
    exact frozen (rcl ▸ state) (by rw [rcl])
  · have enabled : x.enabledPorts = s.enabledPorts := by rw [ended, rest]; rfl
    have port : x.port i = s.port i := by rw [ended, rest]; rfl
    have mill : i.val / 8 < 64 := by omega
    rw [ports, enabled, port]
    simp only [List.mem_filter, List.mem_range, mill, true_and]

theorem exec_functionReset (k : FunctionResetKind) (s : State) : exec (.functionReset k) s = effect (fun s =>
    if s.power.pstate = .keep || s.power.pstate = .reset || s.boot.win ≠ 1 then s
    else if k = .linkLoss && s.power.d3hot then s
    else s.functionReset k) s := rfl

theorem functionReset_completes (k : FunctionResetKind) (s : State) (keep : s.power.pstate ≠ .keep) (reset : s.power.pstate ≠ .reset)
    (window : s.boot.win = 1) (up : k ≠ .linkLoss ∨ s.power.d3hot = false) :
    Completes (.functionReset k) s fun t =>
      (∀ r, (t.ring r).state = .off ∧ (t.ring r).writes = [] ∧ (t.ring r).records = [] ∧ (t.ring r).bufs = []) ∧
      t.xcache = [] ∧ t.prqs = [] ∧ t.lookups = [] ∧ t.queues = [] ∧ t.atsOn = false ∧ t.priOn = false ∧ t.pci = {} ∧
      t.power = { s.power with d3hot := false, pstate := if s.power.pstate = .d3 then .run else s.power.pstate } ∧
      (∀ r : Fin 1024, t.cons r = 0 ∧ t.prod r = 0) ∧ (k = .flr → t.reg .hostLink = s.reg .hostLink) ∧
      (∀ c ∈ t.tick.judging ++ t.tick.armed, c.mute = true) ∧ t.tick.num = s.tick.num ∧ t.trays = s.trays ∧
      t.lanes = s.lanes ∧ (∀ i : Fin 512, t.port i =
        if i.val ∈ s.enabledPorts ∧ s.replaying (i / 8) = true then { s.port i with stranded := true } else s.port i) ∧
      t.walls = s.walls ∧ (s.rcl.state ≠ .exporting → t.rcl = s.rcl) ∧ (s.rcl.state = .exporting → t.rcl.state = .frozen) ∧
      t.tb0 = s.tb0 ∧ t.tb1 = s.tb1 ∧ t.dram = s.dram ∧ t.markSeq = s.markSeq + 1 := by
  refine completes_of_effect (exec_functionReset k s) ?_
  dsimp only
  rw [if_neg (by simp [keep, reset, window]), if_neg (by rcases up with e | e <;> simp [e])]
  obtain ⟨w, v, ends, cleared, link, counts, rest, kept, frozen, ports⟩ := functionReset_facts s k
  have ring : ∀ r, (v.action .bar0 6 0 0).ring r = s.clearRings.ring r := fun r =>
    (ring_of_rings (by rw [rest]; rfl : (v.action .bar0 6 0 0).rings = w.rings) r).trans (ring_of_rings (by rw [cleared]; rfl) r)
  have off : (v.action .bar0 6 0 0).RingsOff := fun r => by
    obtain ⟨n, e⟩ := clearRings_ring s r
    rw [ring, e]
  obtain ⟨l, f, settled⟩ := settle_of_ringsOff s off
  rw [ends]
  generalize settle s (v.action .bar0 6 0 0) = t at settled ⊢
  have bare : ∀ r, t.ring r = s.clearRings.ring r := fun r => (ring_of_rings (by rw [settled]) r).trans (ring r)
  refine ⟨fun r => ?_, ?_⟩
  · obtain ⟨n, e⟩ := clearRings_ring s r
    rw [bare, e]
    exact ⟨rfl, rfl, rfl, rfl⟩
  have regs : t.regs = w.regs := by rw [settled, rest]; rfl
  have muted : ∀ c ∈ s.functionCleared.tick.judging ++ s.functionCleared.tick.armed, c.mute = true := fun c hc => by
    rcases List.mem_append.mp hc with hc | hc
    · obtain ⟨d, -, rfl⟩ := List.mem_map.mp hc
      rfl
    · obtain ⟨d, -, rfl⟩ := List.mem_map.mp hc
      rfl
  have tick : t.tick = s.functionCleared.tick := by rw [settled, rest, cleared]; rfl
  have rcl : t.rcl = v.rcl := by rw [settled]; rfl
  have port : ∀ i, t.port i = v.port i := fun i => by rw [settled]; rfl
  have count : ∀ (n : RegName) (i : Nat), t.reg n i = w.reg n i := fun n i => by simp only [State.reg, regs]
  refine ⟨?_, ?_, ?_, ?_, ?_, ?_, ?_, ?_, fun r => ⟨(count _ _).trans (counts r).1, (count _ _).trans (counts r).2⟩,
    fun flr => (count _ _).trans (link flr), fun c hc => muted c (tick ▸ hc), by rw [tick]; rfl, ?_, ?_, fun i => (port i).trans (ports i), ?_,
    fun state => rcl.trans (kept state), fun state => rcl ▸ frozen state, ?_, ?_, ?_, ?_⟩
  all_goals
    rw [settled, rest, cleared]
    rfl

/-- Settles O36: what the function's state allows is done alone, and a reset of the function leaves the data plane as it is. -/
theorem functionState : Obligations.FunctionState := by
  unfold Obligations.FunctionState
  refine ⟨configRequest_completes, ⟨d3hotEntry_completes, d0Return_completes, fun s sound => ⟨fun idle => ?_, fun up => ?_⟩, linkChange_completes⟩,
    fun k s _ keep reset window up => functionReset_completes k s keep reset window up, fun k s sound idle => ?_⟩
  · exact completes_idle (exec_d3hotEntry s) (if_pos (by
      rcases idle with e | e
      · rw [decide_eq_true e, Bool.true_or]
      · rw [e, Bool.or_true])) sound
  · exact completes_idle (exec_d0Return s) (by simp [up]) sound
  · exact completes_idle (exec_functionReset k s) (by
      rcases idle with window | ⟨loss, down⟩
      · exact if_pos (by rw [decide_eq_true window, Bool.or_true])
      · simp [loss, down]) sound

end Sys2Proof.Machine
end

section
/-!
SUPPORT. Funnels and output slots (05, 12): what leaves a funnel reaches its ring as a record or is counted as dropped, and the funnel's
level touches the registers of its mill alone. From this O37.
-/
namespace Sys2Proof.Machine

/-- What a funnel that moves may change: itself, the registers below the RING block and the events raised. -/
def funnelSide : Footprint where
  has
    | .raised | .funnels => true
    | _ => false
  regs off := decide (off < 0x300000)

/-- The registers of the mills, below the RING block. -/
def millRegs (off : Nat) : Bool := decide (0x100000 ≤ off) && decide (off < 0x300000)

/-- What the notices of a mill's levels may change. -/
def noticeSide : Footprint where
  has
    | .raised => true
    | _ => false
  regs := millRegs

theorem noticeSide_mill {n : RegName} {m j : Nat} (hm : m < 64) (s1 : n.row.s1 = 0x4000) (base : 0x100000 ≤ n.row.base ∧ n.row.base < 0x100710)
    (s2 : n.row.s2 * j ≤ 0x100) : noticeSide.regs (n.off m j) = true := by
  show millRegs _ = true
  simp only [millRegs, Bool.and_eq_true, decide_eq_true_eq]
  unfold RegName.off
  rw [s1]
  omega

theorem funnelReg_small {n : RegName} {f : Nat} (hf : f < 5) (s2 : n.row.s2 = 0x10) : n.row.s2 * f ≤ 0x100 := by
  rw [s2]
  omega

theorem ringOff_not_below (n : RegName) (h : 0x300000 ≤ n.row.base) (i j : Nat) : decide (n.off i j < 0x300000) = false :=
  decide_eq_false (Nat.not_lt.mpr (h.trans (base_le_off n i j)))

namespace State.Within

variable {s t : State}

theorem notice (h : s.Within noticeSide t) : s.Within funnelSide t := h.mono (fun f => by cases f <;> decide) fun off no => by
  rw [show noticeSide.regs off = (_ && _) from rfl, show decide (off < 0x300000) = false from no, Bool.and_false]

theorem latchNote {m funnel : Nat} (hm : m < 64) (level mark : Nat) : s.Within noticeSide (s.latchNote m funnel level mark) := by
  unfold State.latchNote
  extract_lets told s1
  have latched : s.Within noticeSide s1 := setField (noticeSide_mill hm rfl (by decide) (by decide))
  exact latched.trans (ite (raise _ _ rfl) (refl _ _))

theorem crossing {m : Nat} (hm : m < 64) (funnel old new mark : Nat) {xing : State → State} (counts : s.Within noticeSide (xing s)) :
    s.Within noticeSide (s.crossing m funnel old new mark xing) := ite (counts.trans (latchNote hm _ _)) (refl _ _)

theorem funMoved {m f : Nat} (hm : m < 64) (hf : f < 5) (old : Nat) : s.Within noticeSide (s.funMoved m f old) := by
  unfold State.funMoved
  extract_lets new s1
  have peak : s.Within noticeSide s1 :=
    ite (setReg (noticeSide_mill hm rfl (by decide) (by decide)) _) (setReg (noticeSide_mill hm rfl (by decide) (funnelReg_small hf rfl)) _)
  exact peak.trans (crossing hm _ _ _ _ (ite (bump (noticeSide_mill hm rfl (by decide) (by decide)))
    (bump (noticeSide_mill hm rfl (by decide) (funnelReg_small hf rfl)))))

theorem ringReg (h : s.Within funnelSide t) {n : RegName} (ring : 0x300000 ≤ n.row.base) (i j : Nat) : t.reg n i j = s.reg n i j :=
  h.reg _ _ (ringOff_not_below n ring i j)

theorem ring_same (h : s.Within funnelSide t) (r : Nat) : t.ring r = s.ring r := by
  have rings : t.rings = s.rings := h.field .rings rfl
  unfold State.ring
  rw [rings]

theorem kind_same (h : s.Within funnelSide t) (r : Nat) : t.kind r = s.kind r := by
  simp only [State.kind, State.field, h.ringReg (n := .ringCfg) (by decide)]

theorem takes_same (h : s.Within funnelSide t) (r c : Nat) : t.ringTakes r c = s.ringTakes r c := by
  have power : t.power = s.power := h.field .power rfl
  unfold State.ringTakes State.field
  rw [h.ring_same, h.kind_same, power, h.ringReg (n := .ringCfg) (by decide)]

theorem now_same (h : s.Within funnelSide t) : t.now = s.now := by
  have tick : t.tick = s.tick := h.field .tick rfl
  unfold State.now
  rw [tick]

end State.Within

/-! ### A record is offered -/

theorem offerNumbered_of_takes {s : State} {r c : Nat} (takes : s.ringTakes r c = true) (rseq : Word) (bytes : List Byte) (units : List Nat) :
    ∃ y, ((s.offerNumbered r c rseq bytes units).ring r).records = (s.ring r).records ++ [y] ∧ y.bytes = bytes ∧ y.rseq = rseq ∧
      y.slot = s.now ∧ y.oclass = BitVec.ofNat 2 c := by
  refine ⟨{ bytes := bytes, units := units, rseq := rseq, oclass := BitVec.ofNat 2 c, slot := s.now, order := s.offered }, ?_, rfl, rfl, rfl, rfl⟩
  unfold State.offerNumbered
  rw [if_pos takes]
  exact congrArg Ring.records ((State.ring_setRing ..).trans (if_pos rfl))

theorem offerNumbered_of_refused {s : State} {r c : Nat} (takes : s.ringTakes r c = false) (rseq : Word) (bytes : List Byte) (units : List Nat) :
    ∃ y, s.offerNumbered r c rseq bytes units = s.dropRecord r y := by
  unfold State.offerNumbered
  rw [if_neg (by simp [takes])]
  exact ⟨_, rfl⟩

theorem dropRecord_ringDrop (s : State) {r : Nat} (hr : r < 1024) (y : Record) :
    (s.dropRecord r y).reg .ringDrop r = satAdd (s.reg .ringDrop r) 1 := by
  unfold State.dropRecord
  rw [if_pos hr]
  exact State.reg_setReg_self _ _ _ _ _

/-- What an operation may do to a ring: more records behind those it holds, and the ring is of the same kind. -/
structure State.Appends (r : Nat) (s t : State) : Prop where
  records : ∃ ys, (t.ring r).records = (s.ring r).records ++ ys
  kind : t.kind r = s.kind r

namespace State.Appends

variable {r : Nat} {s t u : State}

theorem of_funnel (h : s.Within funnelSide t) : s.Appends r t := ⟨⟨[], by rw [h.ring_same, List.append_nil]⟩, h.kind_same r⟩

theorem trans (h : s.Appends r t) (g : t.Appends r u) : s.Appends r u := by
  obtain ⟨ys, hy⟩ := h.records
  obtain ⟨zs, hz⟩ := g.records
  exact ⟨⟨ys ++ zs, by rw [hz, hy, List.append_assoc]⟩, g.kind.trans h.kind⟩

theorem offerNumbered (hr : r < 1024) {q : Nat} (hq : q < 1024) (c : Nat) (rseq : Word) (bytes : List Byte) (units : List Nat) :
    s.Appends r (s.offerNumbered q c rseq bytes units) := by
  cases takes : s.ringTakes q c with
  | false =>
    obtain ⟨y, dropped⟩ := offerNumbered_of_refused takes rseq bytes units
    rw [dropped]
    refine ⟨⟨[], by rw [List.append_nil, State.ring, State.ring, dropRecord_rings]⟩, ?_⟩
    have cfg : (s.dropRecord q y).reg .ringCfg r = s.reg .ringCfg r := by
      unfold State.dropRecord
      rw [if_pos hq]
      exact reg_setReg_of_name (by decide) hr _ _ hq (by decide) (by decide)
    simp only [State.kind, State.field, cfg]
  | true =>
    have same : (s.offerNumbered q c rseq bytes units).kind r = s.kind r := by
      unfold State.offerNumbered
      rw [if_pos takes]
      rfl
    by_cases e : r = q
    · subst e
      obtain ⟨y, more, -⟩ := offerNumbered_of_takes takes rseq bytes units
      exact ⟨⟨[y], more⟩, same⟩
    · refine ⟨⟨[], ?_⟩, same⟩
      unfold State.offerNumbered
      rw [if_pos takes, List.append_nil]
      refine congrArg Ring.records ((State.ring_setRing ..).trans (if_neg e))

end State.Appends

/-! ### A funnel passes its oldest item -/

/-- A funnel without its oldest item, its level told. -/
def State.funnelTaken (s : State) (m f : Nat) (x : FunItem) (q : List FunItem) : State :=
  (s.setFunnel (8 * m + f) q).funMoved m f (funnelLevel (x :: q))

/-- The item, offered to its ring. -/
def State.itemPassed (s : State) (m f : Nat) (x : FunItem) (q : List FunItem) : State :=
  (s.funnelTaken m f x q).offerNumbered (x.ring % 1024) (funnelClass f) x.rseq (putSeq x.bytes 56 x.rseq) [x.bytes.length]

section
variable {s : State} {m f : Nat} {x : FunItem} {q : List FunItem}

theorem passOldest_eq (front : s.funnel (8 * m + f) = x :: q) : s.passOldest m f =
    if !s.ringTakes (x.ring % 1024) (funnelClass f) || (s.ring (x.ring % 1024)).room x.bytes.length then s.itemPassed m f x q else s := by
  unfold State.passOldest
  rw [front]
  rfl

theorem funnelTaken_within (hm : m < 64) (hf : f < 5) : s.Within funnelSide (s.funnelTaken m f x q) :=
  (State.Within.setFunnel _ _ rfl).trans (State.Within.funMoved hm hf _).notice

theorem funnelTaken_funnel (hm : m < 64) (hf : f < 5) : (s.funnelTaken m f x q).funnel (8 * m + f) = q := by
  have kept := (State.Within.funMoved (s := s.setFunnel (8 * m + f) q) hm hf (funnelLevel (x :: q))).field .funnels rfl
  exact (congrArg (Store.get [] · (8 * m + f)) kept).trans ((State.funnel_setFunnel ..).trans (if_pos rfl))

theorem offerNumbered_funnel (r c : Nat) (rseq : Word) (bytes : List Byte) (units : List Nat) (j : Nat) :
    (s.offerNumbered r c rseq bytes units).funnel j = s.funnel j := by
  unfold State.offerNumbered State.dropRecord
  dsimp only
  split
  · rfl
  · split <;> rfl

theorem passOldest_appends (hm : m < 64) (hf : f < 5) {r : Nat} (hr : r < 1024) : s.Appends r (s.passOldest m f) := by
  cases front : s.funnel (8 * m + f) with
  | nil =>
    unfold State.passOldest
    rw [front]
    exact .of_funnel (.refl _ _)
  | cons x q =>
    rw [passOldest_eq front]
    split
    · exact (State.Appends.of_funnel (funnelTaken_within hm hf)).trans (.offerNumbered hr (Nat.mod_lt _ (by decide)) _ _ _ _)
    · exact .of_funnel (.refl _ _)

theorem passDue_appends (hm : m < 64) (hf : f < 5) {r : Nat} (hr : r < 1024) (n : Nat) (s : State) : s.Appends r (s.passDue m f n) := by
  induction n generalizing s with
  | zero => exact .of_funnel (.refl _ _)
  | succ n ih =>
    unfold State.passDue
    split
    · exact .of_funnel (.refl _ _)
    · split
      · exact .of_funnel (.refl _ _)
      · dsimp only
        split
        · exact passOldest_appends hm hf hr
        · exact (passOldest_appends hm hf hr).trans (ih _)

end

/-- The record of an item whose ring takes its class stands behind those that the ring holds. -/
theorem itemPassed_takes (s : State) {m f : Nat} (hm : m < 64) (hf : f < 5) (x : FunItem) (q : List FunItem) (ring : x.ring < 1024)
    (takes : s.ringTakes x.ring (funnelClass f) = true) :
    ∃ y, ((s.itemPassed m f x q).ring x.ring).records = (s.ring x.ring).records ++ [y] ∧ y.bytes = putSeq x.bytes 56 x.rseq ∧
      y.rseq = x.rseq ∧ y.slot = s.now := by
  have within := funnelTaken_within (s := s) (x := x) (q := q) hm hf
  obtain ⟨y, more, bytes, rseq, slot, -⟩ :=
    offerNumbered_of_takes (within.takes_same _ _ |>.trans takes) x.rseq (putSeq x.bytes 56 x.rseq) [x.bytes.length]
  rw [within.ring_same] at more
  rw [within.now_same] at slot
  unfold State.itemPassed
  rw [Nat.mod_eq_of_lt ring]
  exact ⟨y, more, bytes, rseq, slot⟩

theorem itemPassed_funnel (s : State) {m f : Nat} (hm : m < 64) (hf : f < 5) (x : FunItem) (q : List FunItem) :
    (s.itemPassed m f x q).funnel (8 * m + f) = q := (offerNumbered_funnel ..).trans (funnelTaken_funnel hm hf)

theorem itemPassed_appends (s : State) {m f : Nat} (hm : m < 64) (hf : f < 5) (x : FunItem) (q : List FunItem) {r : Nat} (hr : r < 1024) :
    s.Appends r (s.itemPassed m f x q) :=
  (State.Appends.of_funnel (funnelTaken_within hm hf)).trans (.offerNumbered hr (Nat.mod_lt _ (by decide)) _ _ _ _)

/-- One whose ring does not take it is counted, and the ring stays as it is. -/
theorem itemPassed_refused (s : State) {m f : Nat} (hm : m < 64) (hf : f < 5) (x : FunItem) (q : List FunItem) (ring : x.ring < 1024)
    (refused : s.ringTakes x.ring (funnelClass f) = false) :
    (s.itemPassed m f x q).ring x.ring = s.ring x.ring ∧
      (s.itemPassed m f x q).reg .ringDrop x.ring = satAdd (s.reg .ringDrop x.ring) 1 := by
  have within := funnelTaken_within (s := s) (x := x) (q := q) hm hf
  obtain ⟨y, dropped⟩ :=
    offerNumbered_of_refused (within.takes_same _ _ |>.trans refused) x.rseq (putSeq x.bytes 56 x.rseq) [x.bytes.length]
  unfold State.itemPassed
  rw [Nat.mod_eq_of_lt ring, dropped, dropRecord_ringDrop _ ring, within.ringReg (by decide), State.ring, dropRecord_rings]
  exact ⟨within.ring_same _, rfl⟩

/-! ### O37 -/

theorem exec_funnelDeliver (m : Fin 64) (f : Fin 5) (s : State) : exec (.funnelDeliver m f) s = effect (fun s =>
    if s.dark || s.tick.halted then s
    else match s.funnel (8 * m.val + f.val) with
      | [] => s
      | x :: _ => if s.now < x.due then s else s.passOldest m.val f.val) s := rfl

theorem settle_funnel (s0 u : State) (j : Nat) : (settle s0 u).funnel j = u.funnel j := by simp only [State.funnel, settle_funnels]

theorem ringTakes_kind {s : State} {r c : Nat} (takes : s.ringTakes r c = true) : s.kind r = 1 := by
  simp only [State.ringTakes, Bool.and_eq_true, decide_eq_true_eq] at takes
  exact takes.1.2

theorem funnelDeliver_completes (m : Fin 64) (f : Fin 5) (x : FunItem) (q : List FunItem) (s : State) (sound : s.Sound) (lit : s.dark = false)
    (go : s.tick.halted = false) (front : s.funnel (8 * m + f) = x :: q) (ring : x.ring < 1024) :
    Completes (.funnelDeliver m f) s fun t =>
      (s.now < x.due → t = s) ∧
      (x.due ≤ s.now → s.ringTakes x.ring (funnelClass f) = true → (s.ring x.ring).room x.bytes.length = true →
        t.funnel (8 * m + f) = q ∧ ∃ y, (t.ring x.ring).records = (s.ring x.ring).records ++ [y] ∧
          y.bytes = putSeq x.bytes 56 x.rseq ∧ y.rseq = x.rseq ∧ y.slot = s.now) ∧
      (x.due ≤ s.now → s.ringTakes x.ring (funnelClass f) = true → (s.ring x.ring).room x.bytes.length = false → t = s) ∧
      (x.due ≤ s.now → s.ringTakes x.ring (funnelClass f) = false → t.funnel (8 * m + f) = q ∧
        (s.kind x.ring ≠ 3 → t.ring x.ring = s.ring x.ring ∧
          t.reg .ringDrop x.ring = satAdd (s.reg .ringDrop x.ring) 1)) := by
  have ended := sound.settle_eq (s0 := s) rfl rfl
  refine completes_of_effect (exec_funnelDeliver m f s) ?_
  simp only [lit, go, Bool.or_self, Bool.false_eq_true, if_false, front, passOldest_eq front, Nat.mod_eq_of_lt ring]
  refine ⟨fun early => ?_, fun due takes room => ?_, fun due takes room => ?_, fun due refused => ?_⟩
  · rw [if_pos early]
    exact ended
  · rw [if_neg (Nat.not_lt.mpr due), room, Bool.or_true, if_pos rfl]
    obtain ⟨y, more, fields⟩ := itemPassed_takes s m.isLt f.isLt x q ring takes
    have kind := (itemPassed_appends s m.isLt f.isLt x q ring).kind.trans (ringTakes_kind takes)
    rw [settle_ring _ _ _ (by rw [kind]; decide)]
    exact ⟨(settle_funnel ..).trans (itemPassed_funnel s m.isLt f.isLt x q), y, more, fields⟩
  · rw [if_neg (Nat.not_lt.mpr due), room, takes, if_neg (by decide)]
    exact ended
  · rw [if_neg (Nat.not_lt.mpr due), refused, Bool.not_false, Bool.true_or, if_pos rfl]
    obtain ⟨same, counted⟩ := itemPassed_refused s m.isLt f.isLt x q ring refused
    refine ⟨(settle_funnel ..).trans (itemPassed_funnel s m.isLt f.isLt x q), fun own => ?_⟩
    have kind := (itemPassed_appends s m.isLt f.isLt x q ring).kind.trans_ne own
    rw [settle_ring _ _ _ kind]
    exact ⟨same, (settle_drop _ _ ⟨x.ring, ring⟩ kind).trans counted⟩

/-! ### Output slots -/

/-- The state in which a slot has its place in the order of the tick. -/
def State.slotUsed (s : State) (k : Nat × Nat × Nat) : State := { s with tick := { s.tick with slotAt := some k } }

theorem exec_outputSlot (u : SlotUnit) (s : State) : exec (.outputSlot u) s = effect (fun s =>
    if s.dark || s.tick.halted then s
    else match s.slotKey u with
      | none => s
      | some k => if s.slotInOrder k then (s.slotUsed k).slotOutput u else s) s := rfl

/-- An output slot that has something to deliver. -/
theorem exec_outputSlot_of_key {u : SlotUnit} {s : State} {k : Nat × Nat × Nat} (lit : s.dark = false) (go : s.tick.halted = false)
    (key : s.slotKey u = some k) : exec (.outputSlot u) s = effect (fun s => if s.slotInOrder k then (s.slotUsed k).slotOutput u else s) s := by
  rw [exec_outputSlot]
  simp only [effect, lit, go, Bool.or_self, Bool.false_eq_true, if_false, key]

theorem funnelFuel_pos {s : State} {m f : Nat} {x : FunItem} {q : List FunItem} (front : s.funnel (8 * m + f) = x :: q) :
    ∃ n, s.funnelFuel m f = n + 1 := by
  unfold State.funnelFuel
  rw [front]
  exact ⟨_, rfl⟩

theorem passDue_slot (m : Fin 64) (f : Fin 5) (x : FunItem) (q : List FunItem) (k : Nat × Nat × Nat) (s : State) (sound : s.Sound)
    (front : s.funnel (8 * m + f) = x :: q) (ring : x.ring < 1024) (n : Nat) :
    let t := settle s ((s.slotUsed k).passDue m f (n + 1))
    (s.now < x.due → t = s.slotUsed k) ∧
      (x.due ≤ s.now → s.ringTakes x.ring (funnelClass f) = true → (s.ring x.ring).room x.bytes.length = true →
        ∃ y ys, (t.ring x.ring).records = (s.ring x.ring).records ++ y :: ys ∧ y.rseq = x.rseq ∧ y.bytes = putSeq x.bytes 56 x.rseq) := by
  have still : (s.slotUsed k).funnel (8 * m.val + f.val) = x :: q := front
  have now : (s.slotUsed k).now = s.now := rfl
  unfold State.passDue
  simp only [still, now]
  refine ⟨fun early => ?_, fun due takes room => ?_⟩
  · rw [if_pos early]
    exact State.Sound.settle_eq (by exact sound) (by rfl) (by rfl)
  · have passed : (s.slotUsed k).passOldest m f = (s.slotUsed k).itemPassed m f x q := by
      rw [passOldest_eq still, Nat.mod_eq_of_lt ring]
      exact if_pos (by rw [show ((s.slotUsed k).ring x.ring).room x.bytes.length = true from room, Bool.or_true])
    obtain ⟨y, more, bytes, rseq, -⟩ := itemPassed_takes (s.slotUsed k) m.isLt f.isLt x q ring takes
    have first := itemPassed_appends (s.slotUsed k) m.isLt f.isLt x q ring
    rw [if_neg (Nat.not_lt.mpr due), passed, itemPassed_funnel _ m.isLt f.isLt, if_neg (by omega)]
    have later := passDue_appends m.isLt f.isLt ring n ((s.slotUsed k).itemPassed m f x q)
    obtain ⟨ys, behind⟩ := later.records
    have kind := ((first.trans later).kind).trans (ringTakes_kind takes)
    rw [settle_ring _ _ _ (by rw [kind]; decide), behind, more, List.append_assoc]
    exact ⟨y, ys, rfl, rseq, bytes⟩

theorem outputSlot_completes (u : SlotUnit) (m : Fin 64) (f : Fin 5) (x : FunItem) (q : List FunItem) (k : Nat × Nat × Nat) (s : State)
    (sound : s.Sound) (lit : s.dark = false) (go : s.tick.halted = false)
    (unit : (u = .stats m ∧ f = 4) ∨ (∃ t : Fin 4, u = .tap m t ∧ f.val = t.val))
    (front : s.funnel (8 * m + f) = x :: q) (ring : x.ring < 1024) (key : s.slotKey u = some k) :
    Completes (.outputSlot u) s fun t =>
      (s.slotInOrder k = false → t = s) ∧
      (s.slotInOrder k = true → s.now < x.due → t = s.slotUsed k) ∧
      (s.slotInOrder k = true → x.due ≤ s.now → s.ringTakes x.ring (funnelClass f) = true →
        (s.ring x.ring).room x.bytes.length = true →
        ∃ y ys, (t.ring x.ring).records = (s.ring x.ring).records ++ y :: ys ∧ y.rseq = x.rseq ∧
          y.bytes = putSeq x.bytes 56 x.rseq) := by
  refine completes_of_effect (exec_outputSlot_of_key lit go key) ?_
  obtain ⟨n, fuel⟩ := funnelFuel_pos (s := s.slotUsed k) front
  have output : (s.slotUsed k).slotOutput u = (s.slotUsed k).passDue m f (n + 1) := by
    rw [← fuel]
    rcases unit with ⟨rfl, rfl⟩ | ⟨t, rfl, same⟩
    · rfl
    · rw [same]
      rfl
  obtain ⟨early, taken⟩ := passDue_slot m f x q k s sound front ring n
  rw [output]
  refine ⟨fun behind => ?_, fun ahead => ?_, fun ahead => ?_⟩
  · rw [if_neg (by simp [behind])]
    exact sound.settle_eq (s0 := s) rfl rfl
  · rw [if_pos ahead]
    exact early
  · rw [if_pos ahead]
    exact taken

/-- Settles O37: an item that leaves its funnel becomes the last record of its ring, or one count of its drops. -/
theorem funnelsPassItems : Obligations.FunnelsPassItems := by
  unfold Obligations.FunnelsPassItems
  exact ⟨funnelDeliver_completes, outputSlot_completes⟩

end Sys2Proof.Machine
end

section
/-!
SUPPORT. Output slots (09, 10, 11): composing a wall frame, and handing it to the recall store, a stream and the chain, leaves the rings
and their registers alone. From this O38.
-/
namespace Sys2Proof.Machine

/-- The registers outside the blocks of the rings, the translation and the event queues. -/
def outsideRings (off : Nat) : Bool := decide (off < 0x300000) || decide (0x400000 ≤ off)

/-- What reading and writing DRAM may change. -/
def memSide : Footprint where
  has
    | .dram | .upsets | .chans | .raised => true
    | _ => false
  regs := outsideRings

/-- What reading DRAM changes: the registers of its channels among them. -/
def dramSide : Footprint where
  has
    | .dram | .upsets | .chans | .raised => true
    | _ => false
  regs off := decide (0x400000 ≤ off)

theorem dramSide_off {n : RegName} (base : 0x400000 ≤ n.row.base) (i j : Nat) : dramSide.regs (n.off i j) = true :=
  decide_eq_true (base.trans (base_le_off n i j))

/-- What the making and sending of a wall frame may change beside its ring. -/
def wallSide : Footprint where
  has
    | .dram | .upsets | .chans | .raised | .rcl | .splits | .out => true
    | _ => false
  regs := outsideRings

theorem outsideRings_high {n : RegName} (base : 0x400000 ≤ n.row.base) (i j : Nat) : outsideRings (n.off i j) = true := by
  have := base_le_off n i j
  simp only [outsideRings, Bool.or_eq_true, decide_eq_true_eq]
  omega

theorem outsideRings_wall {n : RegName} {w : Nat} (hw : w < 256) (s1 : n.row.s1 = 0x10) (base : n.row.base < 0x201000) :
    outsideRings (n.off w) = true := by
  simp only [outsideRings, Bool.or_eq_true, decide_eq_true_eq, RegName.off, s1]
  omega

theorem outsideRings_ring {n : RegName} {i j : Nat} (low : 0x300000 ≤ n.off i j) (high : n.off i j < 0x400000) :
    outsideRings (n.off i j) = false := by
  simp only [outsideRings, Bool.or_eq_false_iff, decide_eq_false_iff_not]
  omega

namespace State.Within

variable {s t : State}

theorem wall (h : s.Within memSide t) : s.Within wallSide t := h.mono (fun f => by cases f <;> decide) fun _ no => no

/-! ### DRAM -/

theorem writeDram (a : Nat) (bs : List Byte) : s.Within memSide (s.writeDram a bs) :=
  .update [.dram, .upsets] rfl (by rw [writeDram_frame]; rfl)

theorem mem (h : s.Within dramSide t) : s.Within memSide t := h.mono (fun f => by cases f <;> decide) fun off no =>
  decide_eq_false fun high => by simp [memSide, outsideRings, high] at no

theorem setUpsets (p : Nat) (m : List (BitVec 80)) : s.Within dramSide (s.setUpsets p m) := .update [.upsets] rfl (by rfl)

theorem decodeUnit (ch l src : Nat) (beats : List (BitVec 80)) : s.Within dramSide (s.decodeUnit ch l src beats).2 := by
  unfold State.decodeUnit
  extract_lets p
  split
  · exact refl _ _
  · next rs bad ces s1 s2 bytes s3 s4 ae s5 bytes2 _ =>
    have counted : s.Within dramSide s2 :=
      (ite (refl _ _) (bump (dramSide_off (by decide) _ _))).trans (ite (refl _ _) (setChan _ _ rfl))
    split
    · have stored : s2.Within dramSide s3 := trans (update [.dram] rfl (by rfl)) (setUpsets _ _)
      exact ((counted.trans stored).trans ((bump (dramSide_off (by decide) _ _)).trans
        (setReg (dramSide_off (by decide) _ _) _))).trans (raise _ _ rfl)
    · exact counted.trans (ite (refl _ _) (trans (update [.dram] rfl (by rfl)) (setUpsets _ _)))

theorem readUnit (ch l src : Nat) : s.Within dramSide (s.readUnit ch l src).2 := by
  unfold State.readUnit
  split
  · exact refl _ _
  · split
    · exact decodeUnit _ _ _ _
    · exact refl _ _

theorem readUnits (a n : Nat) : s.Within dramSide (s.readUnits a n).2 := by
  induction n generalizing s a with
  | zero => exact refl _ _
  | succ n ih =>
    unfold State.readUnits
    cases split : s.dramSplit a with
    | none => exact ih _
    | some q => exact (readUnit q.1 q.2 1).trans (ih _)

theorem readDram (a len : Nat) : s.Within dramSide (s.readDram a len).2 := readUnits _ _

/-! ### A wall frame -/

theorem stagingUnits (addr : Nat) (us : List Nat) : s.Within memSide (s.stagingUnits addr us).2.2 := by
  induction us generalizing s with
  | nil => exact refl _ _
  | cons u us ih => exact (readUnits (addr + 64 * u) 1).mem.trans (ih (s := (s.readUnits (addr + 64 * u) 1).2))

theorem compose (w : Nat) (d : WallDue) : s.Within memSide (s.compose w d).2.2 := by
  unfold State.compose
  extract_lets b fmt fb src us here
  split
  next m n t made =>
    have went : s.Within memSide (if here = true then s.stagingUnits d.addr us else ([], us.length, s)).2.2 := by
      split
      · exact stagingUnits _ _
      · exact refl _ _
    rw [made] at went
    exact went

theorem putRow (w : Nat) (r : HeldRow) : s.Within memSide (s.putRow w r) := by
  unfold State.putRow
  split
  · exact writeDram _ _
  · exact refl _ _

theorem noteWall {w : Nat} (hw : w < 256) (d : WallDue) (flags poisoned : Nat) : s.Within memSide (s.noteWall w d flags poisoned) := by
  unfold State.noteWall
  extract_lets n s1 late s2 s3
  have filled : s.Within memSide s1 := ite (refl _ _) ((bump (outsideRings_wall hw rfl (by decide))).trans (raise _ _ rfl))
  have told : s1.Within memSide s2 := ite (refl _ _) (bump (outsideRings_wall hw rfl (by decide)))
  have spoilt : s2.Within memSide s3 := ite (refl _ _) ((bump (outsideRings_wall hw rfl (by decide))).trans (raise _ _ rfl))
  exact ((filled.trans told).trans spoilt).trans (setReg (outsideRings_wall hw rfl (by decide)) _)

theorem recallWrite (f : RecallFrame) : s.Within wallSide (s.recallWrite f) := by
  unfold State.recallWrite
  split
  · exact bump rfl
  · extract_lets space at0 old e s1
    exact ite (bump rfl) (trans (update [.rcl] rfl (by rfl)) (writeDram _ _).wall)

theorem recallPass (all : Bool) (fs : List RecallFrame) : s.Within wallSide (s.recallPass all fs) := by
  induction fs generalizing s with
  | nil => exact update [.rcl] rfl (by rfl)
  | cons f fs ih => exact ite ((recallWrite f).trans ih) (update [.rcl] rfl (by rfl))

theorem recallTake (w : Nat) (b : Bank) (tick : Nat) (bytes : List Byte) : s.Within wallSide (s.recallTake w b tick bytes) := recallPass _ _

theorem streamDrop (n w cause tick : Nat) : s.Within wallSide (s.streamDrop n w cause tick) :=
  (bump (outsideRings_high (by decide) _ _)).trans (raise _ _ rfl)

theorem offerStream (n w tick : Nat) : s.Within wallSide (s.offerStream n w tick).2 := by
  unfold State.offerStream
  extract_lets x q s1
  have counted : s.Within wallSide s1 := setReg (outsideRings_high (by decide) _ _) _
  split
  · exact counted.trans (streamDrop _ _ _ _)
  · split
    · exact counted.trans (streamDrop _ _ _ _)
    · exact counted

theorem enqueue (n : Nat) (ps : List Pdu) : s.Within wallSide (s.enqueue n ps) := setSplit _ _ rfl

theorem streamFrame (n w : Nat) (d : WallDue) (header image : List Byte) : s.Within wallSide (s.streamFrame n w d header image) := by
  have offered := offerStream (s := s) n w d.tick
  unfold State.streamFrame
  split
  · next made => rw [made] at offered; exact offered
  · next made => rw [made] at offered; exact offered.trans (enqueue _ _)

theorem sendChain (x type hop orig flags tick : Nat) (body : List Byte) {P : Footprint} (has : P.has .out = true) :
    s.Within P (s.sendChain x type hop orig flags tick body) := ite (refl _ _) (emit _ has)

theorem sendPieces (x w tick n f : Nat) (bs : List Byte) {P : Footprint} (has : P.has .out = true) :
    s.Within P (s.sendPieces x w tick n f bs) := by
  induction f generalizing s n bs with
  | zero => exact refl _ _
  | succ f ih =>
    unfold State.sendPieces
    extract_lets rest body s1
    have sent : s.Within P s1 := sendChain _ _ _ _ _ _ _ has
    exact sent.trans (ite (refl _ _) (ih _ _))

theorem chainFrame (x w tick : Nat) (header image : List Byte) : s.Within wallSide (s.chainFrame x w tick header image) := by
  unfold State.chainFrame
  extract_lets n s1 drop
  have counted : s.Within wallSide s1 := setReg (outsideRings_high (by decide) _ _) _
  have drops : ∀ cause, s1.Within wallSide (drop s1 cause) := fun cause => (bump (outsideRings_high (by decide) _ _)).trans (raise _ _ rfl)
  exact counted.trans (ite (drops 1) (ite (drops 2) (sendPieces _ _ _ _ _ _ rfl)))

end State.Within

/-! ### Rings beside a wall's frame -/

namespace State.Within

variable {s t : State}

theorem ring_of_wall (h : s.Within wallSide t) (r : Nat) : t.ring r = s.ring r := by
  have rings : t.rings = s.rings := h.field .rings rfl
  unfold State.ring
  rw [rings]

theorem reg_of_wall (h : s.Within wallSide t) {n : RegName} {i j : Nat} (low : 0x300000 ≤ n.off i j) (high : n.off i j < 0x400000) :
    t.reg n i j = s.reg n i j := h.reg _ _ (outsideRings_ring low high)

theorem cfg_of_wall (h : s.Within wallSide t) {r : Nat} (hr : r < 1024) : t.reg .ringCfg r = s.reg .ringCfg r :=
  h.reg_of_wall (base_le_off .ringCfg r 0) (by simp [RegName.off, RegName.row]; omega)

theorem seq_of_wall (h : s.Within wallSide t) {r : Nat} (hr : r < 1024) : t.reg .ringSeq r = s.reg .ringSeq r :=
  h.reg_of_wall (by simp [RegName.off, RegName.row]; omega) (by simp [RegName.off, RegName.row]; omega)

theorem takes_of_wall (h : s.Within wallSide t) {r : Nat} (hr : r < 1024) (c : Nat) : t.ringTakes r c = s.ringTakes r c := by
  have power : t.power = s.power := h.field .power rfl
  unfold State.ringTakes State.kind State.field
  rw [h.ring_of_wall, power, h.cfg_of_wall hr]

theorem kind_of_wall (h : s.Within wallSide t) {r : Nat} (hr : r < 1024) : t.kind r = s.kind r := by
  unfold State.kind State.field
  rw [h.cfg_of_wall hr]

theorem wall_of_wall (h : s.Within wallSide t) (w : Nat) : t.wall w = s.wall w := by
  have walls : t.walls = s.walls := h.field .walls rfl
  unfold State.wall
  rw [walls]

end State.Within

theorem ringOf_lt {b : Bank} {r : Nat} (h : ringOf b = some r) : r < 1024 := by
  unfold ringOf at h
  dsimp only at h
  split at h
  · exact Option.some.inj h ▸ Nat.mod_lt _ (by decide)
  · cases h

/-- What an output slot sees of a ring. -/
structure State.SameSlotView (r : Nat) (s t : State) : Prop where
  ring : t.ring r = s.ring r
  seq : t.reg .ringSeq r = s.reg .ringSeq r
  kind : t.kind r = s.kind r
  takes : ∀ c, t.ringTakes r c = s.ringTakes r c
  now : t.now = s.now

namespace State.SameSlotView

variable {r : Nat} {s t u : State}

theorem of_wall (hr : r < 1024) (h : s.Within wallSide t) : s.SameSlotView r t where
  ring := h.ring_of_wall r
  seq := h.seq_of_wall hr
  kind := h.kind_of_wall hr
  takes := h.takes_of_wall hr
  now := by
    have tick : t.tick = s.tick := h.field .tick rfl
    unfold State.now
    rw [tick]

theorem of_setWall (w : Nat) (x : Wall) : s.SameSlotView r (s.setWall w x) := ⟨rfl, rfl, rfl, fun _ => rfl, rfl⟩

theorem trans (h : s.SameSlotView r t) (g : t.SameSlotView r u) : s.SameSlotView r u :=
  ⟨g.ring.trans h.ring, g.seq.trans h.seq, g.kind.trans h.kind, fun c => (g.takes c).trans (h.takes c), g.now.trans h.now⟩

end State.SameSlotView

/-- A record with the ring's next number has been offered. -/
structure State.Offered (r c : Nat) (s t : State) : Prop where
  seq : t.reg .ringSeq r = s.reg .ringSeq r + 1
  kind : t.kind r = s.kind r
  record : s.ringTakes r c = true → ∃ y, (t.ring r).records = (s.ring r).records ++ [y] ∧ y.rseq = s.reg .ringSeq r ∧
    y.oclass = BitVec.ofNat 2 c ∧ y.slot = s.now

theorem takeSeq_kind (s : State) {r : Nat} (hr : r < 1024) : (s.takeSeq r).2.reg .ringCfg r = s.reg .ringCfg r :=
  reg_setReg_of_name (by decide) hr s _ hr (by decide) (by decide)

theorem offerNumbered_seq (s : State) {r : Nat} (hr : r < 1024) (c : Nat) (n : Word) (bytes : List Byte) (units : List Nat) :
    (s.offerNumbered r c n bytes units).reg .ringSeq r = s.reg .ringSeq r := by
  cases takes : s.ringTakes r c with
  | true =>
    unfold State.offerNumbered
    rw [if_pos takes]
    rfl
  | false =>
    obtain ⟨y, dropped⟩ := offerNumbered_of_refused takes n bytes units
    rw [dropped]
    unfold State.dropRecord
    rw [if_pos hr]
    exact reg_setReg_of_name (by decide) hr s _ hr (by decide) (by decide)

/-- A ring numbers a record and is offered it. -/
theorem takeSeq_offered (s : State) {r : Nat} (hr : r < 1024) (c : Nat) (bytes : List Byte) (units : List Nat) :
    s.Offered r c ((s.takeSeq r).2.offerNumbered r c (s.reg .ringSeq r) bytes units) where
  seq := (offerNumbered_seq _ hr _ _ _ _).trans (State.reg_setReg_self _ _ _ _ _)
  kind := ((State.Appends.offerNumbered hr hr _ _ _ _).kind).trans (by
    unfold State.kind State.field
    rw [takeSeq_kind s hr])
  record takes := by
    have still : (s.takeSeq r).2.ringTakes r c = true := by
      have cfg := takeSeq_kind s hr
      unfold State.ringTakes State.kind State.field at takes ⊢
      rw [cfg]
      exact takes
    obtain ⟨y, more, -, rseq, slot, cls⟩ := offerNumbered_of_takes still (s.reg .ringSeq r) bytes units
    exact ⟨y, more, rseq, cls, slot⟩

theorem State.Offered.before {r c : Nat} {s t u : State} (g : t.Offered r c u) (h : s.SameSlotView r t) : s.Offered r c u where
  seq := by rw [g.seq, h.seq]
  kind := g.kind.trans h.kind
  record takes := by
    have record := g.record ((h.takes c).trans takes)
    rwa [h.ring, h.seq, h.now] at record

theorem State.Offered.behind {r c : Nat} {s t u : State} (g : s.Offered r c t) (h : t.SameSlotView r u) : s.Offered r c u where
  seq := h.seq.trans g.seq
  kind := h.kind.trans g.kind
  record takes := by rw [h.ring]; exact g.record takes

/-- At the end of the command. -/
theorem State.Offered.settle {r c : Nat} {s u : State} (g : s.Offered r c u) (hr : r < 1024) (s0 : State) :
    (settle s0 u).reg .ringSeq r = s.reg .ringSeq r + 1 ∧
      (s.ringTakes r c = true → ∃ y, ((Machine.settle s0 u).ring r).records = (s.ring r).records ++ [y] ∧ y.rseq = s.reg .ringSeq r ∧
        y.oclass = BitVec.ofNat 2 c ∧ y.slot = s.now) := by
  refine ⟨(settle_reg _ _ _ _ _ ?_).trans g.seq, fun takes => ?_⟩
  · simp [deliveryReg, RegName.off, RegName.row]
    omega
  · rw [settle_ring _ _ _ (by rw [g.kind, ringTakes_kind takes]; decide)]
    exact g.record takes

/-! ### A wall's slot -/

/-- What becomes of a wall frame beside its ring. -/
def State.deliverRest (s : State) (w : Nat) (d : WallDue) (header image : List Byte) : State :=
  let s := if wGet d.bank WW.rclEn ≠ 0 then s.recallTake w d.bank d.tick (header ++ image) else s
  let s := match streamOf d.bank with
    | some n => s.streamFrame n w d header image
    | none => s
  (List.range 2).foldl (fun s x => if (wGet d.bank WW.chn).testBit x then s.chainFrame x w d.tick header image else s) s

theorem deliverRest_within (s : State) (w : Nat) (d : WallDue) (header image : List Byte) :
    s.Within wallSide (s.deliverRest w d header image) := by
  unfold State.deliverRest
  extract_lets s1 s2
  have stored : s.Within wallSide s1 := .ite (.recallTake _ _ _ _) (.refl _ _)
  have streamed : s1.Within wallSide s2 := by
    unfold s2
    split
    · exact .streamFrame _ _ _ _ _
    · exact .refl _ _
  exact (stored.trans streamed).trans (.foldl _ (fun _ _ _ => .ite (.chainFrame _ _ _ _ _) (.refl _ _)) _)

theorem deliverWall_of_ring (s : State) (w : Nat) (d : WallDue) (header image : List Byte) {r : Nat} (h : ringOf d.bank = some r) :
    s.deliverWall w d header image = ((s.takeSeq r).2.offerNumbered r 0 (s.reg .ringSeq r) (putSeq header 44 (s.reg .ringSeq r) ++ image)
      (wallUnits (wallFmt d.bank) (wallW d.bank) (wallH d.bank))).deliverRest w d header image := by
  unfold State.deliverWall
  simp only [h]
  rfl

theorem deliverWall_of_no_ring (s : State) (w : Nat) (d : WallDue) (header image : List Byte) (h : ringOf d.bank = none) :
    s.deliverWall w d header image = s.deliverRest w d header image := by
  unfold State.deliverWall
  simp only [h]
  rfl

theorem offerNumbered_wall (s : State) (r c : Nat) (n : Word) (bytes : List Byte) (units : List Nat) (w : Nat) :
    (s.offerNumbered r c n bytes units).wall w = s.wall w := by
  unfold State.offerNumbered State.dropRecord
  dsimp only
  split
  · rfl
  · split <;> rfl

theorem deliverWall_wall (s : State) (w : Nat) (d : WallDue) (header image : List Byte) :
    (s.deliverWall w d header image).wall w = s.wall w := by
  cases ring : ringOf d.bank with
  | none => rw [deliverWall_of_no_ring s w d _ _ ring, (deliverRest_within ..).wall_of_wall]
  | some r =>
    rw [deliverWall_of_ring s w d _ _ ring, (deliverRest_within ..).wall_of_wall, offerNumbered_wall]
    rfl

theorem deliverWall_offered (s : State) (w : Nat) (d : WallDue) (header image : List Byte) {r : Nat} (ring : ringOf d.bank = some r) :
    s.Offered r 0 (s.deliverWall w d header image) := by
  rw [deliverWall_of_ring s w d _ _ ring]
  exact (takeSeq_offered s (ringOf_lt ring) _ _ _).behind (.of_wall (ringOf_lt ring) (deliverRest_within ..))

/-- What was held goes to DRAM, and the wall holds nothing. -/
theorem flushHeld_within (s : State) (w : Nat) :
    (s.setWall w { s.wall w with held := [] }).Within memSide (s.flushHeld w) := .foldl _ (fun _ _ _ => .putRow _ _) _

theorem flushHeld_due (s : State) (w : Nat) : ((s.flushHeld w).wall w).due = (s.wall w).due := by
  rw [(flushHeld_within s w).wall.wall_of_wall, State.wall_setWall, if_pos rfl]

theorem flushHeld_view {r : Nat} (hr : r < 1024) (s : State) (w : Nat) : s.SameSlotView r (s.flushHeld w) :=
  (State.SameSlotView.of_setWall _ _).trans (.of_wall hr (flushHeld_within s w).wall)

/-- The frame that a slot takes: what has not come in time is filled. -/
def WallDue.closed (d : WallDue) : WallDue := { d with fills := d.fills ++ d.late.map fun e => (e, FillCause.remoteLate), late := [] }

/-- A wall's frame is composed, and its buffer read. -/
def State.frameMade (s : State) (w : Nat) (d : WallDue) : State :=
  let made := (s.setWall w { s.wall w with due := none }).compose w d.closed
  (made.2.2.flushHeld w).noteWall w d.closed (d.closed.flags (made.2.1 ≠ 0) true false) made.2.1

theorem wallSlot_eq {s : State} {w : Nat} {d : WallDue} (due : (s.wall w).due = some d) (lit : s.dark = false)
    (kept : s.tick.shedWalls.contains w = false) :
    ∃ header image, s.wallSlot w = (s.frameMade w d).deliverWall w d.closed header image := by
  refine ⟨(((s.setWall w { s.wall w with due := none }).compose w d.closed).2.2.flushHeld w).wallHeader w d.closed
    (d.closed.flags (((s.setWall w { s.wall w with due := none }).compose w d.closed).2.1 ≠ 0) true false),
    ((s.setWall w { s.wall w with due := none }).compose w d.closed).1, ?_⟩
  unfold State.wallSlot
  simp only [due]
  rw [if_neg (by simp only [Bool.or_eq_true, not_or]; exact ⟨by rw [show (s.setWall w _).tick = s.tick from rfl, kept]; decide,
    by rw [show (s.setWall w _).dark = s.dark from rfl, lit]; decide⟩)]
  rfl

theorem frameMade_view {r : Nat} (hr : r < 1024) (s : State) {w : Nat} (hw : w < 256) (d : WallDue) : s.SameSlotView r (s.frameMade w d) :=
  (((State.SameSlotView.of_setWall _ _).trans (.of_wall hr (State.Within.compose ..).wall)).trans (flushHeld_view hr _ _)).trans
    (.of_wall hr (State.Within.noteWall hw _ _ _).wall)

theorem frameMade_due (s : State) {w : Nat} (hw : w < 256) (d : WallDue) : ((s.frameMade w d).wall w).due = none := by
  unfold State.frameMade
  dsimp only
  rw [(State.Within.noteWall hw _ _ _).wall.wall_of_wall, flushHeld_due, (State.Within.compose ..).wall.wall_of_wall,
    State.wall_setWall, if_pos rfl]

theorem settle_wall (s0 u : State) (w : Nat) : (settle s0 u).wall w = u.wall w := by simp only [State.wall, settle_walls]

theorem wallOutput_completes (w : Fin 256) (d : WallDue) (s : State) (lit : s.dark = false) (go : s.tick.halted = false)
    (due : (s.wall w).due = some d) (ahead : s.slotInOrder (0, 3 - wGet d.bank WW.prio, w.val) = true)
    (kept : s.tick.shedWalls.contains w.val = false) :
    Completes (.outputSlot (.wall w)) s fun t => (t.wall w).due = none ∧
      ∀ r, ringOf d.bank = some r → t.reg .ringSeq r = s.reg .ringSeq r + 1 ∧
        (s.ringTakes r 0 = true → ∃ y, (t.ring r).records = (s.ring r).records ++ [y] ∧ y.rseq = s.reg .ringSeq r ∧
          y.oclass = 0 ∧ y.slot = s.now) := by
  refine completes_of_effect (exec_outputSlot_of_key (k := (0, 3 - wGet d.bank WW.prio, w.val)) lit go ?_) ?_
  · simp only [State.slotKey, due, Option.map_some]
  rw [if_pos ahead]
  obtain ⟨header, image, made⟩ := wallSlot_eq (s := s.slotUsed (0, 3 - wGet d.bank WW.prio, w.val)) (w := w) due lit kept
  rw [show ∀ u : State, u.slotOutput (.wall w) = u.wallSlot w from fun _ => rfl, made]
  refine ⟨?_, fun r ring => ?_⟩
  · rw [settle_wall, deliverWall_wall, frameMade_due _ w.isLt]
  · have offered := (deliverWall_offered ((s.slotUsed (0, 3 - wGet d.bank WW.prio, w.val)).frameMade w d) w d.closed header image ring).before
      (frameMade_view (ringOf_lt ring) _ w.isLt d)
    exact offered.settle (ringOf_lt ring) s

theorem outputSlot_idle (u : SlotUnit) (s : State) (sound : s.Sound) (idle : s.dark = true ∨ s.tick.halted = true ∨ s.slotKey u = none ∨
    (∃ k, s.slotKey u = some k ∧ s.slotInOrder k = false)) : Completes (.outputSlot u) s fun t => t = s := by
  refine completes_idle (exec_outputSlot u s) ?_ sound
  rcases idle with dark | halted | none | ⟨k, key, behind⟩
  · rw [dark, Bool.true_or, if_pos rfl]
  · rw [halted, Bool.or_true, if_pos rfl]
  · simp only [none, ite_self]
  · simp only [key, behind, Bool.false_eq_true, if_false, ite_self]

/-! ### The recall export's slot -/

/-- The state in which the export goes on: its budget is what was held and what a course adds. -/
def State.budgeted (s : State) (n : Nat) : State := { s with rcl := { s.rcl with budget := n } }

theorem exportSlot_eq {s : State} (on : s.rcl.state = .exporting) : ∃ n, s.exportSlot = (s.budgeted n).exportNext := by
  unfold State.exportSlot
  rw [if_neg (by rw [on]; decide)]
  exact ⟨_, rfl⟩

/-- What an export needs to go on at its ring. -/
structure State.MayExport (s : State) : Prop where
  on : s.rcl.state = .exporting
  free : s.rcl.releasing = []
  ring : s.rcl.exportRing < 1024
  empty : (s.ring s.rcl.exportRing).records = []
  alive : (s.ring s.rcl.exportRing).halting = none
  takes : s.ringTakes s.rcl.exportRing 3 = true

/-- The entry is on its way. -/
def State.entrySent (s : State) (base i : Nat) (e : RecallEntry) : State :=
  let t := (s.exportBytes base e).2
  { t with rcl := { t.rcl with entries := s.rcl.entries.set i { e with sent := true } } }

/-- The state in which the entry's record has been offered. -/
def State.entryOffered (s : State) (base i : Nat) (e : RecallEntry) : State :=
  let r := s.rcl.exportRing
  let n := (s.entrySent base i e).reg .ringSeq r
  ((s.entrySent base i e).takeSeq r).2.offerNumbered r 3 n (putSeq (s.exportBytes base e).1 44 n) (wallUnits e.fmt e.w e.h)

theorem State.MayExport.running {s : State} (h : s.MayExport) :
    ¬ ((s.ring s.rcl.exportRing).state ≠ .run && (s.ring s.rcl.exportRing).state ≠ .wait) = true := by
  have takes := h.takes
  simp only [State.ringTakes, Bool.and_eq_true, Bool.or_eq_true, decide_eq_true_eq] at takes
  rcases takes.1.1.2 with e | e <;> simp [e]

theorem State.MayExport.waits {s : State} (h : s.MayExport) :
    ¬ (s.rcl.state ≠ .exporting || (s.ring s.rcl.exportRing).records.any (·.oclass = 3) || s.power.d3hot ||
      (s.ring s.rcl.exportRing).halting.isSome) = true := by
  have takes := h.takes
  simp only [State.ringTakes, Bool.and_eq_true, Bool.not_eq_true'] at takes
  simp [h.on, h.empty, h.alive, takes.1.1.1]

/-- The oldest entry not yet taken is offered. -/
theorem State.MayExport.sends {s : State} (h : s.MayExport) {i : Nat} {e : RecallEntry} {r : Region}
    (next : (s.rcl.entries.findIdx? fun e => !e.sent) = some i) (place : s.region 3 0 = some r) (entry : s.rcl.entries[i]? = some e) :
    s.exportNext = s.entryOffered r.addr i e := by
  unfold State.exportNext
  dsimp only
  rw [if_neg h.waits, if_neg (by simp [h.free]), if_neg h.running]
  simp only [next, place, entry]
  rfl

/-- Behind the last entry the export ends. -/
theorem State.MayExport.ends {s : State} (h : s.MayExport) (none : (s.rcl.entries.findIdx? fun e => !e.sent) = none) :
    s.exportNext = s.exportDone 1 (s.flag .wallRclCfg 0 0 28) := by
  unfold State.exportNext
  dsimp only
  rw [if_neg h.waits, if_neg (by simp [h.free]), if_neg h.running]
  simp only [none]

theorem exportBytes_within (s : State) (base : Nat) (e : RecallEntry) : s.Within memSide (s.exportBytes base e).2 :=
  (State.Within.readDram _ _).mem.trans (.ite (.refl _ _) (.bump rfl))

theorem entrySent_view {r : Nat} (hr : r < 1024) (s : State) (base i : Nat) (e : RecallEntry) : s.SameSlotView r (s.entrySent base i e) :=
  .of_wall hr ((exportBytes_within s base e).wall.trans (.update [.rcl] rfl (by rfl)))

theorem offerNumbered_rcl (s : State) (r c : Nat) (n : Word) (bytes : List Byte) (units : List Nat) :
    (s.offerNumbered r c n bytes units).rcl = s.rcl := by
  unfold State.offerNumbered State.dropRecord
  dsimp only
  split
  · rfl
  · split <;> rfl

theorem entryOffered_rcl (s : State) (base i : Nat) (e : RecallEntry) :
    (s.entryOffered base i e).rcl = { s.rcl with entries := s.rcl.entries.set i { e with sent := true } } := by
  have same : (s.exportBytes base e).2.rcl = s.rcl := (exportBytes_within s base e).field .rcl rfl
  refine (offerNumbered_rcl ..).trans ?_
  unfold State.entrySent State.takeSeq
  dsimp only
  rw [show ∀ (u : State) n i j v, (u.setReg n i j v).rcl = u.rcl from fun _ _ _ _ _ => rfl]
  dsimp only
  rw [same]

theorem entryOffered_offered {s : State} (h : s.MayExport) (base i : Nat) (e : RecallEntry) :
    s.Offered s.rcl.exportRing 3 (s.entryOffered base i e) :=
  (takeSeq_offered _ h.ring 3 _ _).before (entrySent_view h.ring s base i e)

theorem releasesDone_of_none {s : State} (free : s.rcl.releasing = []) : s.releasesDone = { s with rcl := { s.rcl with releasing := [] } } := by
  unfold State.releasesDone
  rw [free]
  rfl

/-- The store of an export that has ended. -/
theorem exportDone_rcl (s : State) (cause : Nat) (release : Bool) (free : s.rcl.releasing = []) :
    (s.exportDone cause release).rcl.state = .frozen ∧
      (release = true → (s.exportDone cause release).rcl.restart = true ∧ (s.exportDone cause release).rcl.entries = []) ∧
      (release = false → (s.exportDone cause release).rcl.entries = s.rcl.entries) := by
  unfold State.exportDone
  cases release with
  | true =>
    rw [if_pos rfl, releasesDone_of_none (by exact free)]
    exact ⟨rfl, fun _ => ⟨rfl, rfl⟩, nofun⟩
  | false => exact ⟨rfl, nofun, fun _ => rfl⟩

theorem exportOutput_completes (s : State) (lit : s.dark = false) (go : s.tick.halted = false) (on : s.rcl.state = .exporting)
    (free : s.rcl.releasing = []) (ahead : s.slotInOrder (1, s.rcl.exportRing, 0) = true) (ring : s.rcl.exportRing < 1024)
    (empty : (s.ring s.rcl.exportRing).records = []) (alive : (s.ring s.rcl.exportRing).halting = none)
    (takes : s.ringTakes s.rcl.exportRing 3 = true) :
    Completes (.outputSlot .recallExport) s fun t =>
      (∀ i e, (s.rcl.entries.findIdx? fun e => !e.sent) = some i → s.rcl.entries[i]? = some e → (s.region 3 0).isSome = true →
        ∃ y, (t.ring s.rcl.exportRing).records = [y] ∧ y.oclass = 3 ∧ y.rseq = s.reg .ringSeq s.rcl.exportRing ∧
          t.reg .ringSeq s.rcl.exportRing = s.reg .ringSeq s.rcl.exportRing + 1 ∧ t.rcl.state = .exporting ∧
          t.rcl.entries = s.rcl.entries.set i { e with sent := true }) ∧
      ((s.rcl.entries.all fun e => e.sent) = true → t.rcl.state = .frozen ∧
        (s.flag .wallRclCfg 0 0 28 = true → t.rcl.restart = true ∧ t.rcl.entries = []) ∧
        (s.flag .wallRclCfg 0 0 28 = false → t.rcl.entries = s.rcl.entries)) := by
  refine completes_of_effect (exec_outputSlot_of_key (k := (1, s.rcl.exportRing, 0)) lit go (by simp only [State.slotKey, on, if_true])) ?_
  rw [if_pos ahead, show ∀ u : State, u.slotOutput .recallExport = u.exportSlot from fun _ => rfl]
  obtain ⟨n, slot⟩ := exportSlot_eq (s := s.slotUsed (1, s.rcl.exportRing, 0)) on
  have may : ((s.slotUsed (1, s.rcl.exportRing, 0)).budgeted n).MayExport := ⟨on, free, ring, empty, alive, takes⟩
  rw [slot]
  refine ⟨fun i e next entry place => ?_, fun all => ?_⟩
  · obtain ⟨r, place⟩ := Option.isSome_iff_exists.mp place
    have rcl := entryOffered_rcl ((s.slotUsed (1, s.rcl.exportRing, 0)).budgeted n) r.addr i e
    obtain ⟨seq, record⟩ := (entryOffered_offered may r.addr i e).settle ring s
    obtain ⟨y, more, rseq, cls, -⟩ := record takes
    rw [may.sends next place entry]
    exact ⟨y, more.trans (congrArg (· ++ [y]) empty), cls, rseq, seq, by rw [settle_rcl, rcl]; exact on, by rw [settle_rcl, rcl]; rfl⟩
  · have none : (s.rcl.entries.findIdx? fun e => !e.sent) = none := by
      rw [List.findIdx?_eq_none_iff]
      intro e mem
      rw [List.all_eq_true.mp all e mem]
      rfl
    rw [may.ends none, settle_rcl]
    exact exportDone_rcl _ _ _ free

/-- Settles O38: what composing and sending a frame touches lies beside the rings, so that the record offered is what the ring gains. -/
theorem outputSlots : Obligations.OutputSlots := by
  unfold Obligations.OutputSlots
  exact ⟨⟨wallOutput_completes, outputSlot_idle⟩, exportOutput_completes⟩

end Sys2Proof.Machine
end

section
/-!
SUPPORT. Records that are written or dropped (12, R267, R279 to R287): what the writes of a ring, a unit of its front record and the end of
that record leave. From these O39.
-/
namespace Sys2Proof.Machine

/-! ### What leaves the device stays gone -/

/-- The log of what has left goes on. -/
def State.Sends (s t : State) : Prop := ∃ l, t.out = l ++ s.out

namespace State.Sends

variable {s t u : State}

theorem refl (s : State) : s.Sends s := ⟨[], rfl⟩

theorem trans (h : s.Sends t) (g : t.Sends u) : s.Sends u := by
  obtain ⟨a, ha⟩ := h
  obtain ⟨b, hb⟩ := g
  exact ⟨b ++ a, by rw [hb, ha, List.append_assoc]⟩

theorem of_eq (h : t.out = s.out) : s.Sends t := ⟨[], h⟩

theorem of_within {P : Footprint} (h : s.Within P t) (none : P.has .out = false) : s.Sends t := .of_eq (h.field .out none)

theorem ite {c : Prop} [Decidable c] (h : s.Sends t) (g : s.Sends u) : s.Sends (if c then t else u) := by
  split
  · exact h
  · exact g

end State.Sends

theorem dropRecord_out (s : State) (r : Nat) (y : Record) : (s.dropRecord r y).out = s.out := by
  unfold State.dropRecord
  split <;> rfl

theorem dropHold_out (s : State) (r : Nat) : (s.dropHold r).out = s.out := by
  unfold State.dropHold
  split
  · rfl
  · dsimp only
    split <;> rfl

theorem abandonRecords_out (s : State) (r : Nat) : (s.abandonRecords r).out = s.out :=
  List.foldlRecOn (motive := fun u : State => u.out = s.out) _ _ rfl fun u (same : u.out = s.out) y _ => (dropRecord_out u r y).trans same

theorem haltRing_out (s : State) (r cause : Nat) : (s.haltRing r cause).out = s.out := by
  unfold State.haltRing
  extract_lets x y
  split
  · rfl
  next s1 s2 s3 c other =>
    have shown : s1.out = s.out := by
      unfold s1
      split <;> rfl
    have held : s2.out = s.out := (dropHold_out _ _).trans shown
    have gone : s3.out = s.out := by
      unfold s3
      split
      · exact held
      · exact (abandonRecords_out _ _).trans held
    exact gone

namespace State.Sends

variable {s : State}

theorem prepare (r addr len : Nat) (write : Bool) : s.Sends (s.prepare r addr len write).2 := (State.Kept.prepare ..).out

theorem issue (r addr : Nat) (bytes : List Byte) (relaxed : Bool) (ps : List Nat) : s.Sends (s.issue r addr bytes relaxed ps) :=
  (State.Kept.issue ..).out

theorem flushWith {halt : State → Nat → State} (halts : ∀ (s : State) (c : Nat), s.Sends (halt s c)) (r : Nat) (ws : List PendingWrite) :
    s.Sends (s.flushWith halt r ws) := by
  induction ws generalizing s with
  | nil =>
    unfold State.flushWith
    dsimp only
    split
    · exact trans (.of_eq rfl) (halts _ _)
    · exact .of_eq rfl
  | cons w ws ih =>
    have prepared := prepare (s := s) r w.addr (w.bytes.length + w.ahead) true
    unfold State.flushWith
    split
    next e => rw [e] at prepared; exact prepared
    next e => rw [e] at prepared; exact prepared.trans (halts _ _)
    next ps v e =>
      rw [e] at prepared
      extract_lets s1 s2 s3
      have issued : v.Sends s1 := issue ..
      have advanced : s2.out = s1.out := by
        unfold s2
        split <;> rfl
      have told : s3.out = s2.out := by
        unfold s3
        split <;> rfl
      exact (prepared.trans (issued.trans (.of_eq (told.trans advanced)))).trans ih

theorem releasesDone : s.Sends s.releasesDone :=
  List.foldlRecOn (motive := fun v : State => s.Sends v) _ _ (.of_eq rfl) fun u (g : s.Sends u) c _ => by
    dsimp only
    split
    · exact g.trans (.ite (trans (.of_eq rfl) (flushWith (fun v n => .of_eq (haltRing_out v c.ring n)) _ _)) (.of_eq rfl))
    · exact g

theorem exportLost (r : Nat) : s.Sends (s.exportLost r) := by
  unfold State.exportLost
  split
  · exact .ite (.of_eq rfl) (trans (.of_eq rfl) releasesDone)
  · exact refl s

theorem halt (r cause : Nat) : s.Sends (s.halt r cause) := trans (.of_eq (haltRing_out ..)) (exportLost r)

end State.Sends

/-! ### An export goes on -/

/-- What an export that goes on may change. -/
def exportGoSide : Footprint where
  has
    | .offered => true
    | f => hostSide.has f || memSide.has f
  regs _ := true

namespace State.Within

variable {s t : State}

theorem goes_host (h : s.Within hostSide t) : s.Within exportGoSide t := h.mono (fun f => by cases f <;> decide) fun _ => nofun

theorem goes_mem (h : s.Within memSide t) : s.Within exportGoSide t := h.mono (fun f => by cases f <;> decide) fun _ => nofun

theorem offerNumbered (r c : Nat) (n : Word) (bytes : List Byte) (units : List Nat) : s.Within exportGoSide (s.offerNumbered r c n bytes units) :=
  ite (trans (setRing _ _ rfl) (update [.offered] rfl (by rfl))) (dropRecord _ _).goes_host

theorem exportDone (cause : Nat) (release : Bool) : s.Within exportGoSide (s.exportDone cause release) := by
  have ended : s.Within exportGoSide ({ s with rcl := { s.rcl with state := .frozen, budget := 0 } }.exportEnd cause) :=
    trans (update [.rcl] rfl (by rfl)) (raise _ _ rfl)
  exact ended.trans (ite (State.Within.release.trans releasesDone).goes_host (update [.rcl] rfl (by rfl)))

theorem exportNext : s.Within exportGoSide s.exportNext := by
  unfold State.exportNext
  dsimp only
  refine ite (refl _ _) (ite (exportDone _ _) (ite (exportLost _).goes_host ?_))
  split
  · split
    · exact (((exportBytes_within s _ _).goes_mem.trans (update [.rcl] rfl (by rfl))).trans (setReg rfl _)).trans (offerNumbered _ _ _ _ _)
    · exact refl _ _
  · exact exportDone _ _

theorem exportWritten : s.Within exportGoSide s.exportWritten := trans (update [.rcl] rfl (by rfl)) exportNext

end State.Within

theorem offerNumbered_out (s : State) (r c : Nat) (n : Word) (bytes : List Byte) (units : List Nat) :
    (s.offerNumbered r c n bytes units).out = s.out := by
  unfold State.offerNumbered
  dsimp only
  split
  · rfl
  · exact dropRecord_out ..

theorem State.Sends.exportDone (s : State) (cause : Nat) (release : Bool) : s.Sends (s.exportDone cause release) := by
  unfold State.exportDone
  dsimp only
  split
  · exact .trans (.of_eq rfl) .releasesDone
  · exact .of_eq rfl

theorem State.Sends.exportNext (s : State) : s.Sends s.exportNext := by
  unfold State.exportNext
  dsimp only
  refine .ite (.refl _) (.ite (.exportDone ..) (.ite (.exportLost _) ?_))
  split
  · split
    · exact .trans (.of_within (exportBytes_within s _ _) rfl) (.of_eq (offerNumbered_out ..))
    · exact .refl _
  · exact .exportDone ..

theorem State.Sends.exportWritten (s : State) : s.Sends s.exportWritten :=
  .trans (t := { s with rcl := { s.rcl with exported := s.rcl.exported + 1 } }) (.of_eq rfl) (.exportNext _)

/-! ### The writes of a ring -/

/-- What the writes of ring r may change. -/
def flushSide (r : Nat) : Footprint where
  has
    | .out | .xcache | .lookups | .rings | .raised => true
    | _ => false
  regs off := off == RegName.xlatHit.off || off == RegName.ringCons.off r

/-- Writes of ring r have gone out: of the rings none but r differs, and that in what it has still to write. -/
structure State.Flushed (r : Nat) (s t : State) : Prop where
  within : s.Within (flushSide r) t
  ring : ∃ ws, t.ring r = { s.ring r with writes := ws }
  others : ∀ q, q ≠ r → t.ring q = s.ring q
  sends : s.Sends t

namespace State.Flushed

variable {r : Nat} {s t u : State}

theorem trans (h : s.Flushed r t) (g : t.Flushed r u) : s.Flushed r u where
  within := h.within.trans g.within
  ring := by
    obtain ⟨_, ht⟩ := h.ring
    obtain ⟨ws, hu⟩ := g.ring
    exact ⟨ws, by rw [hu, ht]⟩
  others q other := (g.others q other).trans (h.others q other)
  sends := h.sends.trans g.sends

theorem of_look (h : s.Within lookSide t) (rings : t.rings = s.rings) (sends : s.Sends t) : s.Flushed r t where
  within := h.mono (fun f => by cases f <;> simp [flushSide, lookSide]) fun off no => (Bool.or_eq_false_iff.mp no).1
  ring := ⟨_, ring_of_rings rings r⟩
  others q _ := ring_of_rings rings q
  sends := sends

theorem of_same (h : s.Within (flushSide r) t) (rings : t.rings = s.rings) (out : t.out = s.out) : s.Flushed r t where
  within := h
  ring := ⟨_, ring_of_rings rings r⟩
  others q _ := ring_of_rings rings q
  sends := .of_eq out

theorem setWrites (s : State) (r : Nat) (ws : List PendingWrite) : s.Flushed r (s.setRing r { s.ring r with writes := ws }) where
  within := .setRing _ _ rfl
  ring := ⟨ws, by rw [State.ring_setRing, if_pos rfl]⟩
  others q other := by rw [State.ring_setRing, if_neg other]
  sends := .of_eq rfl

theorem prepare (s : State) (r i addr len : Nat) (write : Bool) : s.Flushed r (s.prepare i addr len write).2 :=
  of_look (.prepare ..) (prepare_rings ..) (State.Kept.prepare ..).out

theorem issue (s : State) (r i addr : Nat) (bytes : List Byte) (relaxed : Bool) (ps : List Nat) :
    s.Flushed r (s.issue i addr bytes relaxed ps) :=
  of_look (.issue ..) (issue_rings ..) (State.Kept.issue ..).out

theorem alive (h : s.Flushed r t) : (t.ring r).halting = (s.ring r).halting := by
  obtain ⟨ws, ring⟩ := h.ring
  rw [ring]

end State.Flushed

/-- One write of a ring has gone out: C advances behind a completion, and its event is raised. -/
def State.writeGone (s : State) (r : Nat) (w : PendingWrite) (ps : List Nat) : State :=
  let s := s.issue r w.addr w.bytes w.relaxed (ps.take (pagesOf w.addr w.bytes.length).length)
  let s := if w.advance then s.setReg .ringCons r 0 (s.cons r + 1) else s
  match w.event with
  | some e => { s with raised := s.raised ++ [({ type := e.1, time := s.stamp, payload := completionEvent e (s.cons r) } : EventRec)] }
  | none => s

theorem writeGone_flushed (s : State) (r : Nat) (w : PendingWrite) (ps : List Nat) : s.Flushed r (s.writeGone r w ps) := by
  unfold State.writeGone
  extract_lets s1 s2
  have issued : s.Flushed r s1 := .issue ..
  have advanced : s1.Flushed r s2 := by
    unfold s2
    split
    · exact .of_same (.setReg (by simp [flushSide]) _) rfl rfl
    · exact .of_look (.refl _ _) rfl (.refl _)
  refine (issued.trans advanced).trans ?_
  split
  · exact .of_same (.update [.raised] rfl (by rfl)) rfl rfl
  · exact .of_look (.refl _ _) rfl (.refl _)

/-- The writes of a ring go out, or one lies outside its windows and the ring halts. -/
theorem flushWrites_cases {s : State} {r : Nat} (alive : (s.ring r).halting = none) (ws : List PendingWrite) :
    s.Flushed r (s.flushWrites r ws) ∨ ∃ v, s.Flushed r v ∧ s.flushWrites r ws = v.halt r 2 := by
  unfold State.flushWrites
  induction ws generalizing s with
  | nil =>
    unfold State.flushWith
    dsimp only
    split
    next c waits => rw [alive] at waits; cases waits
    next => exact .inl (.setWrites ..)
  | cons w ws ih =>
    have prepared := State.Flushed.prepare s r r w.addr (w.bytes.length + w.ahead) true
    unfold State.flushWith
    split
    next e => rw [e] at prepared; exact .inl (prepared.trans (.setWrites ..))
    next e => rw [e] at prepared; exact .inr ⟨_, prepared, rfl⟩
    next ps v e =>
      rw [e] at prepared
      have gone := prepared.trans (writeGone_flushed v r w ps)
      rcases ih (s := v.writeGone r w ps) (gone.alive.trans alive) with rest | ⟨z, rest, ends⟩
      · exact .inl (gone.trans rest)
      · exact .inr ⟨z, gone.trans rest, ends⟩

theorem drainWrites_cases {s : State} {r : Nat} (alive : (s.ring r).halting = none) :
    s.Flushed r (s.drainWrites r) ∨ ∃ v, s.Flushed r v ∧ s.drainWrites r = v.halt r 2 := by
  unfold State.drainWrites
  dsimp only
  split
  · exact flushWrites_cases alive _
  · exact .inl (.of_look (.refl _ _) rfl (.refl _))

/-! ### A unit of the front record -/

/-- A ring fills and completes buffers, and what waits for it may go out: of the rings none but r differs, and that in its writes and
buffers. -/
structure State.Serves (r : Nat) (s t : State) : Prop where
  within : s.Within (flushSide r) t
  ring : ∃ ws bs fs, t.ring r = { s.ring r with writes := ws, bufs := bs, filled := fs }
  others : ∀ q, q ≠ r → t.ring q = s.ring q
  sends : s.Sends t

namespace State.Serves

variable {r : Nat} {s t u : State}

theorem of_flushed (h : s.Flushed r t) : s.Serves r t where
  within := h.within
  ring := by
    obtain ⟨ws, ring⟩ := h.ring
    exact ⟨ws, _, _, ring⟩
  others := h.others
  sends := h.sends

theorem refl (r : Nat) (s : State) : s.Serves r s := of_flushed (.of_look (.refl _ _) rfl (.refl _))

theorem trans (h : s.Serves r t) (g : t.Serves r u) : s.Serves r u where
  within := h.within.trans g.within
  ring := by
    obtain ⟨_, _, _, ht⟩ := h.ring
    obtain ⟨ws, bs, fs, hu⟩ := g.ring
    exact ⟨ws, bs, fs, by rw [hu, ht]⟩
  others q other := (g.others q other).trans (h.others q other)
  sends := h.sends.trans g.sends

theorem setBufs (s : State) (r : Nat) (ws : List PendingWrite) (bs fs : List OutBuf) :
    s.Serves r (s.setRing r { s.ring r with writes := ws, bufs := bs, filled := fs }) where
  within := .setRing _ _ rfl
  ring := ⟨ws, bs, fs, by rw [State.ring_setRing, if_pos rfl]⟩
  others q other := by rw [State.ring_setRing, if_neg other]
  sends := .of_eq rfl

theorem issue (s : State) (r addr : Nat) (bytes : List Byte) (relaxed : Bool) (ps : List Nat) : s.Serves r (s.issue r addr bytes relaxed ps) :=
  of_flushed (.issue ..)

theorem fillBufs (r : Nat) (bytes : List Byte) (n : Nat) (last : Bool) (bs : List OutBuf) (ps : List Nat) (s : State) :
    s.Serves r (s.fillBufs r bytes n last bs ps) := by
  induction bs generalizing s bytes n ps with
  | nil => exact setBufs s r _ [] _
  | cons b bs ih =>
    unfold State.fillBufs
    extract_lets x k pages s1 b' src s2
    split
    · exact (setBufs s r _ bs _).trans (ih ..)
    · have issued : s.Serves r s1 := issue ..
      split
      · have full : s1.Serves r s2 := setBufs s1 r _ bs _
        refine issued.trans ?_
        split
        · exact full
        · exact full.trans (ih ..)
      · exact issued.trans (setBufs s1 r _ _ _)

theorem bufferDone (s : State) (r : Nat) (b : OutBuf) (status detail result : Nat) : s.Serves r (s.bufferDone r b status detail result) :=
  setBufs s r _ _ _

theorem fillDone (r : Nat) (first : Bool) (bs : List OutBuf) (s : State) : s.Serves r (s.fillDone r first bs) := by
  induction bs generalizing s first with
  | nil => exact setBufs s r _ _ []
  | cons b bs ih =>
    unfold State.fillDone
    split
    · exact (bufferDone ..).trans (ih ..)
    · exact (bufferDone ..).trans (ih ..)

theorem passBad (r : Nat) (bs : List OutBuf) (s : State) : s.Serves r (s.passBad r bs) := by
  induction bs generalizing s with
  | nil => exact refl r s
  | cons b bs ih =>
    unfold State.passBad
    split
    · exact ((setBufs s r _ bs _).trans (bufferDone ..)).trans (ih _)
    · exact refl r s

theorem alive (h : s.Serves r t) : (t.ring r).halting = (s.ring r).halting := by
  obtain ⟨_, _, _, ring⟩ := h.ring
  rw [ring]

end State.Serves

/-- The buffers of a ring complete, or what waits for it lies outside its windows and it halts. -/
theorem settleBufs_cases {s : State} {r : Nat} (alive : (s.ring r).halting = none) :
    s.Serves r (s.settleBufs r) ∨ ∃ v, s.Serves r v ∧ s.settleBufs r = v.halt r 2 := by
  unfold State.settleBufs
  have passed : s.Serves r (if (s.ring r).unitsDone = 0 then s.passBad r (s.ring r).bufs else s) := by
    split
    · exact .passBad ..
    · exact .refl r s
  rcases drainWrites_cases (passed.alive.trans alive) with drained | ⟨v, drained, ends⟩
  · exact .inl (passed.trans (.of_flushed drained))
  · exact .inr ⟨v, passed.trans (.of_flushed drained), ends⟩

/-- The first request of a unit: into the first buffer, behind what it holds. -/
theorem fillBufs_first (s : State) (r : Nat) (bytes : List Byte) {n : Nat} (last : Bool) {b : OutBuf} (bs : List OutBuf) (p : Nat)
    (ps : List Nat) (fits : b.bad = none) (room : b.written < b.len) (some : 0 < n) :
    ∃ xs, (s.fillBufs r bytes n last (b :: bs) (p :: ps)).out =
      xs ++ .hostWrite r (p * 4096 + (b.addr + b.written) % 4096)
        ((bytes.take (min (b.len - b.written) n)).take (4096 - (b.addr + b.written) % 4096)) (s.hostAttr r true) :: s.out := by
  have pos : 0 < min (b.len - b.written) n := by omega
  have pages : ∃ m, (pagesOf (b.addr + b.written) (min (b.len - b.written) n)).length = m + 1 := by
    unfold pagesOf
    rw [if_neg (by omega)]
    exact ⟨_, by rw [List.length_map, List.length_range]⟩
  obtain ⟨m, pages⟩ := pages
  unfold State.fillBufs
  extract_lets x k q s1 b' src s2
  rw [if_neg (by rw [fits]; decide)]
  have first : ∃ xs, s1.out = xs ++ .hostWrite r (p * 4096 + (b.addr + b.written) % 4096)
      ((bytes.take k).take (4096 - (b.addr + b.written) % 4096)) (s.hostAttr r true) :: s.out := by
    have head : (p :: ps).take q = p :: ps.take m := by rw [show q = m + 1 from pages, List.take_succ_cons]
    unfold s1
    rw [head]
    exact (State.Kept.issue r true (ps.take m) (s.emit _) _ _).out
  have rest : s1.Sends (if b'.written = b.len || (last && k = n) then
      if k = n then s2 else s2.fillBufs r (bytes.drop k) (n - k) last bs ((p :: ps).drop q)
      else s1.setRing r { s1.ring r with bufs := b' :: bs }) := by
    have full : s1.Sends s2 := .of_eq rfl
    exact .ite (.ite full (full.trans (State.Serves.fillBufs ..).sends)) (.of_eq rfl)
  obtain ⟨xs, first⟩ := first
  obtain ⟨ys, rest⟩ := rest
  exact ⟨ys ++ xs, by rw [rest, first, List.append_assoc]⟩

/-- A ring without its front record. -/
def Ring.unitsGone (ys : List Record) (x : Ring) : Ring := { x with records := ys, done := 0, unitsDone := 0 }

/-- A ring that has written one more unit of its front record. -/
def Ring.onward (n : Nat) (x : Ring) : Ring := { x with done := x.done + n, unitsDone := x.unitsDone + 1 }

/-- The unit of n bytes stands in the ring's buffers. -/
def State.unitFilled (s : State) (r : Nat) (y : Record) (n : Nat) (ps : List Nat) : State :=
  s.fillBufs r ((y.bytes.drop (s.ring r).done).take n) n (y.bytes.length ≤ (s.ring r).done + n) (s.ring r).bufs ps

theorem unitFilled_serves (s : State) (r : Nat) (y : Record) (n : Nat) (ps : List Nat) : s.Serves r (s.unitFilled r y n ps) := .fillBufs ..

section
variable {s : State} {r n : Nat} {y : Record} {ys : List Record} (front : (s.ring r).records = y :: ys)
  (unit : (s.ring r).nextUnit = some n)
include front unit

theorem writeRecordUnit_more (more : (s.ring r).done + n < y.bytes.length) (ps : List Nat) :
    s.writeRecordUnit r ps = (s.unitFilled r y n ps).setRing r (((s.unitFilled r y n ps).ring r).onward n) := by
  unfold State.writeRecordUnit
  simp only [front, unit]
  rw [if_neg (by simpa using more)]
  rfl

theorem writeRecordUnit_last (last : y.bytes.length ≤ (s.ring r).done + n) (alive : (s.ring r).halting = none) (ps : List Nat) :
    ∃ v, ((s.unitFilled r y n ps).setRing r (((s.unitFilled r y n ps).ring r).unitsGone ys)).Serves r v ∧
      (s.writeRecordUnit r ps = v ∨ s.writeRecordUnit r ps = v.halt r 2) := by
  have ends : s.writeRecordUnit r ps = (((s.unitFilled r y n ps).setRing r (((s.unitFilled r y n ps).ring r).unitsGone ys)).fillDone r true
      ((s.unitFilled r y n ps).ring r).filled).settleBufs r := by
    unfold State.writeRecordUnit
    simp only [front, unit]
    rw [if_pos (by simpa using last)]
    rfl
  have gone : (((s.unitFilled r y n ps).setRing r (((s.unitFilled r y n ps).ring r).unitsGone ys)).ring r).halting = none := by
    rw [State.ring_setRing, if_pos rfl]
    exact ((unitFilled_serves s r y n ps).alive).trans alive
  have done := State.Serves.fillDone r true ((s.unitFilled r y n ps).ring r).filled
    ((s.unitFilled r y n ps).setRing r (((s.unitFilled r y n ps).ring r).unitsGone ys))
  rw [ends]
  rcases settleBufs_cases (done.alive.trans gone) with settled | ⟨v, settled, halts⟩
  · exact ⟨_, done.trans settled, .inl rfl⟩
  · exact ⟨v, done.trans settled, .inr halts⟩

end

/-! ### The engine's choice -/

theorem lookup_out {s u : State} {r page p : Nat} {write : Bool} (h : s.lookup r page write = (some p, u)) : u.out = s.out := by
  unfold State.lookup at h
  split at h
  · cases h
    rfl
  · dsimp only at h
    split at h
    · cases h
      rfl
    · split at h <;> cases h

theorem lookupAll_out {r : Nat} {write : Bool} {ps as : List Nat} {s u : State} (h : s.lookupAll r write ps = (some as, u)) :
    u.out = s.out := by
  induction ps generalizing s as with
  | nil =>
    cases h
    rfl
  | cons p ps ih =>
    unfold State.lookupAll at h
    cases first : s.lookup r p write with
    | mk a v =>
      cases rest : v.lookupAll r write ps with
      | mk b w =>
        simp only [first, rest] at h
        cases a with
        | none => cases h
        | some a =>
          cases b with
          | none => cases h
          | some b =>
            cases h
            exact (ih rest).trans (lookup_out first)

/-- Looking pages up sends nothing where all are there. -/
theorem preparePieces_go {r : Nat} {write : Bool} {ps : List (Nat × Nat)} {as : List Nat} {s u : State}
    (h : s.preparePieces r write ps = (.go as, u)) : s.Within lookSide u ∧ u.rings = s.rings ∧ u.out = s.out := by
  induction ps generalizing s as with
  | nil =>
    cases h
    exact ⟨.refl _ _, rfl, rfl⟩
  | cons p ps ih =>
    unfold State.preparePieces at h
    have within := State.Within.prepare (s := s) r p.1 p.2 write
    have rings := prepare_rings s r p.1 p.2 write
    cases first : s.prepare r p.1 p.2 write with
    | mk a v =>
      rw [first] at within rings
      cases a with
      | wait => simp only [first] at h; cases h
      | outside => simp only [first] at h; cases h
      | go a =>
        simp only [first] at h
        cases rest : v.preparePieces r write ps with
        | mk b w =>
          simp only [rest] at h
          cases b with
          | wait => cases h
          | outside => cases h
          | go b =>
            cases h
            obtain ⟨more, same, out⟩ := ih rest
            exact ⟨within.trans more, same.trans rings, out.trans (lookupAll_out (lookupAll_of_prepare_go first))⟩

/-- What the engine's turn to a ring may change. -/
def turnSide : Footprint where
  has
    | .rings | .engine | .rcl => true
    | _ => false
  regs off := off == RegName.xlatPreempt.off

/-- Ring r runs, and the engine has turned to it. -/
def State.turnedTo (s : State) (r : Nat) : State :=
  { s.setRing r { s.ring r with state := .run, preempted := false } with engine := some r }

/-- An export has used up n bytes of its budget. -/
def State.spent (s : State) (n : Nat) : State := { s with rcl := { s.rcl with budget := s.rcl.budget - n } }

/-- Whether the front record of a ring is an entry of the recall export. -/
def Ring.exports (x : Ring) : Bool := decide (x.records.head?.map (·.oclass) = some 3)

/-- The engine begins a unit of ring r. -/
def State.unitBegun (s : State) (r : Nat) : State :=
  let v := (s.preempt r).turnedTo r
  if ((s.preempt r).ring r).exports then v.spent (((s.preempt r).ring r).nextUnit.getD 0) else v

theorem turnedTo_ring (s : State) (r q : Nat) :
    (s.turnedTo r).ring q = if q = r then { s.ring r with state := .run, preempted := false } else s.ring q :=
  State.ring_setRing s r q { s.ring r with state := .run, preempted := false }

theorem ring_bump (s : State) (n : RegName) (i j k q : Nat) : (s.bump n i j k).ring q = s.ring q := rfl

/-- The ring that yields: it ran, had a unit ready itself, and is of lower PCLASS. -/
def State.yields (s : State) (r r0 : Nat) : Bool :=
  r0 ≠ r && (s.ring r0).state = .run && s.unitReady r0 && s.pclass r0 < s.pclass r

theorem preempt_eq {s : State} {r0 : Nat} (last : s.engine = some r0) (r : Nat) : s.preempt r = if s.yields r r0 then
    (s.setRing r0 { s.ring r0 with state := .wait, preempted := true, resume := (s.ring r0).done }).bump .xlatPreempt else s := by
  unfold State.preempt
  simp only [last]
  rfl

theorem preempt_within (s : State) (r : Nat) : s.Within turnSide (s.preempt r) := by
  cases last : s.engine with
  | none =>
    unfold State.preempt
    simp only [last]
    exact .refl _ _
  | some r0 =>
    rw [preempt_eq last]
    exact .ite (.trans (.setRing _ _ rfl) (.bump rfl)) (.refl _ _)

theorem preempt_out (s : State) (r : Nat) : (s.preempt r).out = s.out := (preempt_within s r).field .out rfl

theorem preempt_ring (s : State) (r : Nat) : (s.preempt r).ring r = s.ring r := by
  cases last : s.engine with
  | none =>
    unfold State.preempt
    simp only [last]
  | some r0 =>
    rw [preempt_eq last]
    split
    next yields =>
      have other : r ≠ r0 := fun e => by simp [State.yields, e] at yields
      rw [ring_bump, State.ring_setRing, if_neg other]
    next => rfl

theorem turnedTo_within (s : State) (r : Nat) : s.Within turnSide (s.turnedTo r) := .update [.rings, .engine] rfl (by rfl)

theorem unitBegun_cases (s : State) (r : Nat) : s.unitBegun r = (s.preempt r).turnedTo r ∨ ∃ n, s.unitBegun r = ((s.preempt r).turnedTo r).spent n := by
  unfold State.unitBegun
  dsimp only
  split
  · exact .inr ⟨_, rfl⟩
  · exact .inl rfl

theorem unitBegun_within (s : State) (r : Nat) : s.Within turnSide (s.unitBegun r) := by
  have turned := (preempt_within s r).trans (turnedTo_within _ r)
  rcases unitBegun_cases s r with e | ⟨n, e⟩ <;> rw [e]
  · exact turned
  · exact turned.trans (.update [.rcl] rfl (by rfl))

theorem unitBegun_ring (s : State) (r q : Nat) :
    (s.unitBegun r).ring q = if q = r then { s.ring r with state := .run, preempted := false } else (s.preempt r).ring q := by
  rw [← preempt_ring s r, ← turnedTo_ring (s.preempt r) r q]
  rcases unitBegun_cases s r with e | ⟨n, e⟩ <;> rw [e]
  rfl

theorem unitBegun_engine (s : State) (r : Nat) : (s.unitBegun r).engine = some r := by
  rcases unitBegun_cases s r with e | ⟨n, e⟩ <;> rw [e] <;> rfl

theorem unitBegun_preempts (s : State) (r : Nat) : (s.unitBegun r).reg .xlatPreempt = (s.preempt r).reg .xlatPreempt := by
  rcases unitBegun_cases s r with e | ⟨n, e⟩ <;> rw [e] <;> rfl

/-- The engine's unit, and an export that goes on behind its last one. -/
theorem transferUnit_eq (s : State) (r : Nat) (ps : List Nat) : s.transferUnit r ps =
    if (s.ring r).exports && ((s.unitBegun r).writeRecordUnit r ps).rcl.state = .exporting &&
        (((s.unitBegun r).writeRecordUnit r ps).ring r).records.length < (s.ring r).records.length then
      ((s.unitBegun r).writeRecordUnit r ps).exportWritten else (s.unitBegun r).writeRecordUnit r ps := by
  rw [← preempt_ring s r]
  unfold State.transferUnit State.unitBegun Ring.exports
  simp only [decide_eq_true_eq]
  rfl

theorem State.Serves.host {r : Nat} {s t : State} (h : s.Serves r t) : s.Within hostSide t :=
  h.within.mono (fun f => by cases f <;> simp [flushSide, hostSide]) fun off no => by
    have below : ¬ 0x300010 ≤ off := of_decide_eq_false no
    simp only [flushSide, RegName.off, RegName.row, Bool.or_eq_false_iff, beq_eq_false_iff_ne]
    omega

/-- What is not about an engine's ring: the unit's requests come first, and nothing but the rings' traffic follows. -/
theorem writeRecordUnit_host {s : State} {r n : Nat} {y : Record} {ys : List Record} (front : (s.ring r).records = y :: ys)
    (unit : (s.ring r).nextUnit = some n) (alive : (s.ring r).halting = none) (ps : List Nat) :
    s.Within hostSide (s.writeRecordUnit r ps) ∧ (s.unitFilled r y n ps).Sends (s.writeRecordUnit r ps) := by
  have filled := unitFilled_serves s r y n ps
  rcases Nat.lt_or_ge ((s.ring r).done + n) y.bytes.length with more | last
  · rw [writeRecordUnit_more front unit more ps]
    exact ⟨filled.host.trans (.setRing _ _ rfl), .of_eq rfl⟩
  · obtain ⟨v, serves, ends⟩ := writeRecordUnit_last front unit last alive ps
    have within : s.Within hostSide v := (filled.host.trans (.setRing _ _ rfl)).trans serves.host
    have sends : (s.unitFilled r y n ps).Sends v := .trans (.of_eq rfl) serves.sends
    rcases ends with e | e <;> rw [e]
    · exact ⟨within, sends⟩
    · exact ⟨within.trans (.halt _ _), sends.trans (.halt _ _)⟩

/-- The ring that yields has yielded, whatever the unit's ring does short of a halt. -/
theorem preempt_yields {s : State} {r r0 : Nat} (last : s.engine = some r0) (yields : s.yields r r0 = true) :
    ((s.preempt r).ring r0).state = .wait ∧ ((s.preempt r).ring r0).preempted = true ∧
      (s.preempt r).reg .xlatPreempt = satAdd (s.reg .xlatPreempt) 1 := by
  rw [preempt_eq last, if_pos yields]
  refine ⟨?_, ?_, State.reg_setReg_self _ _ _ _ _⟩
  · rw [ring_bump, State.ring_setRing, if_pos rfl]
  · rw [ring_bump, State.ring_setRing, if_pos rfl]

/-- The state in which the engine's unit has been written, as far as its ring's front record and the ring that yields are concerned. -/
structure State.UnitDone (r n : Nat) (y : Record) (ys : List Record) (s t : State) : Prop where
  gone : y.bytes.length ≤ (s.ring r).done + n → (t.ring r).records = ys ∧ (t.ring r).done = 0
  onward : (s.ring r).done + n < y.bytes.length → (t.ring r).records = y :: ys ∧ (t.ring r).done = (s.ring r).done + n ∧
    (t.ring r).unitsDone = (s.ring r).unitsDone + 1
  others : ∀ q, q ≠ r → t.ring q = s.ring q
  preempts : t.reg .xlatPreempt = s.reg .xlatPreempt
  cfg : ∀ q, q < 1024 → t.reg .ringCfg q = s.reg .ringCfg q

theorem State.Serves.preempts {r : Nat} {s t : State} (h : s.Serves r t) : t.reg .xlatPreempt = s.reg .xlatPreempt :=
  h.within.reg _ _ (by simp [flushSide, RegName.off, RegName.row]; omega)

theorem State.Serves.cfg {r : Nat} {s t : State} (h : s.Serves r t) (q : Nat) (hq : q < 1024) : t.reg .ringCfg q = s.reg .ringCfg q :=
  h.within.reg _ _ (by simp [flushSide, RegName.off, RegName.row]; omega)

theorem writeRecordUnit_done {s : State} {r n : Nat} {y : Record} {ys : List Record} (hr : r < 1024) (front : (s.ring r).records = y :: ys)
    (unit : (s.ring r).nextUnit = some n) (alive : (s.ring r).halting = none) (runs : (s.ring r).state = .run) (ps : List Nat) :
    s.UnitDone r n y ys (s.writeRecordUnit r ps) ∨ (y.bytes.length ≤ (s.ring r).done + n ∧ ((s.writeRecordUnit r ps).ring r).state = .halt ∧
      (s.writeRecordUnit r ps).reg .ringCfg r = s.reg .ringCfg r) := by
  have filled := unitFilled_serves s r y n ps
  obtain ⟨ws, bs, fs, own⟩ := filled.ring
  rcases Nat.lt_or_ge ((s.ring r).done + n) y.bytes.length with more | last
  · rw [writeRecordUnit_more front unit more ps]
    refine .inl ⟨fun last => absurd more (Nat.not_lt.mpr last), fun _ => ?_, fun q other => ?_, filled.preempts, filled.cfg⟩
    · rw [State.ring_setRing, if_pos rfl, own]
      exact ⟨front, rfl, rfl⟩
    · rw [State.ring_setRing, if_neg other, filled.others q other]
  · obtain ⟨v, serves, ends⟩ := writeRecordUnit_last front unit last alive ps
    obtain ⟨ws2, bs2, fs2, rest⟩ := serves.ring
    rw [State.ring_setRing, if_pos rfl, own] at rest
    rcases ends with e | e <;> rw [e]
    · refine .inl ⟨fun _ => ?_, fun more => absurd more (Nat.not_lt.mpr last), fun q other => ?_, ?_, fun q hq => ?_⟩
      · rw [rest]
        exact ⟨rfl, rfl⟩
      · rw [serves.others q other, State.ring_setRing, if_neg other, filled.others q other]
      · exact serves.preempts.trans filled.preempts
      · exact (serves.cfg q hq).trans (filled.cfg q hq)
    · have halted := halt_halted v hr (cause := 2) (by decide)
      have live : (v.ring r).state ≠ .drain := by
        rw [rest]
        show (s.ring r).state ≠ .drain
        rw [runs]
        decide
      exact .inr ⟨last, (halted.live live).1, halted.cfg.trans ((serves.cfg r hr).trans (filled.cfg r hr))⟩

/-! ### The engine's order -/

theorem mem_insertBy {α : Type} {le : α → α → Bool} {x z : α} {l : List α} (h : z ∈ insertBy le x l) : z = x ∨ z ∈ l := by
  induction l with
  | nil => exact .inl (List.mem_singleton.mp h)
  | cons y ys ih =>
    unfold insertBy at h
    split at h
    · rcases List.mem_cons.mp h with rfl | tail
      · exact .inr (List.mem_cons_self ..)
      · exact (ih tail).imp_right (List.mem_cons_of_mem _)
    · exact List.mem_cons.mp h

theorem mem_sortBy {α : Type} {le : α → α → Bool} {z : α} {l : List α} (h : z ∈ sortBy le l) : z ∈ l := by
  have folded : ∀ (l acc : List α), z ∈ l.foldl (fun acc x => insertBy le x acc) acc → z ∈ acc ∨ z ∈ l := by
    intro l
    induction l with
    | nil => exact fun acc h => .inl h
    | cons x xs ih =>
      intro acc h
      rcases ih _ h with old | new
      · rcases mem_insertBy old with rfl | old
        · exact .inr (List.mem_cons_self ..)
        · exact .inl old
      · exact .inr (List.mem_cons_of_mem _ new)
  exact (folded l [] h).resolve_left List.not_mem_nil

/-- The ring that the engine takes first has a unit ready. -/
theorem engineOrder_head {s : State} {r : Nat} {rs : List Nat} (order : s.engineOrder = r :: rs) : r < 1024 ∧ s.unitReady r = true := by
  have mem := mem_sortBy (le := s.goesBefore) (show r ∈ s.engineOrder by rw [order]; exact List.mem_cons_self ..)
  have ready := (List.mem_filter.mp mem).2
  simpa using ready

theorem unitReady_alive {s : State} {r : Nat} (ready : s.unitReady r = true) : (s.ring r).halting = none := by
  unfold State.unitReady at ready
  dsimp only at ready
  split at ready
  · simp only [Bool.and_eq_true, Option.isNone_iff_eq_none] at ready
    exact ready.1.1.2
  · cases ready

/-- Pages looked up change nothing that the engine goes by. -/
theorem yields_of_look {s u : State} (within : s.Within lookSide u) (rings : u.rings = s.rings) {r r0 : Nat} (hr : r < 1024) (h0 : r0 < 1024) :
    u.yields r r0 = s.yields r r0 := by
  have rcl : u.rcl = s.rcl := within.field .rcl rfl
  have cfg : ∀ q, q < 1024 → u.reg .ringCfg q = s.reg .ringCfg q := fun q hq =>
    within.reg _ _ (beq_false_of_ne (by simp [RegName.off, RegName.row]; omega))
  unfold State.yields State.unitReady State.pclass State.field State.ring
  rw [rings, rcl, cfg r hr, cfg r0 h0]

theorem hostAttr_of_look {s u : State} (within : s.Within lookSide u) {r : Nat} (hr : r < 1024) (relaxed : Bool) :
    (u.unitBegun r).hostAttr r relaxed = s.hostAttr r relaxed := by
  have turned := unitBegun_within u r
  have attr : (u.unitBegun r).relaxedOn = s.relaxedOn ∧ (u.unitBegun r).atsOn = s.atsOn :=
    ⟨(turned.field .relaxedOn rfl).trans (within.field .relaxedOn rfl), (turned.field .atsOn rfl).trans (within.field .atsOn rfl)⟩
  have pasid : (u.unitBegun r).reg .ringPasid r = s.reg .ringPasid r :=
    (turned.reg _ _ (beq_false_of_ne (by simp [RegName.off, RegName.row]; omega))).trans
      (within.reg _ _ (beq_false_of_ne (by simp [RegName.off, RegName.row]; omega)))
  unfold State.hostAttr State.ringPasid
  rw [attr.1, attr.2]
  simp only [hr, if_true, pasid]

theorem exec_writeUnit (s : State) : exec .writeUnit s = effect (fun s => if s.busUp then s.engineStep s.engineOrder else s) s := rfl

section
variable {r n p : Nat} {rs ps : List Nat} {b : OutBuf} {bs : List OutBuf} {y : Record} {ys : List Record} {s u : State}

/-- The state behind the engine's unit. -/
theorem transferUnit_host {w : State} (front : (w.ring r).records = y :: ys) (unit : (w.ring r).nextUnit = some n)
    (alive : (w.ring r).halting = none) (ps : List Nat) :
    (w.transferUnit r ps).engine = some r ∧ ((w.unitBegun r).unitFilled r y n ps).Sends (w.transferUnit r ps) := by
  have own := unitBegun_ring w r r
  rw [if_pos rfl] at own
  obtain ⟨within, sends⟩ := writeRecordUnit_host (s := w.unitBegun r) (r := r) (n := n) (y := y) (ys := ys) (by rw [own]; exact front)
    (by rw [own]; exact unit) (by rw [own]; exact alive) ps
  have engine : ((w.unitBegun r).writeRecordUnit r ps).engine = some r := (within.field .engine rfl).trans (unitBegun_engine w r)
  rw [transferUnit_eq]
  split
  · exact ⟨(State.Within.exportWritten.field .engine rfl).trans engine, sends.trans (.exportWritten _)⟩
  · exact ⟨engine, sends⟩

theorem transferUnit_done {w : State} (hr : r < 1024) (front : (w.ring r).records = y :: ys) (unit : (w.ring r).nextUnit = some n)
    (alive : (w.ring r).halting = none) (ps : List Nat) (whole : y.oclass ≠ 3 ∨ (w.ring r).done + n < y.bytes.length) :
    (w.unitBegun r).UnitDone r n y ys (w.transferUnit r ps) ∨ (y.bytes.length ≤ (w.ring r).done + n ∧
      ((w.transferUnit r ps).ring r).state = .halt ∧ (w.transferUnit r ps).reg .ringCfg r = (w.unitBegun r).reg .ringCfg r) := by
  have own := unitBegun_ring w r r
  rw [if_pos rfl] at own
  have done := writeRecordUnit_done (s := w.unitBegun r) (r := r) (n := n) (y := y) (ys := ys) hr (by rw [own]; exact front)
    (by rw [own]; exact unit) (by rw [own]; exact alive) (congrArg Ring.state own) ps
  have same : w.transferUnit r ps = (w.unitBegun r).writeRecordUnit r ps := by
    rw [transferUnit_eq]
    refine if_neg fun goes => ?_
    simp only [Bool.and_eq_true, decide_eq_true_eq] at goes
    rcases whole with other | more
    · have exports := goes.1.1
      rw [Ring.exports, front] at exports
      exact other (by simpa using exports)
    · rcases done with done | ⟨last, -⟩
      · have shorter := goes.2
        have onward := (done.onward (by rw [own]; exact more)).1
        rw [onward, front] at shorter
        exact Nat.lt_irrefl _ shorter
      · rw [own] at last
        exact absurd more (Nat.not_lt.mpr last)
  rw [same]
  rw [own] at done
  exact done

theorem writeUnit_completes (r : Nat) (rs : List Nat) (b : OutBuf) (bs : List OutBuf) (y : Record) (ys : List Record) (n p : Nat) (ps : List Nat)
    (s u : State) (up : s.busUp = true) (order : s.engineOrder = r :: rs) (kind : s.kind r = 1) (bufs : (s.ring r).bufs = b :: bs)
    (fits : b.bad = none) (room : b.written < b.len) (front : (s.ring r).records = y :: ys) (unit : (s.ring r).nextUnit = some n) (pos : 0 < n)
    (pieces : s.preparePieces r true (piecesOf (b :: bs) n) = (.go (p :: ps), u)) :
    Completes .writeUnit s fun t => t.engine = some r ∧
      (∃ xs bytes, t.out = xs ++ .hostWrite r (p * 4096 + (b.addr + b.written) % 4096) bytes (s.hostAttr r true) :: s.out ∧
        bytes = (((y.bytes.drop (s.ring r).done).take n).take (min (b.len - b.written) n)).take
          (4096 - (b.addr + b.written) % 4096)) ∧
      ((t.ring r).state ≠ .halt → y.oclass ≠ 3 → y.bytes.length ≤ (s.ring r).done + n →
        (t.ring r).records = ys ∧ (t.ring r).done = 0) ∧
      ((t.ring r).state ≠ .halt → (s.ring r).done + n < y.bytes.length → (t.ring r).records = y :: ys ∧
        (t.ring r).done = (s.ring r).done + n ∧ (t.ring r).unitsDone = (s.ring r).unitsDone + 1) ∧
      (∀ r0, (t.ring r).state ≠ .halt → y.oclass ≠ 3 → s.engine = some r0 → r0 ≠ r → s.kind r0 = 1 →
        (s.ring r0).state = .run → s.unitReady r0 = true → s.pclass r0 < s.pclass r →
        (t.ring r0).state = .wait ∧ (t.ring r0).preempted = true ∧
          t.reg .xlatPreempt = satAdd (s.reg .xlatPreempt) 1) := by
  obtain ⟨hr, ready⟩ := engineOrder_head order
  have alive := unitReady_alive ready
  obtain ⟨look, rings, out⟩ := preparePieces_go pieces
  have ring : u.ring r = s.ring r := ring_of_rings rings r
  have step : s.engineStep (r :: rs) = u.transferUnit r (p :: ps) := by
    unfold State.engineStep
    simp only [bufs, unit, Option.getD_some, pieces]
  have own := unitBegun_ring u r r
  rw [if_pos rfl, ring] at own
  rw [← ring] at front unit alive
  obtain ⟨engine, sends⟩ := transferUnit_host front unit alive (p :: ps)
  have cfg : ∀ q, q < 1024 → (u.unitBegun r).reg .ringCfg q = s.reg .ringCfg q := fun q hq =>
    ((unitBegun_within u r).reg _ _ (beq_false_of_ne (by simp [RegName.off, RegName.row]; omega))).trans
      (look.reg _ _ (beq_false_of_ne (by simp [RegName.off, RegName.row]; omega)))
  have kinds : ∀ v : State, ∀ q, q < 1024 → v.reg .ringCfg q = (u.unitBegun r).reg .ringCfg q → v.kind q = s.kind q := fun v q hq same => by
    unfold State.kind State.field
    rw [same, cfg q hq]
  refine completes_of_effect (exec_writeUnit s) ?_
  rw [if_pos up, order, step]
  have ends : ∀ P : Prop, ((settle s (u.transferUnit r (p :: ps))).ring r).state ≠ .halt →
      (y.oclass ≠ 3 ∨ (s.ring r).done + n < y.bytes.length) →
      ((u.unitBegun r).UnitDone r n y ys (u.transferUnit r (p :: ps)) →
        (settle s (u.transferUnit r (p :: ps))).ring r = (u.transferUnit r (p :: ps)).ring r → P) → P := fun P runs whole goes => by
    rcases transferUnit_done hr front unit alive (p :: ps) (by rw [ring]; exact whole) with done | ⟨-, halts, same⟩
    · exact goes done (settle_ring _ _ _ (by rw [kinds _ r hr (done.cfg r hr), kind]; decide))
    · rw [settle_ring _ _ _ (by rw [kinds _ r hr same, kind]; decide)] at runs
      exact absurd halts runs
  refine ⟨(settle_engine ..).trans engine, ?_, fun runs other last => ?_, fun runs more => ?_, fun r0 runs other prior apart kind0 ran ready0 lower => ?_⟩
  · obtain ⟨xs, first⟩ := fillBufs_first (u.unitBegun r) r ((y.bytes.drop (s.ring r).done).take n)
      (y.bytes.length ≤ (s.ring r).done + n) bs p ps fits room pos
    have filled : (u.unitBegun r).unitFilled r y n (p :: ps) = (u.unitBegun r).fillBufs r ((y.bytes.drop (s.ring r).done).take n) n
        (y.bytes.length ≤ (s.ring r).done + n) (b :: bs) (p :: ps) := by
      unfold State.unitFilled
      rw [own]
      exact congrArg (fun l => (u.unitBegun r).fillBufs r ((y.bytes.drop (s.ring r).done).take n) n
        (y.bytes.length ≤ (s.ring r).done + n) l (p :: ps)) bufs
    obtain ⟨l, hl⟩ := sends
    obtain ⟨m, hm⟩ := (settle_kept (u.transferUnit r (p :: ps))).out
    refine ⟨m ++ l ++ xs, _, ?_, rfl⟩
    rw [show (settle s (u.transferUnit r (p :: ps))).out = m ++ (u.transferUnit r (p :: ps)).out from hm, hl, filled, first,
      hostAttr_of_look look hr, show (u.unitBegun r).out = s.out from ((unitBegun_within u r).field .out rfl).trans out]
    simp only [List.append_assoc]
  · exact ends _ runs (.inl other) fun done same => by
      rw [same]
      exact done.gone (by rw [own]; exact last)
  · exact ends _ runs (.inr more) fun done same => by
      rw [same]
      have onward := done.onward (by rw [own]; exact more)
      rw [own] at onward
      exact onward
  · have h0 : r0 < 1024 := by
      by_contra big
      rw [State.kind, if_neg big] at kind0
      cases kind0
    have yields : u.yields r r0 = true := by
      rw [yields_of_look look rings hr h0]
      simp [State.yields, apart, ran, ready0, lower]
    obtain ⟨waits, preempted, counted⟩ := preempt_yields ((look.field .engine rfl).trans prior) yields
    exact ends _ runs (.inl other) fun done same => by
      rw [settle_ring _ _ _ (by rw [kinds _ r0 h0 (done.cfg r0 h0), kind0]; decide), done.others r0 apart, unitBegun_ring, if_neg apart,
        settle_reg _ _ _ _ _ (by decide), done.preempts, unitBegun_preempts, counted,
        show u.reg .xlatPreempt = s.reg .xlatPreempt from look.reg _ _ (by decide)]
      exact ⟨waits, preempted, rfl⟩

end

/-! ### Records dropped -/

theorem exec_ringSlackDrop (r : Fin 1024) (s : State) : exec (.ringSlackDrop r) s = effect (fun s =>
    match s.lacking r.val with
    | none => s
    | some i =>
      let x := s.ring r.val
      match x.records[i]? with
      | some y => (s.setRing r.val { x with records := x.records.eraseIdx i }).dropRecord r.val y
      | none => s) s := rfl

theorem lacking_record {s : State} {r i : Nat} (lacking : s.lacking r = some i) : ∃ y, (s.ring r).records[i]? = some y := by
  have mem := List.mem_of_find?_eq_some lacking
  exact ⟨_, List.getElem?_eq_getElem (List.mem_range.mp mem)⟩

theorem dropRecord_cfg (s : State) {r : Nat} (hr : r < 1024) (y : Record) : (s.dropRecord r y).kind r = s.kind r := by
  have cfg : (s.dropRecord r y).reg .ringCfg r = s.reg .ringCfg r := by
    unfold State.dropRecord
    rw [if_pos hr]
    exact reg_setReg_of_name (by decide) hr _ _ hr (by decide) (by decide)
  unfold State.kind State.field
  rw [cfg]

theorem ringSlackDrop_completes (r : Fin 1024) (s : State) (sound : s.Sound) :
    Completes (.ringSlackDrop r) s fun t =>
      (∀ i, s.kind r = 1 → s.lacking r = some i → t.ring r = { s.ring r with records := (s.ring r).records.eraseIdx i } ∧
        t.reg .ringDrop r = satAdd (s.reg .ringDrop r) 1) ∧
      (s.lacking r = none → t = s) := by
  refine completes_of_effect (exec_ringSlackDrop r s) ⟨fun i kind lacking => ?_, fun none => ?_⟩
  · obtain ⟨y, front⟩ := lacking_record lacking
    simp only [lacking, front]
    have kept : ((s.setRing r { s.ring r with records := (s.ring r).records.eraseIdx i }).dropRecord r y).kind r ≠ 3 := by
      rw [dropRecord_cfg _ r.isLt, show (s.setRing r _).kind r = s.kind r from rfl, kind]
      decide
    rw [settle_ring _ _ _ kept, settle_drop _ _ r kept, dropRecord_ringDrop _ r.isLt]
    refine ⟨?_, rfl⟩
    rw [State.ring, dropRecord_rings]
    exact (State.ring_setRing ..).trans (if_pos rfl)
  · simp only [none]
    exact sound.settle_eq (s0 := s) rfl rfl

theorem exec_faultDeadlineDrop (r : Fin 1024) (s : State) : exec (.faultDeadlineDrop r) s = effect (fun s =>
    let x := s.ring r.val
    match x.records with
    | [] => s
    | y :: _ =>
      if y.oclass = 3 || x.halting.isSome || s.now ≤ y.slot + s.field .xlatRingFb r.val 0 0 2 || (x.unitsDone = 0 && !x.holds 0) then s
      else
        s.faultFinish r.val 1) s := rfl

/-- The ring whose front record a deadline has struck. -/
def Ring.struck (ys : List Record) (ws : List PendingWrite) (x : Ring) : Ring :=
  { x with records := ys, done := 0, unitsDone := 0, filled := [], bufs := x.bufs.filter (·.written = 0), writes := ws, waits := []
           preempted := false, halting := none, state := if x.state = .wait then .run else x.state }

theorem faultDrop_eq {s : State} {r : Nat} {y : Record} {ys : List Record} (front : (s.ring r).records = y :: ys) (cause : Nat) :
    ∃ ws type fs, s.faultDrop r cause = ((s.setRing r
      { s.ring r with records := ys, done := 0, unitsDone := 0, filled := [], bufs := (s.ring r).bufs.filter (·.written = 0), writes := ws }).bump
      .ringDrop r).raise type fs := by
  unfold State.faultDrop
  simp only [front]
  exact ⟨_, _, _, rfl⟩

theorem faultFinish_eq {s : State} {r : Nat} {y : Record} {ys : List Record} (hr : r < 1024) (front : (s.ring r).records = y :: ys) (cause : Nat) :
    ∃ (u : State) (ws : List PendingWrite), s.faultFinish r cause = u.flushWrites r ws ∧ u.ring r = (s.ring r).struck ys ws ∧
      u.reg .ringDrop r = satAdd (s.reg .ringDrop r) 1 ∧ u.reg .ringCfg r = s.reg .ringCfg r := by
  obtain ⟨ws, type, fs, dropped⟩ := faultDrop_eq front cause
  have own : (s.faultDrop r cause).ring r =
      { s.ring r with records := ys, done := 0, unitsDone := 0, filled := [], bufs := (s.ring r).bufs.filter (·.written = 0), writes := ws } := by
    rw [dropped, raise_ring, ring_bump, State.ring_setRing, if_pos rfl]
  have counted : (s.faultDrop r cause).reg .ringDrop r = satAdd (s.reg .ringDrop r) 1 := by
    rw [dropped]
    exact State.reg_setReg_self _ _ _ _ _
  have cfg : (s.faultDrop r cause).reg .ringCfg r = s.reg .ringCfg r := by
    rw [dropped]
    exact reg_setReg_of_name (by decide) hr _ _ hr (by decide) (by decide)
  unfold State.faultFinish
  dsimp only
  rw [own]
  exact ⟨_, _, rfl, (State.ring_setRing ..).trans (if_pos rfl), counted, cfg⟩

theorem faultDeadlineDrop_completes (r : Fin 1024) (y : Record) (ys : List Record) (s : State) (kind : s.kind r = 1)
    (front : (s.ring r).records = y :: ys) (own : y.oclass ≠ 3) (late : y.slot + s.field .xlatRingFb r 0 0 2 < s.now)
    (begun : (s.ring r).unitsDone ≠ 0) (alive : (s.ring r).halting = none) (stands : (s.ring r).state = .run ∨ (s.ring r).state = .wait) :
    Completes (.faultDeadlineDrop r) s fun t => (t.ring r).state = .halt ∨
      ((t.ring r).records = ys ∧ (t.ring r).done = 0 ∧ (t.ring r).unitsDone = 0 ∧ (t.ring r).state = .run ∧
        t.reg .ringDrop r = satAdd (s.reg .ringDrop r) 1 ∧ ∀ b ∈ (t.ring r).bufs, b.written = 0) := by
  refine completes_of_effect (exec_faultDeadlineDrop r s) ?_
  dsimp only
  simp only [front]
  rw [decide_eq_false own, alive, decide_eq_false (Nat.not_le.mpr late), decide_eq_false begun, if_neg (by simp)]
  obtain ⟨u, ws, ends, struck, counted, cfg⟩ := faultFinish_eq r.isLt front 1
  have runs : (u.ring r).state = .run := by
    rw [struck]
    rcases stands with e | e <;> simp [Ring.struck, e]
  have flushed : ∀ v, u.Flushed r v → v.kind r = s.kind r ∧ v.reg .ringDrop r = u.reg .ringDrop r := fun v h => by
    have kept : v.reg .ringCfg r = s.reg .ringCfg r := (h.within.reg _ _ (by simp [flushSide, RegName.off, RegName.row]; omega)).trans cfg
    refine ⟨?_, h.within.reg _ _ (by simp [flushSide, RegName.off, RegName.row]; omega)⟩
    unfold State.kind State.field
    rw [kept]
  rw [ends]
  rcases flushWrites_cases (s := u) (r := r) (by rw [struck]; rfl) ws with out | ⟨v, out, halts⟩
  · obtain ⟨sameKind, drops⟩ := flushed _ out
    have producer : (u.flushWrites r ws).kind r ≠ 3 := by
      rw [sameKind, kind]
      decide
    obtain ⟨rest, same⟩ := out.ring
    rw [settle_ring _ _ _ producer, settle_drop _ _ r producer, drops, counted, same]
    refine .inr ⟨by rw [struck]; rfl, by rw [struck]; rfl, by rw [struck]; rfl, runs, rfl, fun b mem => ?_⟩
    rw [struck] at mem
    simpa using (List.mem_filter.mp mem).2
  · obtain ⟨sameKind, -⟩ := flushed _ out
    obtain ⟨rest, same⟩ := out.ring
    have halted := halt_halted v r.isLt (cause := 2) (by decide)
    have live : (v.ring r).state ≠ .drain := by
      rw [same]
      show (u.ring r).state ≠ .drain
      rw [runs]
      decide
    have producer : (v.halt r 2).kind r ≠ 3 := by
      have still : (v.halt r 2).kind r = v.kind r := by
        unfold State.kind State.field
        rw [halted.cfg]
      rw [still, sameKind, kind]
      decide
    rw [halts, settle_ring _ _ _ producer]
    exact .inl (halted.live live).1

theorem faultDeadlineDrop_idle (r : Fin 1024) (s : State) (sound : s.Sound) (idle : (s.ring r).records = [] ∨
    (∃ y ys, (s.ring r).records = y :: ys ∧ (y.oclass = 3 ∨ s.now ≤ y.slot + s.field .xlatRingFb r 0 0 2))) :
    Completes (.faultDeadlineDrop r) s fun t => t = s := by
  refine completes_idle (exec_faultDeadlineDrop r s) ?_ sound
  rcases idle with none | ⟨y, ys, front, exempt⟩
  · simp only [none]
  · simp only [front]
    exact if_pos (by rcases exempt with e | e <;> simp [e])

/-- Settles O39: a unit, a drop and what a ring writes behind it touch that ring alone, unless it halts. -/
theorem recordsAreWrittenOrDropped : Obligations.RecordsAreWrittenOrDropped := by
  unfold Obligations.RecordsAreWrittenOrDropped
  refine ⟨⟨writeUnit_completes, fun s sound idle => ?_⟩, ringSlackDrop_completes, faultDeadlineDrop_completes, faultDeadlineDrop_idle⟩
  refine completes_idle (exec_writeUnit s) ?_ sound
  rcases idle with down | none
  · rw [down, if_neg (by decide)]
  · rw [none]
    exact ite_self _

end Sys2Proof.Machine
end

section
/-!
SUPPORT. Ethernet (15): split ports, what a truncated stream loses, received frames, gPTP messages and PDUs. From these O41 and O42.
-/
namespace Sys2Proof.Machine

/-! ### Split ports -/

theorem exec_splitPortUp (x : Fin 8) (s : State) : exec (.splitPortUp x) s = effect (fun s =>
    let p := x.val / 4
    if !s.splitExists x.val || !s.flag .ethCfg p 0 0 || (s.split x.val).up then s
    else (s.setSplit x.val { s.split x.val with up := true }).raise 0x0701
      [(1, x.val), (1, s.field .ethCfg p 0 1 2), (6, 0)]) s := rfl

theorem exec_splitPortDown (x : Fin 8) (s : State) : exec (.splitPortDown x) s = effect (fun s => s.splitDown x.val 1) s := rfl

theorem settle_split (s0 u : State) (x : Nat) : (settle s0 u).split x = u.split x := by simp only [State.split, settle_splits]

theorem settle_stream (s0 u : State) (n : Nat) : (settle s0 u).stream n = u.stream n := by simp only [State.stream, settle_streams]

theorem splitPortUp_completes (x : Fin 8) (s : State) (made : s.splitExists x = true) (on : s.flag .ethCfg (x / 4) 0 0 = true)
    (down : (s.split x).up = false) :
    Completes (.splitPortUp x) s fun t => t.split x = { s.split x with up := true } ∧
      State.Frame { s with splits := t.splits, marks := t.marks } t := by
  refine completes_of_effect (exec_splitPortUp x s) ?_
  dsimp only
  rw [made, on, down, if_neg (by decide)]
  refine ⟨?_, ?_⟩
  · rw [settle_split]
    exact (State.split_setSplit s x x { s.split x with up := true }).trans (if_pos rfl)
  · rw [settle_splits]
    exact { settle_frame s _ with }

/-! ### What a stream loses -/

/-- What a truncation is about: the PDUs of stream n on split port x, the frame it has begun, and its count of drops. -/
structure State.SameStream (x n : Nat) (s t : State) : Prop where
  queued : (t.split x).queued.filter (·.stream = n) = (s.split x).queued.filter (·.stream = n)
  live : (t.stream n).live = (s.stream n).live
  drops : t.reg .ethStrDrop n = s.reg .ethStrDrop n

namespace State.SameStream

variable {x n : Nat} {s t u : State}

theorem refl (x n : Nat) (s : State) : s.SameStream x n s := ⟨rfl, rfl, rfl⟩

theorem trans (h : s.SameStream x n t) (g : t.SameStream x n u) : s.SameStream x n u :=
  ⟨g.queued.trans h.queued, g.live.trans h.live, g.drops.trans h.drops⟩

theorem begun (h : s.SameStream x n t) : t.begun x n = s.begun x n := by
  unfold State.begun
  rw [← List.head?_filter, ← List.head?_filter, h.queued, h.live]

end State.SameStream

/-- The truncation of what a stream has begun. -/
theorem truncate_of_begun {s : State} {x n w k : Nat} (begun : s.begun x n = some (w, k)) (cause : Nat) :
    s.truncate x n cause = ((s.setSplit x { s.split x with queued := (s.split x).queued.filter fun p => p.stream ≠ n }).setStream n
      { s.stream n with live := none }).streamDrop n w cause k := by
  unfold State.truncate
  simp only [begun]
  rfl

theorem streamDrop_drops (s : State) (n w cause k : Nat) : (s.streamDrop n w cause k).reg .ethStrDrop n = satAdd (s.reg .ethStrDrop n) 1 :=
  State.reg_setReg_self _ _ _ _ _

/-- Stream n loses what it has begun, counted as one drop, and no PDU of it remains. -/
structure State.Truncated (x n : Nat) (s t : State) : Prop where
  queued : ∀ p ∈ (t.split x).queued, p.stream ≠ n
  live : (t.stream n).live = none
  drops : (s.begun x n).isSome = true → t.reg .ethStrDrop n = satAdd (s.reg .ethStrDrop n) 1

theorem truncate_truncated {s : State} {x n : Nat} (begun : (s.begun x n).isSome = true) (cause : Nat) :
    s.Truncated x n (s.truncate x n cause) := by
  obtain ⟨⟨w, k⟩, begun⟩ := Option.isSome_iff_exists.mp begun
  rw [truncate_of_begun begun]
  refine ⟨fun p mem => ?_, ?_, fun _ => streamDrop_drops ..⟩
  · have split : ((s.setSplit x { s.split x with queued := (s.split x).queued.filter fun p => p.stream ≠ n }).split x).queued =
        (s.split x).queued.filter fun p => p.stream ≠ n := by rw [State.split_setSplit, if_pos rfl]
    have mem : p ∈ (s.split x).queued.filter fun p => p.stream ≠ n := split ▸ mem
    simpa using (List.mem_filter.mp mem).2
  · exact congrArg Stream.live ((State.stream_setStream ..).trans (if_pos rfl))

/-- The truncation of another stream. -/
theorem truncate_other (s : State) (x : Nat) {n m : Nat} (other : n ≠ m) (cause : Nat) :
    s.SameStream x n (s.truncate x m cause) := by
  cases begun : s.begun x m with
  | none =>
    have same : s.truncate x m cause = s := by
      unfold State.truncate
      simp only [begun]
    rw [same]
    exact .refl ..
  | some f =>
    rw [truncate_of_begun begun]
    refine ⟨?_, ?_, State.reg_setReg_of_ne _ _ _ _ _ _ _ _ (by simp [RegName.off, RegName.row]; omega)⟩
    · have split : ((s.setSplit x { s.split x with queued := (s.split x).queued.filter fun p => p.stream ≠ m }).split x).queued =
          (s.split x).queued.filter fun p => p.stream ≠ m := by rw [State.split_setSplit, if_pos rfl]
      refine (congrArg (List.filter _) split).trans ?_
      rw [List.filter_filter]
      refine List.filter_congr fun p _ => ?_
      by_cases own : p.stream = n
      · simp [own, other]
      · simp [own]
    · exact congrArg Stream.live ((State.stream_setStream ..).trans (if_neg other))

theorem foldl_truncate_other {x n : Nat} {l : List Nat} (none : n ∉ l) (cause : Nat) (s : State) :
    s.SameStream x n (l.foldl (fun s n => s.truncate x n cause) s) :=
  List.foldlRecOn (motive := fun v : State => s.SameStream x n v) _ _ (.refl x n s) fun u (g : s.SameStream x n u) m mem =>
    g.trans (truncate_other u x (fun e : n = m => none (by rw [e]; exact mem)) cause)

theorem State.Truncated.behind {x n : Nat} {s t u : State} (h : s.Truncated x n t) (g : t.SameStream x n u) : s.Truncated x n u where
  queued p mem same := by
    have kept : p ∈ (u.split x).queued.filter (·.stream = n) := List.mem_filter.mpr ⟨mem, decide_eq_true same⟩
    rw [g.queued] at kept
    exact h.queued p (List.mem_filter.mp kept).1 same
  live := g.live.trans h.live
  drops begun := g.drops.trans (h.drops begun)

theorem State.Truncated.before {x n : Nat} {s t u : State} (g : t.Truncated x n u) (h : s.SameStream x n t) : s.Truncated x n u where
  queued := g.queued
  live := g.live
  drops begun := by rw [g.drops (by rw [h.begun]; exact begun), h.drops]

/-- A stream that has begun nothing on a port has nothing there. -/
theorem truncated_of_not_begun {s : State} {x n : Nat} (none : s.begun x n = none) : s.Truncated x n s := by
  unfold State.begun at none
  split at none
  · cases none
  next found =>
    exact ⟨fun p mem => by simpa using List.find?_eq_none.mp found p mem, none, fun begun => by
      unfold State.begun at begun
      rw [found] at begun
      exact absurd begun (by simp [none])⟩

theorem foldl_truncate {x n : Nat} {l : List Nat} (nodup : l.Nodup) (cause : Nat) {s : State}
    (begun : n ∈ l ↔ (s.begun x n).isSome = true) : s.Truncated x n (l.foldl (fun s n => s.truncate x n cause) s) := by
  by_cases mem : n ∈ l
  · obtain ⟨a, b, rfl⟩ := List.append_of_mem mem
    obtain ⟨-, rest, apart⟩ := List.nodup_append.mp nodup
    have before := foldl_truncate_other (x := x) (fun h => apart n h n (List.mem_cons_self ..) rfl) cause s
    have at_n := truncate_truncated (s := a.foldl (fun s n => s.truncate x n cause) s) (x := x) (n := n) (by
      rw [before.begun]
      exact begun.mp mem) cause
    rw [List.foldl_append, List.foldl_cons]
    exact (at_n.behind (foldl_truncate_other (List.nodup_cons.mp rest).1 cause _)).before before
  · have nothing : s.begun x n = none := by
      cases e : s.begun x n with
      | none => rfl
      | some f => exact absurd (begun.mpr (by rw [e]; rfl)) mem
    exact (truncated_of_not_begun nothing).behind (foldl_truncate_other mem cause s)

theorem settle_drops (s0 u : State) (n : Nat) : (settle s0 u).reg .ethStrDrop n = u.reg .ethStrDrop n :=
  settle_reg_behind s0 u (by decide) n 0

theorem State.Truncated.settle {x n : Nat} {s u : State} (h : s.Truncated x n u) (s0 : State) : s.Truncated x n (settle s0 u) where
  queued := by
    rw [settle_split]
    exact h.queued
  live := by
    rw [settle_stream]
    exact h.live
  drops begun := (settle_drops ..).trans (h.drops begun)

theorem mem_streamsOn {s : State} {x n : Nat} (hn : n < 256) (own : s.streamSub n = x) : n ∈ s.streamsOn x ↔ (s.begun x n).isSome = true := by
  simp [State.streamsOn, hn, own]

theorem splitPortDown_completes (x : Fin 8) (s : State) (up : (s.split x).up = true) : Completes (.splitPortDown x) s fun t =>
    (t.split x).up = false ∧ (t.split x).credits = [] ∧
    ∀ n : Fin 256, s.streamSub n = x →
      (∀ p ∈ (t.split x).queued, p.stream ≠ n.val) ∧
      ((s.begun x n).isSome = true → t.reg .ethStrDrop n = satAdd (s.reg .ethStrDrop n) 1) := by
  refine completes_of_effect (exec_splitPortDown x s) ?_
  unfold State.splitDown
  rw [up, if_neg (by decide)]
  have cleared := fun n : Fin 256 => fun own : s.streamSub n = x =>
    foldl_truncate (x := x) (n := n) (l := s.streamsOn x) (List.nodup_range.filter _) 4 (mem_streamsOn n.isLt own)
  generalize hv : (s.streamsOn x).foldl (fun s n => s.truncate x n 4) s = v
  have split : ((v.setSplit x { v.split x with up := false, credits := [] }).raise 0x0702 [(1, x), (1, 1), (6, 0)]).split x =
      { v.split x with up := false, credits := [] } :=
    (State.split_setSplit v x x { v.split x with up := false, credits := [] }).trans (if_pos rfl)
  dsimp only
  rw [settle_split, split]
  refine ⟨rfl, rfl, fun n own => ?_⟩
  have truncated := cleared n own
  rw [hv] at truncated
  exact ⟨truncated.queued, fun begun => (settle_drops ..).trans (truncated.drops begun)⟩

/-! ### Received frames -/

theorem exec_ethFrameReceived (x : Fin 8) (frame : List Byte) (ok : Bool) (dt : Nat) (s : State) :
    exec (.ethFrameReceived x frame ok dt) s = effect (fun s =>
      let s := s.elapse dt
      if !(s.split x.val).up then s
      else if s.isGptp x.val frame ok then
        let s := s.bump .ethRxPtp x.val
        if isEventFrame frame then s.emit (.gptpStamp x.val (s.inDomain (frame.drop 14)) (s.rxStamp x.val)) else s
      else s.bump .ethRxOther x.val) s := rfl

theorem reg_bump_other (s : State) {m n : RegName} (i j : Nat) (other : m.off i ≠ n.off j) : (s.bump n j).reg m i = s.reg m i :=
  State.reg_setReg_of_ne _ _ _ _ _ _ _ _ other

theorem ethFrameReceived_completes (x : Fin 8) (frame : List Byte) (ok : Bool) (dt : Nat) (s : State) (sound : s.Sound) :
    Completes (.ethFrameReceived x frame ok dt) s fun t =>
      ((s.split x).up = true →
        t.reg .ethRxPtp x = (if s.isGptp x frame ok then satAdd (s.reg .ethRxPtp x) 1 else s.reg .ethRxPtp x) ∧
        t.reg .ethRxOther x = (if s.isGptp x frame ok then s.reg .ethRxOther x else satAdd (s.reg .ethRxOther x) 1) ∧
        t.out = (if s.isGptp x frame ok && isEventFrame frame then
          [Emission.gptpStamp x (s.inDomain (frame.drop 14)) (timeValue
            ((s.elapse dt).tb0.subns - (s.reg .ethPtpDlyRx x).toNat) ((s.elapse dt).tb0.tag 0))] else []) ++ (s.elapse dt).out ∧
        State.Frame { s.elapse dt with regs := t.regs, out := t.out } t) ∧
      ((s.split x).up = false → t = s.elapse dt) := by
  have passed := sound.elapse dt
  have ptp : ∀ v : State, (v.bump .ethRxOther x).reg .ethRxPtp x = v.reg .ethRxPtp x := fun v =>
    reg_bump_other v x x (by simp [RegName.off, RegName.row])
  have rest : ∀ v : State, (v.bump .ethRxPtp x).reg .ethRxOther x = v.reg .ethRxOther x := fun v =>
    reg_bump_other v x x (by simp [RegName.off, RegName.row])
  have delay : ∀ v : State, (v.bump .ethRxPtp x).reg .ethPtpDlyRx x = v.reg .ethPtpDlyRx x := fun v =>
    reg_bump_other v x x (by simp [RegName.off, RegName.row])
  have domain : ∀ v : State, (v.bump .ethRxPtp x).inDomain (frame.drop 14) = v.inDomain (frame.drop 14) := fun v => by
    unfold State.inDomain State.gptpDomain State.field
    rw [show (v.bump .ethRxPtp x).reg .ethPtpCfg = v.reg .ethPtpCfg from
      State.reg_setReg_of_ne _ _ _ _ _ _ _ _ (by simp [RegName.off, RegName.row]; omega)]
  refine completes_of_effect (exec_ethFrameReceived x frame ok dt s) ?_
  dsimp only
  rw [show (s.elapse dt).split x.val = s.split x from rfl, show (s.elapse dt).isGptp x.val frame ok = s.isGptp x frame ok from rfl]
  refine ⟨fun up => ?_, fun down => ?_⟩
  · rw [up, if_neg (by decide)]
    cases own : s.isGptp x frame ok with
    | false =>
      rw [if_neg (by decide), State.Sound.settle_eq (by exact passed) (by rfl) (by rfl)]
      exact ⟨ptp _, State.reg_setReg_self _ _ _ _ _, rfl, State.Kept.refl _⟩
    | true =>
      rw [if_pos rfl]
      cases event : isEventFrame frame with
      | false =>
        rw [if_neg (by decide), State.Sound.settle_eq (by exact passed) (by rfl) (by rfl)]
        exact ⟨State.reg_setReg_self _ _ _ _ _, rest _, rfl, State.Kept.refl _⟩
      | true =>
        rw [if_pos rfl, State.Sound.settle_eq (by exact passed) (by rfl) (by rfl)]
        refine ⟨State.reg_setReg_self _ _ _ _ _, rest _, ?_, State.Kept.refl _⟩
        rw [domain]
        unfold State.rxStamp
        rw [delay]
        rfl
  · rw [down, if_pos (by decide)]
    exact passed.settle_eq rfl rfl

/-- Settles O41: a truncation strikes its own stream alone, and received frames change counters and stamps alone. -/
theorem ethernetPorts : Obligations.EthernetPorts := by
  unfold Obligations.EthernetPorts
  refine ⟨⟨splitPortUp_completes, splitPortDown_completes, fun x s sound => ⟨fun idle => ?_, fun down => ?_⟩⟩, ethFrameReceived_completes⟩
  · refine completes_idle (exec_splitPortUp x s) (if_pos ?_) sound
    rcases idle with e | e | e <;> simp [e]
  · refine completes_idle (exec_splitPortDown x s) ?_ sound
    unfold State.splitDown
    rw [down]
    exact if_pos rfl

/-! ### gPTP messages -/

theorem exec_gptpMessageSend (k : GptpKind) (body : List Byte) (dt : Nat) (s : State) : exec (.gptpMessageSend k body dt) s = effect (fun s =>
    let s := s.elapse dt
    let x := s.field .ethPtpCfg 0 0 0 3
    if !(s.split x).up || maxFrame < 14 + body.length then s
    else
      let st := timeValue (s.tb0.subns + (s.reg .ethPtpDlyTx x).toNat) (s.tb0.tag 0)
      let (body, s) := s.gptpBody x k body st
      s.emit (.gptp x gptpAddress (macAddress (s.reg .ethMacLo x) (s.reg .ethMacHi x)) k body
        (if isEventMessage k then st else 0))) s := rfl

/-- What a message of the gPTP instance carries, and the state that it leaves. -/
theorem gptpBody_facts (s : State) (x : Nat) (k : GptpKind) (body : List Byte) (st : BitVec 128) :
    let r := s.gptpBody x k body st
    r.2 = { s with splits := r.2.splits, free := r.2.free } ∧
      (k = .sync → s.flag .ethPtpCfg 0 0 3 = true → ∃ n, r.1 = withCorrection (withOrigin (s.withDomain body) st) n) ∧
      (k = .sync → s.flag .ethPtpCfg 0 0 3 = false → r.1 = s.withDomain body ∧ (r.2.split x).syncStamp = st) ∧
      (k = .followUp → s.flag .ethPtpCfg 0 0 3 = false → r.1 = withOrigin (s.withDomain body) (s.split x).syncStamp) ∧
      (k ≠ .sync → k ≠ .followUp ∨ s.flag .ethPtpCfg 0 0 3 = true → r.1 = s.withDomain body) := by
  cases k with
  | sync =>
    cases one : s.flag .ethPtpCfg 0 0 3 with
    | true =>
      unfold State.gptpBody
      simp only [one, if_true]
      exact ⟨rfl, fun _ _ => ⟨_, rfl⟩, nofun, nofun, fun no => absurd rfl no⟩
    | false =>
      unfold State.gptpBody
      simp only [one, Bool.false_eq_true, if_false]
      refine ⟨rfl, nofun, fun _ _ => ⟨trivial, ?_⟩, nofun, fun no => absurd rfl no⟩
      exact congrArg SplitPort.syncStamp ((State.split_setSplit s x x { s.split x with syncStamp := st }).trans (if_pos rfl))
  | followUp =>
    refine ⟨rfl, nofun, nofun, fun _ two => if_neg (by rw [two]; decide), fun _ whole => ?_⟩
    rcases whole with no | one
    · exact absurd rfl no
    · exact if_pos one
  | pdelayReq => exact ⟨rfl, nofun, nofun, nofun, fun _ _ => rfl⟩
  | pdelayResp => exact ⟨rfl, nofun, nofun, nofun, fun _ _ => rfl⟩
  | pdelayRespFollowUp => exact ⟨rfl, nofun, nofun, nofun, fun _ _ => rfl⟩

theorem gptpMessageSend_completes (k : GptpKind) (body : List Byte) (dt x : Nat) (s : State) (sound : s.Sound)
    (port : x = s.field .ethPtpCfg 0 0 0 3) :
    Completes (.gptpMessageSend k body dt) s fun t =>
      ((s.split x).up = true → body.length ≤ 1504 → ∃ (st : BitVec 128) (b : List Byte),
        st = timeValue ((s.elapse dt).tb0.subns + (s.reg .ethPtpDlyTx x).toNat) ((s.elapse dt).tb0.tag 0) ∧
        t.out = .gptp x gptpAddress (macAddress (s.reg .ethMacLo x) (s.reg .ethMacHi x)) k b
          (if isEventMessage k then st else 0) :: s.out ∧
        (k = .sync → s.flag .ethPtpCfg 0 0 3 = true → ∃ n, b = withCorrection (withOrigin (s.withDomain body) st) n) ∧
        (k = .sync → s.flag .ethPtpCfg 0 0 3 = false → b = s.withDomain body ∧ (t.split x).syncStamp = st) ∧
        (k = .followUp → s.flag .ethPtpCfg 0 0 3 = false → b = withOrigin (s.withDomain body) (s.split x).syncStamp) ∧
        (k ≠ .sync → k ≠ .followUp ∨ s.flag .ethPtpCfg 0 0 3 = true → b = s.withDomain body) ∧
        t = { s.elapse dt with out := t.out, splits := t.splits, free := t.free }) ∧
      ((s.split x).up = false ∨ 1504 < body.length → t = s.elapse dt) := by
  have passed := sound.elapse dt
  refine completes_of_effect (exec_gptpMessageSend k body dt s) ?_
  dsimp only
  rw [show (s.elapse dt).field .ethPtpCfg 0 0 0 3 = x from port.symm, show (s.elapse dt).split x = s.split x from rfl]
  refine ⟨fun up fits => ?_, fun idle => ?_⟩
  · rw [up, decide_eq_false (show ¬ maxFrame < 14 + body.length by unfold maxFrame; omega), if_neg (by decide)]
    obtain ⟨rest, facts⟩ := gptpBody_facts (s.elapse dt) x k body
      (timeValue ((s.elapse dt).tb0.subns + ((s.elapse dt).reg .ethPtpDlyTx x).toNat) ((s.elapse dt).tb0.tag 0))
    generalize (s.elapse dt).gptpBody x k body
      (timeValue ((s.elapse dt).tb0.subns + ((s.elapse dt).reg .ethPtpDlyTx x).toNat) ((s.elapse dt).tb0.tag 0)) = r at rest facts ⊢
    obtain ⟨b, v⟩ := r
    dsimp only at rest facts ⊢
    have quiet : ∀ e, (v.emit e).Sound := fun e => by
      rw [rest]
      exact passed
    rw [(quiet _).settle_eq (by rw [rest]; rfl) (by rw [rest]; rfl)]
    obtain ⟨one, two, follow, other⟩ := facts
    refine ⟨_, b, rfl, ?_, one, two, follow, other, ?_⟩
    · rw [rest]
      rfl
    · rw [rest]
      rfl
  · rw [if_pos (by
      rcases idle with down | long
      · simp [down]
      · rw [decide_eq_true (show maxFrame < 14 + body.length by unfold maxFrame; omega), Bool.or_true])]
    exact passed.settle_eq rfl rfl

/-! ### PDUs -/

theorem exec_pduTransmit (x : Fin 8) (s : State) : exec (.pduTransmit x) s = effect (fun s =>
    if !(s.split x.val).up || s.dark then s
    else match [7, 6, 5, 4, 3, 2, 1, 0].findSome? fun q => s.mayStart x.val q with
      | some p => s.sendPdu x.val p
      | none => s) s := rfl

/-- A shaper's payment changes the credits of its port alone. -/
theorem payCredit_facts (s : State) (x q n : Nat) :
    s.payCredit x q n = { s with splits := (s.payCredit x q n).splits } ∧ ((s.payCredit x q n).split x).queued = (s.split x).queued := by
  unfold State.payCredit
  split
  · exact ⟨rfl, rfl⟩
  · exact ⟨rfl, by rw [State.split_setSplit, if_pos rfl]⟩

theorem sent_split (v : State) (e : Emission) (x n : Nat) (y : SplitPort) (z : Stream) :
    ((((v.emit e).setSplit x y).setStream n z).bump .ethTxPdu x).split x = y := (State.split_setSplit (v.emit e) x x y).trans (if_pos rfl)

theorem sent_stream (v : State) (e : Emission) (x n : Nat) (y : SplitPort) (z : Stream) :
    ((((v.emit e).setSplit x y).setStream n z).bump .ethTxPdu x).stream n = z :=
  (State.stream_setStream ((v.emit e).setSplit x y) n n z).trans (if_pos rfl)

/-- What a PDU that leaves may change. -/
def pduSide : Footprint where
  has
    | .splits | .streams | .out => true
    | _ => false
  regs _ := true

theorem payCredit_within (s : State) (x q n : Nat) : s.Within pduSide (s.payCredit x q n) := .ite (.refl _ _) (.setSplit _ _ rfl)

theorem sendPdu_within (s : State) (x : Nat) (p : Pdu) : s.Within pduSide (s.sendPdu x p) :=
  ((((payCredit_within s x _ _).trans (.emit _ rfl)).trans (.setSplit _ _ rfl)).trans (.setStream _ _ rfl)).trans (.bump rfl)

theorem sendPdu_rest (s : State) (x : Nat) (p : Pdu) :
    s.sendPdu x p = { s with splits := (s.sendPdu x p).splits, streams := (s.sendPdu x p).streams, regs := (s.sendPdu x p).regs,
                             out := (s.sendPdu x p).out } := (sendPdu_within s x p).eq_merge

theorem sendPdu_facts (s : State) (x : Nat) (p : Pdu) :
    (s.sendPdu x p).out = .ethPdu x (s.ethHead x p) p :: s.out ∧
      ((s.sendPdu x p).split x).queued = (s.split x).queued.erase p ∧ ((s.sendPdu x p).stream p.stream).seq = (s.stream p.stream).seq + 1 ∧
      (s.sendPdu x p).reg .ethTxPdu x = satAdd (s.reg .ethTxPdu x) 1 := by
  obtain ⟨rest, queued⟩ := payCredit_facts s x (s.pduQueue p) (s.wireBytes p)
  unfold State.sendPdu
  dsimp only
  generalize s.payCredit x (s.pduQueue p) (s.wireBytes p) = v at rest queued ⊢
  have streams : v.stream p.stream = s.stream p.stream := by rw [rest]; rfl
  have counted : v.reg .ethTxPdu x = s.reg .ethTxPdu x := by rw [rest]; rfl
  have head : v.ethHead x p = s.ethHead x p := by rw [rest]; rfl
  have sent : v.out = s.out := by rw [rest]
  refine ⟨?_, ?_, ?_, ?_⟩
  · rw [← head, ← sent]
    rfl
  · rw [sent_split, queued]
  · rw [sent_stream, ← streams]
    rfl
  · rw [← counted]
    exact State.reg_setReg_self _ _ _ _ _

theorem pduTransmit_completes (x : Fin 8) (s : State) (sound : s.Sound) :
    Completes (.pduTransmit x) s fun t =>
      (∀ p, (s.split x).up = true → s.dark = false →
        ([7, 6, 5, 4, 3, 2, 1, 0].findSome? fun q => s.mayStart x q) = some p →
        t.out = .ethPdu x (s.ethHead x p) p :: s.out ∧ (t.split x).queued = (s.split x).queued.erase p ∧
        (t.stream p.stream).seq = (s.stream p.stream).seq + 1 ∧ t.reg .ethTxPdu x = satAdd (s.reg .ethTxPdu x) 1 ∧
        t = { s with splits := t.splits, streams := t.streams, regs := t.regs, out := t.out }) ∧
      ((s.split x).up = false ∨ s.dark = true ∨
        ([7, 6, 5, 4, 3, 2, 1, 0].findSome? fun q => s.mayStart x q) = none → t = s) := by
  refine completes_of_effect (exec_pduTransmit x s) ⟨fun p up lit first => ?_, fun idle => ?_⟩
  · rw [up, lit, if_neg (by decide)]
    simp only [first]
    have rest := sendPdu_rest s x p
    obtain ⟨out, queued, seq, sent⟩ := sendPdu_facts s x p
    have quiet : (s.sendPdu x p).Sound := by
      rw [rest]
      exact sound
    rw [quiet.settle_eq (by rw [rest]) (by rw [rest])]
    exact ⟨out, queued, seq, sent, rest⟩
  · have same : (if !(s.split x.val).up || s.dark then s
        else match [7, 6, 5, 4, 3, 2, 1, 0].findSome? fun q => s.mayStart x.val q with
          | some p => s.sendPdu x.val p
          | none => s) = s := by
      rcases idle with down | dark | none
      · rw [down, if_pos (by rfl)]
      · rw [dark, Bool.or_true, if_pos rfl]
      · simp only [none, ite_self]
    rw [same]
    exact sound.settle_eq (s0 := s) rfl rfl

theorem exec_streamTruncate (n : Fin 256) (s : State) : exec (.streamTruncate n) s = effect (fun s =>
    let x := s.streamSub n.val
    if (s.split x).queued.any fun p => p.stream = n.val && !p.streaming && decide (p.tick + 2 ≤ s.now) then
      s.truncate x n.val 3 else s) s := rfl

theorem streamTruncate_completes (n : Fin 256) (s : State) (sound : s.Sound) : Completes (.streamTruncate n) s fun t =>
    (((s.split (s.streamSub n)).queued.any fun p => p.stream = n.val && !p.streaming && decide (p.tick + 2 ≤ s.now)) = true →
      (∀ p ∈ (t.split (s.streamSub n)).queued, p.stream ≠ n.val) ∧ (t.stream n).live = none ∧
      t.reg .ethStrDrop n = satAdd (s.reg .ethStrDrop n) 1) ∧
    (((s.split (s.streamSub n)).queued.all fun p => p.stream ≠ n.val || p.streaming || decide (s.now < p.tick + 2)) = true →
      t = s) := by
  refine completes_of_effect (exec_streamTruncate n s) ⟨fun late => ?_, fun all => ?_⟩
  · dsimp only
    rw [if_pos late]
    have begun : (s.begun (s.streamSub n) n).isSome = true := by
      obtain ⟨p, mem, own⟩ := List.any_eq_true.mp late
      simp only [Bool.and_eq_true, decide_eq_true_eq] at own
      unfold State.begun
      split
      · rfl
      next found => exact absurd (List.find?_eq_none.mp found p mem) (by simp [own.1.1])
    obtain ⟨queued, live, drops⟩ := (truncate_truncated begun 3).settle s
    exact ⟨queued, live, drops begun⟩
  · have early : ¬ ((s.split (s.streamSub n)).queued.any fun p => p.stream = n.val && !p.streaming && decide (p.tick + 2 ≤ s.now)) = true := by
      intro late
      obtain ⟨p, mem, own⟩ := List.any_eq_true.mp late
      have none := List.all_eq_true.mp all p mem
      simp only [Bool.and_eq_true, Bool.or_eq_true, decide_eq_true_eq, Bool.not_eq_true'] at own none
      obtain ⟨⟨same, staged⟩, past⟩ := own
      rcases none with (other | streaming) | early
      · exact other same
      · rw [staged] at streaming
        cases streaming
      · omega
    dsimp only
    rw [if_neg early]
    exact sound.settle_eq (s0 := s) rfl rfl

/-- Settles O42: no event is raised by a message or a PDU that leaves, so that each ends as its own effect leaves the port. -/
theorem ethernetSends : Obligations.EthernetSends := by
  unfold Obligations.EthernetSends
  exact ⟨gptpMessageSend_completes, pduTransmit_completes, streamTruncate_completes⟩

end Sys2Proof.Machine
end

section
/-!
SUPPORT. Changes of capacity (15, 16): CHANGE of a gate list, its taking effect, and CHN_RSV. From these O43.
-/
namespace Sys2Proof.Machine

theorem bitOf_eq_bitsOf (v : Word) (i : Nat) : bitOf v i = decide (bitsOf v i 1 = 1) := by
  unfold bitOf bitsOf
  rw [Nat.testBit_eq_decide_div_mod_eq, Nat.pow_one]

theorem flag_setField (s : State) (n : RegName) {i j k : Nat} (x : Bool) (inside : k < 32) :
    (s.setField n i j k 1 (bit x)).flag n i j k = x := by
  have stored : (s.setField n i j k 1 (bit x)).field n i j k 1 = bit x := field_setField s n (by cases x <;> decide) (by omega)
  unfold State.flag
  rw [bitOf_eq_bitsOf, show bitsOf ((s.setField n i j k 1 (bit x)).reg n i j) k 1 = bit x from stored]
  cases x <;> decide

theorem settle_flag_behind (s0 u : State) {n : RegName} (behind : 0x380230 ≤ n.row.base) (i j k : Nat) :
    (settle s0 u).flag n i j k = u.flag n i j k := congrArg (bitOf · k) (settle_reg_behind s0 u behind i j)

/-- The events raised are no part of a frame. -/
theorem State.Frame.of_raised {a b t : State} (h : State.Frame b t) (same : a = { b with raised := a.raised }) : State.Frame a t := by
  rw [same]
  exact { h with }

theorem exec_gateListChange (x : Fin 8) (o : Origin) (v : Word) (s : State) :
    exec (.gateListChange x o v) s = effect (fun s => s.writeFrom o .ethGclCtl x.val 0 (v ||| 2)) s := rfl

theorem accept_ethGclCtl (s : State) (o : Origin) (x : Fin 8) (v : Word) (idle : s.flag .ethGclCtl x 0 1 = false) :
    s.accept o ⟨.ethGclCtl, x.val, 0⟩ (v ||| 2) {} = ((s.writeMarked o ⟨.ethGclCtl, x.val, 0⟩ (v ||| 2)).setReg .ethGclCtl x 0
      (RegName.ethGclCtl.row.merge (s.reg .ethGclCtl x) (v ||| 2))).gateChange x o := by
  have marked : RegAt.marked ⟨.ethGclCtl, x.val, 0⟩ = true := by simp [RegAt.marked, RegName.row]
  have change : bitOf (v ||| 2) 1 = true := by
    unfold bitOf
    rw [BitVec.toNat_or, Nat.testBit_or]
    exact Bool.or_eq_true_iff.mpr (.inr (by decide))
  rw [accept_of_acting s o _ {} RegName.noConfusion RegName.noConfusion, marked]
  show (if bitOf (v ||| 2) 1 && !s.flag .ethGclCtl x 0 1 then _ else _) = _
  rw [change, idle]
  rfl

theorem gateChange_split (w : State) (x : Nat) (o : Origin) :
    (w.gateChange x o).split x = { w.split x with changeOrigin := o, changeResult := 0 } :=
  (State.split_setSplit (w.setField .ethGclCtl x 0 1 1 1) x x _).trans (if_pos rfl)

theorem gateChange_flag (w : State) (x : Nat) (o : Origin) : (w.gateChange x o).flag .ethGclCtl x 0 1 = true :=
  flag_setField w .ethGclCtl true (by decide)

theorem gateListChange_completes (x : Fin 8) (o : Origin) (v : Word) (s : State) (accepts : s.Accepts o ⟨.ethGclCtl, x.val, 0⟩ (v ||| 2))
    (idle : s.flag .ethGclCtl x 0 1 = false) :
    Completes (.gateListChange x o v) s fun t => t.tick = { s.tick with gateRuns := s.tick.gateRuns ++ [x.val] } ∧
      t.flag .ethGclCtl x 0 1 = true ∧ t.split x = { s.split x with changeOrigin := o, changeResult := 0 } := by
  refine completes_of_write (exec_gateListChange x o v s) accepts ?_
  rw [accept_ethGclCtl s o x v idle]
  refine ⟨settle_tick .., ?_, ?_⟩
  · rw [settle_flag_behind _ _ (by decide)]
    exact gateChange_flag ..
  · rw [settle_split, gateChange_split]
    rfl

theorem exec_gateListTakeEffect (x : Fin 8) (s : State) : exec (.gateListTakeEffect x) s = effect (fun s =>
    let y := s.split x.val
    if !s.flag .ethGclCtl x.val 0 1 || y.changeResult = 0 || s.tb0.ns < y.effectAt then s
    else
      let s := s.setSplit x.val { y with operational := s.adminList x.val, cycleBase := y.effectAt }
      let s := s.setField .ethGclCtl x.val 0 1 1 0
      (s.action y.changeOrigin 20 x.val y.changeResult).raise 0x0720 [(1, x.val), (1, y.changeResult), (6, s.now)]) s := rfl

theorem gatesTold_split (s : State) (x : Nat) (y : SplitPort) (o : Origin) (c old new type : Nat) (fs : List (Nat × Nat)) :
    ((((s.setSplit x y).setField .ethGclCtl x 0 1 1 0).action o c old new).raise type fs).split x = y :=
  (State.split_setSplit s x x y).trans (if_pos rfl)

theorem gatesTold_flag (s : State) (x : Nat) (o : Origin) (c old new type : Nat) (fs : List (Nat × Nat)) :
    (((s.setField .ethGclCtl x 0 1 1 0).action o c old new).raise type fs).flag .ethGclCtl x 0 1 = false :=
  flag_setField s .ethGclCtl false (by decide)

theorem gateListTakeEffect_completes (x : Fin 8) (s : State) (change : s.flag .ethGclCtl x 0 1 = true) (judged : (s.split x).changeResult ≠ 0)
    (come : (s.split x).effectAt ≤ s.tb0.ns) :
    Completes (.gateListTakeEffect x) s fun t =>
      t.split x = { s.split x with operational := s.adminList x, cycleBase := (s.split x).effectAt } ∧
      t.flag .ethGclCtl x 0 1 = false ∧ t.markSeq = s.markSeq + 1 ∧
      State.Frame { s with splits := t.splits, regs := t.regs, marks := t.marks, markSeq := t.markSeq } t := by
  refine completes_of_effect (exec_gateListTakeEffect x s) ?_
  dsimp only
  rw [change, decide_eq_false judged, decide_eq_false (Nat.not_lt.mpr come), if_neg (by decide)]
  refine ⟨?_, ?_, settle_markSeq .., ?_⟩
  · rw [settle_split, gatesTold_split]
  · rw [settle_flag_behind _ _ (by decide), gatesTold_flag]
  · rw [settle_splits, settle_markSeq]
    exact (settle_frame s _).withRegs.of_raised rfl

theorem exec_chnRsvWrite (x : Fin 2) (o : Origin) (v : Word) (s : State) :
    exec (.chnRsvWrite x o v) s = effect (fun s => s.writeFrom o .chnRsv x.val 0 v) s := rfl

theorem accept_chnRsv (s : State) (o : Origin) (x : Fin 2) (v : Word) :
    s.accept o ⟨.chnRsv, x.val, 0⟩ v {} = { (s.writeMarked o ⟨.chnRsv, x.val, 0⟩ v).setReg .chnRsv x 0
      (RegName.chnRsv.row.merge (s.reg .chnRsv x) v) with tick := { s.tick with capacity := true } } := by
  have marked : RegAt.marked ⟨.chnRsv, x.val, 0⟩ = true := by simp [RegAt.marked, RegName.row]
  rw [accept_of_acting s o _ {} RegName.noConfusion RegName.noConfusion, marked]
  rfl

theorem chnRsvWrite_completes (x : Fin 2) (o : Origin) (v : Word) (s : State) (accepts : s.Accepts o ⟨.chnRsv, x.val, 0⟩ v) :
    Completes (.chnRsvWrite x o v) s fun t => t.reg .chnRsv x = RegName.chnRsv.row.merge (s.reg .chnRsv x) v ∧
      t.tick = { s.tick with capacity := true } ∧ t.markSeq = s.markSeq + 1 ∧
      State.Frame { s with regs := t.regs, tick := t.tick, marks := t.marks, markSeq := t.markSeq } t := by
  refine completes_of_write (exec_chnRsvWrite x o v s) accepts ?_
  rw [accept_chnRsv]
  refine ⟨(settle_reg_behind _ _ (by decide) _ _).trans (State.reg_setReg_self _ _ _ _ _), settle_tick .., settle_markSeq .., ?_⟩
  rw [settle_tick, settle_markSeq]
  exact (settle_frame s _).withRegs.of_raised rfl

/-- Settles O43: each is stored, and what it asks of admission or of the gates stands beside it. -/
theorem capacityChanges : Obligations.CapacityChanges := by
  unfold Obligations.CapacityChanges
  exact ⟨⟨gateListChange_completes, gateListTakeEffect_completes⟩, chnRsvWrite_completes⟩

end Sys2Proof.Machine
end

section
/-!
SUPPORT. The chain (16): what isolation, an epoch's start and a changed base leave of the chain's state, of its ports and of the rest
of the device. From these the links, peers, delays and isolation of O44.
-/
namespace Sys2Proof.Machine

/-! ### The bases and the chain's flags -/

theorem settle_cport (s u : State) (x : Nat) : (settle s u).cport x = u.cport x := by simp only [State.cport, settle_cports]

/-- Nothing of the chain differs but the two flags that hang on TB1 and the levels. -/
def State.SameButFlags (s t : State) : Prop :=
  t.chain = { s.chain with timed := t.chain.timed, readyTimer := t.chain.readyTimer }

theorem State.SameButFlags.trans {s t u : State} (h : s.SameButFlags t) (g : t.SameButFlags u) : s.SameButFlags u := by
  unfold State.SameButFlags at *
  rw [g, h]

theorem State.SameButFlags.eq {s t : State} (h : s.SameButFlags t) :
    ∃ a b, t.chain = { s.chain with timed := a, readyTimer := b } := ⟨_, _, h⟩

theorem sameButFlags_of_eq {s t : State} (same : t.chain = s.chain) : s.SameButFlags t := by
  unfold State.SameButFlags
  rw [same]

theorem noteReady_flags (s : State) : s.SameButFlags s.noteReady := by
  unfold State.noteReady
  split <;> rfl

theorem noteTimed_flags (s : State) : s.SameButFlags s.noteTimed := by
  unfold State.noteTimed
  split
  · exact State.SameButFlags.trans (t := { s with chain := { s.chain with timed := true } }) rfl (noteReady_flags _)
  · rfl

theorem setBase_chain (s : State) (b : Nat) (t : TimeBase) : (s.setBase b t).chain = s.chain := by
  unfold State.setBase
  split <;> rfl

theorem baseEvent_chain (s : State) (b type : Nat) : (s.baseEvent b type).chain = s.chain := rfl

theorem action_chain (s : State) (o : Origin) (code old new : Nat) : (s.action o code old new).chain = s.chain := rfl

theorem replaced_chain (s : State) (b : Nat) (t : TimeBase) (step : Option Origin) : (s.replaced b t step).chain = s.chain := by
  have set : ((s.setBase b t).setBase b { t with errb := (s.setBase b t).errbNow b }).chain = s.chain :=
    (setBase_chain ..).trans (setBase_chain ..)
  rw [← set]
  unfold State.replaced
  dsimp only
  generalize (s.setBase b t).setBase b { t with errb := (s.setBase b t).errbNow b } = v
  cases step <;> simp only [apply_ite State.chain, baseEvent_chain, action_chain, ite_self]

theorem rebase_flags (s : State) (b : Nat) (t : TimeBase) (step : Option Origin) : s.SameButFlags (s.rebase b t step) := by
  rw [rebase_eq]
  have checked : ((((s.replaced b t step).checkErrb b).checkErrb 1)).chain = s.chain :=
    ((checkErrb_chain _ 1).trans (checkErrb_chain _ b)).trans (replaced_chain ..)
  exact (sameButFlags_of_eq checked).trans (noteTimed_flags _)

theorem baseLost_same (s : State) (b : Nat) : s.SameButBases (s.baseLost b) := rebase_same ..

theorem baseLost_flags (s : State) (b : Nat) : s.SameButFlags (s.baseLost b) := rebase_flags ..

/-! ### The role, and isolation -/

/-- A new role: the bases and their events follow, and of the chain's state no more than its flags. -/
theorem setRole_same (s : State) (r : BitVec 2) : s.SameButBases (s.setRole r) ∧
    ∃ a b, (s.setRole r).chain = { s.chain with role := r, timed := a, readyTimer := b } := by
  unfold State.setRole
  extract_lets u
  have lost : s.SameButBases u ∧ s.SameButFlags u := by
    unfold u
    split
    · exact ⟨baseLost_same s 1, baseLost_flags s 1⟩
    · exact ⟨rfl, rfl⟩
  clear_value u
  obtain ⟨same, flags⟩ := lost
  obtain ⟨a, b, chain⟩ := flags.eq
  refine ⟨(same.trans (t := u) (u := { u with chain := { u.chain with role := r } }) rfl).trans (checkErrb_same _ 1), a, b, ?_⟩
  rw [checkErrb_chain]
  exact congrArg (fun c : Chain => { c with role := r }) chain

/-- The chain's state in isolation from tick `now + 1` on. -/
def Chain.isolated (c : Chain) (cause now : Nat) (ready : Bool) : Chain :=
  { c with
    role := 3, icause := BitVec.ofNat 4 cause, vexcl := cause = 2, timed := false, applyAt := none, readyTimer := ready
    addr := if c.role = 1 || c.role = 2 then 0 else c.addr
    addrs := if c.role = 1 || c.role = 2 then (now + 1, 0) :: c.addrs else c.addrs }

/-- What isolation changes beside the chain's state: the bases, the events raised and the marks. -/
def State.SameButMarked (s t : State) : Prop :=
  t = { s with tb0 := t.tb0, tb1 := t.tb1, tb2 := t.tb2, tb3 := t.tb3, chain := t.chain, raised := t.raised, marks := t.marks
               markSeq := t.markSeq }

theorem State.SameButMarked.trans {s t u : State} (h : s.SameButMarked t) (g : t.SameButMarked u) : s.SameButMarked u := by
  unfold State.SameButMarked at *
  rw [g, h]

theorem State.SameButBases.marked {s t : State} (h : s.SameButBases t) : s.SameButMarked t := by
  unfold State.SameButBases at h
  unfold State.SameButMarked
  rw [h]

/-- Isolation that begins, or changes its cause: one mark, and the address is gone from the next tick on. -/
theorem isolate_of_new {s : State} {cause : Nat} (fresh : ¬ (s.chain.role = 3 ∧ s.chain.icause = BitVec.ofNat 4 cause)) :
    s.SameButMarked (s.isolate cause) ∧ (∃ ready, (s.isolate cause).chain = s.chain.isolated cause s.now ready) ∧
    (s.isolate cause).markSeq = s.markSeq + 1 := by
  unfold State.isolate
  extract_lets c was u v src w x
  rw [if_neg (by simpa [c] using fresh)]
  have hu : s.SameButBases u ∧ s.SameButFlags u := by
    unfold u
    split
    · exact ⟨baseLost_same s 1, baseLost_flags s 1⟩
    · exact ⟨rfl, rfl⟩
  clear_value u
  obtain ⟨same, flags⟩ := hu
  obtain ⟨roleSame, a, b, roleChain⟩ := setRole_same u 3
  have seq : v.markSeq = s.markSeq := by
    have := congrArg State.markSeq (same.trans roleSame)
    exact this
  have now : v.now = s.now := by
    have := congrArg State.now (same.trans roleSame)
    exact this
  have chain : w.chain = { s.chain with
      role := 3, icause := BitVec.ofNat 4 cause, vexcl := cause = 2, timed := false, applyAt := none, readyTimer := b } := by
    obtain ⟨a', b', uChain⟩ := flags.eq
    unfold w src v
    simp only
    rw [roleChain, uChain]
  have hv : s.SameButMarked w := (same.trans roleSame).marked.trans rfl
  have hw : w.markSeq = s.markSeq := seq
  have hn : w.now = s.now := now
  clear_value w v
  refine ⟨?_, ⟨b, ?_⟩, ?_⟩
  · refine hv.trans ?_
    unfold x
    split <;> rfl
  · change x.chain = _
    unfold x Chain.isolated was c
    split
    next h =>
      simp only [State.setAddr, chain, hn]
    next h =>
      simp only [chain]
  · change x.markSeq + 1 = _
    unfold x
    split
    · exact congrArg (· + 1) hw
    · exact congrArg (· + 1) hw

theorem isolate_of_same {s : State} {cause : Nat} (same : s.chain.role = 3 ∧ s.chain.icause = BitVec.ofNat 4 cause) :
    s.isolate cause = s := by
  unfold State.isolate
  extract_lets c
  rw [if_pos (by simpa [c] using same)]

theorem isolate_same (s : State) (cause : Nat) : s.SameButMarked (s.isolate cause) := by
  by_cases old : s.chain.role = 3 ∧ s.chain.icause = BitVec.ofNat 4 cause
  · rw [isolate_of_same old]
    rfl
  · exact (isolate_of_new old).1

/-! ### Epochs -/

/-- The ports with no block left (R334). -/
def State.unblocked (s : State) : State := (List.range 2).foldl (fun s x => s.setCport x { s.cport x with blocked := false }) s

theorem unblocked_cport (s : State) (x : Fin 2) : s.unblocked.cport x = { s.cport x with blocked := false } := by
  simp only [State.unblocked, List.range_succ, List.range_zero, List.nil_append, List.cons_append, List.foldl_cons,
    List.foldl_nil, State.cport_setCport]
  match x with
  | 0 => simp
  | 1 => simp

theorem unblocked_same (s : State) : s.unblocked = { s with cports := s.unblocked.cports } := rfl

/-- What the start of an epoch changes beside the ports' blocks: the chain's state, the bases and their events, marks, and packets. -/
def State.SameButChain (s t : State) : Prop :=
  t = { s with tb0 := t.tb0, tb1 := t.tb1, tb2 := t.tb2, tb3 := t.tb3, chain := t.chain, raised := t.raised, marks := t.marks
               markSeq := t.markSeq, out := t.out }

theorem State.SameButChain.trans {s t u : State} (h : s.SameButChain t) (g : t.SameButChain u) : s.SameButChain u := by
  unfold State.SameButChain at *
  rw [g, h]

theorem State.SameButMarked.chain {s t : State} (h : s.SameButMarked t) : s.SameButChain t := by
  unfold State.SameButMarked at h
  unfold State.SameButChain
  rw [h]

theorem State.SameButOut.chain {s t : State} (h : s.SameButOut t) : s.SameButChain t := by
  unfold State.SameButOut at h
  unfold State.SameButChain
  rw [h]

theorem sendInaug_out (s : State) : s.SameButOut s.sendInaug := by
  unfold State.sendInaug
  extract_lets iso
  split
  · rfl
  · refine State.SameButOut.foldl (fun u x => ?_) _ s
    dsimp only
    split
    · exact sendChain_out ..
    · rfl

/-- The epoch that a keystone starts (R332). -/
def State.newEpoch (s : State) : EpochRec :=
  { key := Config.deviceId, epoch := s.chain.told.epoch + 1, role := 1, addr := 0, agreed := s.agreed
    nEff := BitVec.ofNat 64 (s.now + 2), nmem := BitVec.ofNat 8 (1 + (s.cport 0).count + (s.cport 1).count)
    na := BitVec.ofNat 8 (s.cport 0).count }

theorem startEpoch_of_above {s : State} (above : floorAbove s.boot.floor s.unblocked.agreed = true) :
    s.startEpoch = s.unblocked.isolate 2 := by
  unfold State.startEpoch
  extract_lets u
  rw [if_pos (by exact above)]
  rfl

theorem startEpoch_of_below {s : State} (below : floorAbove s.boot.floor s.unblocked.agreed = false) :
    s.startEpoch = State.sendInaug { s.unblocked with chain := { s.chain with
      told := s.unblocked.newEpoch, applyAt := Option.some (s.now + 2), basis := s.unblocked.epochBasis } } := by
  unfold State.startEpoch
  extract_lets u
  rw [if_neg (by rw [show floorAbove u.boot.floor u.agreed = false from below]; decide)]
  rfl

theorem startEpoch_same (s : State) : s.unblocked.SameButChain s.startEpoch := by
  cases above : floorAbove s.boot.floor s.unblocked.agreed with
  | true =>
    rw [startEpoch_of_above above]
    exact (isolate_same ..).chain
  | false =>
    rw [startEpoch_of_below above]
    exact State.SameButChain.trans (t := { s.unblocked with chain := { s.chain with
      told := s.unblocked.newEpoch, applyAt := Option.some (s.now + 2), basis := s.unblocked.epochBasis } }) rfl (sendInaug_out _).chain

/-- A keystone whose basis changes may end the blocks of its ports; no more of a port changes. -/
theorem checkEpoch_cport (s : State) (x : Fin 2) : ∃ b, (b = true → (s.cport x).blocked = true) ∧
    s.checkEpoch.cport x = { s.cport x with blocked := b } := by
  unfold State.checkEpoch
  split
  · have same := congrArg (fun u : State => u.cport x) (startEpoch_same s)
    exact ⟨false, nofun, same.trans (unblocked_cport s x)⟩
  · exact ⟨(s.cport x).blocked, id, rfl⟩

theorem noteReady_cport (s : State) (x : Nat) : s.noteReady.cport x = s.cport x := by
  unfold State.noteReady
  split <;> rfl

/-! ### What the device sends of itself (O44) -/

theorem dark_of_chainOn {s : State} (on : s.chainOn = true) : s.dark = false := by
  simp only [State.chainOn, Bool.and_eq_true, Bool.not_eq_true'] at on
  exact on.2

theorem sendChain_of_lit {s : State} (lit : s.dark = false) (x type hop orig flags tick : Nat) (body : List Byte) :
    s.sendChain x type hop orig flags tick body = s.emit (.chainPacket x (chainBytes type hop orig flags tick body)) := by
  unfold State.sendChain
  rw [lit]
  rfl

theorem State.Sound.withOut {s : State} (h : s.Sound) (o : List Emission) : State.Sound { s with out := o } := by
  obtain ⟨raised, held, service⟩ := h
  exact ⟨raised, held, service⟩

/-- Packets on the two ports, each where it goes out. -/
theorem foldl_sends {s : State} {F : State → Nat → State} {on : Nat → Bool} {packet : Nat → List Byte}
    (each : ∀ o x, F { s with out := o } x = if on x then { s with out := .chainPacket x (packet x) :: o } else { s with out := o }) :
    ∃ o, (List.range 2).foldl F s = { s with out := o } ∧ ∀ x : Fin 2, on x = true → Emission.chainPacket x (packet x) ∈ o := by
  have first := each s.out 0
  change F s 0 = _ at first
  have two : (List.range 2).foldl F s = F (F s 0) 1 := rfl
  rw [two, first]
  cases zero : on 0 with
  | true =>
    rw [if_pos rfl, each]
    cases one : on 1 with
    | true => exact ⟨_, rfl, fun | 0 => by simp | 1 => by simp⟩
    | false => exact ⟨_, rfl, fun | 0 => by simp | 1 => by simp [one]⟩
  | false =>
    rw [if_neg (by decide), each]
    cases one : on 1 with
    | true => exact ⟨_, rfl, fun | 0 => by simp [zero] | 1 => by simp⟩
    | false => exact ⟨_, rfl, fun | 0 => by simp [zero] | 1 => by simp [one]⟩

/-- A command that changes nothing but what leaves the device. -/
theorem completes_out {c : Instr} {s : State} {f : State → State} {P : State → Prop} {o : List Emission} (run : exec c s = effect f s)
    (sound : s.Sound) (same : f s = { s with out := o }) (p : P { s with out := o }) : Completes c s P := by
  refine completes_of_effect run ?_
  rw [same]
  have still : settle s { s with out := o } = { s with out := o } := (sound.withOut o).settle_eq rfl rfl
  exact still.symm ▸ p

theorem exec_helloSend (s : State) : exec .helloSend s = effect (fun s =>
    if !s.chainOn then s
    else (List.range 2).foldl (fun s x =>
      if (s.cport x).linked then s.sendChain x 1 0 s.orig 0 s.now (s.helloFor x) else s) s) s := rfl

theorem exec_inaugSend (s : State) : exec .inaugSend s = effect State.sendInaug s := rfl

theorem exec_timeSend (s : State) : exec .timeSend s = effect (fun s =>
    if !s.chainOn then s
    else if s.chain.role = 1 then (s.sendTime 0).sendTime 1
    else if s.chain.role = 2 then s.sendTime (1 - s.chain.toward)
    else s) s := rfl

theorem helloSend_completes {s : State} (sound : s.Sound) (on : s.chainOn = true) :
    Completes .helloSend s fun t => t = { s with out := t.out } ∧ ∀ x : Fin 2, (s.cport x).linked = true →
      .chainPacket x (chainBytes 1 0 s.orig 0 s.now (s.helloFor x)) ∈ t.out := by
  obtain ⟨o, sent, all⟩ := foldl_sends (s := s)
    (F := fun s x => if (s.cport x).linked then s.sendChain x 1 0 s.orig 0 s.now (s.helloFor x) else s)
    (on := fun x => (s.cport x).linked) (packet := fun x => chainBytes 1 0 s.orig 0 s.now (s.helloFor x))
    (fun o x => by
      rw [sendChain_of_lit (by exact dark_of_chainOn on)]
      rfl)
  refine completes_out (exec_helloSend s) sound (o := o) ?_ ⟨rfl, all⟩
  rw [on]
  exact sent

theorem inaugSend_completes {s : State} (sound : s.Sound) (on : s.chainOn = true)
    (may : s.isKey = true ∨ (s.chain.role = 3 ∧ s.leads = true)) :
    Completes .inaugSend s fun t => t = { s with out := t.out } ∧ ∀ x : Fin 2, s.chainOpen x = true →
      .chainPacket x (chainBytes 2 0 s.orig 0 s.now (s.inaugBody { s.chain.told with key := Config.deviceId }
        (if x = 0 then 1 else s.chain.told.na.toNat + 1) (!s.isKey) x s.digest.toNat)) ∈ t.out := by
  obtain ⟨o, sent, all⟩ := foldl_sends (s := s)
    (F := fun u x =>
      if u.chainOpen x then
        u.sendChain x 2 0 u.orig 0 u.now (u.inaugBody { u.chain.told with key := Config.deviceId }
          (if x = 0 then 1 else u.chain.told.na.toNat + 1) (!s.isKey) x u.digest.toNat)
      else u)
    (on := fun x => s.chainOpen x)
    (packet := fun x => chainBytes 2 0 s.orig 0 s.now (s.inaugBody { s.chain.told with key := Config.deviceId }
        (if x = 0 then 1 else s.chain.told.na.toNat + 1) (!s.isKey) x s.digest.toNat))
    (fun o x => by
      dsimp only
      rw [sendChain_of_lit (by exact dark_of_chainOn on)]
      rfl)
  refine completes_out (exec_inaugSend s) sound (o := o) ?_ ⟨rfl, fun x opened => ?_⟩
  · unfold State.sendInaug
    rw [on]
    have role : (s.isKey || (decide (s.chain.role = 3) && s.leads)) = true := by simpa using may
    rw [role]
    exact sent
  · have := all x opened
    match x with
    | 0 => exact this
    | 1 => exact this

theorem sendTime_of_lit {s : State} (lit : s.dark = false) (o : List Emission) (x : Nat) :
    State.sendTime { s with out := o } x = if s.chainOpen x then
      { s with out := .chainPacket x (chainBytes 3 (s.hops 0) s.orig 0 s.now
          (bytesOf 16 s.stamp ++ leBytes 4 (s.errNs 1) ++ [BitVec.ofNat 8 s.clevel] ++ leBytes 11 0)) :: o }
      else { s with out := o } := by
  unfold State.sendTime
  rw [sendChain_of_lit (by exact lit)]
  rfl

theorem timeSend_completes {s : State} (sound : s.Sound) (on : s.chainOn = true) (role : s.chain.role = 1 ∨ s.chain.role = 2) :
    Completes .timeSend s fun t => t = { s with out := t.out } ∧
      ∀ x : Fin 2, s.chain.role = 1 ∨ x.val ≠ s.chain.toward → s.chainOpen x = true →
        .chainPacket x (chainBytes 3 (s.hops 0) s.orig 0 s.now
          (bytesOf 16 s.stamp ++ leBytes 4 (s.errNs 1) ++ [BitVec.ofNat 8 s.clevel] ++ leBytes 11 0)) ∈ t.out := by
  have lit := dark_of_chainOn on
  rcases role with key | member
  · obtain ⟨o, sent, all⟩ := foldl_sends (sendTime_of_lit lit)
    refine completes_out (exec_timeSend s) sound (o := o) ?_ ⟨rfl, fun x _ opened => all x opened⟩
    rw [on, if_neg (by decide), if_pos key]
    exact sent
  · have other : s.chain.role ≠ 1 := by rw [member]; decide
    have send : s.sendTime (1 - s.chain.toward) = _ := sendTime_of_lit lit s.out (1 - s.chain.toward)
    refine completes_out (exec_timeSend s) sound (o := (s.sendTime (1 - s.chain.toward)).out) ?_ ⟨rfl, fun x away opened => ?_⟩
    · rw [on, if_neg (by decide), if_neg other, if_pos member, send]
      split <;> rfl
    · have far : x.val ≠ s.chain.toward := away.resolve_left other
      have facing : s.chain.toward = 0 ∨ s.chain.toward = 1 := by
        unfold Chain.toward bit
        cases s.chain.orient <;> simp
      have same : 1 - s.chain.toward = x.val := by omega
      rw [same] at send ⊢
      rw [send, if_pos opened]
      exact List.mem_cons_self ..

theorem sendsOfItself {s : State} (sound : s.Sound) :
    (s.chainOn = false → Completes .helloSend s fun t => t = s) ∧
    (s.chainOn = false ∨ (s.isKey = false ∧ (s.chain.role ≠ 3 ∨ s.leads = false)) → Completes .inaugSend s fun t => t = s) ∧
    (s.chainOn = false ∨ (s.chain.role ≠ 1 ∧ s.chain.role ≠ 2) → Completes .timeSend s fun t => t = s) := by
  refine ⟨fun off => completes_idle (exec_helloSend s) ?_ sound, fun off => completes_idle (exec_inaugSend s) ?_ sound,
    fun off => completes_idle (exec_timeSend s) ?_ sound⟩
  · rw [off]
    rfl
  · unfold State.sendInaug
    refine if_pos ?_
    rcases off with off | ⟨other, no⟩
    · simp [off]
    · rcases no with no | no
      · rw [other, decide_eq_false no]
        exact Bool.or_true _
      · rw [other, no, Bool.and_false]
        exact Bool.or_true _
  · rcases off with off | ⟨one, two⟩
    · rw [off]
      rfl
    · rw [if_neg one, if_neg two]
      exact ite_self _

/-! ### The measurement of a port's delay (O44) -/

theorem exec_delayReqSend (dt : Nat) (s : State) : exec (.delayReqSend dt) s = effect (fun s =>
    let s := s.elapse dt
    let x := s.chain.toward
    if !s.chainOn || s.chain.role = 1 || !s.chain.taken || !(s.cport x).linked then s
    else (s.setCport x { s.cport x with t1 := some s.tb1.subns }).sendChain x 4 0 s.orig 0 s.now []) s := rfl

theorem exec_delayReqReceived (x : Fin 2) (dt : Nat) (s : State) : exec (.delayReqReceived x dt) s = effect (fun s =>
    let s := s.elapse dt
    s.delayReq x.val s.tb1.subns 0) s := rfl

theorem exec_delayRspReceived (x : Fin 2) (p : BitVec 256) (dt : Nat) (s : State) : exec (.delayRspReceived x p dt) s =
    effect (fun s =>
      let s := s.elapse dt
      if s.chainOn && (s.cport x.val).linked then s.delayRsp x.val p s.tb1.subns else s) s := rfl

/-- A command that changes nothing of a sound state but the chain, its ports, what leaves the device and what nothing fixes. -/
theorem completes_chain {c : Instr} {s v : State} {f : State → State} {P : State → Prop} {u : State}
    (run : exec c s = effect f s) (sound : v.Sound) (seq : v.markSeq = s.markSeq) (pend : v.pending = s.pending) (ends : f s = u)
    (same : u = { v with chain := u.chain, cports := u.cports, out := u.out, free := u.free })
    (role : u.chain.role = v.chain.role) (p : P u) : Completes c s P := by
  have still : State.Sound { v with chain := u.chain, cports := u.cports, out := u.out, free := u.free } := by
    obtain ⟨raised, held, service⟩ := sound
    refine ⟨raised, held, service.trans ?_⟩
    unfold State.serviceNow
    rw [role]
  refine completes_of_effect run ?_
  rw [ends, State.Sound.settle_eq (by rw [same]; exact still) (by rw [same]; exact seq) (by rw [same]; exact pend)]
  exact p

theorem delayReqSend_completes (dt : Nat) (s : State) (sound : s.Sound) :
    Completes (.delayReqSend dt) s fun t =>
      (s.chainOn = true → s.chain.role ≠ 1 → s.chain.taken = true → (s.cport s.chain.toward).linked = true →
        (t.cport s.chain.toward).t1 = some (s.elapse dt).tb1.subns ∧
        t.out = .chainPacket s.chain.toward (chainBytes 4 0 s.orig 0 s.now []) :: s.out) ∧
      (s.chainOn = false ∨ s.chain.role = 1 ∨ s.chain.taken = false ∨ (s.cport s.chain.toward).linked = false →
        t = s.elapse dt) := by
  by_cases may : s.chainOn = true ∧ s.chain.role ≠ 1 ∧ s.chain.taken = true ∧ (s.cport s.chain.toward).linked = true
  · obtain ⟨on, role, taken, linked⟩ := may
    refine completes_chain (exec_delayReqSend dt s) (sound.elapse dt) rfl rfl (u := State.emit
      ((s.elapse dt).setCport s.chain.toward { s.cport s.chain.toward with t1 := some (s.elapse dt).tb1.subns })
      (.chainPacket s.chain.toward (chainBytes 4 0 s.orig 0 s.now []))) ?_ rfl rfl ⟨fun _ _ _ _ => ⟨?_, rfl⟩, fun off => ?_⟩
    · dsimp only
      refine (if_neg ?_).trans (sendChain_of_lit ?_ ..)
      · change ¬ (!s.chainOn || s.chain.role = 1 || !s.chain.taken || !(s.cport s.chain.toward).linked) = true
        rw [on, taken, linked, decide_eq_false role]
        decide
      · exact dark_of_chainOn on
    · have set := State.cport_setCport (s.elapse dt) s.chain.toward s.chain.toward
        { s.cport s.chain.toward with t1 := some (s.elapse dt).tb1.subns }
      rw [if_pos rfl] at set
      exact congrArg ChainPort.t1 set
    · rcases off with off | off | off | off
      · exact absurd (on.symm.trans off) (by decide)
      · exact absurd off role
      · exact absurd (taken.symm.trans off) (by decide)
      · exact absurd (linked.symm.trans off) (by decide)
  · refine completes_chain (exec_delayReqSend dt s) (sound.elapse dt) rfl rfl (u := s.elapse dt) ?_ rfl rfl
      ⟨fun on role taken linked => absurd ⟨on, role, taken, linked⟩ may, fun _ => rfl⟩
    dsimp only
    refine if_pos ?_
    change (!s.chainOn || s.chain.role = 1 || !s.chain.taken || !(s.cport s.chain.toward).linked) = true
    by_contra no
    exact may (by simpa [and_assoc] using no)

/-- The answer to a request bears its instant of arrival and, at once, its own (R337). -/
theorem delayReq_of_on {s : State} {x : Nat} (on : s.chainOn = true) (linked : (s.cport x).linked = true) :
    s.delayReq x s.tb1.subns 0 =
      s.emit (.chainPacket x (chainBytes 5 0 s.orig 0 s.now (bytesOf 16 s.stamp ++ bytesOf 16 s.stamp))) := by
  have atOnce : s.stampAhead 0 = s.stamp := by
    unfold State.stampAhead
    rw [Nat.zero_mul]
    rfl
  unfold State.delayReq
  rw [on, linked, sendChain_of_lit (dark_of_chainOn on), atOnce]
  rfl

theorem delayReqReceived_completes (x : Fin 2) (dt : Nat) (s : State) (sound : s.Sound) :
    Completes (.delayReqReceived x dt) s fun t =>
      (s.chainOn = true → (s.cport x).linked = true → t = (s.elapse dt).emit (.chainPacket x (chainBytes 5 0 s.orig 0 s.now
        (bytesOf 16 (s.elapse dt).stamp ++ bytesOf 16 (s.elapse dt).stamp)))) ∧
      (s.chainOn = false ∨ (s.cport x).linked = false → t = s.elapse dt) := by
  by_cases may : s.chainOn = true ∧ (s.cport x).linked = true
  · obtain ⟨on, linked⟩ := may
    refine completes_chain (exec_delayReqReceived x dt s) (sound.elapse dt) rfl rfl (u := (s.elapse dt).emit (.chainPacket x
      (chainBytes 5 0 s.orig 0 s.now (bytesOf 16 (s.elapse dt).stamp ++ bytesOf 16 (s.elapse dt).stamp)))) ?_ rfl rfl
      ⟨fun _ _ => rfl, fun off => ?_⟩
    · exact delayReq_of_on (by exact on) (by exact linked)
    · rw [on, linked] at off
      simp at off
  · refine completes_chain (exec_delayReqReceived x dt s) (sound.elapse dt) rfl rfl (u := s.elapse dt) ?_ rfl rfl
      ⟨fun on linked => absurd ⟨on, linked⟩ may, fun _ => rfl⟩
    dsimp only
    unfold State.delayReq
    refine if_neg ?_
    change ¬ (s.chainOn && (s.cport x).linked) = true
    simpa using may

theorem delayRsp_of_asked {s : State} {x t1 : Nat} (asked : (s.cport x).t1 = some t1) (p : BitVec 256) (t4 : Nat) :
    s.delayRsp x p t4 = (s.setCport x { s.cport x with t1 := none }).setReg .chnDelay x 0 (BitVec.ofInt 32 (quot (((t4 : Int) - t1)
      - ((stampSubns (BitVec.ofNat 128 (numAt p 16 16)) : Int) - stampSubns (BitVec.ofNat 128 (numAt p 0 16)))) 2)) := by
  unfold State.delayRsp
  rw [asked]

/-- The frame of a command that makes no mark. -/
theorem settle_frame_of_unmarked {s u : State} (seq : u.markSeq = s.markSeq) (few : u.marks.length ≤ 4096) :
    State.Frame { u with pending := s.pending } (settle s u) := by
  have frame := settle_frame s u
  rw [settle_marks_of_none seq few] at frame
  exact frame

theorem delayRspReceived_completes (x : Fin 2) (p : BitVec 256) (dt : Nat) (s : State) (sound : s.Sound) :
    Completes (.delayRspReceived x p dt) s fun t =>
      (∀ t1, s.chainOn = true → (s.cport x).linked = true → (s.cport x).t1 = some t1 →
        (t.cport x).t1 = none ∧
        t.reg .chnDelay x = BitVec.ofInt 32 (quot ((((s.elapse dt).tb1.subns : Int) - t1)
          - ((stampSubns (BitVec.ofNat 128 (numAt p 16 16)) : Int) - stampSubns (BitVec.ofNat 128 (numAt p 0 16)))) 2) ∧
        State.Frame { s.elapse dt with cports := t.cports, regs := t.regs } t) ∧
      (s.chainOn = false ∨ (s.cport x).linked = false ∨ (s.cport x).t1 = none → t = s.elapse dt) := by
  by_cases may : s.chainOn = true ∧ (s.cport x).linked = true ∧ (s.cport x).t1 ≠ none
  · obtain ⟨on, linked, held⟩ := may
    obtain ⟨t1, asked⟩ := Option.ne_none_iff_exists'.mp held
    obtain ⟨-, held', -⟩ := sound
    refine completes_of_effect (exec_delayRspReceived x p dt s) ?_
    dsimp only
    have both : ((s.elapse dt).chainOn && ((s.elapse dt).cport x).linked) = true := by
      change (s.chainOn && (s.cport x).linked) = true
      rw [on, linked]
      rfl
    have asked' : ((s.elapse dt).cport x).t1 = some t1 := asked
    rw [both, if_pos rfl, delayRsp_of_asked asked']
    refine ⟨fun t1' _ _ same => ?_, fun off => ?_⟩
    · obtain rfl : t1 = t1' := Option.some.inj (asked.symm.trans same)
      refine ⟨?_, ?_, ?_⟩
      · rw [settle_cport]
        exact congrArg ChainPort.t1 ((State.cport_setCport (s.elapse dt) x x _).trans (if_pos rfl))
      · rw [settle_reg_behind _ _ (by decide), State.reg_setReg_self]
      · rw [settle_cports]
        exact (settle_frame_of_unmarked (by rfl) (by exact held')).withRegs.of_raised (by rfl)
    · rw [on, linked, asked] at off
      simp at off
  · refine completes_chain (exec_delayRspReceived x p dt s) (sound.elapse dt) rfl rfl (u := s.elapse dt) ?_ rfl rfl
      ⟨fun t1 on linked asked => absurd ⟨on, linked, by rw [asked]; nofun⟩ may, fun _ => rfl⟩
    dsimp only
    split
    next both =>
      have both' : s.chainOn = true ∧ (s.cport x).linked = true := by
        simp only [Bool.and_eq_true] at both
        exact both
      have none : ((s.elapse dt).cport x).t1 = none := by
        by_contra some
        exact may ⟨both'.1, both'.2, some⟩
      rw [State.delayRsp, none]
    next => rfl

/-! ### Links and peers (O44) -/

theorem exec_chainLinkChange (x : Fin 2) (locked : Bool) (s : State) : exec (.chainLinkChange x locked) s = effect (fun s =>
    if !s.chainOn || s.dark then s
    else
      let p := s.cport x.val
      let l := (List.range 2).foldl (fun (ls : Store ChainLane) i => Store.modify {} ls i fun y =>
        { y with lock := locked, good := if locked then 3 else 0, badRun := 0, seqRun := 0 }) p.lanes
      (s.setCport x.val { p with lanes := l }).setLinked x.val locked) s := rfl

theorem exec_helloReceived (x : Fin 2) (p : BitVec 256) (s : State) :
    exec (.helloReceived x p) s = effect (fun s => s.helloIn x.val p) s := rfl

theorem exec_helloTimeout (x : Fin 2) (s : State) : exec (.helloTimeout x) s = effect (fun s =>
    if (s.cport x.val).peer && decide (12500000 ≤ s.clock - (s.cport x.val).helloClock) then (s.losePeer x.val 2).checkEpoch
    else s) s := rfl

theorem cport_setCport_self (s : State) (x : Nat) (p : ChainPort) : (s.setCport x p).cport x = p :=
  (State.cport_setCport s x x p).trans (if_pos rfl)

theorem losePeer_cport (s : State) (x cause : Nat) : (s.losePeer x cause).cport x = { s.cport x with peer := false } := by
  unfold State.losePeer
  split
  · exact cport_setCport_self s x { s.cport x with peer := false }
  next alone =>
    have no : (s.cport x).peer = false := by simpa using alone
    rw [← no]

theorem setLinked_true (s : State) (x : Nat) : ((s.setLinked x true).cport x).linked = true ∧
    ((s.cport x).linked = false → ((s.setLinked x true).cport x).skew = [] ∧ ((s.setLinked x true).cport x).nextSeq = none) := by
  unfold State.setLinked
  extract_lets p
  split
  next linked => exact ⟨linked, fun down => absurd (linked.symm.trans down) (by decide)⟩
  next =>
    rw [if_pos rfl, cport_setCport_self]
    exact ⟨rfl, fun _ => ⟨rfl, rfl⟩⟩

theorem setLinked_false {s : State} (x : Fin 2) (linked : (s.cport x).linked = true) :
    ((s.setLinked x false).cport x).linked = false ∧ ((s.setLinked x false).cport x).peer = false ∧
    ((s.setLinked x false).cport x).blocked = false ∧ ((s.setLinked x false).cport x).t1 = none := by
  unfold State.setLinked
  extract_lets p u src v
  rw [if_neg (by rw [show p.linked = true from linked]; decide), if_neg (by decide)]
  obtain ⟨b, ends, same⟩ := checkEpoch_cport { v with chain := { v.chain with seen := v.chain.seen.filter fun e => e.2.2 ≠ x.val } } x
  have port : v.cport x = _ := cport_setCport_self u x _
  have peer : (u.cport x).peer = false := congrArg ChainPort.peer (losePeer_cport s x 1)
  have closed : (v.cport x).blocked = false := congrArg ChainPort.blocked port
  have b' : b = false := by
    cases b with
    | false => rfl
    | true => exact absurd (closed.symm.trans (ends rfl)) (by decide)
  have same' : ({ v with chain := { v.chain with seen := v.chain.seen.filter fun e => e.2.2 ≠ x.val } } : State).checkEpoch.cport x =
      { v.cport x with blocked := b } := same
  rw [same', b', port]
  exact ⟨rfl, peer, rfl, rfl⟩

theorem chainLinkChange_completes (x : Fin 2) {s : State} (on : s.chainOn = true) (locked : Bool) {P : ChainPort → Prop}
    (ends : ∀ l, P (((s.setCport x { s.cport x with lanes := l }).setLinked x locked).cport x)) :
    Completes (.chainLinkChange x locked) s fun t => P (t.cport x) := by
  refine completes_of_effect (exec_chainLinkChange x locked s) ?_
  rw [on, dark_of_chainOn on, settle_cport]
  exact ends _

theorem helloIn_cport {s : State} (on : s.chainOn = true) (x : Fin 2) (linked : (s.cport x).linked = true) (p : BitVec 256) :
    ((s.helloIn x p).cport x).hello = p ∧ ((s.helloIn x p).cport x).peer = true ∧ ((s.helloIn x p).cport x).linked = true := by
  unfold State.helloIn
  extract_lets was src u v
  rw [on, linked, if_neg (by decide)]
  have port : v.noteReady.cport x = { s.cport x with hello := p, helloClock := s.clock, peer := true } := by
    rw [noteReady_cport]
    unfold v
    split <;> exact cport_setCport_self s x _
  obtain ⟨b, -, same⟩ := checkEpoch_cport v.noteReady x
  rw [same, port]
  exact ⟨rfl, rfl, linked⟩

theorem linksAndPeers (x : Fin 2) (s : State) :
    (s.chainOn = true → Completes (.chainLinkChange x true) s (fun t => (t.cport x).linked = true ∧
      ((s.cport x).linked = false → (t.cport x).skew = [] ∧ (t.cport x).nextSeq = none)) ∧
    ((s.cport x).linked = true → Completes (.chainLinkChange x false) s fun t => (t.cport x).linked = false ∧
      (t.cport x).peer = false ∧ (t.cport x).blocked = false ∧ (t.cport x).t1 = none) ∧
    (∀ p : BitVec 256, (s.cport x).linked = true → Completes (.helloReceived x p) s fun t =>
      (t.cport x).hello = p ∧ (t.cport x).peer = true ∧ (t.cport x).linked = true)) ∧
    ((s.cport x).peer = true → 12500000 ≤ s.clock - (s.cport x).helloClock →
      Completes (.helloTimeout x) s fun t => (t.cport x).peer = false ∧ (t.cport x).linked = (s.cport x).linked) ∧
    (s.Sound → (s.cport x).peer = false ∨ s.clock - (s.cport x).helloClock < 12500000 →
      Completes (.helloTimeout x) s fun t => t = s) ∧
    (∀ p, s.Sound → s.chainOn = false ∨ (s.cport x).linked = false →
      Completes (.helloReceived x p) s fun t => t = s) := by
  refine ⟨fun on => ⟨?_, fun linked => ?_, fun p linked => ?_⟩, fun peer old => ?_, fun sound young => ?_, fun p sound off => ?_⟩
  · refine chainLinkChange_completes x on true (P := fun p => p.linked = true ∧
      ((s.cport x).linked = false → p.skew = [] ∧ p.nextSeq = none)) fun l => ?_
    obtain ⟨up, anew⟩ := setLinked_true (s.setCport x { s.cport x with lanes := l }) x
    rw [cport_setCport_self] at anew
    exact ⟨up, anew⟩
  · refine chainLinkChange_completes x on false (P := fun p => p.linked = false ∧ p.peer = false ∧ p.blocked = false ∧ p.t1 = none)
      fun l => setLinked_false x ?_
    rw [cport_setCport_self]
    exact linked
  · refine completes_of_effect (exec_helloReceived x p s) ?_
    rw [settle_cport]
    exact helloIn_cport on x linked p
  · refine completes_of_effect (exec_helloTimeout x s) ?_
    rw [peer, decide_eq_true old, settle_cport]
    obtain ⟨b, -, same⟩ := checkEpoch_cport (s.losePeer x 2) x
    have same' : (if (true && true) = true then (s.losePeer x 2).checkEpoch else s).cport x = _ := same
    rw [same', losePeer_cport]
    exact ⟨rfl, rfl⟩
  · refine completes_idle (exec_helloTimeout x s) (if_neg ?_) sound
    rcases young with alone | young
    · rw [alone, Bool.false_and]
      decide
    · rw [decide_eq_false (by omega), Bool.and_false]
      decide
  · refine completes_idle (exec_helloReceived x p s) ?_ sound
    unfold State.helloIn
    rcases off with off | off
    · rw [off]
      rfl
    · rw [off, if_pos (by simp)]

/-! ### Isolation and loops (O44) -/

theorem exec_inaugTimeout (s : State) : exec .inaugTimeout s = effect (fun s =>
    if s.chainOn && s.chain.role = 2 && decide (clocks100ms ≤ s.clock - s.chain.takenClock) then s.isolate 4 else s) s := rfl

theorem exec_inaugReceived (x : Fin 2) (hdr : BitVec 128) (p : BitVec 256) (s : State) :
    exec (.inaugReceived x hdr p) s = effect (fun s => s.inaug x.val hdr p) s := rfl

theorem exec_readinessTimeout (s : State) : exec .readinessTimeout s = effect (fun s =>
    let tmo := s.field .chnCfg 0 0 8 8
    if s.chainOn && s.chain.readyTimer && s.clevel < 4 && tmo ≠ 0 && decide (tmo * 1250000000 ≤ s.clock - s.chain.epochClock) then
      { s with chain := { s.chain with readyTimer := false } }.raise 0x0806 [(1, s.clevel), (7, 0)]
    else s) s := rfl

theorem settle_markSeq_eq (s u : State) : (settle s u).markSeq = u.markSeq := settle_markSeq s u

theorem devAt_of_head {s : State} {tick n : Nat} {a : BitVec 5} {l : List (Nat × BitVec 5)} (addrs : s.chain.addrs = (n, a) :: l)
    (inForce : n ≤ tick) : s.devAt tick = a.toNat := by
  simp [State.devAt, addrs, inForce]

theorem inaugTimeout_completes {s : State} (on : s.chainOn = true) (role : s.chain.role = 2)
    (silent : 125000000 ≤ s.clock - s.chain.takenClock) : Completes .inaugTimeout s fun t =>
      t.chain.role = 3 ∧ t.chain.icause = 4 ∧ t.chain.applyAt = none ∧ t.devAt (s.now + 1) = 0 ∧ t.markSeq = s.markSeq + 1 := by
  refine completes_of_effect (exec_inaugTimeout s) ?_
  rw [if_pos (by rw [on, decide_eq_true role, decide_eq_true (show clocks100ms ≤ _ from silent)]; rfl)]
  obtain ⟨-, ⟨ready, chain⟩, seq⟩ := isolate_of_new (s := s) (cause := 4) (by rw [role]; exact fun h => absurd h.1 (by decide))
  have ends : (settle s (s.isolate 4)).chain = s.chain.isolated 4 s.now ready := (settle_chain ..).trans chain
  have addrs : (settle s (s.isolate 4)).chain.addrs = (s.now + 1, 0) :: s.chain.addrs := by
    rw [ends]
    exact if_pos (by rw [role]; rfl)
  refine ⟨by exact congrArg Chain.role ends, by exact congrArg Chain.icause ends, by exact congrArg Chain.applyAt ends, ?_, ?_⟩
  · exact devAt_of_head addrs le_rfl
  · exact (settle_markSeq ..).trans seq

/-- What is held of an INAUG before its key is looked at: its digest and the agreed versions. -/
def State.heardInaug (s : State) (p : BitVec 256) : State :=
  let s := s.setReg .chnKdigest 0 0 (BitVec.ofNat 32 (numAt p 12 4))
  { s with chain := { s.chain with aver := Option.some (BitVec.ofNat 32 (numAt p 16 4)) } }

/-- Whether an INAUG of this KDEVID and EPOCH has come before (R334). -/
def State.seenInaug (s : State) (p : BitVec 256) : Bool :=
  s.chain.seen.any fun e => e.1 = BitVec.ofNat 64 (numAt p 0 8) && e.2.1 = BitVec.ofNat 16 (numAt p 8 2)

theorem noteInaug_of_seen {s : State} {p : BitVec 256} (seen : s.seenInaug p = true) (x : Nat) : s.noteInaug x p = s.heardInaug p :=
  if_pos seen

theorem noteInaug_of_new {s : State} {p : BitVec 256} (new : s.seenInaug p = false) (x : Nat) : s.noteInaug x p =
    { (s.heardInaug p).unblocked with chain := { (s.heardInaug p).chain with
      seen := (BitVec.ofNat 64 (numAt p 0 8), BitVec.ofNat 16 (numAt p 8 2), x) ::
        s.chain.seen.filter (·.1 ≠ BitVec.ofNat 64 (numAt p 0 8)) } } :=
  if_neg (by
    change ¬ s.seenInaug p = true
    rw [new]
    decide)

theorem seenInaug_of_loops {s : State} {x : Nat} {p : BitVec 256} (loops : s.inaugLoops x p = true) : s.seenInaug p = true := by
  simp only [State.inaugLoops, State.seenInaug, List.any_eq_true, Bool.and_eq_true] at loops ⊢
  obtain ⟨e, mem, ⟨key, epoch⟩, -⟩ := loops
  exact ⟨e, mem, key, epoch⟩

theorem inaug_of_own {s : State} {x : Nat} (on : s.chainOn = true) (opened : s.chainOpen x = true) (lead : s.leads = true)
    {p : BitVec 256} (own : BitVec.ofNat 64 (numAt p 0 8) = Config.deviceId) (hdr : BitVec 128) :
    s.inaug x hdr p = s.setCport x { s.cport x with blocked := true } := by
  unfold State.inaug
  extract_lets
  rw [on, opened, if_neg (by decide), if_pos (by exact own), if_pos lead]

theorem inaug_of_loops {s : State} {x : Nat} (on : s.chainOn = true) (opened : s.chainOpen x = true) {p : BitVec 256}
    (foreign : BitVec.ofNat 64 (numAt p 0 8) ≠ Config.deviceId) (loops : s.inaugLoops x p = true) (hdr : BitVec 128) :
    s.inaug x hdr p = (s.heardInaug p).setCport x { s.cport x with blocked := true } := by
  unfold State.inaug
  extract_lets key iso src u
  have heard : u = s.heardInaug p := noteInaug_of_seen (seenInaug_of_loops loops) x
  rw [on, opened, if_neg (by decide), if_neg (by exact foreign), if_pos (by rw [heard]; exact loops)]
  exact congrArg (fun u : State => u.setCport x { u.cport x with blocked := true }) heard

theorem isolationAndLoops :
  (∀ s : State, s.chainOn = true → s.chain.role = 2 → 125000000 ≤ s.clock - s.chain.takenClock →
    Completes .inaugTimeout s fun t =>
      t.chain.role = 3 ∧ t.chain.icause = 4 ∧ t.chain.applyAt = none ∧ t.devAt (s.now + 1) = 0 ∧ t.markSeq = s.markSeq + 1) ∧
  (∀ s : State, s.Sound → s.chainOn = false ∨ s.chain.role ≠ 2 ∨ s.clock - s.chain.takenClock < 125000000 →
    Completes .inaugTimeout s fun t => t = s) ∧
  (∀ (x : Fin 2) (hdr : BitVec 128) (p : BitVec 256) (s : State), s.chainOn = true → s.chainOpen x = true →
    (s.Sound → s.leads = true → BitVec.ofNat 64 (numAt p 0 8) = Config.deviceId →
      Completes (.inaugReceived x hdr p) s fun t => t = s.setCport x { s.cport x with blocked := true }) ∧
    (BitVec.ofNat 64 (numAt p 0 8) ≠ Config.deviceId → s.inaugLoops x p = true →
      Completes (.inaugReceived x hdr p) s fun t => (t.cport x).blocked = true)) := by
  refine ⟨fun s on role silent => inaugTimeout_completes on role silent, fun s sound off => ?_, fun x hdr p s on opened =>
    ⟨fun sound lead own => ?_, fun foreign loops => ?_⟩⟩
  · refine completes_idle (exec_inaugTimeout s) (if_neg ?_) sound
    have late : clocks100ms = 125000000 := rfl
    simp only [Bool.and_eq_true, decide_eq_true_eq, late]
    rintro ⟨⟨on, member⟩, silent⟩
    rcases off with off | other | young
    · exact absurd (on.symm.trans off) (by decide)
    · exact other member
    · omega
  · exact completes_chain (exec_inaugReceived x hdr p s) sound rfl rfl (inaug_of_own on opened lead own hdr) rfl rfl rfl
  · refine completes_of_effect (exec_inaugReceived x hdr p s) ?_
    rw [inaug_of_loops on opened foreign loops hdr, settle_cport]
    exact congrArg ChainPort.blocked (cport_setCport_self (s.heardInaug p) x _)

theorem readinessEnds :
  (∀ s : State, s.chainOn = true → s.chain.readyTimer = true → s.clevel < 4 → s.field .chnCfg 0 0 8 8 ≠ 0 →
    s.field .chnCfg 0 0 8 8 * 1250000000 ≤ s.clock - s.chain.epochClock →
    Completes .readinessTimeout s fun t => t.chain = { s.chain with readyTimer := false } ∧
      State.Frame { s with chain := t.chain, marks := t.marks } t) ∧
  (∀ s : State, s.Sound → s.chainOn = false ∨ s.chain.readyTimer = false ∨ 4 ≤ s.clevel ∨ s.field .chnCfg 0 0 8 8 = 0 ∨
    s.clock - s.chain.epochClock < s.field .chnCfg 0 0 8 8 * 1250000000 →
    Completes .readinessTimeout s fun t => t = s) := by
  refine ⟨fun s on waits low set passed => ?_, fun s sound off => ?_⟩
  · refine completes_of_effect (exec_readinessTimeout s) ?_
    dsimp only
    rw [if_pos (by rw [on, waits, decide_eq_true low, decide_eq_true set, decide_eq_true passed]; rfl), settle_chain]
    exact ⟨rfl, (settle_frame s _).of_raised rfl⟩
  · refine completes_idle (exec_readinessTimeout s) (if_neg ?_) sound
    rcases off with off | off | off | off | off
    · rw [off]
      simp
    · rw [off]
      simp
    · simp [off]
    · rw [off]
      simp
    · simp [off]

/-- Settles O44: each command of the links, the measurement of delays and isolation is one case of its own. -/
theorem chainLinks : Obligations.ChainLinks := by
  unfold Obligations.ChainLinks
  refine ⟨fun s sound => ⟨helloSend_completes sound, inaugSend_completes sound, timeSend_completes sound, sendsOfItself sound⟩,
    ⟨fun dt s sound => delayReqSend_completes dt s sound, fun x dt s sound => delayReqReceived_completes x dt s sound,
      fun x p dt s sound => delayRspReceived_completes x p dt s sound⟩, linksAndPeers, ?_⟩
  obtain ⟨times, idle, received⟩ := isolationAndLoops
  exact ⟨times, idle, received, readinessEnds⟩

end Sys2Proof.Machine
end

section
/-!
SUPPORT. Epochs and chain time (16): the keystone's epoch, an INAUG that is taken, the edge at which an epoch is in force, and TIME as
a source of TB1. From these O45.
-/
namespace Sys2Proof.Machine

/-! ### A lead becomes the keystone -/

theorem exec_becomeKeystone (s : State) : exec .becomeKeystone s = effect State.becomeKeystone s := rfl

theorem unblocked_agreed {s : State} (free : ∀ x : Fin 2, (s.cport x).blocked = false) : s.unblocked.agreed = s.agreed := by
  have same : ∀ x : Fin 2, s.unblocked.cport x = s.cport x := fun x => by rw [unblocked_cport, ← free x]
  have zero : s.unblocked.cport 0 = s.cport 0 := same 0
  have one : s.unblocked.cport 1 = s.cport 1 := same 1
  unfold State.agreed
  rw [zero, one]
  rfl

/-- An epoch that starts is held until its tick; the role in force stays (R332). -/
theorem startEpoch_chain {s : State} (below : floorAbove s.boot.floor s.unblocked.agreed = false) :
    s.startEpoch.chain = { s.chain with
      told := s.unblocked.newEpoch, applyAt := some (s.now + 2), basis := s.unblocked.epochBasis } := by
  rw [startEpoch_of_below below]
  exact congrArg State.chain (sendInaug_out _)

theorem isolate_role_cause (s : State) (cause : Nat) : (s.isolate cause).chain.role = 3 ∧
    (s.isolate cause).chain.icause = BitVec.ofNat 4 cause := by
  by_cases old : s.chain.role = 3 ∧ s.chain.icause = BitVec.ofNat 4 cause
  · rw [isolate_of_same old]
    exact old
  · obtain ⟨-, ⟨ready, chain⟩, -⟩ := isolate_of_new old
    rw [chain]
    exact ⟨rfl, rfl⟩

/-- What the keystone has told stays told in isolation. -/
theorem isolate_keeps (s : State) (cause : Nat) : (s.isolate cause).chain.taken = s.chain.taken ∧
    (s.isolate cause).chain.slot = s.chain.slot ∧ (s.isolate cause).chain.orient = s.chain.orient ∧
    (s.isolate cause).chain.told = s.chain.told ∧ (s.isolate cause).chain.aver = s.chain.aver ∧
    (s.chain.applyAt = none → (s.isolate cause).chain.applyAt = none) ∧ (s.isolate cause).regs = s.regs := by
  have regs := congrArg State.regs (isolate_same s cause)
  by_cases old : s.chain.role = 3 ∧ s.chain.icause = BitVec.ofNat 4 cause
  · rw [isolate_of_same old]
    exact ⟨rfl, rfl, rfl, rfl, rfl, id, rfl⟩
  · obtain ⟨-, ⟨ready, chain⟩, -⟩ := isolate_of_new old
    rw [chain]
    exact ⟨rfl, rfl, rfl, rfl, rfl, fun _ => rfl, regs⟩

theorem becomeKeystone_completes {s : State} (on : s.chainOn = true) (lead : s.leads = true) (other : s.isKey = false)
    (quiet : s.keysHeard = []) (long : ∀ c, s.chain.foreign = some c → 125000000 ≤ s.clock - c)
    (free : ∀ x : Fin 2, (s.cport x).blocked = false) : Completes .becomeKeystone s fun t =>
      (floorAbove s.boot.floor s.agreed = false → t.chain.role = s.chain.role ∧ t.isKey = true ∧
        t.chain.told.key = Config.deviceId ∧ t.chain.told.role = 1 ∧ t.chain.told.epoch = s.chain.told.epoch + 1 ∧
        t.chain.told.nEff = BitVec.ofNat 64 (s.now + 2) ∧ t.chain.applyAt = some (s.now + 2)) ∧
      (floorAbove s.boot.floor s.agreed = true → t.chain.role = 3 ∧ t.chain.icause = 2) := by
  have starts : s.becomeKeystone = s.startEpoch := by
    unfold State.becomeKeystone
    extract_lets c silent
    have silent' : silent = true := by
      unfold silent
      rw [quiet]
      cases heard : c.foreign with
      | none => rfl
      | some t => exact decide_eq_true (long t heard)
    rw [on, lead, other, silent']
    rfl
  refine completes_of_effect (exec_becomeKeystone s) ?_
  rw [starts, settle_chain, ← unblocked_agreed free]
  refine ⟨fun below => ?_, fun above => ?_⟩
  · have chain := startEpoch_chain below
    refine ⟨?_, ?_, ?_⟩
    · rw [chain]
    · unfold State.isKey
      rw [settle_chain, chain]
      exact Bool.or_true _
    · rw [chain]
      exact ⟨rfl, rfl, rfl, rfl, rfl⟩
  · rw [startEpoch_of_above above]
    exact isolate_role_cause _ 2

theorem becomeKeystone_idle {s : State} (sound : s.Sound) (off : s.chainOn = false ∨ s.leads = false ∨ s.isKey = true ∨
    s.keysHeard ≠ [] ∨ ∃ c, s.chain.foreign = some c ∧ s.clock - c < 125000000) : Completes .becomeKeystone s fun t => t = s := by
  refine completes_idle (exec_becomeKeystone s) ?_ sound
  unfold State.becomeKeystone
  extract_lets c silent
  refine if_pos ?_
  rcases off with off | off | key | heard | ⟨t, foreign, young⟩
  · rw [off]
    rfl
  · rw [off]
    simp
  · rw [key]
    simp
  · have loud : silent = false := by
      have : s.keysHeard.isEmpty = false := by simpa using heard
      unfold silent
      rw [this]
      rfl
    rw [loud]
    simp
  · have loud : silent = false := by
      unfold silent
      rw [show c.foreign = some t from foreign, Bool.and_eq_false_iff]
      exact .inr (decide_eq_false (by unfold clocks100ms; omega))
    rw [loud]
    simp

/-! ### An INAUG is taken -/

theorem heardInaug_reg {n : RegName} (other : n ≠ .chnKdigest) (s : State) (p : BitVec 256) (i : Nat := 0)
    (inside : i < n.row.n1 := by decide) (wide : 0 < n.row.n2 := by decide) : (s.heardInaug p).reg n i = s.reg n i :=
  reg_setReg_of_name other inside s _ (by decide) wide

/-- What is kept of an INAUG beside its digest and versions: the port of its first arrival, and that a keystone is heard. -/
def State.knowing (s : State) (cports : Store ChainPort) (seen : List (BitVec 64 × BitVec 16 × Nat)) (heard : List (BitVec 64 × Nat)) :
    State :=
  { s with cports := cports, chain := { s.chain with seen := seen, heard := heard } }

/-- An INAUG that closes no loop leaves none behind. -/
theorem noteInaug_of_straight {s : State} {x : Nat} {p : BitVec 256} (straight : s.inaugLoops x p = false) : ∃ cports seen,
    s.noteInaug x p = (s.heardInaug p).knowing cports seen s.chain.heard ∧ (s.noteInaug x p).inaugLoops x p = false := by
  cases seen : s.seenInaug p with
  | true =>
    rw [noteInaug_of_seen seen]
    exact ⟨s.cports, s.chain.seen, rfl, straight⟩
  | false =>
    rw [noteInaug_of_new seen]
    refine ⟨(s.heardInaug p).unblocked.cports, _, rfl, ?_⟩
    simp only [State.inaugLoops, List.any_cons, List.any_filter, List.any_eq_false, Bool.or_eq_false_iff]
    refine ⟨by simp, fun e _ => ?_⟩
    simp only [Bool.and_eq_true, decide_eq_true_eq]
    rintro ⟨other, ⟨key, -⟩, -⟩
    exact other key

theorem keysHeard_one (s : State) (key : BitVec 64) (clock : Nat) :
    ({ s with chain := { s.chain with heard := [(key, clock)] } } : State).keysHeard.any (· ≠ key) = false := by
  simp [State.keysHeard]

/-- A device that does not lead takes the INAUG of the one keystone it hears (R331, R332). -/
theorem inaug_of_taken {s : State} {x : Nat} {p : BitVec 256} (on : s.chainOn = true) (opened : s.chainOpen x = true)
    (follows : s.leads = false) (heard : s.chain.heard = []) (straight : s.inaugLoops x p = false)
    (foreign : BitVec.ofNat 64 (numAt p 0 8) ≠ Config.deviceId) (plain : (numAt p 11 1).testBit 0 = false) (hdr : BitVec 128) :
    ∃ cports seen keys, s.inaug x hdr p = ((s.heardInaug p).knowing cports seen keys).takeInaug x hdr p := by
  obtain ⟨cports, seen, noted, straight'⟩ := noteInaug_of_straight straight
  refine ⟨cports, seen, [(BitVec.ofNat 64 (numAt p 0 8), s.clock)], ?_⟩
  unfold State.inaug
  extract_lets key iso src u src' others src'' v
  have hu : u = (s.heardInaug p).knowing cports seen s.chain.heard := noted
  have none : others = [] := by
    unfold others
    rw [hu]
    change s.chain.heard.filter _ = []
    rw [heard]
    rfl
  have hv : v = (s.heardInaug p).knowing cports seen [(BitVec.ofNat 64 (numAt p 0 8), s.clock)] := by
    have known : v = ({ u with chain := { u.chain with heard := (key, u.clock) :: others } } : State) :=
      if_neg (by rw [show iso = false from plain]; decide)
    rw [known, none, hu]
    rfl
  have lead : v.leads = false := by
    rw [hv]
    unfold State.leads State.flag at follows ⊢
    rw [← follows, ← heardInaug_reg (n := .chnCfg) (by decide) s p]
    rfl
  have alone : v.keysHeard.any (· ≠ key) = false := by
    rw [hv]
    exact keysHeard_one ((s.heardInaug p).knowing cports seen []) _ _
  rw [on, opened, if_neg (by decide), if_neg (by exact foreign), if_neg (by rw [show u.inaugLoops x p = false from straight']; decide),
    if_neg (by rw [lead]; decide), if_neg (by rw [show iso = false from plain, alone]; decide), hv]

/-- The epoch that an INAUG names (R328). -/
def toldEpoch (p : BitVec 256) : EpochRec :=
  { key := BitVec.ofNat 64 (numAt p 0 8), epoch := BitVec.ofNat 16 (numAt p 8 2), role := 2, addr := BitVec.ofNat 5 (numAt p 10 1)
    agreed := BitVec.ofNat 32 (numAt p 16 4), nEff := BitVec.ofNat 64 (numAt p 20 8), nmem := BitVec.ofNat 8 (numAt p 29 1)
    na := BitVec.ofNat 8 (numAt p 30 1) }

/-- The chain's state behind an INAUG taken on port x at a clock, its epoch not yet looked at. -/
def Chain.taking (c : Chain) (x clock : Nat) (p : BitVec 256) : Chain :=
  { c with
    taken := true, takenClock := clock, orient := decide (x = 1), side := (numAt p 11 1).testBit 1
    clevel := BitVec.ofNat 3 (numAt p 28 1), slot := if numAt p 10 1 ≤ 31 then BitVec.ofNat 8 (numAt p 10 1) else c.slot
    slotValid := numAt p 10 1 ≤ 31 }

/-- The digest of a device that follows, by the versions it has heard (R340). -/
def State.digestOf (s : State) (aver : Word) : Word :=
  crc32 (leBytes 4 (s.reg .tickPeriodNs).toNat ++ leBytes 4 (s.reg .tickPhaseNs).toNat
    ++ [BitVec.ofNat 8 (s.field .tickCfg 0 0 0 2), 0] ++ leBytes 4 aver.toNat ++ [0, 0])

theorem isKey_of_follower {s : State} (role : s.chain.role ≠ 1) (idle : s.chain.applyAt = none) : s.isKey = false := by
  unfold State.isKey
  rw [idle, decide_eq_false role]
  rfl

theorem digest_of_follower {s : State} (role : s.chain.role ≠ 1) (idle : s.chain.applyAt = none) {a : Word}
    (aver : s.chain.aver = some a) : s.digest = s.digestOf a := by
  unfold State.digest State.digestVer
  rw [isKey_of_follower role idle, aver]
  rfl

theorem relayInaug_out (s : State) (y : Nat) (hdr : BitVec 128) (p : BitVec 256) : s.SameButOut (s.relayInaug y hdr p) := by
  unfold State.relayInaug
  split
  · exact sendChain_out ..
  · rfl

/-- An epoch is told, and when it is due. -/
def State.telling (s : State) (e : EpochRec) (due : Option Nat) : State :=
  { s with chain := { s.chain with told := e, applyAt := due } }

/-- A device that follows no epoch takes what an INAUG tells, or isolates itself over its digest (R332, R341, R343). -/
theorem takeInaug_cases {s : State} {p : BitVec 256} (role : s.chain.role ≠ 1) (member : s.chain.role ≠ 2)
    (idle : s.chain.applyAt = none) {a : Word} (aver : s.chain.aver = some a) (near : numAt p 10 1 < 32)
    (below : floorAbove s.boot.floor (BitVec.ofNat 32 (numAt p 16 4)) = false) (x : Nat) (hdr : BitVec 128) : ∃ v : State, ∃ ready,
    v = { s with chain := { s.chain.taking x s.clock p with readyTimer := ready }, out := v.out } ∧
    s.takeInaug x hdr p = if s.digestOf a = BitVec.ofNat 32 (numAt p 12 4) then
        v.telling (toldEpoch p) (some (if s.now < (toldEpoch p).nEff.toNat then (toldEpoch p).nEff.toNat else s.now + 1))
      else (v.telling (toldEpoch p) none).isolate 1 := by
  unfold State.takeInaug
  extract_lets src0 addr aver' kd ok src u v e at0
  have hu : u = { s with chain := s.chain.taking x s.clock p } := rfl
  have hv : ∃ ready, v = { s with chain := { s.chain.taking x s.clock p with readyTimer := ready }, out := v.out } := by
    have sent : v = { u.noteReady with out := v.out } := relayInaug_out u.noteReady (1 - x) hdr p
    obtain ⟨ready, noted⟩ : ∃ ready, u.noteReady = { s with chain := { s.chain.taking x s.clock p with readyTimer := ready } } := by
      unfold State.noteReady
      rw [hu]
      split
      · exact ⟨false, rfl⟩
      · exact ⟨_, rfl⟩
    exact ⟨ready, by rw [noted] at sent; exact sent⟩
  obtain ⟨ready, same⟩ := hv
  clear_value v
  refine ⟨v, ready, same, ?_⟩
  have vRole : v.chain.role = s.chain.role := by rw [same]; rfl
  have vIdle : v.chain.applyAt = none := by rw [same]; exact idle
  have vNow : v.now = s.now := by rw [same]; rfl
  have digest : v.digest = s.digestOf a := by
    rw [digest_of_follower (by rw [vRole]; exact role) vIdle (by rw [same]; exact aver)]
    rw [same]
    rfl
  have floor : floorAbove v.boot.floor aver' = false := by rw [same]; exact below
  by_cases agree : s.digestOf a = BitVec.ofNat 32 (numAt p 12 4)
  · have none : v.disagreement addr kd aver' = none := by
      unfold State.disagreement
      rw [if_neg (not_not_intro (digest.trans agree)), if_neg (by rw [floor]; decide), if_neg (by change ¬ 31 < numAt p 10 1; omega)]
    rw [none, if_pos agree]
    dsimp only
    rw [if_neg (by rw [vIdle]; exact fun h => absurd h (by simp)), if_neg (by rw [vRole, decide_eq_false member]; exact nofun)]
    have due : (if v.now < (toldEpoch p).nEff.toNat then (toldEpoch p).nEff.toNat else v.now + 1) =
        if s.now < (toldEpoch p).nEff.toNat then (toldEpoch p).nEff.toNat else s.now + 1 := by rw [vNow]
    exact congrArg (fun n => v.telling (toldEpoch p) (some n)) due
  · have one : v.disagreement addr kd aver' = some 1 := by
      unfold State.disagreement
      rw [if_pos (by rw [digest]; exact agree)]
    rw [one, if_neg agree, ← vIdle]
    rfl

theorem inaugTaken (x : Fin 2) (hdr : BitVec 128) (p : BitVec 256) (s : State) (on : s.chainOn = true)
    (opened : s.chainOpen x = true) (follows : s.leads = false) (heard : s.chain.heard = []) (idle : s.chain.applyAt = none)
    (straight : s.inaugLoops x p = false) (foreign : BitVec.ofNat 64 (numAt p 0 8) ≠ Config.deviceId)
    (plain : (numAt p 11 1).testBit 0 = false) (near : numAt p 10 1 < 32)
    (below : floorAbove s.boot.floor (BitVec.ofNat 32 (numAt p 16 4)) = false) (role : s.chain.role = 0 ∨ s.chain.role = 3) :
    Completes (.inaugReceived x hdr p) s fun t => t.chain.taken = true ∧ t.chain.slot = BitVec.ofNat 8 (numAt p 10 1) ∧
      t.chain.orient = decide (x = 1) ∧ t.chain.told.addr = BitVec.ofNat 5 (numAt p 10 1) ∧
      t.chain.told.epoch = BitVec.ofNat 16 (numAt p 8 2) ∧ t.chain.told.role = 2 ∧
      t.chain.aver = some (BitVec.ofNat 32 (numAt p 16 4)) ∧ t.reg .chnKdigest = BitVec.ofNat 32 (numAt p 12 4) ∧
      (s.digestOf (BitVec.ofNat 32 (numAt p 16 4)) = BitVec.ofNat 32 (numAt p 12 4) →
        t.chain.applyAt = some (max (numAt p 20 8) (s.now + 1)) ∧ t.chain.role = s.chain.role) ∧
      (s.digestOf (BitVec.ofNat 32 (numAt p 16 4)) ≠ BitVec.ofNat 32 (numAt p 12 4) →
        t.chain.role = 3 ∧ t.chain.icause = 1 ∧ t.chain.applyAt = none) := by
  have key : s.chain.role ≠ 1 := by rcases role with h | h <;> rw [h] <;> decide
  have member : s.chain.role ≠ 2 := by rcases role with h | h <;> rw [h] <;> decide
  obtain ⟨cports, seen, keys, taken⟩ := inaug_of_taken on opened follows heard straight foreign plain hdr
  obtain ⟨v, ready, same, cases⟩ := takeInaug_cases (s := (s.heardInaug p).knowing cports seen keys) (p := p) (by exact key)
    (by exact member) (by exact idle) (a := BitVec.ofNat 32 (numAt p 16 4)) (by rfl) near (by exact below) x.val hdr
  have digest : ((s.heardInaug p).knowing cports seen keys).digestOf (BitVec.ofNat 32 (numAt p 16 4)) =
      s.digestOf (BitVec.ofNat 32 (numAt p 16 4)) := by
    unfold State.digestOf State.field
    rw [← heardInaug_reg (n := .tickPeriodNs) (by decide) s p, ← heardInaug_reg (n := .tickPhaseNs) (by decide) s p,
      ← heardInaug_reg (n := .tickCfg) (by decide) s p]
    rfl
  have now : ((s.heardInaug p).knowing cports seen keys).now = s.now := rfl
  have slot : (if numAt p 10 1 ≤ 31 then BitVec.ofNat 8 (numAt p 10 1) else s.chain.slot) = BitVec.ofNat 8 (numAt p 10 1) :=
    if_pos (by omega)
  have orient : decide (x.val = 1) = decide (x = 1) := (by decide : ∀ x : Fin 2, decide (x.val = 1) = decide (x = 1)) x
  rw [digest, now] at cases
  have vChain : v.chain = { ((s.heardInaug p).knowing cports seen keys).chain.taking x s.clock p with readyTimer := ready } :=
    congrArg State.chain same
  have vTaken : v.chain.taken = true := by rw [vChain]; rfl
  have vSlot : v.chain.slot = BitVec.ofNat 8 (numAt p 10 1) := by rw [vChain]; exact slot
  have vOrient : v.chain.orient = decide (x = 1) := by rw [vChain]; exact orient
  have vAver : v.chain.aver = some (BitVec.ofNat 32 (numAt p 16 4)) := by rw [vChain]; rfl
  have vRole : v.chain.role = s.chain.role := by rw [vChain]; rfl
  have vRegs : v.regs = (s.setReg .chnKdigest 0 0 (BitVec.ofNat 32 (numAt p 12 4))).regs := by
    have regs := congrArg State.regs same
    exact regs
  have kdigest : ∀ u : State, u.regs = v.regs → (settle s u).reg .chnKdigest = BitVec.ofNat 32 (numAt p 12 4) := fun u regs => by
    rw [settle_reg_behind _ _ (by decide), State.reg, regs, vRegs]
    exact State.reg_setReg_self s .chnKdigest 0 0 _
  refine completes_of_effect (exec_inaugReceived x hdr p s) ?_
  rw [taken, cases]
  clear taken cases
  by_cases agree : s.digestOf (BitVec.ofNat 32 (numAt p 16 4)) = BitVec.ofNat 32 (numAt p 12 4)
  · rw [if_pos agree]
    have wide : (toldEpoch p).nEff.toNat = numAt p 20 8 :=
      (BitVec.toNat_ofNat ..).trans (Nat.mod_eq_of_lt (Nat.mod_lt _ (by decide)))
    have due : (if s.now < (toldEpoch p).nEff.toNat then (toldEpoch p).nEff.toNat else s.now + 1) = max (numAt p 20 8) (s.now + 1) := by
      rw [wide]
      split <;> omega
    rw [due, settle_chain]
    exact ⟨vTaken, vSlot, vOrient, rfl, rfl, rfl, vAver, kdigest _ rfl, fun _ => ⟨rfl, vRole⟩, fun no => absurd agree no⟩
  · rw [if_neg agree]
    obtain ⟨taken, isoSlot, isoOrient, told, aver, still, regs⟩ := isolate_keeps (v.telling (toldEpoch p) none) 1
    obtain ⟨isoRole, cause⟩ := isolate_role_cause (v.telling (toldEpoch p) none) 1
    rw [settle_chain]
    exact ⟨taken.trans vTaken, isoSlot.trans vSlot, isoOrient.trans vOrient, congrArg EpochRec.addr told,
      congrArg EpochRec.epoch told, congrArg EpochRec.role told, aver.trans vAver, kdigest _ regs,
      fun yes => absurd yes agree, fun _ => ⟨isoRole, cause, still rfl⟩⟩

/-! ### An epoch is in force -/

theorem exec_epochApply (s : State) :
    exec .epochApply s = effect (fun s => if s.chainOn then s.applyEpoch.checkEpoch else s) s := rfl

/-- The epoch told to `s` is in force in `t` (R332). -/
structure State.InForce (s t : State) : Prop where
  role : t.chain.role = s.chain.told.role
  epoch : t.chain.epoch = s.chain.told.epoch
  nmem : t.chain.nmem = s.chain.told.nmem
  na : t.chain.na = s.chain.told.na
  addr : t.chain.addr = s.chain.told.addr
  addrs : t.chain.addrs = (s.now, s.chain.told.addr) :: s.chain.addrs
  keystone : s.chain.told.role = 1 → t.chain.slot = 0 ∧ t.chain.slotValid = true
  agreed : t.reg .chnVerAgreed = if s.chain.told.role = 1 then s.boot.version else s.chain.told.agreed
  marked : t.markSeq = s.markSeq + 1

/-- An epoch is held as the one in force: `was` is the role before. -/
def State.holdEpoch (s : State) (e : EpochRec) (was : BitVec 2) : State :=
  { s with chain := { s.chain with
    epoch := e.epoch, nmem := e.nmem, na := e.na, applyAt := none
    timed := s.chain.timed && was = e.role, readyTimer := true, epochClock := s.clock } }

/-- A keystone stands at slot 0 and follows no INAUG. -/
def State.asKeystone (s : State) : State :=
  { s with chain := { s.chain with slot := 0, slotValid := true, side := false, orient := false, taken := false } }

/-- The state with an epoch in force, its role set, before the mark that tells it. -/
def State.applying (s : State) (e : EpochRec) (was : BitVec 2) : State :=
  let s := if e.role = 1 then (s.holdEpoch e was).asKeystone else s.holdEpoch e was
  (s.setAddr s.now e.addr).setReg .chnVerAgreed 0 0 (if e.role = 1 then s.boot.version else e.agreed)

theorem applyEpoch_eq {s : State} {n : Nat} (due : s.chain.applyAt = some n) (reached : n ≤ s.now) (role : s.chain.role ≠ 3) :
    ∃ o a b fs, s.applyEpoch =
      (((((s.setRole s.chain.told.role).applying s.chain.told s.chain.role).action o 13 a b).noteTimed).raise 0x0803 fs) := by
  have run : s.applyEpoch = (match s.chain.applyAt with
    | none => s
    | some n =>
      if s.now < n then s
      else
        let e := s.chain.told
        let u := ((if s.chain.role = 3 then s.endIsolation else s).setRole e.role).applying e s.chain.role
        ((u.action (if e.role = 1 then .auto else .peer 0) 13 (s.chain.addr.toNat + 256 * s.chain.role.toNat)
          (e.addr.toNat + 256 * e.role.toNat)).noteTimed).raise 0x0803 [(1, e.role.toNat), (1, u.chain.slot.toNat),
            (1, bit u.chain.orient + 2 * bit u.chain.side), (1, e.nmem.toNat), (2, e.epoch.toNat), (2, 0)]) := rfl
  rw [run, due]
  dsimp only
  rw [if_neg (Nat.not_lt.mpr reached), if_neg role]
  exact ⟨_, _, _, _, rfl⟩

/-- What of the chain's state an epoch fixes as it comes into force. -/
theorem applying_chain (s : State) (e : EpochRec) (was : BitVec 2) :
    (s.applying e was).chain.role = s.chain.role ∧ (s.applying e was).chain.epoch = e.epoch ∧
    (s.applying e was).chain.nmem = e.nmem ∧ (s.applying e was).chain.na = e.na ∧ (s.applying e was).chain.addr = e.addr ∧
    (s.applying e was).chain.addrs = (s.now, e.addr) :: s.chain.addrs ∧ (s.applying e was).chain.applyAt = none ∧
    (e.role = 1 → (s.applying e was).chain.slot = 0 ∧ (s.applying e was).chain.slotValid = true) := by
  unfold State.applying
  by_cases key : e.role = 1
  · rw [if_pos key]
    exact ⟨rfl, rfl, rfl, rfl, rfl, rfl, rfl, fun _ => ⟨rfl, rfl⟩⟩
  · rw [if_neg key]
    exact ⟨rfl, rfl, rfl, rfl, rfl, rfl, rfl, fun yes => absurd yes key⟩

/-- Beside the chain's state, an epoch that comes into force changes one register. -/
theorem applying_rest (s : State) (e : EpochRec) (was : BitVec 2) :
    s.applying e was = { s with
      chain := (s.applying e was).chain
      regs := (s.setReg .chnVerAgreed 0 0 (if e.role = 1 then s.boot.version else e.agreed)).regs } := by
  obtain ⟨c, held⟩ : ∃ c, (if e.role = 1 then (s.holdEpoch e was).asKeystone else s.holdEpoch e was) = { s with chain := c } := by
    split
    · exact ⟨_, rfl⟩
    · exact ⟨_, rfl⟩
  unfold State.applying
  rw [held]
  rfl

theorem applyEpoch_inForce {s : State} {n : Nat} (due : s.chain.applyAt = some n) (reached : n ≤ s.now) (role : s.chain.role ≠ 3) :
    s.InForce s.applyEpoch ∧ s.applyEpoch.chain.applyAt = none ∧ s.applyEpoch.boot = s.boot ∧ s.applyEpoch.cports = s.cports ∧
    s.applyEpoch.now = s.now := by
  obtain ⟨same, x, y, chain⟩ := setRole_same s s.chain.told.role
  obtain ⟨o, a, b, fs, eq⟩ := applyEpoch_eq due reached role
  rw [eq]
  generalize s.setRole s.chain.told.role = u at same chain ⊢
  obtain ⟨hrole, hepoch, hnmem, hna, haddr, haddrs, hdue, hkey⟩ := applying_chain u s.chain.told s.chain.role
  have rest := applying_rest u s.chain.told s.chain.role
  generalize u.applying s.chain.told s.chain.role = v at hrole hepoch hnmem hna haddr haddrs hdue hkey rest ⊢
  have noted := noteTimed_same (v.action o 13 a b)
  have flags := noteTimed_flags (v.action o 13 a b)
  generalize (v.action o 13 a b).noteTimed = w at noted flags ⊢
  have wChain : w.chain = { v.chain with timed := w.chain.timed, readyTimer := w.chain.readyTimer } := flags
  have wRest : w = { s with
      tb0 := w.tb0, tb1 := w.tb1, tb2 := w.tb2, tb3 := w.tb3, chain := w.chain, raised := w.raised, marks := w.marks
      markSeq := s.markSeq + 1
      regs := (s.setReg .chnVerAgreed 0 0 (if s.chain.told.role = 1 then s.boot.version else s.chain.told.agreed)).regs } := by
    unfold State.SameButBases at noted same
    rw [noted, rest, same]
    rfl
  have now : u.now = s.now := by
    have h := congrArg State.now same
    exact h
  rw [now, show u.chain.addrs = s.chain.addrs by rw [chain]] at haddrs
  rw [show u.chain.role = s.chain.told.role by rw [chain]] at hrole
  clear chain same noted rest flags
  have agreed : w.reg .chnVerAgreed = if s.chain.told.role = 1 then s.boot.version else s.chain.told.agreed := by
    rw [State.reg, wRest]
    exact State.reg_setReg_self s .chnVerAgreed 0 0 _
  have marked := congrArg State.markSeq wRest
  have boot := congrArg State.boot wRest
  have cports := congrArg State.cports wRest
  have wNow := congrArg State.now wRest
  clear wRest
  have role' : w.chain.role = v.chain.role := by rw [wChain]
  have epoch' : w.chain.epoch = v.chain.epoch := by rw [wChain]
  have nmem' : w.chain.nmem = v.chain.nmem := by rw [wChain]
  have na' : w.chain.na = v.chain.na := by rw [wChain]
  have addr' : w.chain.addr = v.chain.addr := by rw [wChain]
  have addrs' : w.chain.addrs = v.chain.addrs := by rw [wChain]
  have slot' : w.chain.slot = v.chain.slot ∧ w.chain.slotValid = v.chain.slotValid := by rw [wChain]; exact ⟨rfl, rfl⟩
  have due' : w.chain.applyAt = v.chain.applyAt := by rw [wChain]
  exact ⟨⟨role'.trans hrole, epoch'.trans hepoch, nmem'.trans hnmem, na'.trans hna, addr'.trans haddr, addrs'.trans haddrs,
    fun key => ⟨slot'.1.trans (hkey key).1, slot'.2.trans (hkey key).2⟩, agreed, marked⟩, due'.trans hdue, boot, cports, wNow⟩

/-- A keystone that has just come into its role may start its next epoch; what is in force stays (R332). -/
theorem checkEpoch_inForce {s t : State} (h : s.InForce t) (below : floorAbove t.boot.floor t.unblocked.agreed = false) :
    s.InForce t.checkEpoch := by
  unfold State.checkEpoch
  split
  · have same : t.startEpoch = _ := (startEpoch_of_below below).trans (sendInaug_out _)
    have chain := startEpoch_chain below
    have regs := congrArg State.regs same
    have seq := congrArg State.markSeq same
    generalize t.startEpoch = u at chain regs seq ⊢
    obtain ⟨role, epoch, nmem, na, addr, addrs, keystone, agreed, marked⟩ := h
    refine ⟨?_, ?_, ?_, ?_, ?_, ?_, fun key => ?_, ?_, seq.trans marked⟩
    · rw [chain]; exact role
    · rw [chain]; exact epoch
    · rw [chain]; exact nmem
    · rw [chain]; exact na
    · rw [chain]; exact addr
    · rw [chain]; exact addrs
    · rw [chain]; exact keystone key
    · rw [State.reg, regs]; exact agreed
  · exact h

theorem checkEpoch_of_other {s : State} (other : s.isKey = false) : s.checkEpoch = s := by
  unfold State.checkEpoch
  rw [other]
  rfl

theorem agreed_of_same {s t : State} (boot : t.boot = s.boot) (cports : t.cports = s.cports)
    (free : ∀ x : Fin 2, (s.cport x).blocked = false) : t.unblocked.agreed = s.agreed := by
  have port : ∀ x, t.cport x = s.cport x := fun x => by rw [State.cport, cports]; rfl
  rw [unblocked_agreed fun x => by rw [port]; exact free x]
  unfold State.agreed
  rw [boot, port, port]

theorem epochApply_completes {s : State} {n : Nat} (on : s.chainOn = true) (due : s.chain.applyAt = some n) (reached : n ≤ s.now)
    (role : s.chain.role ≠ 3) : Completes .epochApply s fun t =>
      (s.chain.told.role = 2 → t.chain.role = 2 ∧ t.chain.epoch = s.chain.told.epoch ∧
        t.chain.nmem = s.chain.told.nmem ∧ t.chain.na = s.chain.told.na ∧ t.chain.addr = s.chain.told.addr ∧
        t.chain.applyAt = none ∧ t.reg .chnVerAgreed = s.chain.told.agreed ∧ t.devAt s.now = s.chain.told.addr.toNat ∧
        t.markSeq = s.markSeq + 1) ∧
      (s.chain.told.role = 1 → floorAbove s.boot.floor s.agreed = false → (∀ x : Fin 2, (s.cport x).blocked = false) →
        t.chain.role = 1 ∧ t.chain.slot = 0 ∧ t.chain.slotValid = true ∧ t.chain.epoch = s.chain.told.epoch ∧
        t.chain.addr = s.chain.told.addr ∧ t.reg .chnVerAgreed = s.boot.version ∧ t.devAt s.now = s.chain.told.addr.toNat ∧
        t.markSeq = s.markSeq + 1) := by
  obtain ⟨inForce, done, boot, cports, now⟩ := applyEpoch_inForce due reached role
  refine completes_of_effect (exec_epochApply s) ?_
  rw [on, if_pos rfl]
  generalize s.applyEpoch = v at inForce done boot cports now ⊢
  refine ⟨fun member => ?_, fun key below free => ?_⟩
  · have other : v.isKey = false := isKey_of_follower (by rw [inForce.role, member]; decide) done
    rw [checkEpoch_of_other other]
    obtain ⟨hrole, hepoch, hnmem, hna, haddr, haddrs, -, hagreed, hmarked⟩ := inForce
    rw [settle_chain, settle_reg_behind _ _ (by decide), settle_markSeq_eq]
    refine ⟨hrole.trans member, hepoch, hnmem, hna, haddr, done, hagreed.trans (if_neg (by rw [member]; decide)), ?_, hmarked⟩
    exact devAt_of_head ((congrArg Chain.addrs (settle_chain s v)).trans haddrs) le_rfl
  · have low : floorAbove v.boot.floor v.unblocked.agreed = false := by
      rw [agreed_of_same boot cports free, boot]
      exact below
    obtain ⟨hrole, hepoch, hnmem, hna, haddr, haddrs, hkey, hagreed, hmarked⟩ := checkEpoch_inForce inForce low
    generalize v.checkEpoch = w at hrole hepoch hnmem hna haddr haddrs hkey hagreed hmarked ⊢
    rw [settle_chain, settle_reg_behind _ _ (by decide), settle_markSeq_eq]
    obtain ⟨slot, valid⟩ := hkey key
    refine ⟨hrole.trans key, slot, valid, hepoch, haddr, hagreed.trans (if_pos key), ?_, hmarked⟩
    exact devAt_of_head ((congrArg Chain.addrs (settle_chain s w)).trans haddrs) le_rfl

theorem epochApply_idle {s : State} (sound : s.Sound)
    (off : s.chainOn = false ∨ (s.isKey = false ∧ ∀ n, s.chain.applyAt = some n → s.now < n)) :
    Completes .epochApply s fun t => t = s := by
  refine completes_idle (exec_epochApply s) ?_ sound
  rcases off with off | ⟨other, early⟩
  · rw [off]
    rfl
  · have waits : s.applyEpoch = s := by
      unfold State.applyEpoch
      dsimp only
      split
      next => rfl
      next n due => exact if_pos (early n due)
    rw [waits, checkEpoch_of_other other]
    exact ite_self _

/-! ### Chain time -/

theorem exec_timeReceived (x : Fin 2) (hdr : BitVec 128) (p : BitVec 256) (dt : Nat) (s : State) :
    exec (.timeReceived x hdr p dt) s = effect (fun s =>
      let s := s.elapse dt
      s.timeIn x.val hdr p s.tb1.subns) s := rfl

/-- The keystone's level that a packet carries is held (R342). -/
def State.levelHeard (s : State) (p : BitVec 256) : State :=
  { s with chain := { s.chain with clevel := BitVec.ofNat 3 (numAt p 20 1) } }

/-- The same at a device that waits for the chain to be ready (R343). -/
def State.levelled (s : State) (p : BitVec 256) : State := (s.levelHeard p).noteReady

theorem levelled_eq (s : State) (p : BitVec 256) : ∃ ready,
    s.levelled p = { s with chain := { s.chain with clevel := BitVec.ofNat 3 (numAt p 20 1), readyTimer := ready } } := by
  unfold State.levelled State.levelHeard State.noteReady
  split
  · exact ⟨false, rfl⟩
  · exact ⟨s.chain.readyTimer, rfl⟩

/-- The keystone's time at this device's clock, by a packet on port x. -/
def State.sourceTime (s : State) (x : Nat) (p : BitVec 256) : Int := stampSubns (BitVec.ofNat 128 (numAt p 0 16)) + s.delayIn x

theorem timeIn_of_member {s : State} {x : Nat} (on : s.chainOn = true) (opened : s.chainOpen x = true) (toward : s.chain.toward = x)
    (role : s.chain.role = 2) (takes : s.takesUpdates 1 = true) (hdr : BitVec 128) (p : BitVec 256) (rx : Nat) :
    s.timeIn x hdr p rx = (s.levelled p).servo 1 (s.sourceTime x p - rx) (numAt p 16 4 + 1) := by
  obtain ⟨ready, levelled⟩ := levelled_eq s p
  have takes' : (s.levelled p).takesUpdates 1 = true := by
    rw [levelled]
    exact takes
  unfold State.timeIn
  extract_lets tx src err a u v
  rw [on, opened, if_neg (by decide), if_pos (by rw [role, toward]; simp)]
  exact if_pos takes'

theorem judged_srcErr (t : TimeBase) (bound : Nat) : (t.judged bound).srcErr = t.srcErr := by
  by_cases near : t.foNs ≤ bound <;> by_cases many : 7 ≤ t.lockCount <;> cases state : t.state <;>
    simp [TimeBase.judged, TimeBase.enter, near, many, state]

theorem filtered_srcErr (t : TimeBase) (clock iv err bound slewMax : Nat) (o : Int) :
    (t.filtered clock iv err bound slewMax o).srcErr = err := by
  obtain ⟨-, -, -, -, src⟩ := updated_frame t clock iv err
  exact (judged_srcErr ((t.updated clock iv err).filter o iv slewMax) bound).trans src

theorem timeFromKeystone (x : Fin 2) (hdr : BitVec 128) (p : BitVec 256) (dt : Nat) (s : State) (on : s.chainOn = true)
    (opened : s.chainOpen x = true) (toward : s.chain.toward = x) (role : s.chain.role = 2) (takes : s.takesUpdates 1 = true)
    (locked : s.tb1.state = .locked)
    (near : (s.elapse dt).steps 1 (s.sourceTime x p - (s.elapse dt).tb1.subns) = false) :
    Completes (.timeReceived x hdr p dt) s fun t => t.chain.clevel = BitVec.ofNat 3 (numAt p 20 1) ∧
      t.tb1.fo = s.tb1.fo + rnd (s.sourceTime x p - (s.elapse dt).tb1.subns - s.tb1.fo) 2 ∧
      t.tb1.srcErr = numAt p 16 4 + 1 ∧ t.tb1.lastUpdate = some (s.clock + dt) ∧ t.tb1.state = .locked := by
  obtain ⟨ready, levelled⟩ := levelled_eq (s.elapse dt) p
  have steps : ((s.elapse dt).levelled p).steps 1 (s.sourceTime x p - (s.elapse dt).tb1.subns) = false := by
    rw [levelled]
    exact near
  have base : ((s.elapse dt).levelled p).base 1 = (s.elapse dt).tb1 := by
    rw [levelled]
    rfl
  have clock : ((s.elapse dt).levelled p).clock = s.clock + dt := by
    rw [levelled]
    rfl
  refine completes_of_effect (exec_timeReceived x hdr p dt s) ?_
  have taken := timeIn_of_member (s := s.elapse dt) (x := x) on opened toward role takes hdr p (s.elapse dt).tb1.subns
  have source : (s.elapse dt).sourceTime x p = s.sourceTime x p := rfl
  rw [source, servo_of_not_steps steps, base, clock] at taken
  rw [taken, settle_chain, settle_tb1]
  generalize ((s.elapse dt).levelled p).updateInterval 1 = iv
  generalize ((s.elapse dt).levelled p).slewMax 1 = slew
  generalize (((s.elapse dt).levelled p).reg .timeBoundNs 1).toNat = bound
  generalize s.sourceTime x p - (s.elapse dt).tb1.subns = o
  have aged : (s.elapse dt).tb1.fo = s.tb1.fo ∧ (s.elapse dt).tb1.state = s.tb1.state := ⟨rfl, rfl⟩
  obtain ⟨e, tb1⟩ := rebase_base ((s.elapse dt).levelled p) 1 1
    ((s.elapse dt).tb1.filtered (s.clock + dt) iv (numAt p 16 4 + 1) bound slew o) none
  have flags := rebase_flags ((s.elapse dt).levelled p) 1
    ((s.elapse dt).tb1.filtered (s.clock + dt) iv (numAt p 16 4 + 1) bound slew o) none
  obtain ⟨-, fo, -, last⟩ := filtered_frame (s.elapse dt).tb1 (s.clock + dt) iv (numAt p 16 4 + 1) bound slew o
  have state := filtered_state (s.elapse dt).tb1 (s.clock + dt) iv (numAt p 16 4 + 1) bound slew o
  have src := filtered_srcErr (s.elapse dt).tb1 (s.clock + dt) iv (numAt p 16 4 + 1) bound slew o
  rw [if_pos rfl] at tb1
  have tb1' : (((s.elapse dt).levelled p).rebase 1
    ((s.elapse dt).tb1.filtered (s.clock + dt) iv (numAt p 16 4 + 1) bound slew o)).tb1 = _ := tb1
  have chain : (((s.elapse dt).levelled p).rebase 1
    ((s.elapse dt).tb1.filtered (s.clock + dt) iv (numAt p 16 4 + 1) bound slew o)).chain.clevel = BitVec.ofNat 3 (numAt p 20 1) := by
    rw [flags, levelled]
  rw [chain, tb1']
  rw [aged.1] at fo
  rw [aged.2, locked] at state
  exact ⟨rfl, fo, src, last, state⟩

/-- An isolated device passes TIME on, later by a residence time that nothing fixes (R343). -/
theorem timeIn_of_isolated {s : State} {x : Nat} (on : s.chainOn = true) (opened : s.chainOpen x = true) (role : s.chain.role = 3)
    (hdr : BitVec 128) (p : BitVec 256) (rx : Nat) : ∃ n : Nat, s.timeIn x hdr p rx =
      if s.chainOpen (1 - x) then (s.levelHeard p).draw.2.emit (.chainPacket (1 - x)
        (chainBytes 3 (hdrHop hdr + 1) (hdrOrig hdr) (numAt hdr 3 1) (hdrTick hdr)
          (bytesOf 16 (timeValue (s.sourceTime x p + n).toNat (numAt p 6 2))
            ++ leBytes 4 (min 0xFFFFFFFF (numAt p 16 4 + 1)) ++ (leBytes 32 p.toNat).drop 20)))
      else s.levelHeard p := by
  have lit : (s.levelHeard p).draw.2.dark = false := dark_of_chainOn on
  refine ⟨(s.levelHeard p).draw.1.toNat % 2 ^ 32, ?_⟩
  unfold State.timeIn
  rw [on, opened, if_neg (by decide), if_neg (by rw [role]; simp), if_pos role, ← sendChain_of_lit lit]
  rfl

theorem timeRelayed (x : Fin 2) (hdr : BitVec 128) (p : BitVec 256) (dt : Nat) (s : State) (sound : s.Sound) (on : s.chainOn = true)
    (opened : s.chainOpen x = true) (role : s.chain.role = 3) :
    Completes (.timeReceived x hdr p dt) s fun t => t.chain.clevel = BitVec.ofNat 3 (numAt p 20 1) ∧ t.tb1 = (s.elapse dt).tb1 ∧
      (s.chainOpen (1 - x) = true → ∃ n : Nat, t.out = .chainPacket (1 - x.val)
        (chainBytes 3 (hdrHop hdr + 1) (hdrOrig hdr) (numAt hdr 3 1) (hdrTick hdr)
          (bytesOf 16 (timeValue (s.sourceTime x p + n).toNat (numAt p 6 2))
            ++ leBytes 4 (min 0xFFFFFFFF (numAt p 16 4 + 1)) ++ (leBytes 32 p.toNat).drop 20)) :: s.out) := by
  obtain ⟨n, passed⟩ := timeIn_of_isolated (s := s.elapse dt) (x := x) on opened role hdr p (s.elapse dt).tb1.subns
  have beyond : (s.elapse dt).chainOpen (1 - x) = s.chainOpen (1 - x) := rfl
  rw [beyond] at passed
  cases far : s.chainOpen (1 - x) with
  | true =>
    rw [far, if_pos rfl] at passed
    exact completes_chain (exec_timeReceived x hdr p dt s) (sound.elapse dt) rfl rfl passed rfl rfl ⟨rfl, rfl, fun _ => ⟨n, rfl⟩⟩
  | false =>
    rw [far, if_neg (by decide)] at passed
    exact completes_chain (exec_timeReceived x hdr p dt s) (sound.elapse dt) rfl rfl passed rfl rfl ⟨rfl, rfl, nofun⟩

theorem timeIgnored (x : Fin 2) (hdr : BitVec 128) (p : BitVec 256) (dt : Nat) (s : State) (sound : s.Sound)
    (off : s.chainOn = false ∨ s.chainOpen x = false ∨ (s.chain.role = 2 ∧ s.chain.toward ≠ x) ∨
      (s.chain.role ≠ 2 ∧ s.chain.role ≠ 3)) : Completes (.timeReceived x hdr p dt) s fun t => t = s.elapse dt := by
  have ignored : ∀ (u : State) (y rx : Nat), u.chainOn = false ∨ u.chainOpen y = false ∨ (u.chain.role = 2 ∧ u.chain.toward ≠ y) ∨
      (u.chain.role ≠ 2 ∧ u.chain.role ≠ 3) → u.timeIn y hdr p rx = u := by
    intro u y rx off
    unfold State.timeIn
    dsimp only
    split
    next => rfl
    next may =>
      rw [Bool.or_eq_true, not_or, Bool.not_eq_true', Bool.not_eq_true'] at may
      obtain ⟨on, opened⟩ := may
      have elsewhere : ¬ (u.chain.role = 2 ∧ u.chain.toward = y) ∧ u.chain.role ≠ 3 := by
        rcases off with off | off | ⟨member, away⟩ | ⟨member, isolated⟩
        · exact absurd off on
        · exact absurd off opened
        · exact ⟨fun h => away h.2, by rw [member]; decide⟩
        · exact ⟨fun h => member h.1, isolated⟩
      obtain ⟨member, isolated⟩ := elsewhere
      rw [if_neg (by simpa only [Bool.and_eq_true, decide_eq_true_eq] using member), if_neg isolated]
  exact completes_chain (exec_timeReceived x hdr p dt s) (sound.elapse dt) rfl rfl (ignored (s.elapse dt) x _ off) rfl rfl rfl

/-- Settles O45: the epoch that starts, is told and is in force, and the three ways in which TIME is taken. -/
theorem chainEpochs : Obligations.ChainEpochs := by
  unfold Obligations.ChainEpochs
  refine ⟨⟨fun s on lead other quiet long free => becomeKeystone_completes on lead other quiet long free,
      fun s sound off => becomeKeystone_idle sound off, fun x hdr p s on opened follows heard idle straight foreign plain near below role =>
        inaugTaken x hdr p s on opened follows heard idle straight foreign plain near below role,
      fun n s on due reached role => epochApply_completes on due reached role, fun s sound off => epochApply_idle sound off⟩,
    fun x hdr p dt s on opened toward role takes locked near => timeFromKeystone x hdr p dt s on opened toward role takes locked near,
    fun x hdr p dt s sound on opened role => timeRelayed x hdr p dt s sound on opened role,
    fun x hdr p dt s sound off => timeIgnored x hdr p dt s sound off⟩

end Sys2Proof.Machine
end

section
/-!
SUPPORT. Remote frames and alarms on the chain (16): pieces that join a wall's arrivals, their relay, and alarms as triggers. From these
O46.
-/
namespace Sys2Proof.Machine

/-! ### Pieces for this device's walls -/

/-- What the rows of a remote frame may change: DRAM, and what is held for a wall. -/
def rowSide : Footprint where
  has
    | .walls => true
    | f => memSide.has f
  regs := memSide.regs

theorem State.Within.rows {s t : State} (h : s.Within memSide t) : s.Within rowSide t :=
  h.mono (fun f => by cases f <;> decide) fun _ no => no

/-- Rows are placed: no wall's remote frames change. -/
structure State.PlacesRows (s t : State) : Prop where
  within : s.Within rowSide t
  remotes : ∀ v, (t.wall v).remotes = (s.wall v).remotes

namespace State.PlacesRows

variable {s t u : State}

theorem refl (s : State) : s.PlacesRows s := ⟨.refl _ _, fun _ => rfl⟩

theorem trans (h : s.PlacesRows t) (g : t.PlacesRows u) : s.PlacesRows u :=
  ⟨h.within.trans g.within, fun v => (g.remotes v).trans (h.remotes v)⟩

theorem foldl {α : Type} {f : State → α → State} (h : ∀ (s : State) a, s.PlacesRows (f s a)) (l : List α) (s : State) :
    s.PlacesRows (l.foldl f s) := by
  induction l generalizing s with
  | nil => exact refl s
  | cons a l ih => exact (h s a).trans (ih _)

theorem stageRows (s : State) (w : Nat) (rows : List HeldRow) : s.PlacesRows (s.stageRows w rows) := by
  unfold State.stageRows
  refine foldl (fun s r => ?_) rows s
  split
  · refine ⟨.setWall _ _ rfl, fun v => ?_⟩
    rw [State.wall_setWall]
    split
    next e => rw [e]
    next => rfl
  · have put := Within.putRow (s := s) w r
    exact ⟨put.rows, fun v => by rw [State.wall, put.eq_merge]; rfl⟩

theorem remoteArrived (s : State) (w : Nat) (r : RemoteIn) (n : Nat) : s.PlacesRows (s.remoteArrived w r n) := by
  unfold State.remoteArrived
  extract_lets k b
  split
  · exact refl s
  · refine foldl (fun s e => ?_) _ s
    split
    · exact stageRows ..
    · exact refl s

end State.PlacesRows

/-- Each wall of a list takes a piece once; the others stay. -/
theorem foldl_remotes {F : State → Nat → State} {add : List RemoteIn → List RemoteIn}
    (each : ∀ u w, (u.Within rowSide (F u w)) ∧
      ∀ v, ((F u w).wall v).remotes = if v = w then add (u.wall w).remotes else (u.wall v).remotes)
    (l : List Nat) (once : l.Nodup) (s : State) : s.Within rowSide (l.foldl F s) ∧
      ∀ v, ((l.foldl F s).wall v).remotes = if v ∈ l then add (s.wall v).remotes else (s.wall v).remotes := by
  induction l generalizing s with
  | nil => exact ⟨.refl _ _, fun _ => (if_neg (by simp)).symm⟩
  | cons w l ih =>
    obtain ⟨absent, once⟩ := List.nodup_cons.mp once
    obtain ⟨within, first⟩ := each s w
    obtain ⟨rest, ends⟩ := ih once (F s w)
    refine ⟨within.trans rest, fun v => ?_⟩
    rw [List.foldl_cons, ends, first]
    by_cases self : v = w
    · subst self
      simp [absent]
    · simp [self]

/-- A wall's arrivals with a piece added. -/
def addOf (hdr : BitVec 128) (p : List Byte) (rs : List RemoteIn) : List RemoteIn :=
  addPiece rs (hdrOrig hdr) (byteAt p 0).toNat (hdrTick hdr) (leAt p 2 2) (p.drop 8) (hdrLast hdr)

/-- A piece is taken by one wall. -/
def State.pieceTaken (hdr : BitVec 128) (p : List Byte) (s : State) (w : Nat) : State :=
  let was := (s.wall w).remotes
  let rs := addOf hdr p was
  let same := fun (r : RemoteIn) => r.orig = hdrOrig hdr && r.rwall = (byteAt p 0).toNat && r.tick = hdrTick hdr
  let s := s.setWall w { s.wall w with remotes := rs }
  match rs.find? same with
  | some r => s.remoteArrived w r (((was.find? same).map fun q => q.bytes.length).getD 0)
  | none => s

theorem pieceTaken_each (hdr : BitVec 128) (p : List Byte) (u : State) (w : Nat) : u.Within rowSide (u.pieceTaken hdr p w) ∧
    ∀ v, ((u.pieceTaken hdr p w).wall v).remotes = if v = w then addOf hdr p (u.wall w).remotes else (u.wall v).remotes := by
  unfold State.pieceTaken
  extract_lets was rs same src s1
  have joined : u.Within rowSide s1 ∧ ∀ v, (s1.wall v).remotes = if v = w then rs else (u.wall v).remotes := by
    refine ⟨.setWall _ _ rfl, fun v => ?_⟩
    unfold s1
    rw [State.wall_setWall]
    split <;> rfl
  obtain ⟨within, remotes⟩ := joined
  split
  · obtain ⟨placed, still⟩ := State.PlacesRows.remoteArrived s1 w _ _
    exact ⟨within.trans placed, fun v => (still v).trans (remotes v)⟩
  · exact ⟨within, remotes⟩

/-- Whether no wall of this device takes a piece. -/
def State.pieceForeign (s : State) (hdr : BitVec 128) (p : List Byte) : Bool :=
  (s.takers (hdrOrig hdr) (byteAt p 0).toNat (hdrTick hdr)).isEmpty || (s.chain.role ≠ 1 && s.chain.role ≠ 2)

/-- Whether a piece is still in time for a wall of this device that has a frame for it (R346). -/def State.pieceInTime (s : State) (hdr : BitVec 128) (p : List Byte) : Bool :=
  s.now ≤ hdrTick hdr + s.hops (hdrOrig hdr) && hdrTick hdr + s.hops (hdrOrig hdr) ≤ s.now + 1 &&
    (s.takers (hdrOrig hdr) (byteAt p 0).toNat (hdrTick hdr)).any (s.pieceDue · (hdrOrig hdr) (hdrTick hdr))

theorem remotePiece_eq (s : State) (hdr : BitVec 128) (p : List Byte) : s.remotePiece hdr p =
    if s.pieceForeign hdr p then s
    else if s.pieceInTime hdr p then
      ((s.takers (hdrOrig hdr) (byteAt p 0).toNat (hdrTick hdr)).filter (s.pieceDue · (hdrOrig hdr) (hdrTick hdr))).foldl
        (State.pieceTaken hdr p) s
    else (s.bump .chnRemoteDisc).raise 0x0808 [(1, hdrOrig hdr), (1, (byteAt p 0).toNat), (6, hdrTick hdr)] := rfl

theorem pieceForeign_of_taker {s : State} {hdr : BitVec 128} {p : List Byte} (role : s.chain.role = 1 ∨ s.chain.role = 2) {w : Nat}
    (mem : w ∈ s.takers (hdrOrig hdr) (byteAt p 0).toNat (hdrTick hdr)) : s.pieceForeign hdr p = false := by
  have nonempty : (s.takers (hdrOrig hdr) (byteAt p 0).toNat (hdrTick hdr)).isEmpty = false := by
    rw [List.isEmpty_eq_false_iff]
    exact List.ne_nil_of_mem mem
  have member : (decide (s.chain.role ≠ 1) && decide (s.chain.role ≠ 2)) = false := by
    rcases role with h | h <;> rw [h] <;> rfl
  unfold State.pieceForeign
  rw [nonempty, member]
  rfl

/-- A piece in time joins the arrivals of every wall that takes it and has a frame for it (R346). -/
theorem remotePiece_of_due {s : State} {hdr : BitVec 128} {p : List Byte} (role : s.chain.role = 1 ∨ s.chain.role = 2)
    (inTime : s.now ≤ hdrTick hdr + s.hops (hdrOrig hdr)) (soon : hdrTick hdr + s.hops (hdrOrig hdr) ≤ s.now + 1) {w : Nat}
    (mem : w ∈ s.takers (hdrOrig hdr) (byteAt p 0).toNat (hdrTick hdr)) (due : s.pieceDue w (hdrOrig hdr) (hdrTick hdr) = true) :
    ((s.remotePiece hdr p).wall w).remotes = addOf hdr p (s.wall w).remotes := by
  have timely : s.pieceInTime hdr p = true := by
    unfold State.pieceInTime
    rw [decide_eq_true inTime, decide_eq_true soon, List.any_eq_true.mpr ⟨w, mem, due⟩]
    rfl
  rw [remotePiece_eq, pieceForeign_of_taker role mem, if_neg (by decide), timely, if_pos rfl]
  refine ((foldl_remotes (pieceTaken_each hdr p) _ ?_ s).2 w).trans (if_pos (List.mem_filter.mpr ⟨mem, due⟩))
  exact (List.nodup_range.filter _).filter _

/-- A piece that comes too late, or for which no wall has a frame, is discarded and counted. -/
theorem remotePiece_of_late {s : State} {hdr : BitVec 128} {p : List Byte} (role : s.chain.role = 1 ∨ s.chain.role = 2) {w : Nat}
    (mem : w ∈ s.takers (hdrOrig hdr) (byteAt p 0).toNat (hdrTick hdr))
    (late : hdrTick hdr + s.hops (hdrOrig hdr) < s.now ∨
      ∀ v ∈ s.takers (hdrOrig hdr) (byteAt p 0).toNat (hdrTick hdr), s.pieceDue v (hdrOrig hdr) (hdrTick hdr) = false) :
    s.remotePiece hdr p =
      (s.bump .chnRemoteDisc).raise 0x0808 [(1, hdrOrig hdr), (1, (byteAt p 0).toNat), (6, hdrTick hdr)] := by
  have untimely : s.pieceInTime hdr p = false := by
    unfold State.pieceInTime
    rcases late with late | none
    · rw [decide_eq_false (by omega)]
      rfl
    · rw [List.any_eq_false.mpr fun v mem => by rw [none v mem]; decide]
      exact Bool.and_false _
  rw [remotePiece_eq, pieceForeign_of_taker role mem, if_neg (by decide), untimely]
  rfl

theorem remotePiece_within (s : State) (hdr : BitVec 128) (p : List Byte) : s.Within rowSide (s.remotePiece hdr p) := by
  rw [remotePiece_eq]
  refine .ite (.refl _ _) (.ite ?_ ?_)
  · exact .foldl _ (fun u w _ => (pieceTaken_each hdr p u w).1) s
  · exact (State.Within.bump (n := .chnRemoteDisc) (outsideRings_high (n := .chnRemoteDisc) (by decide) 0 0)).trans (.raise _ _ rfl)

/-! ### A piece arrives -/

theorem exec_framePieceReceived (x : Fin 2) (hdr : BitVec 128) (p : List Byte) (s : State) :
    exec (.framePieceReceived x hdr p) s = effect (fun s => s.piece x.val hdr p) s := rfl

/-- A piece goes on the way out of the other port. -/
def State.relaying (s : State) (y : Nat) (r : RelayPiece) : State :=
  if (s.cport y).linked then s.setCport y { s.cport y with relay := (s.cport y).relay ++ [r] } else s

theorem piece_of_open {s : State} {x : Nat} (on : s.chainOn = true) (opened : s.chainOpen x = true) (hdr : BitVec 128) (p : List Byte) :
    s.piece x hdr p = (s.remotePiece hdr p).relaying (1 - x) { hdr := hdr, payload := p, arrived := s.now } := by
  have now : (s.remotePiece hdr p).now = s.now := by rw [(remotePiece_within s hdr p).eq_merge]; rfl
  unfold State.piece
  rw [on, opened, dark_of_chainOn on, if_neg (by decide), ← now]
  rfl

theorem relaying_within (s : State) (y : Nat) (r : RelayPiece) : ∃ c, s.relaying y r = { s with cports := c } := by
  unfold State.relaying
  split
  · exact ⟨_, rfl⟩
  · exact ⟨_, rfl⟩

theorem settle_walls_eq (s u : State) : (settle s u).walls = u.walls := settle_walls s u

theorem framePieceReceived_completes (x : Fin 2) (hdr : BitVec 128) (p : List Byte) (s : State) (on : s.chainOn = true)
    (opened : s.chainOpen x = true) : Completes (.framePieceReceived x hdr p) s fun t =>
      ((s.cport (1 - x.val)).linked = true → (t.cport (1 - x.val)).relay =
        (s.cport (1 - x.val)).relay ++ [{ hdr := hdr, payload := p, arrived := s.now }]) ∧
      (s.chain.role = 1 ∨ s.chain.role = 2 → ∀ w ∈ s.takers (hdrOrig hdr) (byteAt p 0).toNat (hdrTick hdr),
        (s.now ≤ hdrTick hdr + s.hops (hdrOrig hdr) → hdrTick hdr + s.hops (hdrOrig hdr) ≤ s.now + 1 →
          s.pieceDue w (hdrOrig hdr) (hdrTick hdr) = true → (t.wall w).remotes = addOf hdr p (s.wall w).remotes) ∧
        (hdrTick hdr + s.hops (hdrOrig hdr) < s.now ∨
            (∀ v ∈ s.takers (hdrOrig hdr) (byteAt p 0).toNat (hdrTick hdr),
              s.pieceDue v (hdrOrig hdr) (hdrTick hdr) = false) → t.walls = s.walls ∧
          t.reg .chnRemoteDisc = satAdd (s.reg .chnRemoteDisc) 1)) := by
  have ports : ∀ y, (s.remotePiece hdr p).cport y = s.cport y := fun y => by
    rw [State.cport, (remotePiece_within s hdr p).eq_merge]
    rfl
  obtain ⟨c, same⟩ := relaying_within (s.remotePiece hdr p) (1 - x.val) { hdr := hdr, payload := p, arrived := s.now }
  refine completes_of_effect (exec_framePieceReceived x hdr p s) ?_
  rw [piece_of_open on opened]
  refine ⟨fun linked => ?_, fun role w mem => ⟨fun inTime soon due => ?_, fun late => ⟨?_, ?_⟩⟩⟩
  · rw [settle_cport, State.relaying, ports, linked, if_pos rfl]
    exact congrArg ChainPort.relay (cport_setCport_self _ (1 - x.val) _)
  · rw [State.wall, settle_walls, same]
    exact remotePiece_of_due role inTime soon mem due
  · rw [settle_walls, same, remotePiece_of_late role mem late]
    rfl
  · rw [settle_reg_behind _ _ (by decide), same, remotePiece_of_late role mem late]
    exact State.reg_setReg_self s .chnRemoteDisc 0 0 _

/-! ### The relay (R345) -/

theorem exec_chainRelay (x : Fin 2) (s : State) : exec (.chainRelay x) s = effect (fun s =>
    if !s.chainOn || s.dark then s
    else
      let all := (s.cport x.val).relay
      let go := all.filter fun r => decide (r.due ≤ s.now)
      let s := s.setCport x.val { s.cport x.val with relay := all.filter fun r => decide (s.now < r.due) }
      go.foldl (fun s r =>
        let (poisoned, s) := s.stagingPoison
        s.relayPiece x.val (wholeBefore all r && !poisoned) r) s) s := rfl

theorem stagingPoison_frame (s : State) : ∃ n, s.stagingPoison.2 = { s with free := n } := by
  unfold State.stagingPoison
  split
  · exact ⟨_, rfl⟩
  · exact ⟨_, rfl⟩

theorem stagingPoison_of_serving {s : State} (serving : ∀ n ∈ s.active, (s.chan n).state ≠ .retired) :
    s.stagingPoison = (false, s) := by
  unfold State.stagingPoison
  exact if_neg (by simpa using serving)

theorem relayPiece_of_dropped {s : State} {x : Nat} {whole : Bool} {r : RelayPiece}
    (drops : (s.cport x).counts = false ∨ whole = false ∨ (s.reg .chnRsv x).toNat < r.payload.length + 20) :
    s.relayPiece x whole r = (s.bump .chnRelayDrop x).raise 0x0807
      [(1, x), (1, hdrOrig r.hdr), (1, (byteAt r.payload 0).toNat), (5, hdrTick r.hdr)] := by
  unfold State.relayPiece
  extract_lets p used n
  refine if_pos ?_
  rcases drops with silent | partly | full
  · rw [show p.counts = false from silent]
    rfl
  · rw [partly]
    simp
  · rw [decide_eq_true (show (s.reg .chnRsv x).toNat < used + n by omega)]
    simp

theorem relayPiece_of_sent {s : State} {x : Nat} {r : RelayPiece} (lit : s.dark = false) (counts : (s.cport x).counts = true)
    (fresh : (s.cport x).relayTick ≠ s.now) (room : r.payload.length + 20 ≤ (s.reg .chnRsv x).toNat) : ∃ q : ChainPort,
    q.relay = (s.cport x).relay ∧ s.relayPiece x true r = (s.setCport x q).emit (.chainPacket x
      (chainBytes 6 (hdrHop r.hdr + 1) (hdrOrig r.hdr) (numAt r.hdr 3 1) (hdrTick r.hdr) r.payload)) := by
  unfold State.relayPiece
  extract_lets p used n
  have none : used = 0 := if_neg fresh
  refine ⟨_, ?_, (if_neg ?_).trans (sendChain_of_lit (by exact lit) ..)⟩
  · rfl
  · rw [show p.counts = true from counts, none, decide_eq_false (by omega)]
    decide

theorem relayPiece_relay (s : State) (x : Nat) (whole : Bool) (r : RelayPiece) :
    ((s.relayPiece x whole r).cport x).relay = (s.cport x).relay := by
  unfold State.relayPiece
  extract_lets p used n
  split
  · rfl
  · have held := cport_setCport_self s x { p with relayed := used + n, relayTick := s.now }
    have sent := sendChain_out (s.setCport x { p with relayed := used + n, relayTick := s.now }) x 6 (hdrHop r.hdr + 1) (hdrOrig r.hdr)
      (numAt r.hdr 3 1) (hdrTick r.hdr) r.payload
    unfold State.SameButOut at sent
    rw [sent]
    have relay := congrArg ChainPort.relay held
    exact relay

theorem sent_of_emit (s u : State) (e : Emission) (before : u.out = s.out) : s.Sent (settle s (u.emit e)) e := by
  obtain ⟨xs, out⟩ := (settle_kept (u.emit e)).out
  exact ⟨xs, out.trans (congrArg (fun o => xs ++ e :: o) before)⟩

theorem chainRelay_completes (x : Fin 2) (q : RelayPiece) (s : State) (on : s.chainOn = true) (one : (s.cport x).relay = [q]) :
    Completes (.chainRelay x) s fun t =>
      (s.now < q.due → (t.cport x).relay = [q]) ∧ (q.due ≤ s.now → (t.cport x).relay = []) ∧
      (q.due ≤ s.now → (s.cport x).counts = true → wholeBefore [q] q = true → (s.cport x).relayTick ≠ s.now →
        q.payload.length + 20 ≤ (s.reg .chnRsv x).toNat → (∀ n ∈ s.active, (s.chan n).state ≠ .retired) →
        s.Sent t (.chainPacket x (chainBytes 6 (hdrHop q.hdr + 1) (hdrOrig q.hdr) (numAt q.hdr 3 1) (hdrTick q.hdr) q.payload))) ∧
      (q.due ≤ s.now → (s.cport x).counts = false ∨ wholeBefore [q] q = false ∨
          (s.reg .chnRsv x).toNat < q.payload.length + 20 →
        t.reg .chnRelayDrop x = satAdd (s.reg .chnRelayDrop x) 1) := by
  have lit := dark_of_chainOn on
  refine completes_of_effect (exec_chainRelay x s) ?_
  rw [on, lit, if_neg (by decide)]
  extract_lets all go src u
  have all' : all = [q] := one
  by_cases early : s.now < q.due
  · have go' : go = [] := by
      unfold go
      rw [all']
      simp [early]
    have late : ¬ q.due ≤ s.now := Nat.not_le.mpr early
    rw [go', List.foldl_nil]
    refine ⟨fun _ => ?_, fun h => absurd h late, fun h => absurd h late, fun h => absurd h late⟩
    rw [settle_cport, cport_setCport_self]
    change all.filter _ = _
    rw [all']
    simp [early]
  · have due : q.due ≤ s.now := Nat.not_lt.mp early
    have go' : go = [q] := by
      unfold go
      rw [all']
      simp [due]
    have port : u.cport x = { s.cport x with relay := [] } := by
      refine (cport_setCport_self s x _).trans ?_
      rw [show (all.filter fun r => decide (s.now < r.due)) = [] by rw [all']; simp [early]]
    obtain ⟨n, drawn⟩ := stagingPoison_frame u
    rw [go', all', List.foldl_cons, List.foldl_nil]
    have vPort : u.stagingPoison.2.cport x = { s.cport x with relay := [] } := by
      rw [drawn]
      exact port
    refine ⟨fun h => absurd h early, fun _ => ?_, fun _ counts whole fresh room serving => ?_, fun _ drops => ?_⟩
    · rw [settle_cport]
      exact (relayPiece_relay ..).trans (congrArg ChainPort.relay vPort)
    · rw [stagingPoison_of_serving (s := u) serving]
      dsimp only
      rw [whole]
      obtain ⟨p, -, sent⟩ := relayPiece_of_sent (s := u) (x := x) (r := q) lit (by rw [port]; exact counts)
        (by rw [port]; exact fresh) room
      exact (congrArg (fun v => s.Sent (settle s v) _) sent).mpr (sent_of_emit _ _ _ rfl)
    · have dropped := relayPiece_of_dropped (s := u.stagingPoison.2) (x := x) (whole := wholeBefore [q] q && !u.stagingPoison.1) (r := q)
        (by
          rw [vPort, drawn]
          rcases drops with silent | partly | full
          · exact .inl silent
          · exact .inr (.inl (by rw [partly]; rfl))
          · exact .inr (.inr full))
      refine (congrArg (fun v => State.reg (settle s v) .chnRelayDrop x) dropped).trans ?_
      rw [settle_reg_behind _ _ (by decide), drawn]
      exact State.reg_setReg_self _ .chnRelayDrop x 0 _

/-! ### Alarms (R348) -/

theorem exec_alarmReceived (x : Fin 2) (hdr p : BitVec 128) (s : State) :
    exec (.alarmReceived x hdr p) s = effect (fun s => s.alarm x.val hdr p) s := rfl

theorem triggerOld_frame (s : State) (kind index : Nat) (late : Bool) : ∃ n, (s.triggerOld kind index late).2 = { s with free := n } := by
  unfold State.triggerOld
  split
  · exact ⟨_, rfl⟩
  · exact ⟨_, rfl⟩

/-- A trigger by the chain tells the chain nothing: the recall store, a mark, an event and a count are all that it leaves. -/
theorem trigger_of_chain (s : State) (index tf : Nat) (o : Origin) :
    (s.trigger 3 index o (some tf)).2.chain = s.chain ∧ (s.trigger 3 index o (some tf)).2.out = s.out ∧
    (s.rcl.state = .recording → s.rcl.pend = false → (s.trigger 3 index o (some tf)).2.rcl.pend = true ∧
      (s.trigger 3 index o (some tf)).2.rcl.kind = 3 ∧ (s.trigger 3 index o (some tf)).2.rcl.tf = BitVec.ofNat 64 (max tf s.now)) := by
  unfold State.trigger
  split
  next ignored =>
    refine ⟨rfl, rfl, fun rec idle => ?_⟩
    rw [rec, idle] at ignored
    exact absurd ignored (by decide)
  next =>
    extract_lets late tick src u
    obtain ⟨n, drawn⟩ := triggerOld_frame u 3 index late
    generalize u.triggerOld 3 index late = r at drawn ⊢
    obtain ⟨old, v⟩ := r
    obtain rfl : v = { u with free := n } := drawn
    refine ⟨rfl, rfl, fun _ _ => ⟨rfl, rfl, ?_⟩⟩
    change BitVec.ofNat 64 (if late then s.now else tf) = _
    by_cases before : tf ≤ s.now
    · rw [show late = true from decide_eq_true before, if_pos rfl, Nat.max_eq_right before]
    · rw [show late = false from decide_eq_false before, if_neg (by decide), Nat.max_eq_left (by omega)]

/-- An alarm that is acted on (R348): it goes on out of the other port, and is a trigger where the device takes chain alarms. -/
theorem alarm_of_new {s : State} {x : Nat} {hdr p : BitVec 128} (on : s.chainOn = true) (opened : s.chainOpen x = true)
    (foreign : hdrOrig hdr ≠ s.orig ∨ s.orig = 0xFF) (new : s.chain.alarms.contains (hdrOrig hdr, numAt p 0 8) = false) :
    ∃ u : State, u = { s with chain := { s.chain with alarms := (hdrOrig hdr, numAt p 0 8) :: s.chain.alarms }, out := u.out } ∧
      ((s.cport (1 - x)).counts = true → u.out = .chainPacket (1 - x) (chainBytes 7 (hdrHop hdr + 1) (hdrOrig hdr)
          (numAt hdr 3 1) (hdrTick hdr) (leBytes 16 p.toNat)) :: s.out) ∧
      s.alarm x hdr p = if s.level < 2 || !s.flag .wallRclCfg 0 0 30 then u
        else (u.trigger 3 (hdrOrig hdr) (.peer (Fin.ofNat 32 (hdrOrig hdr))) (some (numAt p 0 8))).2 := by
  unfold State.alarm
  extract_lets src orig tf v y u
  have own : (decide (orig = s.orig) && decide (orig ≠ 0xFF)) = false := by
    rcases foreign with other | none
    · rw [decide_eq_false other]
      rfl
    · by_cases same : orig = s.orig
      · rw [decide_eq_false (not_not_intro (same.trans none)), Bool.and_false]
      · rw [decide_eq_false same]
        rfl
  have u' : u = { v with out := u.out } ∧ ((s.cport (1 - x)).counts = true → u.out = .chainPacket (1 - x)
      (chainBytes 7 (hdrHop hdr + 1) (hdrOrig hdr) (numAt hdr 3 1) (hdrTick hdr) (leBytes 16 p.toNat)) :: s.out) := by
    unfold u
    by_cases counts : (v.cport y).counts = true
    · rw [if_pos counts, sendChain_of_lit (by exact dark_of_chainOn on)]
      exact ⟨rfl, fun _ => rfl⟩
    · rw [if_neg counts]
      exact ⟨rfl, fun yes => absurd yes counts⟩
  obtain ⟨same, sent⟩ := u'
  refine ⟨u, same, sent, ?_⟩
  rw [on, opened, own, new, if_neg (by decide)]
  have level : u.level = s.level := by rw [same]; rfl
  have takes : u.flag .wallRclCfg 0 0 30 = s.flag .wallRclCfg 0 0 30 := by rw [same]; rfl
  rw [level, takes]

theorem alarm_of_ignored {s : State} {x : Nat} {hdr p : BitVec 128}
    (ignored : s.chain.alarms.contains (hdrOrig hdr, numAt p 0 8) = true ∨ (hdrOrig hdr = s.orig ∧ s.orig ≠ 0xFF)) :
    s.alarm x hdr p = s := by
  unfold State.alarm
  refine if_pos ?_
  rcases ignored with known | ⟨own, named⟩
  · rw [known]
    exact Bool.or_true _
  · rw [decide_eq_true own, decide_eq_true (show hdrOrig hdr ≠ 0xFF by rw [own]; exact named)]
    simp

theorem alarmReceived_completes (x : Fin 2) (hdr p : BitVec 128) (s : State) (sound : s.Sound) (on : s.chainOn = true)
    (opened : s.chainOpen x = true) : Completes (.alarmReceived x hdr p) s fun t =>
      (s.chain.alarms.contains (hdrOrig hdr, numAt p 0 8) = true ∨ (hdrOrig hdr = s.orig ∧ s.orig ≠ 0xFF) → t = s) ∧
      (s.chain.alarms.contains (hdrOrig hdr, numAt p 0 8) = false → hdrOrig hdr ≠ s.orig ∨ s.orig = 0xFF →
        t.chain.alarms = (hdrOrig hdr, numAt p 0 8) :: s.chain.alarms ∧
        ((s.cport (1 - x.val)).counts = true → s.Sent t (.chainPacket (1 - x.val) (chainBytes 7 (hdrHop hdr + 1) (hdrOrig hdr)
          (numAt hdr 3 1) (hdrTick hdr) (leBytes 16 p.toNat)))) ∧
        (2 ≤ s.level → s.flag .wallRclCfg 0 0 30 = true → s.rcl.state = .recording → s.rcl.pend = false →
          t.rcl.pend = true ∧ t.rcl.kind = 3 ∧ t.rcl.tf = BitVec.ofNat 64 (max (numAt p 0 8) s.now))) := by
  by_cases ignored : s.chain.alarms.contains (hdrOrig hdr, numAt p 0 8) = true ∨ (hdrOrig hdr = s.orig ∧ s.orig ≠ 0xFF)
  · refine completes_mono (completes_idle (exec_alarmReceived x hdr p s) (alarm_of_ignored ignored) sound) fun t same =>
      ⟨fun _ => same, fun new foreign => ?_⟩
    rcases ignored with known | ⟨own, named⟩
    · exact absurd (known.symm.trans new) (by decide)
    · rcases foreign with other | none
      · exact absurd own other
      · exact absurd none named
  · rw [not_or, Bool.not_eq_true] at ignored
    obtain ⟨new, other⟩ := ignored
    have foreign : hdrOrig hdr ≠ s.orig ∨ s.orig = 0xFF := by
      by_contra neither
      rw [not_or, not_not] at neither
      exact other neither
    refine completes_of_effect (exec_alarmReceived x hdr p s) ⟨fun old => ?_, fun _ _ => ?_⟩
    · rcases old with known | own
      · exact absurd (known.symm.trans new) (by decide)
      · exact absurd own other
    · obtain ⟨u, same, sent, acts⟩ := alarm_of_new (p := p) on opened foreign new
      obtain ⟨chain, out, taken⟩ := trigger_of_chain u (hdrOrig hdr) (numAt p 0 8) (.peer (Fin.ofNat 32 (hdrOrig hdr)))
      generalize (u.trigger 3 (hdrOrig hdr) (.peer (Fin.ofNat 32 (hdrOrig hdr))) (some (numAt p 0 8))).2 = v at chain out taken acts
      have ends : (s.alarm x hdr p).chain = u.chain ∧ (s.alarm x hdr p).out = u.out := by
        rw [acts]
        split
        · exact ⟨rfl, rfl⟩
        · exact ⟨chain, out⟩
      refine ⟨?_, fun counts => ?_, fun level takes rec idle => ?_⟩
      · rw [settle_chain, ends.1, same]
      · obtain ⟨xs, grown⟩ := (settle_kept (s.alarm x hdr p)).out
        refine ⟨xs, grown.trans ?_⟩
        rw [ends.2, sent counts]
      · rw [settle_rcl, acts, takes, decide_eq_false (Nat.not_lt.mpr level), if_neg (by decide)]
        have before : u.rcl = s.rcl := by rw [same]
        have now : u.now = s.now := by rw [same]; rfl
        rw [before, now] at taken
        exact taken rec idle

/-- Settles O46: pieces that arrive, pieces that go on, and alarms. -/
theorem chainFramesAndAlarms : Obligations.ChainFramesAndAlarms := by
  unfold Obligations.ChainFramesAndAlarms
  refine ⟨⟨framePieceReceived_completes, fun x hdr p s sound off => completes_idle (exec_framePieceReceived x hdr p s) ?_ sound,
    chainRelay_completes⟩, alarmReceived_completes⟩
  unfold State.piece
  refine if_pos ?_
  rcases off with off | off
  · rw [off]
    rfl
  · rw [off]
    simp

end Sys2Proof.Machine
end

section
/-!
SUPPORT. Lanes (04): what the packet layer may change of the device, and bring-up with its instants, EN, RENEG and HUB_STATUS. From
these O15, O16, O18 and O19.
-/
namespace Sys2Proof.Machine

/-! ### Registers by name -/

/-- The offsets of the registers of some names. -/
def regsNamed (ns : List RegName) (off : Nat) : Bool :=
  match locate off with
  | some r => decide (r.name ∈ ns)
  | none => false

theorem regsNamed_off (ns : List RegName) {n : RegName} {i j : Nat} (hi : i < n.row.n1) (hj : j < n.row.n2) :
    regsNamed ns (n.off i j) = decide (n ∈ ns) := by
  unfold regsNamed
  rw [registerMapUnambiguous n i j hi hj]

theorem regsNamed_mem {ns : List RegName} {n : RegName} (mem : n ∈ ns) {i j : Nat} (hi : i < n.row.n1) (hj : j < n.row.n2) :
    regsNamed ns (n.off i j) = true := by
  rw [regsNamed_off ns hi hj]
  exact decide_eq_true mem

/-- A register of another name keeps its value. -/
theorem State.Within.reg_of_name {P : Footprint} {s t : State} {ns : List RegName} (h : s.Within P t) (regs : P.regs = regsNamed ns)
    {n : RegName} (other : n ∉ ns) {i j : Nat} (hi : i < n.row.n1) (hj : j < n.row.n2) : t.reg n i j = s.reg n i j :=
  h.reg _ _ (by rw [regs, regsNamed_off ns hi hj]; exact decide_eq_false other)

/-! ### The packet layer's footprint -/

/-- What lines and packets of a lane may change: the ports' frames, the mills' order of service, the lanes, and counts. -/
def lineSide : Footprint where
  has
    | .lanes | .ports | .mills | .raised => true
    | _ => false
  regs := regsNamed [.sxlPcrc]

namespace State.Within

variable {s : State}

theorem keepPacket (l : Nat) (p : Option Part) : s.Within lineSide (s.keepPacket l p) := setLane _ _ rfl

theorem decideMill (m : Nat) : s.Within lineSide (s.decideMill m) := by
  unfold State.decideMill
  extract_lets x p
  split
  · exact refl _ _
  · split
    · exact refl _ _
    · exact setMill _ _ rfl

theorem markFrame (i : Nat) (bits : BitVec 8) : s.Within lineSide (s.markFrame i bits) := by
  unfold State.markFrame
  split
  · exact setPort _ _ rfl
  · exact refl _ _

theorem lineEnd {i : Nat} (inside : i < 512) (t : Nat) (bs : List Byte) (ok : Bool) : s.Within lineSide (s.lineEnd i t bs ok) := by
  have pcrc : lineSide.regs (RegName.sxlPcrc.off (i / 8) (i % 8)) = true :=
    regsNamed_mem (by simp) (show i / 8 < 64 by omega) (Nat.mod_lt _ (by decide))
  unfold State.lineEnd
  split
  · extract_lets n st s1
    have placed : s.Within lineSide s1 := setPort _ _ rfl
    exact (placed.trans (ite (refl _ _) (bump pcrc))).trans (decideMill _)
  · exact refl _ _

end State.Within

theorem headVc_lt (d : Nat) : headVc d < 8 := by
  unfold headVc
  omega

theorem losePacket_within (s : State) (l : Fin 64) : s.Within lineSide (s.losePacket l) := by
  unfold State.losePacket
  split
  · exact .refl _ _
  · extract_lets u
    have kept : s.Within lineSide u := .keepPacket l none
    split
    next t d _ _ => exact kept.trans (.lineEnd (by have := headVc_lt d; omega) _ _ _)
    · exact kept

/-! ### Lanes -/

theorem settle_lane (s0 u : State) (l : Nat) : (settle s0 u).lane l = u.lane l := by simp only [State.lane, settle_lanes]

theorem lane_setLane_self (s : State) (l : Nat) (x : Lane) : (s.setLane l x).lane l = x := by
  rw [State.lane_setLane, if_pos rfl]

theorem lane_setLane_of_ne {s : State} {l j : Nat} (other : j ≠ l) (x : Lane) : (s.setLane l x).lane j = s.lane j := by
  rw [State.lane_setLane, if_neg other]

theorem lineEnd_lane (s : State) (i t : Nat) (bs : List Byte) (ok : Bool) (j : Nat) : (s.lineEnd i t bs ok).lane j = s.lane j := by
  unfold State.lineEnd
  split
  · extract_lets n st u
    have decided : ∀ (v : State) (m : Nat), (v.decideMill m).lane j = v.lane j := fun v m => by
      unfold State.decideMill
      extract_lets x p
      split
      · rfl
      · split <;> rfl
    rw [decided]
    split <;> rfl
  · rfl

/-- A packet that is lost takes nothing of its lane but itself. -/
theorem losePacket_lane (s : State) (l j : Nat) : (s.losePacket l).lane j =
    if j = l then { s.lane l with partialPacket := none } else s.lane j := by
  have kept : (s.keepPacket l none).lane j = if j = l then { s.lane l with partialPacket := none } else s.lane j := State.lane_setLane ..
  unfold State.losePacket
  split
  next nothing =>
    split
    next same => rw [same, ← nothing]
    next => rfl
  · extract_lets u
    split
    · exact (lineEnd_lane ..).trans kept
    · exact kept

theorem losePacket_out (s : State) (l : Fin 64) : (s.losePacket l).out = s.out := (losePacket_within s l).field .out rfl

/-! ### EN (O15) -/

theorem exec_laneEnable (l : Fin 64) (o : Origin) (v : Word) (s : State) :
    exec (.laneEnable l o v) s = effect (fun s => s.writeFrom o .sxlCfg l.val 0 (v ||| 1)) s := rfl

theorem exec_laneDisable (l : Fin 64) (o : Origin) (v : Word) (s : State) :
    exec (.laneDisable l o v) s = effect (fun s => s.writeFrom o .sxlCfg l.val 0 (clearEn v)) s := rfl

/-- SXL_CFG as it is written, before EN acts. -/
def State.cfgWritten (s : State) (o : Origin) (l : Nat) (v : Word) : State :=
  (s.writeMarked o ⟨.sxlCfg, l, 0⟩ v).setReg .sxlCfg l 0 (RegName.sxlCfg.row.merge (s.reg .sxlCfg l) v)

theorem accept_sxlCfg (s : State) (o : Origin) (l : Nat) (v : Word) : s.accept o ⟨.sxlCfg, l, 0⟩ v {} =
    if s.power.pstate = .trip then s.cfgWritten o l v else (s.cfgWritten o l v).laneEn l (s.flag .sxlCfg l 0 0) (bitOf v 0) := by
  have marked : RegAt.marked ⟨.sxlCfg, l, 0⟩ = true := by simp [RegAt.marked, RegName.row]
  rw [accept_of_acting s o v {} RegName.noConfusion RegName.noConfusion, marked]
  rfl

theorem cfgWritten_flag (s : State) (o : Origin) (l : Nat) (v : Word) : (s.cfgWritten o l v).flag .sxlCfg l 0 0 = bitOf v 0 := by
  have kept : bitOf (RegName.sxlCfg.row.merge (s.reg .sxlCfg l) v) 0 = bitOf v 0 := by
    simp [bitOf_eq_getLsbD, RegRow.merge, RegName.row]
  exact (congrArg (bitOf · 0) (State.reg_setReg_self _ .sxlCfg l 0 _)).trans kept

/-- The delivery of events leaves the registers of the lanes alone. -/
theorem settle_reg_lane (s0 u : State) {n : RegName} (base : n.row.base < 0x41000) (s1 : n.row.s1 = 0x400) (l : Fin 64) {k : Nat}
    (ports : n.row.s2 * k < 0x1000) : (settle s0 u).reg n l k = u.reg n l k :=
  settle_reg _ _ _ _ _ (deliveryReg_of_lt (by
    unfold RegName.off
    rw [s1]
    omega))

theorem settle_flag_lane (s0 u : State) {n : RegName} (base : n.row.base < 0x41000) (s1 : n.row.s1 = 0x400) (l : Fin 64) (b : Nat) :
    (settle s0 u).flag n l 0 b = u.flag n l 0 b := congrArg (bitOf · b) (settle_reg_lane s0 u base s1 l (by omega))

/-- What is written to SXL_CFG of a lane is kept while the lane acts on it. -/
theorem flag_of_lineSide {s t : State} (h : s.Within lineSide t) (l : Fin 64) (b : Nat) :
    t.flag .sxlCfg l 0 b = s.flag .sxlCfg l 0 b :=
  congrArg (bitOf · b) (h.reg_of_name rfl (by decide) l.isLt (by decide))

/-- Step 1 of bring-up (R90): the lane searches, and K28.5 is on the back-channel. -/
theorem startLane_eq (s : State) (l : Nat) : s.startLane l = ((s.losePacket l).setLane l { (s.losePacket l).lane l with
    step := .search, mode := 0, lock := false, hubOk := false, good := 0, lastSeq := none, fresh := true }).emit (.backIdle l true) := rfl

theorem startLane_lane (s : State) (l j : Nat) : (s.startLane l).lane j = if j = l then { s.lane l with
    partialPacket := none, step := .search, mode := 0, lock := false, hubOk := false, good := 0, lastSeq := none, fresh := true }
    else s.lane j := by
  have set := State.lane_setLane (s.losePacket l) l j { (s.losePacket l).lane l with
    step := .search, mode := 0, lock := false, hubOk := false, good := 0, lastSeq := none, fresh := true }
  refine (show (s.startLane l).lane j = _ from set).trans ?_
  rw [losePacket_lane, losePacket_lane, if_pos rfl]
  split <;> rfl

theorem startLane_out (s : State) (l : Fin 64) : (s.startLane l).out = .backIdle l true :: s.out :=
  congrArg (Emission.backIdle l true :: ·) (losePacket_out s l)

/-- A lane whose EN is cleared (R90, R112). -/
theorem laneEn_off (s : State) (l : Fin 64) : ∃ fs, s.laneEn l true false =
    ((if (s.lane l).step = .up then (s.losePacket l).raise 0x0202 fs else s.losePacket l).setLane l { (s.losePacket l).lane l with
      step := .down, mode := 0, lock := false, hubOk := false, good := 0, lastSeq := none }).emit (.backIdle l false) := by
  refine ⟨[(1, l.val), (1, 3), (6, 0)], ?_⟩
  have step : ((s.losePacket l).lane l).step = (s.lane l).step := by
    rw [losePacket_lane, if_pos rfl]
  unfold State.laneEn
  rw [if_neg (by decide), if_neg (by decide), ← step]

theorem laneEn_off_lane (s : State) (l : Fin 64) (j : Nat) : (s.laneEn l true false).lane j = if j = l then { s.lane l with
    partialPacket := none, step := .down, mode := 0, lock := false, hubOk := false, good := 0, lastSeq := none } else s.lane j := by
  obtain ⟨fs, off⟩ := laneEn_off s l
  have before : ∀ i, (if (s.lane l).step = .up then (s.losePacket l).raise 0x0202 fs else s.losePacket l).lane i =
      (s.losePacket l).lane i := fun i => by split <;> rfl
  rw [off]
  generalize (if (s.lane l).step = .up then (s.losePacket l).raise 0x0202 fs else s.losePacket l) = u at before
  have set := State.lane_setLane u l j { (s.losePacket l).lane l with
    step := .down, mode := 0, lock := false, hubOk := false, good := 0, lastSeq := none }
  refine (show _ = _ from set).trans ?_
  rw [before, losePacket_lane, losePacket_lane, if_pos rfl]
  split <;> rfl

theorem laneEn_off_out (s : State) (l : Fin 64) : (s.laneEn l true false).out = .backIdle l false :: s.out := by
  obtain ⟨fs, off⟩ := laneEn_off s l
  have before : (if (s.lane l).step = .up then (s.losePacket l).raise 0x0202 fs else s.losePacket l).out = s.out := by
    split <;> exact losePacket_out s l
  rw [off]
  exact congrArg (Emission.backIdle l false :: ·) before

/-- EN that is written acts on its own lane and the frames of its ports. -/
theorem laneEn_flag (s : State) (l : Fin 64) (was now : Bool) (b : Nat) :
    (s.laneEn l was now).flag .sxlCfg l 0 b = s.flag .sxlCfg l 0 b := by
  have lost := flag_of_lineSide (losePacket_within s l) l b
  cases was <;> cases now
  · rfl
  · exact lost
  · obtain ⟨fs, off⟩ := laneEn_off s l
    rw [off]
    refine (?_ : _ = (s.losePacket l).flag .sxlCfg l 0 b).trans lost
    split <;> rfl
  · rfl

theorem laneEn_markSeq (s : State) (l : Fin 64) (was now : Bool) : (s.laneEn l was now).markSeq = s.markSeq := by
  have lost : (s.losePacket l).markSeq = s.markSeq := (losePacket_within s l).field .markSeq rfl
  cases was <;> cases now
  · rfl
  · exact lost
  · obtain ⟨fs, off⟩ := laneEn_off s l
    rw [off]
    refine (?_ : _ = (s.losePacket l).markSeq).trans lost
    split <;> rfl
  · rfl

theorem sent_of_out {s u : State} {e : Emission} (out : u.out = e :: s.out) : s.Sent (settle s u) e := by
  obtain ⟨xs, grown⟩ := (settle_kept u).out
  exact ⟨xs, grown.trans (by rw [out])⟩

theorem laneEnable_completes (l : Fin 64) (o : Origin) (v : Word) (s : State) (powered : s.power.pstate ≠ .trip)
    (accepts : s.Accepts o ⟨.sxlCfg, l.val, 0⟩ (v ||| 1)) : Completes (.laneEnable l o v) s fun t =>
      (s.flag .sxlCfg l 0 0 = false → (t.lane l).step = .search ∧ (t.lane l).mode = 0 ∧ (t.lane l).lock = false ∧
        (t.lane l).hubOk = false ∧ (t.lane l).fresh = true ∧ s.Sent t (.backIdle l true)) ∧
      (s.flag .sxlCfg l 0 0 = true → t.lane l = s.lane l) ∧ (∀ j, j ≠ l.val → t.lane j = s.lane j) ∧
      t.flag .sxlCfg l 0 0 = true ∧ t.markSeq = s.markSeq + 1 := by
  refine completes_of_write (exec_laneEnable l o v s) accepts ?_
  rw [accept_sxlCfg, if_neg powered, bitOf_or_one]
  have lanes : ∀ j, (s.cfgWritten o l (v ||| 1)).lane j = s.lane j := fun _ => rfl
  refine ⟨fun off => ?_, fun on => ?_, fun j other => ?_, ?_, ?_⟩
  · rw [off, settle_lane, show (s.cfgWritten o l (v ||| 1)).laneEn l false true = (s.cfgWritten o l (v ||| 1)).startLane l from rfl,
      startLane_lane, if_pos rfl]
    exact ⟨rfl, rfl, rfl, rfl, rfl, sent_of_out (startLane_out _ l)⟩
  · rw [on, settle_lane]
    rfl
  · rw [settle_lane]
    cases s.flag .sxlCfg l 0 0 with
    | true => rfl
    | false => exact (startLane_lane ..).trans (if_neg other)
  · rw [settle_flag_lane _ _ (by decide) rfl, laneEn_flag, cfgWritten_flag, bitOf_or_one]
  · rw [settle_markSeq_eq, laneEn_markSeq]
    rfl

theorem laneDisable_completes (l : Fin 64) (o : Origin) (v : Word) (s : State) (powered : s.power.pstate ≠ .trip)
    (on : s.flag .sxlCfg l 0 0 = true) (accepts : s.Accepts o ⟨.sxlCfg, l.val, 0⟩ (clearEn v)) :
    Completes (.laneDisable l o v) s fun t =>
      (t.lane l).step = .down ∧ (t.lane l).mode = 0 ∧ (t.lane l).lock = false ∧ (t.lane l).hubOk = false ∧
      s.Sent t (.backIdle l false) ∧ (∀ j, j ≠ l.val → t.lane j = s.lane j) ∧ t.flag .sxlCfg l 0 0 = false := by
  refine completes_of_write (exec_laneDisable l o v s) accepts ?_
  rw [accept_sxlCfg, if_neg powered, on, bitOf_clearEn]
  have lane : ∀ j, (settle s ((s.cfgWritten o l (clearEn v)).laneEn l true false)).lane j = _ := fun j =>
    (settle_lane ..).trans (laneEn_off_lane _ l j)
  rw [lane, if_pos rfl]
  refine ⟨rfl, rfl, rfl, rfl, sent_of_out (laneEn_off_out _ l), fun j other => ?_, ?_⟩
  · rw [lane, if_neg other]
    rfl
  · rw [settle_flag_lane _ _ (by decide) rfl, laneEn_flag, cfgWritten_flag, bitOf_clearEn]

/-- Settles O15: EN acts where it changes, and in TRIP it does not act. -/
theorem laneEnableAndDisable : Obligations.LaneEnableAndDisable := by
  unfold Obligations.LaneEnableAndDisable
  refine ⟨laneEnable_completes, laneDisable_completes, fun l o v s tripped => ⟨fun accepts => ?_, fun accepts => ?_⟩⟩
  · refine completes_of_write (exec_laneEnable l o v s) accepts ?_
    rw [accept_sxlCfg, if_pos tripped, settle_lanes, settle_flag_lane _ _ (by decide) rfl, cfgWritten_flag, bitOf_or_one]
    exact ⟨rfl, rfl⟩
  · refine completes_of_write (exec_laneDisable l o v s) accepts ?_
    rw [accept_sxlCfg, if_pos tripped, settle_lanes, settle_flag_lane _ _ (by decide) rfl, cfgWritten_flag, bitOf_clearEn]
    exact ⟨rfl, rfl⟩

/-! ### The instants of bring-up (O16) -/

theorem exec_switchTimeout (l : Fin 64) (s : State) : exec (.switchTimeout l) s = effect (fun s =>
    let x := s.lane l.val
    match x.step with
    | .switching m =>
      if m = 0 then
        let s := (s.linkCtl l.val 2 0).raise 0x0202 [(1, l.val), (1, 2), (6, 0)]
        let s := s.losePacket l.val
        s.setLane l.val { s.lane l.val with step := .waiting, lock := false, good := 0, lastSeq := none }
      else s.switchLane l.val (m.toNat - 1)
    | _ => s) s := rfl

theorem exec_restartWaitEnd (l : Fin 64) (s : State) : exec (.restartWaitEnd l) s =
    effect (fun s => if (s.lane l.val).step = .waiting then s.startLane l.val else s) s := rfl

theorem exec_reneg (l : Fin 64) (o : Origin) (s : State) :
    exec (.reneg l o) s = effect (fun s => s.writeFrom o .sxlCtrl l.val 0 1) s := rfl

theorem exec_downShiftIntervalEnd (l : Fin 64) (s : State) : exec (.downShiftIntervalEnd l) s = effect (fun s =>
    let x := s.lane l.val
    if x.step ≠ .up then s
    else
      let n := x.uncorrectable
      let s := s.setLane l.val { x with uncorrectable := 0 }
      if s.flag .sxlCfg l.val 0 4 && max 1 (s.field .sxlCfg l.val 0 8 8) < n then
        let lower := x.mode.toNat - 1
        let s := s.raise 0x0203 [(1, l.val), (1, lower), (4, min n 0xFFFFFFFF), (2, 0)]
        if x.mode = 0 then s
        else (s.setLane l.val { s.lane l.val with downs := BitVec.ofNat 16 (min (x.downs.toNat + 1) 0xFFFF) }).switchLane
          l.val lower
      else s) s := rfl

/-- What a packet on the back-channel may change. -/
def State.SameButBack (s t : State) : Prop := t = { s with out := t.out, backWait := t.backWait }

theorem sendBack_same (s : State) (l dt vc : Nat) (payload : List Byte) : s.SameButBack (s.sendBack l dt vc payload) := by
  unfold State.sendBack State.emitBack
  extract_lets p
  split
  · rfl
  · split <;> rfl

theorem linkCtl_same (s : State) (l op mode : Nat) : s.SameButBack (s.linkCtl l op mode) := sendBack_same ..

theorem linkCtl_lane (s : State) (l op mode j : Nat) : (s.linkCtl l op mode).lane j = s.lane j := by
  have same := linkCtl_same s l op mode
  unfold State.SameButBack at same
  rw [same]
  rfl

theorem laneUp_lane (s : State) (l j : Nat) : (s.laneUp l).lane j = if j = l then { s.lane l with
    step := .up, uncorrectable := 0, downs := if (s.lane l).fresh then 0 else (s.lane l).downs, fresh := false } else s.lane j := by
  have set := State.lane_setLane s l j { s.lane l with
    step := .up, uncorrectable := 0, downs := if (s.lane l).fresh then 0 else (s.lane l).downs, fresh := false }
  exact set

/-- Whether a SWITCH names the mode that the lane holds lock at: it changes nothing (R90). -/
def Lane.holds (x : Lane) (m : Nat) : Bool := x.mode = BitVec.ofNat 2 m && x.lock

/-- A SWITCH names a mode: the lane waits for it, or is UP where it holds it already. -/
theorem switchLane_lane (s : State) (l m j : Nat) : (s.switchLane l m).lane j =
    if j = l then
      if (s.lane l).holds m then { s.lane l with
        step := .up, uncorrectable := 0, downs := if (s.lane l).fresh then 0 else (s.lane l).downs, fresh := false }
      else { s.lane l with step := .switching (BitVec.ofNat 2 m) }
    else s.lane j := by
  have told : ∀ i, ((s.setLane l { s.lane l with step := .switching (BitVec.ofNat 2 m) }).linkCtl l 1 m).lane i =
      if i = l then { s.lane l with step := .switching (BitVec.ofNat 2 m) } else s.lane i := fun i =>
    (linkCtl_lane ..).trans (State.lane_setLane ..)
  have self := told l
  rw [if_pos rfl] at self
  unfold State.switchLane
  extract_lets src u
  have holds : (decide ((u.lane l).mode = BitVec.ofNat 2 m) && (u.lane l).lock) = (s.lane l).holds m := by
    rw [self]
    rfl
  rw [holds]
  cases (s.lane l).holds m with
  | true =>
    rw [if_pos rfl, laneUp_lane, self, told]
    split <;> rfl
  | false =>
    rw [if_neg (by decide), told]
    split <;> rfl

theorem switchTimeout_completes (l : Fin 64) (m : BitVec 2) (s : State) (switching : (s.lane l).step = .switching m) :
    Completes (.switchTimeout l) s fun t =>
    (m = 0 → (t.lane l).step = .waiting ∧ (t.lane l).lock = false) ∧
    (m ≠ 0 → (t.lane l).step = (if (s.lane l).mode = m - 1 ∧ (s.lane l).lock then .up else .switching (m - 1)) ∧
      (t.lane l).lock = (s.lane l).lock ∧ (t.lane l).mode = (s.lane l).mode) := by
  refine completes_of_effect (exec_switchTimeout l s) ?_
  dsimp only
  rw [switching]
  dsimp only
  by_cases last : m = 0
  · rw [if_pos last]
    refine ⟨fun _ => ?_, fun other => absurd last other⟩
    rw [settle_lane, lane_setLane_self]
    exact ⟨rfl, rfl⟩
  · rw [if_neg last]
    refine ⟨fun zero => absurd zero last, fun _ => ?_⟩
    have lower : BitVec.ofNat 2 (m.toNat - 1) = m - 1 :=
      (by decide : ∀ m : BitVec 2, m ≠ 0 → BitVec.ofNat 2 (m.toNat - 1) = m - 1) m last
    rw [settle_lane, switchLane_lane, if_pos rfl, lower]
    have holds : (s.lane l).holds (m.toNat - 1) = decide ((s.lane l).mode = m - 1 ∧ (s.lane l).lock = true) := by
      unfold Lane.holds
      rw [lower, Bool.decide_and, Bool.decide_eq_true]
    rw [holds]
    by_cases held : (s.lane l).mode = m - 1 ∧ (s.lane l).lock = true
    · rw [if_pos held, decide_eq_true held]
      exact ⟨rfl, rfl, rfl⟩
    · rw [if_neg held, decide_eq_false held]
      exact ⟨rfl, rfl, rfl⟩

theorem restartWaitEnd_completes (l : Fin 64) (s : State) (waits : (s.lane l).step = .waiting) : Completes (.restartWaitEnd l) s fun t =>
    (t.lane l).step = .search ∧ (t.lane l).mode = 0 ∧ s.Sent t (.backIdle l true) ∧ (∀ j, j ≠ l.val → t.lane j = s.lane j) := by
  refine completes_of_effect (exec_restartWaitEnd l s) ?_
  rw [if_pos waits]
  have lane : ∀ j, (settle s (s.startLane l)).lane j = _ := fun j => (settle_lane ..).trans (startLane_lane s l j)
  rw [lane, if_pos rfl]
  exact ⟨rfl, rfl, sent_of_out (startLane_out s l), fun j other => by rw [lane, if_neg other]⟩

theorem accept_sxlCtrl (s : State) (o : Origin) (l : Nat) (lit : s.dark = false) : s.accept o ⟨.sxlCtrl, l, 0⟩ 1 {} =
    ((s.writeMarked o ⟨.sxlCtrl, l, 0⟩ 1).setReg .sxlCtrl l 0 (RegName.sxlCtrl.row.merge (s.reg .sxlCtrl l) 1)).renegLane l := by
  have marked : RegAt.marked ⟨.sxlCtrl, l, 0⟩ = true := by simp [RegAt.marked, RegName.row]
  have bright : ((s.writeMarked o ⟨.sxlCtrl, l, 0⟩ 1).setReg .sxlCtrl l 0
      (RegName.sxlCtrl.row.merge (s.reg .sxlCtrl l) 1)).dark = false := lit
  rw [accept_of_acting s o 1 {} RegName.noConfusion RegName.noConfusion, marked]
  show (if bitOf 1 0 && !((s.writeMarked o ⟨.sxlCtrl, l, 0⟩ 1).setReg .sxlCtrl l 0
      (RegName.sxlCtrl.row.merge (s.reg .sxlCtrl l) 1)).dark then _ else _) = _
  rw [bright]
  rfl

theorem reneg_completes (l : Fin 64) (o : Origin) (s : State) (accepts : s.Accepts o ⟨.sxlCtrl, l.val, 0⟩ 1) (lit : s.dark = false) :
    Completes (.reneg l o) s fun t =>
      ((s.lane l).step = .up → (t.lane l).step =
        (if (s.lane l).mode.toNat = s.switchMode l ∧ (s.lane l).lock then .up else .switching (BitVec.ofNat 2 (s.switchMode l)))) ∧
      ((s.lane l).step ≠ .up → t.lanes = s.lanes) := by
  refine completes_of_write (exec_reneg l o s) accepts ?_
  rw [accept_sxlCtrl s o l lit]
  have cfg : ((s.writeMarked o ⟨.sxlCtrl, l.val, 0⟩ 1).setReg .sxlCtrl l 0 (RegName.sxlCtrl.row.merge (s.reg .sxlCtrl l) 1)).switchMode l =
      s.switchMode l := by
    unfold State.switchMode State.field
    rw [reg_setReg_of_name (by decide) l.isLt _ _ l.isLt]
    rfl
  unfold State.renegLane
  rw [cfg]
  refine ⟨fun up => ?_, fun other => ?_⟩
  · have small : s.switchMode l < 4 := by
      have : (s.lane l).hubMode.toNat < 4 := (s.lane l).hubMode.isLt
      unfold State.switchMode
      omega
    have same : (s.lane l).mode = BitVec.ofNat 2 (s.switchMode l) ↔ (s.lane l).mode.toNat = s.switchMode l := by
      rw [← BitVec.toNat_inj, BitVec.toNat_ofNat, Nat.mod_eq_of_lt small]
    rw [if_pos (by exact up), settle_lane, switchLane_lane, if_pos rfl]
    have holds : (s.lane l).holds (s.switchMode l) = decide ((s.lane l).mode.toNat = s.switchMode l ∧ (s.lane l).lock = true) := by
      unfold Lane.holds
      rw [Bool.decide_and, Bool.decide_eq_true, decide_eq_decide.mpr same]
    refine (congrArg (fun b => Lane.step (if b = true then _ else _)) holds).trans ?_
    by_cases held : (s.lane l).mode.toNat = s.switchMode l ∧ (s.lane l).lock = true
    · rw [if_pos held, decide_eq_true held]
      rfl
    · rw [if_neg held, decide_eq_false held]
      rfl
  · rw [if_neg (by exact other), settle_lanes]
    rfl

/-- What a change of mode may change: the lanes, events, and the back-channel. -/
def State.SameButLink (s t : State) : Prop := t = { s with lanes := t.lanes, raised := t.raised, out := t.out, backWait := t.backWait }

theorem State.SameButLink.trans {s t u : State} (h : s.SameButLink t) (g : t.SameButLink u) : s.SameButLink u := by
  unfold State.SameButLink at *
  rw [g, h]

theorem State.SameButBack.link {s t : State} (h : s.SameButBack t) : s.SameButLink t := by
  unfold State.SameButBack at h
  unfold State.SameButLink
  rw [h]

theorem switchLane_same (s : State) (l m : Nat) : s.SameButLink (s.switchLane l m) := by
  unfold State.switchLane
  extract_lets src u
  have told : s.SameButLink u :=
    State.SameButLink.trans (t := s.setLane l { s.lane l with step := .switching (BitVec.ofNat 2 m) }) rfl (linkCtl_same ..).link
  split
  · exact told.trans rfl
  · exact told

/-- One second of a lane that is UP has passed (R91): its count starts anew, and the device may switch one mode lower. -/
def State.secondPast (s : State) (l : Nat) : State :=
  let x := s.lane l
  let n := x.uncorrectable
  let s := s.setLane l { x with uncorrectable := 0 }
  if s.flag .sxlCfg l 0 4 && max 1 (s.field .sxlCfg l 0 8 8) < n then
    let lower := x.mode.toNat - 1
    let s := s.raise 0x0203 [(1, l), (1, lower), (4, min n 0xFFFFFFFF), (2, 0)]
    if x.mode = 0 then s
    else (s.setLane l { s.lane l with downs := BitVec.ofNat 16 (min (x.downs.toNat + 1) 0xFFFF) }).switchLane l lower
  else s

theorem downShiftIntervalEnd_run (l : Fin 64) (s : State) : exec (.downShiftIntervalEnd l) s =
    effect (fun s => if (s.lane l).step ≠ .up then s else s.secondPast l) s := rfl

theorem secondPast_same (s : State) (l : Nat) : s.SameButLink (s.secondPast l) := by
  unfold State.secondPast
  dsimp only
  split
  · split
    · rfl
    · exact State.SameButLink.trans (by rfl) (switchLane_same ..)
  · rfl

theorem secondPast_of_shift {s : State} {l : Nat} (on : s.flag .sxlCfg l 0 4 = true)
    (many : max 1 (s.field .sxlCfg l 0 8 8) < (s.lane l).uncorrectable) (higher : (s.lane l).mode ≠ 0) :
    (s.secondPast l).lane l = { s.lane l with
      uncorrectable := 0, downs := BitVec.ofNat 16 (min ((s.lane l).downs.toNat + 1) 0xFFFF)
      step := .switching (BitVec.ofNat 2 ((s.lane l).mode.toNat - 1)) } := by
  have shifts : (s.flag .sxlCfg l 0 4 && decide (max 1 (s.field .sxlCfg l 0 8 8) < (s.lane l).uncorrectable)) = true := by
    rw [on, decide_eq_true many]
    rfl
  obtain ⟨v, lane, shifted⟩ : ∃ v : State, v.lane l = { s.lane l with
      uncorrectable := 0, downs := BitVec.ofNat 16 (min ((s.lane l).downs.toNat + 1) 0xFFFF) } ∧
      s.secondPast l = v.switchLane l ((s.lane l).mode.toNat - 1) := by
    refine ⟨_, ?_, (if_pos shifts).trans (if_neg higher)⟩
    rw [lane_setLane_self]
    exact congrArg (fun x : Lane => { x with downs := BitVec.ofNat 16 (min ((s.lane l).downs.toNat + 1) 0xFFFF) })
      (lane_setLane_self s l { s.lane l with uncorrectable := 0 })
  have free : (v.lane l).holds ((s.lane l).mode.toNat - 1) = false := by
    rw [lane]
    refine Bool.and_eq_false_iff.mpr (.inl (decide_eq_false ?_))
    exact (by decide : ∀ m : BitVec 2, m ≠ 0 → m ≠ BitVec.ofNat 2 (m.toNat - 1)) _ higher
  rw [shifted, switchLane_lane, if_pos rfl, free, lane]
  rfl

theorem secondPast_of_stay {s : State} {l : Nat} (stay : s.flag .sxlCfg l 0 4 = false ∨
      (s.lane l).uncorrectable ≤ max 1 (s.field .sxlCfg l 0 8 8) ∨ (s.lane l).mode = 0) :
    (s.secondPast l).lane l = { s.lane l with uncorrectable := 0 } := by
  have still : (s.setLane l { s.lane l with uncorrectable := 0 }).lane l = { s.lane l with uncorrectable := 0 } := lane_setLane_self ..
  unfold State.secondPast
  dsimp only
  split
  next shifts =>
    rw [Bool.and_eq_true, decide_eq_true_eq] at shifts
    obtain ⟨on, many⟩ := shifts
    rcases stay with off | few | lowest
    · exact absurd (on.symm.trans off) (by decide)
    · exact absurd many (Nat.not_lt.mpr few)
    · rw [if_pos lowest]
      exact still
  next => exact still

theorem State.Frame.withOut {u t : State} (h : State.Frame u t) : State.Frame { u with out := t.out } t :=
  { h with out := ⟨[], rfl⟩ }

theorem downShiftIntervalEnd_completes (l : Fin 64) (s : State) (up : (s.lane l).step = .up) :
    Completes (.downShiftIntervalEnd l) s fun t =>
    (s.flag .sxlCfg l 0 4 = true → max 1 (s.field .sxlCfg l 0 8 8) < (s.lane l).uncorrectable → (s.lane l).mode ≠ 0 →
      (t.lane l).step = .switching ((s.lane l).mode - 1) ∧
      (t.lane l).downs.toNat = min 65535 ((s.lane l).downs.toNat + 1) ∧ (t.lane l).uncorrectable = 0) ∧
    (s.flag .sxlCfg l 0 4 = false ∨ (s.lane l).uncorrectable ≤ max 1 (s.field .sxlCfg l 0 8 8) ∨ (s.lane l).mode = 0 →
      t.lane l = { s.lane l with uncorrectable := 0 }) ∧
    State.Frame { s with lanes := t.lanes, out := t.out, backWait := t.backWait, marks := t.marks } t := by
  refine completes_of_effect (downShiftIntervalEnd_run l s) ?_
  rw [if_neg (not_not_intro up)]
  refine ⟨fun on many higher => ?_, fun stay => ?_, ?_⟩
  · rw [settle_lane, secondPast_of_shift on many higher]
    refine ⟨congrArg LaneStep.switching ?_, ?_, rfl⟩
    · exact (by decide : ∀ m : BitVec 2, m ≠ 0 → BitVec.ofNat 2 (m.toNat - 1) = m - 1) _ higher
    · change (BitVec.ofNat 16 _).toNat = _
      rw [BitVec.toNat_ofNat, Nat.mod_eq_of_lt (by omega), Nat.min_comm]
  · rw [settle_lane]
    exact secondPast_of_stay stay
  · have same := secondPast_same s l
    rw [settle_lanes, settle_backWait]
    generalize s.secondPast l = u at same
    have frame := (settle_frame s u).withOut
    unfold State.SameButLink at same
    exact frame.of_raised (by rw [same])

/-- Settles O16: each instant acts on a lane that stands at its step, and on no other. -/
theorem laneBringUp : Obligations.LaneBringUp := by
  unfold Obligations.LaneBringUp
  refine ⟨⟨switchTimeout_completes, restartWaitEnd_completes, reneg_completes⟩, downShiftIntervalEnd_completes, fun l s sound =>
    ⟨fun other => completes_idle (exec_switchTimeout l s) ?_ sound, fun other => completes_idle (exec_restartWaitEnd l s) (if_neg other) sound,
      fun other => completes_idle (downShiftIntervalEnd_run l s) (if_pos other) sound⟩⟩
  dsimp only
  split
  next m switching => exact absurd switching (other m)
  next => rfl

end Sys2Proof.Machine
end

section
/-!
SUPPORT. HUB_STATUS (R103), and the packets of a lane that change no frame (R107, R269). From these O18 and O19.
-/
namespace Sys2Proof.Machine

/-! ### HUB_STATUS (O18) -/

theorem exec_hubStatus (l : Fin 64) (k : Fin 8) (p : List Byte) (crc : BitVec 16) (s : State) :
    exec (.hubStatus l k p crc) s = effect (fun s => s.hubPacket l.val k.val p crc) s := rfl

/-- Step 3 of bring-up takes nothing of what is known of the hub. -/
theorem tryStep3_keeps (s : State) (l : Nat) : s.SameButLink (s.tryStep3 l) ∧
    ((s.tryStep3 l).lane l).hubOk = (s.lane l).hubOk ∧ ((s.tryStep3 l).lane l).hubVersion = (s.lane l).hubVersion ∧
    ((s.tryStep3 l).lane l).hubMode = (s.lane l).hubMode ∧ ((s.tryStep3 l).lane l).hubClock = (s.lane l).hubClock := by
  unfold State.tryStep3
  extract_lets x
  split
  · refine ⟨switchLane_same .., ?_⟩
    rw [switchLane_lane, if_pos rfl]
    split <;> exact ⟨rfl, rfl, rfl, rfl⟩
  · exact ⟨rfl, rfl, rfl, rfl, rfl⟩

/-- The SXL_HUB registers show the hub's status. -/
def State.hubShown (s : State) (l : Nat) (b : List Byte) : State :=
  ((s.setReg .sxlHubInfo l 0 (BitVec.ofNat 32 (leAt b 0 4))).setReg .sxlHubIdLo l 0 (BitVec.ofNat 32 (leAt b 8 4))).setReg
    .sxlHubIdHi l 0 (BitVec.ofNat 32 (leAt b 12 4))

theorem hubShown_regs (s : State) (l : Fin 64) (b : List Byte) :
    (s.hubShown l b).reg .sxlHubInfo l = BitVec.ofNat 32 (leAt b 0 4) ∧
    (s.hubShown l b).reg .sxlHubIdLo l = BitVec.ofNat 32 (leAt b 8 4) ∧
    (s.hubShown l b).reg .sxlHubIdHi l = BitVec.ofNat 32 (leAt b 12 4) := by
  unfold State.hubShown
  refine ⟨?_, ?_, State.reg_setReg_self ..⟩
  · rw [reg_setReg_of_name (by decide) l.isLt _ _ l.isLt, reg_setReg_of_name (by decide) l.isLt _ _ l.isLt, State.reg_setReg_self]
  · rw [reg_setReg_of_name (by decide) l.isLt _ _ l.isLt, State.reg_setReg_self]

/-- The lane knows its hub. -/
def Lane.knowing (x : Lane) (b : List Byte) (clock : Nat) : Lane :=
  { x with hubOk := true, hubVersion := byteAt b 0, hubMode := BitVec.ofNat 2 (byteAt b 1).toNat, hubClock := some clock
           hubBytes := BitVec.ofNat 32 (leAt b 2 4) }

theorem hubStatus_eq (s : State) (l : Nat) (b : List Byte) : ∃ u : State, s.hubStatus l b = u.tryStep3 l ∧
    u.regs = (s.hubShown l b).regs ∧ u.lane l = (s.lane l).knowing b s.clock := by
  refine ⟨_, rfl, ?_, ?_⟩
  · split <;> rfl
  · have known := lane_setLane_self (s.hubShown l b) l ((s.lane l).knowing b s.clock)
    split <;> exact known

theorem hubPacket_taken {s : State} {l : Nat} {k : Fin 8} {p : List Byte} {crc : BitVec 16} (lock : (s.lane l).lock = true)
    (lit : s.dark = false) (plain : (s.lane l).step = .up → s.replaying l = false) (vc : k = 0) (len : p.length = 16)
    (sound : crc16 p = crc) : s.hubPacket l k p crc = s.hubStatus l p := by
  have drops : (decide ((s.lane l).step = .up) && s.replaying l) = false := by
    by_cases up : (s.lane l).step = .up
    · rw [plain up, Bool.and_false]
    · rw [decide_eq_false up]
      rfl
  unfold State.hubPacket
  rw [lock, lit, if_neg (by decide), drops, if_neg (by decide), if_neg (by simp [vc, len, sound])]

theorem hubPacket_bad {s : State} {l : Nat} {k : Fin 8} {p : List Byte} {crc : BitVec 16}
    (bad : k ≠ 0 ∨ p.length ≠ 16 ∨ crc16 p ≠ crc) (plain : (s.lane l).step = .up → s.replaying l = false) :
    s.hubPacket l k p crc = s := by
  have drops : (decide ((s.lane l).step = .up) && s.replaying l) = false := by
    by_cases up : (s.lane l).step = .up
    · rw [plain up, Bool.and_false]
    · rw [decide_eq_false up]
      rfl
  have form : (k.val ≠ 0 || p.length ≠ 16 || crc16 p ≠ crc) = true := by
    simp only [Bool.or_eq_true, decide_eq_true_eq]
    rcases bad with vc | len | crc
    · exact .inl (.inl fun zero => vc (Fin.ext zero))
    · exact .inl (.inr len)
    · exact .inr crc
  unfold State.hubPacket
  rw [drops, form]
  exact ite_self _

/-- A command that counts an event in one register, and no more. -/
theorem completes_bump {c : Instr} {s v : State} {f : State → State} {n : RegName} {i j : Nat} (run : exec c s = effect f s)
    (sound : v.Sound) (seq : v.markSeq = s.markSeq) (pend : v.pending = s.pending) (ends : f s = v.bump n i j) :
    Completes c s fun t => t = v.bump n i j := by
  have still : (v.bump n i j).Sound := by
    obtain ⟨raised, held, service⟩ := sound
    exact ⟨raised, held, service⟩
  refine completes_of_effect run ?_
  rw [ends]
  exact still.settle_eq seq pend

/-- Settles O18: HUB_STATUS by its form, its lane and its mill. -/
theorem hubStatusIsTaken : Obligations.HubStatusIsTaken := by
  unfold Obligations.HubStatusIsTaken
  refine fun l k p crc s => ⟨fun lock lit plain vc len intact => ?_, fun sound bad plain => ?_, fun sound off => ?_,
    fun sound lock lit up replays => ?_⟩
  · refine completes_of_effect (exec_hubStatus l k p crc s) ?_
    rw [hubPacket_taken lock lit plain vc len intact]
    obtain ⟨u, eq, regs, lane⟩ := hubStatus_eq s l p
    obtain ⟨same, ok, version, mode, clock⟩ := tryStep3_keeps u l
    have reg : ∀ n, (u.tryStep3 l).reg n l = (s.hubShown l p).reg n l := fun n => by
      rw [State.reg, same]
      exact congrArg (fun r => Store.get _ r _) regs
    obtain ⟨info, lo, hi⟩ := hubShown_regs s l p
    rw [eq, settle_reg_lane _ _ (by decide) rfl l (by decide), settle_reg_lane _ _ (by decide) rfl l (by decide),
      settle_reg_lane _ _ (by decide) rfl l (by decide), settle_lane, ok, version, mode, clock, lane, reg, reg, reg]
    exact ⟨info, lo, hi, rfl, rfl, rfl, rfl⟩
  · exact completes_idle (exec_hubStatus l k p crc s) (hubPacket_bad bad plain) sound
  · refine completes_idle (exec_hubStatus l k p crc s) (if_pos ?_) sound
    rcases off with off | dark
    · rw [off]
      rfl
    · rw [dark]
      exact Bool.or_true _
  · refine completes_bump (exec_hubStatus l k p crc s) sound rfl rfl ?_
    unfold State.hubPacket
    rw [lock, lit, if_neg (by decide), up, replays]
    rfl

/-! ### Packets that change no frame (O19) -/

/-- A packet that reaches its port by way of its lane. -/
theorem exec_of_lane (l : Fin 64) (k : Fin 8) (n : BitVec 16) (dt : BitVec 6) (p : List Byte) (crc : BitVec 16) (c : Instr)
    (mem : c ∈ [Instr.fe l k n, .ls l k n, .le l k n, .pixelPacket l k dt p crc, .frameTag l k p crc, .unknownDataType l k dt])
    (s : State) : ∃ f, exec c s = effect (fun s => s.fromLane (portIx l k) f) s := by
  fin_cases mem
  all_goals exact ⟨_, rfl⟩

theorem portIx_lane (l : Fin 64) (k : Fin 8) : portIx l k / 8 = l.val := by
  have := k.isLt
  unfold portIx
  omega

theorem portIx_port (l : Fin 64) (k : Fin 8) : portIx l k % 8 = k.val := by
  have := k.isLt
  unfold portIx
  omega

theorem fromLane_refused {s : State} {l : Fin 64} {k : Fin 8} (takes : s.laneTakes l = true)
    (refuses : s.portTakes (portIx l k) = false) (f : State → State) : s.fromLane (portIx l k) f = s.bump .sxlUnexp l := by
  unfold State.fromLane
  rw [portIx_lane, takes, refuses]
  rfl

theorem fromLane_of_down {s : State} {l : Fin 64} (down : s.laneTakes l = false) (k : Fin 8) (f : State → State) :
    s.fromLane (portIx l k) f = s := by
  unfold State.fromLane
  rw [portIx_lane, down]
  rfl

theorem fromLane_taken {s : State} {l : Fin 64} {k : Fin 8} (takes : s.TakesPackets (portIx l k)) (f : State → State) :
    s.fromLane (portIx l k) f = f s := by
  obtain ⟨lane, port⟩ := takes
  unfold State.fromLane
  rw [lane, port]
  rfl

theorem exec_fs (l : Fin 64) (k : Fin 8) (n : BitVec 16) (dt : Nat) (s : State) : exec (.fs l k n dt) s = effect (fun s =>
    let s := s.elapse dt
    s.fromLane (portIx l k) fun s => s.frameStart (portIx l k) { t := s.tickNs, stamp := s.stampAhead 0, count := n }) s := rfl

theorem exec_mbxRsp (l : Fin 64) (k : Fin 8) (p : List Byte) (crc : BitVec 16) (s : State) :
    exec (.mbxRsp l k p crc) s = effect (fun s => s.boxFromLane l.val fun s => s.mbxPacket (portIx l k) p crc) s := rfl

/-- Settles O19: what a lane's packets do before they reach a frame. -/
theorem packetsThatChangeNoFrame : Obligations.PacketsThatChangeNoFrame := by
  unfold Obligations.PacketsThatChangeNoFrame
  refine ⟨fun l k n dt p crc c s sound mem takes refuses => ?_, fun l k n dt s sound takes refuses => ?_,
    fun l k p crc s sound takes replays => ?_, fun l k n dt p crc c s sound mem down => ?_, fun l k n dt s sound down => ?_,
    fun l vc wc s sound => completes_idle (f := fun s => s) rfl rfl sound, fun l k line s sound takes => ?_⟩
  · obtain ⟨f, run⟩ := exec_of_lane l k n dt p crc c mem s
    exact completes_bump run sound rfl rfl (fromLane_refused takes refuses f)
  · exact completes_bump (exec_fs l k n dt s) (sound.elapse dt) rfl rfl (fromLane_refused (s := s.elapse dt) takes refuses _)
  · refine completes_bump (exec_mbxRsp l k p crc s) sound rfl rfl ?_
    unfold State.boxFromLane
    rw [takes, replays]
    rfl
  · rw [show [Instr.fe l k n, .ls l k n, .le l k n, .pixelPacket l k dt p crc, .frameTag l k p crc, .unknownDataType l k dt,
      .mbxRsp l k p crc] = [Instr.fe l k n, .ls l k n, .le l k n, .pixelPacket l k dt p crc, .frameTag l k p crc,
      .unknownDataType l k dt] ++ [.mbxRsp l k p crc] from rfl, List.mem_append, List.mem_singleton] at mem
    rcases mem with mem | rfl
    · obtain ⟨f, run⟩ := exec_of_lane l k n dt p crc c mem s
      exact completes_idle run (fromLane_of_down down k f) sound
    · refine completes_idle (exec_mbxRsp l k p crc s) ?_ sound
      unfold State.boxFromLane
      rw [down]
      rfl
  · refine completes_chain (exec_fs l k n dt s) (sound.elapse dt) rfl rfl (fromLane_of_down (s := s.elapse dt) down k _) rfl rfl rfl
  · exact completes_idle (f := fun s => s.fromLane (portIx l k) fun s => s) rfl (fromLane_taken takes _) sound

end Sys2Proof.Machine
end

section
/-!
SUPPORT. Frames (05, 09): what a mill's work on a frame, its records and its stone lines may change, what the close of a frame may, and
what of a port's frames each leaves as it was.
-/
namespace Sys2Proof.Machine

/-! ### Footprints of a mill's work -/

/-- What the lines that pass and the records that they leave may change: no port, and of the registers those of the mills and
the rings. -/
def workSide : Footprint where
  has
    | .dram | .upsets | .chans | .raised | .walls | .funnels | .mills => true
    | _ => false
  regs off := decide (0x100000 ≤ off) && decide (off < 0x400000)

/-- What a slice in service may change: the frames of the ports too. -/
def sliceSide : Footprint where
  has
    | .ports => true
    | f => workSide.has f
  regs := workSide.regs

/-- What the close of a frame may change: the registers of DRAM and the port's status too. -/
def closeSide : Footprint where
  has := sliceSide.has
  regs off := decide (0x100000 ≤ off) || regsNamed [.sxlPstat] off

theorem workSide_mill {n : RegName} {m j : Nat} (hm : m < 64) (s1 : n.row.s1 = 0x4000) (base : 0x100000 ≤ n.row.base ∧ n.row.base < 0x100710)
    (s2 : n.row.s2 * j ≤ 0x100) : workSide.regs (n.off m j) = true := by
  have mill : millRegs (n.off m j) = true := noticeSide_mill hm s1 base s2
  simp only [millRegs, Bool.and_eq_true, decide_eq_true_eq] at mill
  simp only [workSide, Bool.and_eq_true, decide_eq_true_eq]
  omega

theorem workSide_port {n : RegName} {i : Nat} (hi : i < 512) (s1 : n.row.s1 = 0x4000) (base : 0x100000 ≤ n.row.base ∧ n.row.base < 0x100710)
    (s2 : n.row.s2 = 0x10) : workSide.regs (n.off (i / 8) (i % 8)) = true :=
  workSide_mill (by omega) s1 base (by rw [s2]; omega)

theorem workSide_ringSeq (r : Nat) : workSide.regs (RegName.ringSeq.off (r % 1024) 0) = true := by
  have := Nat.mod_lt r (show 1024 > 0 by decide)
  simp only [workSide, RegName.off, RegName.row, Bool.and_eq_true, decide_eq_true_eq]
  omega

theorem closeSide_above {off : Nat} (h : 0x100000 ≤ off) : closeSide.regs off = true := by
  simp [closeSide, h]

theorem sxlPort_lt {n : RegName} (n1 : n.row.n1 = 64) {i : Nat} (hi : i < 512) : i / 8 < n.row.n1 := by
  rw [n1]
  omega

theorem mem_tapsOf {m : Bank} {k : Nat} {e : Nat × TapCfg} (h : e ∈ tapsOf m k) : e.1 < 4 := by
  unfold tapsOf at h
  obtain ⟨t, ht, rfl⟩ := List.mem_map.mp (List.mem_filter.mp h).1
  exact List.mem_range.mp ht

namespace State.Within

variable {s t : State}

theorem noticed (h : s.Within noticeSide t) : s.Within workSide t := h.mono (fun f => by cases f <;> decide) fun off no => by
  by_cases mill : millRegs off = true
  · simp only [millRegs, Bool.and_eq_true, decide_eq_true_eq] at mill
    simp only [workSide, Bool.and_eq_false_iff, decide_eq_false_iff_not] at no
    omega
  · exact Bool.eq_false_iff.mpr mill

theorem sliced (h : s.Within workSide t) : s.Within sliceSide t := h.mono (fun f => by cases f <;> decide) fun _ no => no

theorem closed (h : s.Within sliceSide t) : s.Within closeSide t := h.mono (fun _ no => no) fun off no => by
  simp only [closeSide, Bool.or_eq_false_iff, decide_eq_false_iff_not] at no
  simp [sliceSide, workSide, no.1]

/-! ### Funnels, taps and statistics -/

theorem funnelPut {m f : Nat} (hm : m < 64) (hf : f < 5) (ring due : Nat) (bytes : List Byte) :
    s.Within workSide (s.funnelPut m f ring due bytes) := by
  have lossS : workSide.regs (RegName.millFunLossS.off m 0) = true := workSide_mill hm rfl (by decide) (by decide)
  have loss : workSide.regs (RegName.millFunLoss.off m f) = true := workSide_mill hm rfl (by decide) (funnelReg_small hf rfl)
  unfold State.funnelPut
  extract_lets q old r n s1 q' lost was s2 s3 s4
  have numbered : s.Within workSide s1 := setReg (workSide_ringSeq ring) _
  have counted : s1.Within workSide s2 := ite (refl _ _) (ite (bump lossS) (bump loss))
  have told : s2.Within workSide s3 := ite (raise _ _ rfl) (refl _ _)
  have put : s3.Within workSide s4 := setFunnel _ _ rfl
  exact (((numbered.trans counted).trans told).trans put).trans (funMoved hm hf _).noticed

theorem tapProgress {i : Nat} (hi : i < 512) (was f : Machine.Frame) : s.Within workSide (s.tapProgress i was f) :=
  foldl _ (fun s e mem => ite (refl _ _) (foldl _ (fun _ _ _ =>
    funnelPut (by omega) (Nat.lt_succ_of_lt (mem_tapsOf mem)) _ _ _) _)) _

theorem tapCloses {i : Nat} (hi : i < 512) (f : Machine.Frame) : s.Within workSide (s.tapCloses i f) :=
  foldl _ (fun s e mem => ite (funnelPut (by omega) (Nat.lt_succ_of_lt (mem_tapsOf mem)) _ _ _) (refl _ _)) _

theorem putStats {i : Nat} (hi : i < 512) (f : Machine.Frame) (recs : List (List Byte)) : s.Within workSide (s.putStats i f recs) := by
  unfold State.putStats
  extract_lets ring
  exact ite (foldl _ (fun _ _ _ => funnelPut (by omega) (by decide) _ _ _) _) (refl _ _)

theorem shortRecords {i : Nat} (hi : i < 512) (f : Machine.Frame) : s.Within workSide (s.shortRecords i f) :=
  (tapCloses hi f).trans (putStats hi f _)

/-! ### Stone lines -/

theorem writeDram_work (a : Nat) (bs : List Byte) : s.Within workSide (s.writeDram a bs) :=
  .update [.dram, .upsets] rfl (by rw [writeDram_frame]; rfl)

theorem stageRows (w : Nat) (rows : List HeldRow) : s.Within workSide (s.stageRows w rows) := by
  refine foldl _ (fun s r _ => ite (setWall _ _ rfl) ?_) _
  unfold State.putRow
  split
  · exact writeDram_work _ _
  · exact refl _ _

theorem stoneLine (w k : Nat) (b : Bank) (buf : Bool) (pa : Nat) (e : Nat × Stone) (cut : CutStone) (j : Nat) :
    s.Within workSide (s.stoneLine w k b buf pa e cut j) :=
  ite (refl _ _) (ite ((setWall _ _ rfl).trans (raise _ _ rfl)) (stageRows _ _))

theorem stoneProgress (i : Nat) (was f : Machine.Frame) : s.Within workSide (s.stoneProgress i was f) :=
  foldl _ (fun _ _ _ => ite (refl _ _) (foldl _ (fun _ _ _ => ite (refl _ _) (foldl _ (fun _ _ _ => stoneLine _ _ _ _ _ _ _ _) _)) _)) _

theorem progress {i : Nat} (hi : i < 512) (was f : Machine.Frame) : s.Within workSide (s.progress i was f) :=
  (tapProgress hi was f).trans (stoneProgress i was f)

/-! ### Status words -/

theorem noteLast {i : Nat} (hi : i < 512) (f : Machine.Frame) : s.Within workSide (s.noteLast i f) :=
  ite (refl _ _) (setReg (workSide_port hi rfl (by decide) rfl) _)

theorem noteExposure {i : Nat} (hi : i < 512) (f : Machine.Frame) : s.Within workSide (s.noteExposure i f) :=
  (setReg (workSide_port hi rfl (by decide) rfl) _).trans (setReg (workSide_port hi rfl (by decide) rfl) _)

theorem lineMoved {i : Nat} (hi : i < 512) (old : Nat) : s.Within noticeSide (s.lineMoved i old) := by
  have port : ∀ {n : RegName}, n.row.s1 = 0x4000 → (0x100000 ≤ n.row.base ∧ n.row.base < 0x100710) → n.row.s2 = 0x10 →
      noticeSide.regs (n.off (i / 8) (i % 8)) = true :=
    fun s1 base s2 => noticeSide_mill (by omega) s1 base (by rw [s2]; omega)
  unfold State.lineMoved
  extract_lets new s1
  have peak : s.Within noticeSide s1 := setReg (port rfl (by decide) rfl) _
  exact peak.trans (crossing (by omega) _ _ _ _ (bump (port rfl (by decide) rfl)))

theorem applyGen {i : Nat} (hi : i < 512) (f : Machine.Frame) : s.Within workSide (s.applyGen i f).2 := by
  have mism : workSide.regs (RegName.millStMism.off (i / 8) (i % 8)) = true := workSide_port hi rfl (by decide) rfl
  unfold State.applyGen
  split
  next g src =>
  split
  · split
    · exact ite (refl _ _) ((bump mism).trans (raise _ _ rfl))
    · exact refl _ _
  · exact refl _ _

/-! ### Slices and the close -/

theorem setFrame (i : Nat) (f : Machine.Frame) : s.Within sliceSide (s.setFrame i f) := setPort _ _ rfl

theorem decided (m : Nat) : s.Within workSide (s.decideMill m) := by
  unfold State.decideMill
  extract_lets x p
  split
  · exact refl _ _
  · split
    · exact refl _ _
    · exact setMill _ _ rfl

theorem finish {i : Nat} (hi : i < 512) (f : Machine.Frame) : s.Within sliceSide (s.finish i f) := by
  unfold State.finish
  extract_lets s1 g s2
  have stored : s.Within workSide s1 := by
    unfold s1
    split
    · exact ite (writeDram_work _ _) (refl _ _)
    · exact refl _ _
  have told : s1.Within sliceSide s2 := ((setFrame i g).trans (noteLast hi g).sliced).trans (tapCloses hi g).sliced
  refine (stored.sliced.trans told).trans ?_
  split
  · exact ite (putStats hi _ _).sliced (refl _ _)
  · exact refl _ _

theorem finishIfDone {i : Nat} (hi : i < 512) : s.Within sliceSide (s.finishIfDone i) := by
  unfold State.finishIfDone
  split
  · exact ite (finish hi _) (refl _ _)
  · exact refl _ _

theorem slicePast {i : Nat} (hi : i < 512) (f : Machine.Frame) : s.Within sliceSide (s.slicePast i f) := by
  unfold State.slicePast
  split
  · exact setFrame _ _
  · extract_lets old g
    exact (((setFrame i g).trans (lineMoved hi old).noticed.sliced).trans (progress hi f g).sliced).trans (finishIfDone hi)

theorem addCause (i cause : Nat) (n : BitVec 48) : s.Within sliceSide (s.addCause i cause n) := setPort _ _ rfl

theorem readReference (i : Nat) (f : Machine.Frame) : s.Within dramSide (s.readReference i f).2 := by
  unfold State.readReference
  split
  · exact refl _ _
  · split
    · exact refl _ _
    · split
      · exact refl _ _
      · exact readDram _ _

theorem closeWork {i : Nat} (hi : i < 512) (f : Machine.Frame) : s.Within closeSide (s.closeWork i f).2 := by
  have port : ∀ {n : RegName}, n.row.s1 = 0x4000 → (0x100000 ≤ n.row.base ∧ n.row.base < 0x100710) → n.row.s2 = 0x10 →
      sliceSide.regs (n.off (i / 8) (i % 8)) = true := fun s1 base s2 => workSide_port hi s1 base s2
  have read : s.Within closeSide (if f.bind.tnr = true then s.readReference i f else (([], fun _ => false), s)).2 := by
    split
    · exact (readReference i f).mono (fun f => by cases f <;> decide) fun off no => decide_eq_false fun high => by
        rw [closeSide_above (by omega)] at no
        cases no
    · exact refl _ _
  unfold State.closeWork
  extract_lets m k
  split
  next stored bad u made =>
  rw [made] at read
  extract_lets w g s1 s2 s3
  have spoilt : u.Within sliceSide s1 := ite (refl _ _) ((bump (port rfl (by decide) rfl)).trans (raise _ _ rfl))
  have cut : s1.Within sliceSide s2 := ite (addCause _ _ _) (refl _ _)
  have front : s2.Within sliceSide s3 := (bump (port rfl (by decide) rfl)).trans (setReg (port rfl (by decide) rfl) _)
  exact read.trans ((((spoilt.trans cut).trans front).trans
    (((bump (port rfl (by decide) rfl)).trans (setReg (port rfl (by decide) rfl) _)).trans (setFrame i g))).closed)

end State.Within

end Sys2Proof.Machine
end

section
/-!
SUPPORT. The close and the opening of a frame (R106 to R109): what becomes of the frames of a port. From this O20.
-/
namespace Sys2Proof.Machine

/-! ### Frames of one tick -/

/-- Every frame of a tick that port i holds is as `P` says. -/
def State.FramesAt (s : State) (i tick : Nat) (P : Machine.Frame → Prop) : Prop := ∀ g ∈ (s.port i).frames, g.tick = tick → P g

theorem port_of_ports {s t : State} (h : t.ports = s.ports) (i : Nat) : t.port i = s.port i := by
  unfold State.port
  rw [h]

theorem openFrame_of_ports {s t : State} (h : t.ports = s.ports) (i : Nat) : t.openFrame i = s.openFrame i := by
  unfold State.openFrame
  rw [port_of_ports h]

theorem port_setPort_self (s : State) (i : Nat) (x : Port) : (s.setPort i x).port i = x := (State.port_setPort ..).trans (if_pos rfl)

theorem port_setFrame (s : State) (i : Nat) (f : Frame) : (s.setFrame i f).port i =
    { s.port i with frames := (s.port i).frames.map fun g => if g.tick = f.tick then f else g } := port_setPort_self ..

theorem frames_setFrame (s : State) (i : Nat) (f : Frame) : ((s.setFrame i f).port i).frames =
    (s.port i).frames.map fun g => if g.tick = f.tick then f else g := congrArg Port.frames (port_setFrame s i f)

theorem frames_addCause (s : State) (i cause : Nat) (n : BitVec 48) : ((s.addCause i cause n).port i).frames = (s.port i).frames :=
by
  unfold State.addCause
  rw [port_setPort_self]

namespace State.FramesAt

variable {s t : State} {i tick : Nat} {P : Machine.Frame → Prop}

theorem of_frames (h : s.FramesAt i tick P) (same : (t.port i).frames = (s.port i).frames) : t.FramesAt i tick P := by
  unfold State.FramesAt
  rw [same]
  exact h

theorem of_ports (h : s.FramesAt i tick P) (same : t.ports = s.ports) : t.FramesAt i tick P :=
  h.of_frames (by rw [port_of_ports same])

theorem setFrame (h : s.FramesAt i tick P) {f : Machine.Frame} (own : f.tick = tick → P f) : (s.setFrame i f).FramesAt i tick P := by
  intro g mem at_tick
  rw [frames_setFrame] at mem
  obtain ⟨x, hx, rfl⟩ := List.mem_map.mp mem
  by_cases e : x.tick = f.tick
  · rw [if_pos e] at at_tick ⊢
    exact own at_tick
  · rw [if_neg e] at at_tick ⊢
    exact h x hx at_tick

theorem of_setFrame {f : Machine.Frame} (own : P f) : (s.setFrame i f).FramesAt i f.tick P := by
  intro g mem at_tick
  rw [frames_setFrame] at mem
  obtain ⟨x, hx, rfl⟩ := List.mem_map.mp mem
  by_cases e : x.tick = f.tick
  · rw [if_pos e]
    exact own
  · rw [if_neg e] at at_tick
    exact absurd at_tick e

end State.FramesAt

/-- The same frame as far as its lines and its end go. -/
structure Frame.SameContent (f g : Frame) : Prop where
  tick : g.tick = f.tick
  isOpen : g.isOpen = f.isOpen
  lines : g.lines = f.lines
  status : g.status = f.status
  processed : g.processed = f.processed

theorem applyGen_content (s : State) (i : Nat) (f : Frame) : f.SameContent (s.applyGen i f).1 := by
  unfold State.applyGen
  split
  split
  · split <;> exact ⟨rfl, rfl, rfl, rfl, rfl⟩
  · exact ⟨rfl, rfl, rfl, rfl, rfl⟩

/-- The work of a frame that closes is noted in it. -/
theorem closeWork_framesAt {s : State} {i tick : Nat} {P : Frame → Prop} (h : s.FramesAt i tick P) {f : Frame}
    (own : ∀ g, f.SameContent g → g.tick = tick → P g) : (s.closeWork i f).2.FramesAt i tick P := by
  have read : (if f.bind.tnr = true then s.readReference i f else (([], fun _ => false), s)).2.ports = s.ports := by
    split
    · exact (State.Within.readReference i f).field .ports rfl
    · rfl
  unfold State.closeWork
  extract_lets m k
  split
  next stored bad u made =>
  rw [made] at read
  extract_lets w g s1 s2 s3
  have spoilt : s1.ports = s.ports := (show s1.ports = u.ports by unfold s1; split <;> rfl).trans read
  have cut : (s2.port i).frames = (s.port i).frames := by
    refine Eq.trans ?_ (by rw [← port_of_ports spoilt])
    unfold s2
    split
    · exact frames_addCause ..
    · rfl
  have ports : ∀ (v : State) (n : RegName) (x : Word), (v.setReg n m k x).ports = v.ports := fun _ _ _ => rfl
  have held : (((s3.bump .millCoClip m k w.back.clip).setReg .millCoStat m k g.cstat).port i).frames = (s.port i).frames :=
    (congrArg Port.frames (port_of_ports (s := s2) (by unfold s3 State.bump; simp only [ports]) i)).trans cut
  exact (h.of_frames held).setFrame (own g ⟨rfl, rfl, rfl, rfl, rfl⟩)

theorem reportClose_framesAt {s : State} {i tick : Nat} (hi : i < 512) {P : Frame → Prop} (h : s.FramesAt i tick P) {f : Frame}
    (own : ∀ g, f.SameContent g → g.tick = tick → P g) : (s.reportClose i f).FramesAt i tick P := by
  have told := applyGen_content s i f
  have ports : (s.applyGen i f).2.ports = s.ports := (State.Within.applyGen hi f).field .ports rfl
  unfold State.reportClose
  extract_lets was
  split
  next g u made =>
  rw [made] at told ports
  have worked := closeWork_framesAt (h.of_ports ports) (f := { g with shed := g.shed || u.tick.shed || u.reduced })
    fun x same => own x ⟨same.tick.trans told.tick, same.isOpen.trans told.isOpen, same.lines.trans told.lines,
      same.status.trans told.status, same.processed.trans told.processed⟩
  split
  next x v made =>
  rw [made] at worked
  extract_lets s1 s2 s3 s4
  have noted : s2.ports = v.ports := (State.Within.noteExposure (s := s1) hi x).field .ports rfl
  have raised : s3.ports = v.ports := (show s3.ports = s2.ports by unfold s3; split <;> rfl).trans noted
  have caused : (s4.port i).frames = (v.port i).frames := by
    refine Eq.trans ?_ (by rw [← port_of_ports raised])
    unfold s4
    split
    · exact frames_addCause ..
    · rfl
  exact (worked.of_frames caused).of_ports ((State.Within.progress hi _ _).field .ports rfl)

theorem finishIfDone_framesAt {s : State} {i tick : Nat} (hi : i < 512) {P : Frame → Prop} (h : s.FramesAt i tick P)
    (done : ∀ g shed, P g → P { g with processed := true, shed := shed, lines := [] }) : (s.finishIfDone i).FramesAt i tick P := by
  unfold State.finishIfDone
  split
  next f found =>
    split
    · have mem : f ∈ (s.port i).frames := List.mem_of_find?_eq_some found
      unfold State.finish
      extract_lets s1 g s2
      have stored : s1.ports = s.ports := by
        unfold s1
        split
        · split
          · exact (State.Within.writeDram_work _ _).field .ports rfl
          · rfl
        · rfl
      have set : (s1.setFrame i g).FramesAt i tick P := (h.of_ports stored).setFrame fun at_tick => done f _ (h f mem at_tick)
      have told : s2.FramesAt i tick P :=
        set.of_ports (((State.Within.noteLast hi g).trans (State.Within.tapCloses hi g)).field .ports rfl)
      split
      · split
        · exact told.of_ports ((State.Within.putStats hi _ _).field .ports rfl)
        · exact told
      · exact told
    · exact h
  · exact h

/-! ### The close -/

/-- A frame as it closes, with further status bits. -/
def Frame.shut (f : Frame) (extra : BitVec 8) : Frame :=
  let h := trayH f.bind.ptray
  let n := h - f.lines.length
  let untagged := match f.tag with
    | some t => !t.matching
    | none => true
  let es := f.lines.map (LineEntry.ended (trayDt f.bind.ptray) (lineBytes f.bind.ptray))
  { f with isOpen := false, lines := es.map (·.1) ++ List.replicate n .filled,
           status := f.status ||| extra ||| (if n = 0 then 0 else 4) ||| (if untagged then 64 else 0)
             ||| (if es.any (·.2) then 8 else 0) }

/-- The frame has ended as it closed; the mill keeps its lines until it has worked them up. -/
structure Frame.EndedAs (f g : Frame) : Prop where
  isOpen : g.isOpen = false
  lines : g.processed = false → g.lines = f.lines
  status : g.status = f.status

/-- The state behind the close itself. -/
def State.shutFrame (s : State) (i : Nat) (f : Machine.Frame) : State := if f.bound then (s.setFrame i f).reportClose i f else s.setFrame i f

theorem closeFrame_eq {s : State} {i : Nat} {f : Frame} (h : s.openFrame i = some f) (extra : BitVec 8) :
    s.closeFrame i extra = ((s.shutFrame i (f.shut extra)).finishIfDone i).decideMill (i / 8) := by
  unfold State.closeFrame
  rw [h]
  rfl

theorem closeFrame_of_none {s : State} {i : Nat} (h : s.openFrame i = none) (extra : BitVec 8) : s.closeFrame i extra = s := by
  unfold State.closeFrame
  rw [h]

theorem closeFrame_ended {s : State} {i : Nat} (hi : i < 512) {f : Frame} (h : s.openFrame i = some f) (extra : BitVec 8) :
    (s.closeFrame i extra).FramesAt i f.tick (f.shut extra).EndedAs := by
  have same : ∀ g, (f.shut extra).SameContent g → g.tick = f.tick → (f.shut extra).EndedAs g :=
    fun g same _ => ⟨same.isOpen, fun _ => same.lines, same.status⟩
  have set : (s.setFrame i (f.shut extra)).FramesAt i f.tick (f.shut extra).EndedAs :=
    .of_setFrame (f := f.shut extra) ⟨rfl, fun _ => rfl, rfl⟩
  rw [closeFrame_eq h]
  have shut : (s.shutFrame i (f.shut extra)).FramesAt i f.tick (f.shut extra).EndedAs := by
    unfold State.shutFrame
    split
    · exact reportClose_framesAt hi set same
    · exact set
  exact (finishIfDone_framesAt hi shut fun g _ ended => ⟨ended.isOpen, nofun, ended.status⟩).of_ports
    ((State.Within.decided _).field .ports rfl)

theorem reportClose_within {s : State} {i : Nat} (hi : i < 512) (f : Frame) : s.Within closeSide (s.reportClose i f) := by
  have pstat : closeSide.regs (RegName.sxlPstat.off (i / 8) (i % 8)) = true := by
    have named : regsNamed [.sxlPstat] (RegName.sxlPstat.off (i / 8) (i % 8)) = true :=
      regsNamed_mem (List.mem_singleton_self _) (sxlPort_lt rfl hi) (Nat.mod_lt i (show 0 < 8 by decide))
    rw [show closeSide.regs _ = (_ || _) from rfl, named, Bool.or_true]
  have told : s.Within workSide (s.applyGen i f).2 := .applyGen hi f
  unfold State.reportClose
  extract_lets was
  split
  next g u made =>
  rw [made] at told
  have worked : u.Within closeSide (u.closeWork i { g with shed := g.shed || u.tick.shed || u.reduced }).2 := .closeWork hi _
  split
  next x v made =>
  rw [made] at worked
  extract_lets s1 s2 s3 s4
  have noted : v.Within closeSide s2 := (State.Within.setReg pstat _).trans (State.Within.noteExposure hi x).sliced.closed
  have raised : s2.Within closeSide s3 := .ite (.raise _ _ rfl) (.refl _ _)
  have caused : s3.Within closeSide s4 := .ite (State.Within.addCause _ _ _).closed (.refl _ _)
  exact ((((told.sliced.closed.trans worked).trans noted).trans raised).trans caused).trans (State.Within.progress hi _ _).sliced.closed

theorem closeFrame_within {s : State} {i : Nat} (hi : i < 512) (extra : BitVec 8) : s.Within closeSide (s.closeFrame i extra) := by
  cases h : s.openFrame i with
  | none => rw [closeFrame_of_none h]; exact .refl _ _
  | some f =>
    rw [closeFrame_eq h]
    have shut : s.Within closeSide (s.shutFrame i (f.shut extra)) :=
      .ite ((State.Within.setFrame _ _).closed.trans (reportClose_within hi _)) (State.Within.setFrame _ _).closed
    exact (shut.trans (State.Within.finishIfDone hi).closed).trans (State.Within.decided _).sliced.closed

/-! ### Opening -/

/-- What has come up for a frame that opens is spent; the frame stands last as it opens but for its restart cause. -/
theorem spendCauses_last {s : State} {i : Nat} {f : Frame} (last : (s.port i).frames.getLast? = some f) :
    ∃ c, ((s.spendCauses i f).port i).frames.getLast? = some { f with cause := c } := by
  unfold State.spendCauses
  extract_lets p due code s1 w s2
  have spent : (s2.port i).frames = (s.port i).frames := by
    refine (congrArg (fun q => (Store.get {} q i).frames) (?_ : s2.ports = s1.ports)).trans (congrArg Port.frames (port_setPort_self ..))
    unfold s2
    split <;> rfl
  split
  · refine ⟨code, ?_⟩
    refine (congrArg List.getLast? (frames_setFrame s2 i { f with cause := code })).trans ?_
    rw [spent, List.getLast?_map, last]
    exact congrArg some (if_pos rfl)
  · exact ⟨f.cause, by rw [spent, last]⟩

theorem spendCauses_clock (s : State) (i : Nat) (f : Frame) : (s.spendCauses i f).clock = s.clock := by
  unfold State.spendCauses
  extract_lets p due code s1 w s2
  have spent : s2.clock = s.clock := by
    unfold s2
    split <;> rfl
  split
  · exact spent
  · exact spent

/-- The frame of a period, as an FS opens it. -/
def State.opening (s : State) (q : Period) (a : FrameStart) : Machine.Frame :=
  { q.frame a.stamp s.tb1.errb with hubCount := a.count, shed := s.tick.shed || s.reduced }

/-- The frame before it has closed, and the period has opened. -/
def State.periodOpened (s : State) (i : Nat) (q : Period) : State := (s.closeFrame i 0).setPeriod i { q with opened := true }

/-- A frame is the port's newest. -/
def State.pushFrame (s : State) (i : Nat) (f : Machine.Frame) : State :=
  s.setPort i { s.port i with frames := (s.port i).frames ++ [f] }

theorem frames_pushFrame (s : State) (i : Nat) (f : Frame) : ((s.pushFrame i f).port i).frames = (s.port i).frames ++ [f] := by
  unfold State.pushFrame
  rw [port_setPort_self]

theorem openFor_eq (s : State) (i : Nat) (q : Period) (a : FrameStart) : s.openFor i q a =
    ((s.periodOpened i q).pushFrame i ((s.periodOpened i q).opening q a)).spendCauses i ((s.periodOpened i q).opening q a) := rfl

theorem openFor_last (s : State) (i : Nat) (q : Period) (a : FrameStart) : ∃ f, ((s.openFor i q a).port i).frames.getLast? = some f ∧
    f.isOpen = true ∧ f.tick = q.tick ∧ f.number = q.number ∧ f.bind = q.bind ∧ f.stamp = a.stamp ∧ f.hubCount = a.count ∧
    f.lines = [] ∧ f.status = 0 := by
  rw [openFor_eq]
  generalize s.periodOpened i q = u
  obtain ⟨c, last⟩ := spendCauses_last (s := u.pushFrame i (u.opening q a)) (i := i) (f := u.opening q a)
    (by rw [frames_pushFrame, List.getLast?_concat])
  exact ⟨_, last, rfl, rfl, rfl, rfl, rfl, rfl, rfl, rfl⟩

theorem openFor_clock (s : State) {i : Nat} (hi : i < 512) (q : Period) (a : FrameStart) : (s.openFor i q a).clock = s.clock := by
  rw [openFor_eq]
  exact (spendCauses_clock ..).trans ((closeFrame_within hi 0).field .clock rfl)

/-! ### O20 -/

theorem portIx_lt (l : Fin 64) (k : Fin 8) : portIx l k < 512 := by
  have := l.isLt
  have := k.isLt
  unfold portIx
  omega

theorem portIx_div_lt (l : Fin 64) (k : Fin 8) : portIx l k / 8 < 64 := by rw [portIx_lane]; exact l.isLt

theorem settle_port (s0 u : State) (i : Nat) : (settle s0 u).port i = u.port i := port_of_ports (settle_ports s0 u) i

theorem or_and_self_right (x y : BitVec 8) : (x ||| y) &&& y = y := by
  ext j
  simpa using fun h => .inr h

theorem shut_marked (f : Frame) (extra : BitVec 8) : (f.shut extra).status &&& extra = extra := by
  have marked : ∃ x, (f.shut extra).status = x ||| extra := by
    unfold Frame.shut
    extract_lets h n untagged es
    dsimp only
    generalize (if n = 0 then (0 : BitVec 8) else 4) = lines, (if untagged then (64 : BitVec 8) else 0) = tag,
      (if es.any (·.2) then (8 : BitVec 8) else 0) = short
    exact ⟨f.status ||| lines ||| tag ||| short, by ac_rfl⟩
  obtain ⟨x, e⟩ := marked
  rw [e, or_and_self_right]

theorem closeFrame_marked {s : State} {i : Nat} (hi : i < 512) (extra : BitVec 8) {f : Frame} (h : s.openFrame i = some f) :
    ∀ g ∈ ((s.closeFrame i extra).port i).frames, g.tick = f.tick → g.isOpen = false ∧ g.status &&& extra = extra :=
  fun g mem at_tick =>
    have ended := closeFrame_ended hi h extra g mem at_tick
    ⟨ended.isOpen, by rw [ended.status, shut_marked]⟩

theorem closeFrame_ports {s : State} {i : Nat} (h : s.openFrame i = none) (extra : BitVec 8) : (s.closeFrame i extra).ports = s.ports := by
  rw [closeFrame_of_none h]

/-- The windows that an FS may fall into. -/
def State.windowsAt (s : State) (i : Nat) (t : Int) : List Period :=
  (s.port i).periods.filter fun q => decide (q.bind.lo ≤ t) && decide (t < q.bind.hi)

section
variable {s : State} {i : Nat} {a : FrameStart}

theorem frameStart_opens {q : Period} (h : ((s.windowsAt i a.t).find? fun q => !q.opened && !q.missing) = some q) :
    s.frameStart i a = s.openFor i q a := by
  unfold State.frameStart
  dsimp only
  unfold State.windowsAt at h
  rw [h]

theorem frameStart_again (all : ((s.windowsAt i a.t).all fun q => q.opened || q.missing) = true)
    (some : ((s.windowsAt i a.t).any (·.opened)) = true) : s.frameStart i a = s.closeFrame i 16 := by
  have none : ((s.windowsAt i a.t).find? fun q => !q.opened && !q.missing) = none :=
    List.find?_eq_none.mpr fun q mem free => by
      have := List.all_eq_true.mp all q mem
      simp only [Bool.or_eq_true, Bool.and_eq_true, Bool.not_eq_true'] at this free
      rw [free.1, free.2] at this
      exact this.elim nofun nofun
  unfold State.frameStart
  dsimp only
  unfold State.windowsAt at none some
  rw [none]
  exact if_pos some

theorem frameStart_stray (all : ((s.windowsAt i a.t).all (·.missing)) = true) (some : ((s.windowsAt i a.t).any (·.opened)) = false)
    (early : s.earlyBinding i a.t = none) : s.frameStart i a = s.strayFs i := by
  have none : ((s.windowsAt i a.t).find? fun q => !q.opened && !q.missing) = none :=
    List.find?_eq_none.mpr fun q mem free => by
      have := List.all_eq_true.mp all q mem
      simp [this] at free
  unfold State.frameStart
  dsimp only
  unfold State.windowsAt at none some
  rw [none, early]
  exact if_neg (by rw [some]; decide)

end

theorem strayFs_count {s : State} (l : Fin 64) (k : Fin 8) :
    (s.strayFs (portIx l k)).reg .sxlPstray l k = satAdd (s.reg .sxlPstray l k) 1 := by
  have kept : (s.closeFrame (portIx l k) 16).reg .sxlPstray l k = s.reg .sxlPstray l k := by
    refine (closeFrame_within (portIx_lt l k) 16).reg _ _ ?_
    have named := regsNamed_off [.sxlPstat] (n := .sxlPstray) (i := l) (j := k) l.isLt k.isLt
    rw [show closeSide.regs _ = (_ || _) from rfl, named, Bool.or_eq_false_iff]
    refine ⟨decide_eq_false ?_, rfl⟩
    have := l.isLt
    have := k.isLt
    simp only [RegName.off, RegName.row]
    omega
  unfold State.strayFs
  rw [portIx_lane, portIx_port, ← kept]
  exact State.reg_setReg_self ..

/-- An FS of this clock. -/
def State.fsNow (s : State) (n : BitVec 16) : FrameStart := { t := s.tickNs, stamp := s.stamp, count := n }

theorem exec_fs_taken {l : Fin 64} {k : Fin 8} {s : State} (takes : s.TakesPackets (portIx l k)) (n : BitVec 16) (dt : Nat) :
    exec (.fs l k n dt) s = effect (fun _ => (s.elapse dt).frameStart (portIx l k) ((s.elapse dt).fsNow n)) s := by
  have now : (s.elapse dt).stampAhead 0 = (s.elapse dt).stamp := by
    unfold State.stampAhead State.stamp TimeBase.subns
    rw [Nat.zero_mul, Nat.add_zero]
    rfl
  rw [exec_fs, State.fsNow, ← now]
  exact congrArg (fun u => Host.Outcome.next (settle s u)) (fromLane_taken (s := s.elapse dt) takes _)

theorem exec_fe (l : Fin 64) (k : Fin 8) (n : BitVec 16) (s : State) :
    exec (.fe l k n) s = effect (fun s => s.fromLane (portIx l k) fun s => s.closeFrame (portIx l k) 0) s := rfl

theorem shut_of_fe (f : Frame) : (f.shut 0).status = (f.status ||| (if trayH f.bind.ptray - f.lines.length = 0 then 0 else 4)
    ||| (if (f.tag.map (·.matching)) = some true then 0 else 64)
    ||| (if (f.lines.map (LineEntry.ended (trayDt f.bind.ptray) (lineBytes f.bind.ptray))).any (·.2) then 8 else 0)) := by
  unfold Frame.shut
  dsimp only
  rw [show f.status ||| 0 = f.status from BitVec.or_zero]
  cases f.tag with
  | none => rfl
  | some t =>
    have matching := t.matching
    cases m : t.matching <;> simp [m]

/-- Settles O20: an FS by the window that it falls into, and FE. -/
theorem frameStartAndEnd : Obligations.FrameStartAndEnd := by
  unfold Obligations.FrameStartAndEnd
  refine ⟨fun l k n dt s takes => ⟨fun q first => ?_, fun all opened => ?_, fun all opened early => ?_⟩, fun l k n s takes => ?_⟩
  · refine completes_of_effect (exec_fs_taken takes n dt) ?_
    rw [frameStart_opens (s := s.elapse dt) (a := (s.elapse dt).fsNow n) first, settle_port, settle_clock, openFor_clock _ (portIx_lt l k)]
    exact ⟨openFor_last .., rfl⟩
  · refine completes_of_effect (exec_fs_taken takes n dt) ?_
    rw [frameStart_again (s := s.elapse dt) (a := (s.elapse dt).fsNow n) all opened, settle_port, settle_ports]
    exact ⟨fun f found => closeFrame_marked (portIx_lt l k) 16 (s := s.elapse dt) found, fun none => closeFrame_ports (s := s.elapse dt) none 16⟩
  · refine completes_of_effect (exec_fs_taken takes n dt) ?_
    rw [frameStart_stray (s := s.elapse dt) (a := (s.elapse dt).fsNow n) all opened early, settle_port, settle_ports,
      settle_reg_lane _ _ (by decide) rfl l (by have := k.isLt; show 0x20 * k.val < _; omega), strayFs_count]
    exact ⟨rfl, fun f found => closeFrame_marked (portIx_lt l k) 16 (s := s.elapse dt) found,
      fun none => closeFrame_ports (s := s.elapse dt) none 16⟩
  · refine completes_of_effect (exec_fe l k n s) ?_
    rw [fromLane_taken takes, settle_port, settle_ports]
    refine ⟨fun f found g mem at_tick => ?_, fun none => closeFrame_ports none 0⟩
    have ended := closeFrame_ended (portIx_lt l k) found 0 g mem at_tick
    exact ⟨ended.isOpen, ended.lines, ended.status.trans (shut_of_fe f)⟩

end Sys2Proof.Machine
end

section
/-!
SUPPORT. Lines, packets and deadlines of an open frame (R74, R107). From these O21 and O22.
-/
namespace Sys2Proof.Machine

/-! ### A frame of a port, put in its place -/

/-- What was found first among frames is found first when it is replaced by one that is wanted as it was. -/
theorem find?_replace {p : Frame → Bool} {fs : List Frame} {f g : Frame} (found : fs.find? p = some f) (tick : g.tick = f.tick)
    (wanted : p g = true) : (fs.map fun x => if x.tick = g.tick then g else x).find? p = some g := by
  induction fs with
  | nil => cases found
  | cons x xs ih =>
    rw [List.map_cons]
    by_cases e : x.tick = g.tick
    · rw [if_pos e, List.find?_cons_of_pos wanted]
    · rw [if_neg e]
      cases px : p x with
      | true =>
        rw [List.find?_cons_of_pos px] at found
        cases found
        exact absurd tick.symm e
      | false =>
        rw [List.find?_cons_of_neg (by simp [px])] at found ⊢
        exact ih found

theorem open_of_found {s : State} {i : Nat} {f : Frame} (found : s.openFrame i = some f) : f.isOpen = true :=
  List.find?_some found

theorem openFrame_setFrame {s : State} {i : Nat} {f g : Frame} (found : s.openFrame i = some f) (tick : g.tick = f.tick)
    (isOpen : g.isOpen = f.isOpen) : (s.setFrame i g).openFrame i = some g := by
  have wanted := isOpen.trans (open_of_found found)
  unfold State.openFrame
  rw [frames_setFrame]
  exact find?_replace found tick wanted

theorem decideMill_ports (s : State) (m : Nat) : (s.decideMill m).ports = s.ports := (State.Within.decided m).field .ports rfl

theorem openFrame_decideMill (s : State) (m i : Nat) : (s.decideMill m).openFrame i = s.openFrame i :=
  openFrame_of_ports (decideMill_ports s m) i

theorem settle_openFrame (s0 u : State) (i : Nat) : (settle s0 u).openFrame i = u.openFrame i := openFrame_of_ports (settle_ports s0 u) i

theorem markFrame_openFrame {s : State} {i : Nat} {f : Frame} (found : s.openFrame i = some f) (bits : BitVec 8) :
    (s.markFrame i bits).openFrame i = some { f with status := f.status ||| bits } := by
  unfold State.markFrame
  rw [found]
  exact openFrame_setFrame found rfl rfl

theorem markFrame_of_none {s : State} {i : Nat} (none : s.openFrame i = none) (bits : BitVec 8) : s.markFrame i bits = s := by
  unfold State.markFrame
  rw [none]

/-! ### LS and pixel packets (O21) -/

theorem exec_ls (l : Fin 64) (k : Fin 8) (line : BitVec 16) (s : State) :
    exec (.ls l k line) s = effect (fun s => s.fromLane (portIx l k) fun s => s.lineStart (portIx l k) line.toNat) s := rfl

theorem exec_pixelPacket (l : Fin 64) (k : Fin 8) (dt : BitVec 6) (p : List Byte) (crc : BitVec 16) (s : State) :
    exec (.pixelPacket l k dt p crc) s = effect (fun s => s.fromLane (portIx l k) fun s =>
      s.pixelPacket (portIx l k) dt.toNat p (crc16 p = crc)) s := rfl

section
variable {s : State} {i : Nat} {f : Frame} (found : s.openFrame i = some f)
include found

theorem lineStart_behind {n : Nat} (h : n ≤ f.lines.length) : s.lineStart i n = s := by
  unfold State.lineStart
  rw [found]
  exact if_pos h

theorem lineStart_ahead {n : Nat} (h : f.lines.length < n) : (s.lineStart i n).openFrame i = some { f with
    lines := f.lines ++ List.replicate (min n (trayH f.bind.ptray) - f.lines.length) .filled
    status := f.status ||| ((if min n (trayH f.bind.ptray) - f.lines.length = 0 then 0 else 4)
      ||| (if trayH f.bind.ptray < n then 16 else 0)) } := by
  unfold State.lineStart
  rw [found]
  dsimp only
  rw [if_neg (Nat.not_le.mpr h), openFrame_decideMill]
  exact openFrame_setFrame found rfl rfl

theorem pixelPacket_other {dt : Nat} (other : dt ≠ trayDt f.bind.ptray) (p : List Byte) (ok : Bool) :
    s.pixelPacket i dt p ok = s.markFrame i 128 := by
  unfold State.pixelPacket State.pixelHead
  rw [found]
  dsimp only
  rw [if_pos other]

theorem pixelPacket_past {dt : Nat} (same : dt = trayDt f.bind.ptray) (past : trayH f.bind.ptray ≤ f.lines.length) (p : List Byte)
    (ok : Bool) : s.pixelPacket i dt p ok = s.markFrame i 16 := by
  unfold State.pixelPacket State.pixelHead
  rw [found]
  dsimp only
  rw [if_neg (not_not_intro same), if_neg (Nat.not_lt.mpr past)]

/-- The frame with a line that is arriving. -/
def Frame.begun (f : Frame) : Frame := { f with lines := f.lines ++ [.part [] (slotWords f.bind.ptray)] }

theorem pixelPacket_taken {dt : Nat} (same : dt = trayDt f.bind.ptray) (room : f.lines.length < trayH f.bind.ptray)
    (credit : s.hasCredit i = true) (p : List Byte) (ok : Bool) :
    s.pixelPacket i dt p ok = ((s.setFrame i f.begun).lineMoved i (s.lineLevel i)).lineEnd i f.tick p ok := by
  unfold State.pixelPacket State.pixelHead
  rw [found]
  dsimp only
  rw [if_neg (not_not_intro same), if_pos room]
  unfold State.nextLine
  rw [if_pos credit]
  rfl

theorem pixelPacket_overrun {dt : Nat} (same : dt = trayDt f.bind.ptray) (room : f.lines.length < trayH f.bind.ptray)
    (none : s.hasCredit i = false) (p : List Byte) (ok : Bool) : (s.pixelPacket i dt p ok).openFrame i = some { f with
      lines := f.lines ++ [.filled], status := f.status ||| 4, overrun := true } := by
  unfold State.pixelPacket State.pixelHead
  rw [found]
  dsimp only
  rw [if_neg (not_not_intro same), if_pos room]
  unfold State.nextLine
  rw [if_neg (by rw [none]; decide)]
  dsimp only
  rw [openFrame_decideMill]
  refine Eq.trans ?_ (openFrame_setFrame (g := { f with lines := f.lines ++ [.filled], status := f.status ||| 4, overrun := true }) found rfl rfl)
  split <;> rfl

omit found in
theorem lineEnd_openFrame {tick : Nat} (here : s.openFrame i = some f.begun) (at_tick : f.tick = tick) (p : List Byte) (ok : Bool) :
    (s.lineEnd i tick p ok).openFrame i = some { f with
      lines := f.lines ++ [.got (fitLine (trayDt f.bind.ptray) (lineBytes f.bind.ptray) p) (slotWords f.bind.ptray)]
      status := f.status ||| ((if p.length < lineBytes f.bind.ptray then 8 else 0)
        ||| (if lineBytes f.bind.ptray < p.length then 16 else 0) ||| (if ok then 0 else 1)) } := by
  have arriving : s.arriving i tick = some (f.begun, f.lines, slotWords f.bind.ptray) := by
    unfold State.arriving
    rw [here]
    dsimp only
    rw [show f.begun.lines = f.lines ++ [.part [] (slotWords f.bind.ptray)] from rfl, List.getLast?_concat, List.dropLast_concat]
    exact if_pos at_tick
  unfold State.lineEnd
  rw [arriving]
  dsimp only
  rw [openFrame_decideMill]
  have set := openFrame_setFrame (g := { f with
      lines := f.lines ++ [.got (fitLine (trayDt f.bind.ptray) (lineBytes f.bind.ptray) p) (slotWords f.bind.ptray)]
      status := f.status ||| ((if p.length < lineBytes f.bind.ptray then 8 else 0)
        ||| (if lineBytes f.bind.ptray < p.length then 16 else 0) ||| (if ok then 0 else 1)) }) here rfl rfl
  cases ok <;> exact set

end

theorem pixelPacket_late {s : State} {i : Nat} (none : s.openFrame i = none) (dt : Nat) (p : List Byte) (ok : Bool) :
    s.pixelPacket i dt p ok = s.bump .sxlPlate (i / 8) (i % 8) := by
  unfold State.pixelPacket State.pixelHead
  rw [none]

/-- Settles O21: LS and pixel packets by what they find of their frame. -/
theorem frameLines : Obligations.FrameLines := by
  unfold Obligations.FrameLines
  refine ⟨fun l k line f s takes found => ?_, fun l k line s sound takes none => ?_, fun l k dt p crc s takes => ?_⟩
  · refine completes_of_effect (exec_ls l k line s) ?_
    rw [fromLane_taken takes, settle_ports, settle_openFrame]
    exact ⟨fun behind => by rw [lineStart_behind found behind], fun ahead => lineStart_ahead found ahead⟩
  · refine completes_idle (exec_ls l k line s) ((fromLane_taken takes _).trans ?_) sound
    unfold State.lineStart
    rw [none]
  · refine completes_of_effect (exec_pixelPacket l k dt p crc s) ?_
    rw [fromLane_taken takes, settle_ports, settle_openFrame,
      settle_reg_lane _ _ (by decide) rfl l (by have := k.isLt; show 0x20 * k.val < _; omega)]
    refine ⟨fun none => ?_, fun f found => ⟨fun other => ?_, fun same past => ?_, fun same room => ⟨fun credit => ?_, fun none => ?_⟩⟩⟩
    · rw [pixelPacket_late none, portIx_lane, portIx_port]
      exact ⟨rfl, State.reg_setReg_self ..⟩
    · rw [pixelPacket_other found other]
      exact markFrame_openFrame found 128
    · rw [pixelPacket_past found same past]
      exact markFrame_openFrame found 16
    · rw [pixelPacket_taken found same room credit]
      have moved : ((s.setFrame (portIx l k) f.begun).lineMoved (portIx l k) (s.lineLevel (portIx l k))).openFrame (portIx l k) = some f.begun :=
        (openFrame_of_ports ((State.Within.lineMoved (portIx_lt l k) _).field .ports rfl) _).trans
          (openFrame_setFrame found rfl rfl)
      have ended := lineEnd_openFrame moved rfl p (decide (crc16 p = crc))
      simp only [decide_eq_true_eq] at ended
      exact ended
    · exact pixelPacket_overrun found same room none p _

end Sys2Proof.Machine
end

section
/-!
SUPPORT. FRAME_TAG, unlisted packets, and the instants at which a frame or its period ends (R74, R107). From this O22.
-/
namespace Sys2Proof.Machine

theorem exec_frameTag (l : Fin 64) (k : Fin 8) (p : List Byte) (crc : BitVec 16) (s : State) :
    exec (.frameTag l k p crc) s = effect (fun s => s.fromLane (portIx l k) fun s => s.tagPacket (portIx l k) p) s := rfl

theorem exec_unknownDataType (l : Fin 64) (k : Fin 8) (dt : BitVec 6) (s : State) :
    exec (.unknownDataType l k dt) s = effect (fun s => s.fromLane (portIx l k) fun s =>
      if dt = 0x10 || dt = 0x11 || dt = 0x12 then s else s.markFrame (portIx l k) 128) s := rfl

theorem exec_closeDeadline (l : Fin 64) (k : Fin 8) (s : State) : exec (.closeDeadline l k) s = effect (fun s =>
    if s.dark then s
    else match s.openFrame (portIx l k) with
    | some f => if f.bound && f.bind.close ≤ s.judgeNs then s.closeFrame (portIx l k) 32 else s
    | none => s) s := rfl

theorem exec_frameMissing (l : Fin 64) (k : Fin 8) (s : State) : exec (.frameMissing l k) s = effect (fun s =>
    let i := portIx l k
    if s.dark then s
    else match (s.port i).periods.reverse.find? fun q => !q.opened && !q.missing && q.bind.hi ≤ s.judgeNs with
    | some q => s.frameMissing i q
    | none => s) s := rfl

theorem exec_deadlineMiss (m : Fin 64) (k : Fin 8) (s : State) : exec (.deadlineMiss m k) s = effect (fun s =>
    if s.dark then s
    else match (s.port (portIx m k)).frames.find? fun f => f.missed && !f.missTold with
    | some f => s.deadlineMiss (portIx m k) f
    | none => s) s := rfl

/-! ### FRAME_TAG -/

/-- What a FRAME_TAG tells of its frame. -/
def Frame.tagOf (f : Frame) (p : List Byte) : TagRec where
  agen := BitVec.ofNat 16 (leAt p 0 2)
  agenValid := bitOf (BitVec.ofNat 32 (leAt p 2 1)) 0
  exp := BitVec.ofNat 32 (leAt p 4 4)
  gain := BitVec.ofNat 16 (leAt p 8 2)
  matching := leAt p 10 6 = f.tick % 2 ^ 48

theorem agenValid_eq (n : Nat) : bitOf (BitVec.ofNat 32 n) 0 = n.testBit 0 := by
  rw [bitOf_eq_getLsbD, BitVec.getLsbD_ofNat]
  rfl

section
variable {s : State} {i : Nat} {f : Frame} (found : s.openFrame i = some f)
include found

theorem tagPacket_recorded {p : List Byte} (len : p.length = 16) (first : f.lines = []) : (s.tagPacket i p).openFrame i =
    some { f with tag := some (f.tagOf p), status := f.status ||| (if (f.tagOf p).matching then 0 else 64) } := by
  unfold State.tagPacket
  rw [if_neg (not_not_intro len)]
  unfold State.frameTag
  rw [found]
  dsimp only
  rw [if_pos (by rw [first]; rfl)]
  have set := openFrame_setFrame (g := { f with tag := some (f.tagOf p), status := f.status ||| (if (f.tagOf p).matching then 0 else 64) })
    found rfl rfl
  rw [show (if (f.tagOf p).matching = true then (0 : BitVec 8) else 64) = if leAt p 10 6 = f.tick % 2 ^ 48 then 0 else 64 by
    simp [Frame.tagOf]] at set ⊢
  exact set

theorem tagPacket_marked {p : List Byte} (bad : p.length ≠ 16 ∨ f.lines ≠ []) : s.tagPacket i p = s.markFrame i 128 := by
  unfold State.tagPacket
  by_cases len : p.length = 16
  · rw [if_neg (not_not_intro len)]
    unfold State.frameTag
    rw [found]
    dsimp only
    rw [if_neg (by simpa using bad.resolve_left (not_not_intro len))]
  · rw [if_pos len]

end

theorem tagPacket_of_none {s : State} {i : Nat} (none : s.openFrame i = none) (p : List Byte) : s.tagPacket i p = s := by
  unfold State.tagPacket
  split
  · exact markFrame_of_none none _
  · unfold State.frameTag
    rw [none]

/-! ### A missing frame and a missed deadline -/

theorem applyGen_frame (s : State) (i : Nat) (f : Frame) : ∃ gen src, (s.applyGen i f).1 = { f with appGen := gen, appSrc := src } := by
  unfold State.applyGen
  split
  split
  · split <;> exact ⟨_, _, rfl⟩
  · exact ⟨_, _, rfl⟩

theorem frames_setPeriod (s : State) (i : Nat) (q : Period) : ((s.setPeriod i q).port i).frames = (s.port i).frames := by
  unfold State.setPeriod
  rw [port_setPort_self]

/-- The frame of a period that did not open. -/
def State.missingFrame (s : State) (q : Period) : Machine.Frame :=
  { q.frame 0 s.tb1.errb with isOpen := false, missing := true, processed := true, shed := s.tick.shed || s.reduced }

/-- What a missing frame's end leaves behind. -/
def State.tellMissing (s : State) (i : Nat) (f : Machine.Frame) : State :=
  let s := (s.bump .sxlPmiss (i / 8) (i % 8)).raise 0x0210 [(2, s.portAddrAt i f.tick), (6, f.number.toNat)]
  ((s.noteExposure i f).addCause i 5 (f.number + 1)).shortRecords i f

theorem frameMissing_eq (s : State) (i : Nat) (q : Period) :
    let u := s.setPeriod i { q with missing := true }
    let g := u.applyGen i (u.missingFrame q).blank
    s.frameMissing i q = (g.2.pushFrame i g.1).tellMissing i g.1 := rfl

theorem tellMissing_frames (s : State) {i : Nat} (hi : i < 512) (f : Frame) : ((s.tellMissing i f).port i).frames = (s.port i).frames := by
  unfold State.tellMissing
  extract_lets u
  have noted : (u.noteExposure i f).ports = s.ports := (State.Within.noteExposure (s := u) hi f).field .ports rfl
  rw [port_of_ports ((State.Within.shortRecords hi f).field .ports rfl), frames_addCause, port_of_ports noted]

theorem sliceSide_sxl {s t : State} (h : s.Within sliceSide t) {n : RegName} (base : n.row.base < 0x41000) (s1 : n.row.s1 = 0x400)
    (s2 : n.row.s2 = 0x20) (l : Fin 64) (k : Fin 8) : t.reg n l k = s.reg n l k := by
  refine h.reg _ _ ?_
  have := l.isLt
  have := k.isLt
  rw [show sliceSide.regs _ = (_ && _) from rfl, Bool.and_eq_false_iff]
  refine .inl (decide_eq_false ?_)
  simp only [RegName.off, s1, s2]
  omega

theorem tellMissing_count (s : State) (l : Fin 64) (k : Fin 8) (f : Frame) :
    (s.tellMissing (portIx l k) f).reg .sxlPmiss l k = satAdd (s.reg .sxlPmiss l k) 1 := by
  have hi := portIx_lt l k
  unfold State.tellMissing
  extract_lets u
  have rest : u.Within sliceSide (((u.noteExposure (portIx l k) f).addCause (portIx l k) 5 (f.number + 1)).shortRecords (portIx l k) f) :=
    ((State.Within.noteExposure hi f).sliced.trans (.addCause _ _ _)).trans (State.Within.shortRecords hi f).sliced
  rw [sliceSide_sxl rest (by decide) rfl rfl]
  unfold u
  rw [portIx_lane, portIx_port]
  exact State.reg_setReg_self ..

theorem frameMissing_completes (l : Fin 64) (k : Fin 8) (q : Period) (s : State) (lit : s.dark = false)
    (found : ((s.port (portIx l k)).periods.reverse.find? fun q => !q.opened && !q.missing && q.bind.hi ≤ s.judgeNs) = some q) :
    Completes (.frameMissing l k) s fun t =>
      t.reg .sxlPmiss l k = satAdd (s.reg .sxlPmiss l k) 1 ∧
      ∃ f, (t.port (portIx l k)).frames = (s.port (portIx l k)).frames ++ [f] ∧ f.missing = true ∧ f.isOpen = false ∧
        f.tick = q.tick ∧ f.number = q.number := by
  have hi := portIx_lt l k
  refine completes_of_effect (exec_frameMissing l k s) ?_
  dsimp only
  rw [lit, if_neg (by decide), found]
  dsimp only
  rw [frameMissing_eq, settle_port, settle_reg_lane _ _ (by decide) rfl l (by have := k.isLt; show 0x20 * k.val < _; omega),
    tellMissing_count, tellMissing_frames _ hi, frames_pushFrame]
  have kept := frames_setPeriod s (portIx l k) { q with missing := true }
  have told : (s.setPeriod (portIx l k) { q with missing := true }).reg .sxlPmiss l k = s.reg .sxlPmiss l k := rfl
  generalize s.setPeriod (portIx l k) { q with missing := true } = u at *
  obtain ⟨gen, src, frame⟩ := applyGen_frame u (portIx l k) (u.missingFrame q).blank
  have applied := State.Within.applyGen (s := u) hi (u.missingFrame q).blank
  refine ⟨?_, (u.applyGen (portIx l k) (u.missingFrame q).blank).1, ?_, ?_⟩
  · rw [← told, ← sliceSide_sxl applied.sliced (by decide) rfl rfl]
    rfl
  · rw [port_of_ports (applied.field .ports rfl), kept]
  · rw [frame]
    exact ⟨rfl, rfl, rfl, rfl⟩

/-- A missed deadline, told. -/
def State.tellMissed (s : State) (i : Nat) (f : Machine.Frame) : State :=
  ((s.bump .tickDlMiss).raise 0x0103 [(2, (s.bump .tickDlMiss).portAddrAt i f.tick), (6, f.number.toNat)]).shortRecords i f

theorem deadlineMiss_eq (s : State) (i : Nat) (f : Frame) : s.deadlineMiss i f =
    ((s.setFrame i { f with missTold := true }).noteLast i { f with missTold := true }).tellMissed i { f with missTold := true } := rfl

theorem workSide_tick {s t : State} (h : s.Within workSide t) : t.reg .tickDlMiss = s.reg .tickDlMiss := h.reg _ _ (by decide)

theorem deadlineMiss_completes (m : Fin 64) (k : Fin 8) (f : Frame) (s : State) (lit : s.dark = false)
    (found : ((s.port (portIx m k)).frames.find? fun f => f.missed && !f.missTold) = some f) :
    Completes (.deadlineMiss m k) s fun t =>
      t.reg .tickDlMiss = satAdd (s.reg .tickDlMiss) 1 ∧
      ∀ g ∈ (t.port (portIx m k)).frames, g.tick = f.tick → g.missTold = true := by
  have hi := portIx_lt m k
  refine completes_of_effect (exec_deadlineMiss m k s) ?_
  rw [lit, if_neg (by decide), found]
  dsimp only
  rw [deadlineMiss_eq, settle_port, settle_reg _ _ _ _ _ (by decide)]
  have set : (s.setFrame (portIx m k) { f with missTold := true }).FramesAt (portIx m k) f.tick (·.missTold = true) :=
    .of_setFrame (f := { f with missTold := true }) rfl
  have kept : (s.setFrame (portIx m k) { f with missTold := true }).reg .tickDlMiss = s.reg .tickDlMiss := rfl
  generalize s.setFrame (portIx m k) { f with missTold := true } = u at *
  have noted := State.Within.noteLast (s := u) hi { f with missTold := true }
  have records : ((u.noteLast (portIx m k) { f with missTold := true }).tellMissed (portIx m k) { f with missTold := true }).ports =
      (u.noteLast (portIx m k) { f with missTold := true }).ports := (State.Within.shortRecords hi _).field .ports rfl
  refine ⟨?_, (set.of_ports (noted.field .ports rfl)).of_ports records⟩
  rw [State.tellMissed, workSide_tick (.shortRecords hi _), ← kept, ← workSide_tick noted]
  exact State.reg_setReg_self ..

/-! ### O22 -/

theorem closeDeadline_idle (l : Fin 64) (k : Fin 8) (s : State) (sound : s.Sound)
    (idle : ∀ f, s.openFrame (portIx l k) = some f → f.bound = false ∨ s.judgeNs < f.bind.close) :
    Completes (.closeDeadline l k) s fun t => t = s := by
  refine completes_idle (exec_closeDeadline l k s) ?_ sound
  cases dark : s.dark with
  | true => exact if_pos rfl
  | false =>
    rw [if_neg (by decide)]
    cases found : s.openFrame (portIx l k) with
    | none => rfl
    | some f =>
      dsimp only
      refine if_neg fun due => ?_
      simp only [Bool.and_eq_true, decide_eq_true_eq] at due
      rcases idle f found with unbound | early
      · rw [unbound] at due
        exact absurd due.1 (by decide)
      · omega

/-- Settles O22: tags and unlisted packets of an open frame, and the three instants of a period. -/
theorem frameTagsAndDeadlines : Obligations.FrameTagsAndDeadlines := by
  unfold Obligations.FrameTagsAndDeadlines
  refine ⟨fun l k dt p crc f s takes found => ⟨?_, ?_⟩, fun l k dt p crc s sound takes none => ⟨?_, ?_⟩, fun l k f s lit found bound due => ?_,
    frameMissing_completes, deadlineMiss_completes, fun l k s sound => ⟨closeDeadline_idle l k s sound, fun all => ?_, fun all => ?_⟩⟩
  · refine completes_of_effect (exec_frameTag l k p crc s) ?_
    rw [fromLane_taken takes, settle_openFrame]
    refine ⟨fun len first => ⟨f.tagOf p, tagPacket_recorded found len first, rfl, rfl, rfl, agenValid_eq _, rfl⟩, fun bad => ?_⟩
    rw [tagPacket_marked found bad]
    exact markFrame_openFrame found 128
  · refine completes_of_effect (exec_unknownDataType l k dt s) ?_
    rw [fromLane_taken takes, settle_openFrame, settle_ports]
    refine ⟨fun listed => ?_, fun a b c => ?_⟩
    · rw [if_pos (by simpa [or_assoc] using listed)]
    · rw [if_neg (by simp only [Bool.or_eq_true, decide_eq_true_eq]; exact fun h => h.elim (fun h => h.elim a b) c)]
      exact markFrame_openFrame found 128
  · exact completes_idle (exec_frameTag l k p crc s) ((fromLane_taken takes _).trans (tagPacket_of_none none p)) sound
  · refine completes_idle (exec_unknownDataType l k dt s) ((fromLane_taken takes _).trans ?_) sound
    split
    · rfl
    · exact markFrame_of_none none _
  · refine completes_of_effect (exec_closeDeadline l k s) ?_
    rw [lit, if_neg (by decide), found]
    dsimp only
    rw [bound, decide_eq_true due, Bool.and_true, if_pos rfl, settle_port]
    exact closeFrame_marked (portIx_lt l k) 32 found
  · refine completes_idle (exec_frameMissing l k s) ?_ sound
    have none : ((s.port (portIx l k)).periods.reverse.find? fun q => !q.opened && !q.missing && q.bind.hi ≤ s.judgeNs) = none :=
      List.find?_eq_none.mpr fun q mem free => by
        have := List.all_eq_true.mp all q (List.mem_reverse.mp mem)
        simp only [Bool.or_eq_true, Bool.and_eq_true, Bool.not_eq_true', decide_eq_true_eq] at this free
        rw [free.1.1, free.1.2] at this
        rcases this with (h | h) | h
        · cases h
        · cases h
        · omega
    dsimp only
    rw [none]
    exact ite_self _
  · refine completes_idle (exec_deadlineMiss l k s) ?_ sound
    have none : ((s.port (portIx l k)).frames.find? fun f => f.missed && !f.missTold) = none :=
      List.find?_eq_none.mpr fun f mem free => by
        have := List.all_eq_true.mp all f mem
        simp only [Bool.or_eq_true, Bool.and_eq_true, Bool.not_eq_true'] at this free
        rw [free.1, free.2] at this
        exact this.elim nofun nofun
    rw [none]
    exact ite_self _

end Sys2Proof.Machine
end

section
/-!
SUPPORT. A slice in service, and what the on-chip code finds (R124, R451, R452). From this O23.
-/
namespace Sys2Proof.Machine

/-! ### The translation cache while events are delivered -/

/-- The translation cache holds nothing new. -/
def State.NoNewEntry (s t : State) : Prop := ∀ x ∈ t.xcache, x ∈ s.xcache

namespace State.NoNewEntry

variable {s t u : State}

theorem of_same (h : t.xcache = s.xcache) : s.NoNewEntry t := fun x mem => by rwa [h] at mem

theorem refl (s : State) : s.NoNewEntry s := fun _ mem => mem

theorem trans (h : s.NoNewEntry t) (g : t.NoNewEntry u) : s.NoNewEntry u := fun x mem => h x (g x mem)

theorem ite {c : Prop} [Decidable c] (h : s.NoNewEntry t) (g : s.NoNewEntry u) : s.NoNewEntry (if c then t else u) := by
  split
  · exact h
  · exact g

theorem foldl {α : Type} {f : State → α → State} (h : ∀ (s : State) (a : α), s.NoNewEntry (f s a)) (l : List α) (s : State) :
    s.NoNewEntry (l.foldl f s) := by
  induction l generalizing s with
  | nil => exact refl s
  | cons a l ih => exact (h s a).trans (ih _)

/-- A hit moves its entry to the front. -/
theorem lookup (s : State) (r page : Nat) (write : Bool) : s.NoNewEntry (s.lookup r page write).2 := by
  unfold State.lookup
  split
  · exact refl s
  · dsimp only
    split
    next e hit =>
      intro x mem
      rcases List.mem_cons.mp (show x ∈ e :: s.xcache.erase e from mem) with rfl | mem
      · exact List.mem_of_find?_eq_some hit
      · exact List.mem_of_mem_erase mem
    · split
      · exact of_same rfl
      · exact of_same rfl

theorem lookupAll (r : Nat) (write : Bool) (ps : List Nat) (s : State) : s.NoNewEntry (s.lookupAll r write ps).2 := by
  induction ps generalizing s with
  | nil => exact refl s
  | cons p ps ih => exact (lookup s r p write).trans (ih _)

theorem prepare (s : State) (r addr len : Nat) (write : Bool) : s.NoNewEntry (s.prepare r addr len write).2 := by
  have looked := lookupAll r write (pagesOf addr len) s
  unfold State.prepare
  extract_lets allowed
  split
  · exact refl s
  · split
    · exact refl s
    · split
      next e => rwa [e] at looked
      next e => rwa [e] at looked

theorem issue (r : Nat) (relaxed : Bool) (ps : List Nat) (s : State) (addr : Nat) (bytes : List Byte) :
    s.NoNewEntry (s.issue r addr bytes relaxed ps) := by
  induction ps generalizing s addr bytes with
  | nil => exact refl s
  | cons p ps ih => exact (of_same (t := s.emit _) rfl).trans (ih _ _ _)

theorem dropRecord (s : State) (r : Nat) (x : Record) : s.NoNewEntry (s.dropRecord r x) := by
  unfold State.dropRecord
  split <;> exact of_same rfl

theorem dropHold (s : State) (r : Nat) : s.NoNewEntry (s.dropHold r) := by
  unfold State.dropHold
  split
  · exact refl s
  · exact ite (refl s) (of_same rfl)

theorem abandonRecords (s : State) (r : Nat) : s.NoNewEntry (s.abandonRecords r) :=
  (foldl (fun s y => dropRecord s r y) (s.ring r).records s).trans (of_same rfl)

theorem haltRing (s : State) (r cause : Nat) : s.NoNewEntry (s.haltRing r cause) := by
  unfold State.haltRing
  extract_lets x y s1 s2 s3 c
  have shown : s.NoNewEntry s1 := ite (of_same rfl) (refl s)
  have dropped : s1.NoNewEntry s2 := dropHold s1 r
  have left : s2.NoNewEntry s3 := ite (of_same rfl) ((of_same rfl).trans (abandonRecords (s2.setRing r { y with state := .halt }) r))
  exact ite (of_same rfl) (((shown.trans dropped).trans left).trans (of_same rfl))

theorem sendMsix (s : State) (v : Nat) : s.NoNewEntry (s.sendMsix v) := ite (of_same rfl) (of_same rfl)

theorem signal (s : State) (q sev : Nat) : s.NoNewEntry (s.signal q sev) := by
  unfold State.signal
  extract_lets x n imm
  exact ite ((of_same rfl).trans (sendMsix (s.setQueue q { x with sinceMsg := 0, timer := false }) _)) (of_same rfl)

theorem writeRecord (s : State) (q r : Nat) (b : BitVec 256) : s.NoNewEntry (s.writeRecord q r b).2 := by
  have prepared := prepare s r (s.ringBase r + 32 * ((s.queue q).pd.toNat % 2 ^ s.log2s r)) 32 true
  unfold State.writeRecord
  extract_lets x n l addr
  split
  next e => rwa [e] at prepared
  next e =>
    rw [e] at prepared
    exact prepared.trans (haltRing _ _ _)
  next e =>
    rw [e] at prepared
    exact prepared.trans ((issue _ _ _ _ _ _).trans ((of_same rfl).trans (signal _ _ _)))

theorem putRecord (s : State) (q r : Nat) (b : BitVec 256) : s.NoNewEntry (s.putRecord q r b) := by
  have written := writeRecord s q r b
  exact ite (of_same rfl) (ite written (written.trans (of_same rfl)))

theorem lose (s : State) (q : Nat) : s.NoNewEntry (s.lose q) := of_same rfl

theorem take (s : State) (q : Nat) (e : EventRec) : s.NoNewEntry (s.take q e) := by
  unfold State.take
  split
  · exact refl s
  next r _ =>
    extract_lets x blk seq s1 w s2 s3
    have numbered : s.NoNewEntry s1 := of_same rfl
    have full : s1.NoNewEntry s2 := of_same rfl
    have begun : s2.NoNewEntry s3 := ite (putRecord _ _ _ _) (refl _)
    exact ite (refl s) (numbered.trans (ite (lose _ _) (ite (putRecord _ _ _ _) ((full.trans begun).trans (lose _ _)))))

theorem offer (s : State) (e : EventRec) : s.NoNewEntry (s.offer e) :=
  ite (of_same rfl) (foldl (fun s q => take s q e) _ s)

theorem deliver (n : Nat) (s : State) : s.NoNewEntry (State.deliver n s) := by
  induction n generalizing s with
  | zero => exact of_same rfl
  | succ n ih =>
    unfold State.deliver
    split
    · exact refl s
    next es _ => exact ((of_same (t := { s with raised := [] }) rfl).trans (foldl offer _ _)).trans (ih _)

theorem settle (s0 s : State) : s.NoNewEntry (settle s0 s) := by
  have reported : s.NoNewEntry s.reportService := ite (refl s) (of_same rfl)
  exact reported.trans (deliver 64 _)

end State.NoNewEntry

theorem not_mem_eraseIdx {α : Type} {l : List α} {e : Nat} {x : α} (once : l.Nodup) (here : l[e]? = some x) : x ∉ l.eraseIdx e := by
  intro mem
  obtain ⟨i, hi, other, at_i⟩ := List.mem_eraseIdx_iff_getElem.mp mem
  obtain ⟨he, at_e⟩ := List.getElem?_eq_some_iff.mp here
  exact other ((once.getElem_inj_iff).mp (at_i.trans at_e.symm))

/-! ### A slice in service -/

theorem exec_sliceComplete (m : Fin 64) (ue : OnChip) (s : State) : exec (.sliceComplete m ue) s = effect (fun s =>
    let s := s.onChip m.val ue
    if s.dark then s else s.sliceDone m.val) s := rfl

/-- The mill serves no slice. -/
def State.serviceEnded (s : State) (m : Nat) : State := s.setMill m { s.mill m with service := none }

theorem workFrame_of_ports {s t : State} (h : t.ports = s.ports) (i : Nat) : t.workFrame i = s.workFrame i := by
  unfold State.workFrame
  rw [port_of_ports h]

/-- A frame that the mill works on is what it works on still, when what it says of its work stays. -/
theorem workFrame_setFrame {s : State} {i : Nat} {f g : Frame} (found : s.workFrame i = some f) (tick : g.tick = f.tick)
    (same : (g.bound && !g.processed && !g.missing && !g.missed) = (f.bound && !f.processed && !f.missing && !f.missed)) :
    (s.setFrame i g).workFrame i = some g := by
  have kept : (f.bound && !f.processed && !f.missing && !f.missed) = true :=
    List.find?_some (p := fun f : Frame => f.bound && !f.processed && !f.missing && !f.missed) found
  have wanted := same.trans kept
  unfold State.workFrame
  rw [frames_setFrame]
  exact find?_replace found tick wanted

theorem sliceDone_eq {s : State} {m : Nat} {k : Fin 8} {f : Frame} (serves : (s.mill m).service = some k)
    (found : s.workFrame (8 * m + k) = some f) (tick : f.tick = (s.mill m).serviceTick) :
    s.sliceDone m = ((s.serviceEnded m).slicePast (8 * m + k) f).decideMill m := by
  have still : (s.serviceEnded m).workFrame (8 * m + k) = some f := found
  unfold State.serviceEnded at still
  unfold State.sliceDone State.serviceEnded
  rw [serves]
  dsimp only
  rw [still]
  dsimp only
  rw [if_pos tick]

theorem sliceDone_idle {s : State} {m : Nat} (none : (s.mill m).service = none) : s.sliceDone m = s := by
  unfold State.sliceDone
  rw [none]

theorem sliceDone_within {s : State} {m : Fin 64} : s.Within sliceSide (s.sliceDone m) := by
  unfold State.sliceDone
  split
  · exact .refl _ _
  next k _ =>
    extract_lets i t w s1 s2
    have hi : i < 512 := by
      have := m.isLt
      have := k.isLt
      omega
    have ended : s.Within sliceSide s1 := (State.Within.setMill _ _ rfl : s.Within workSide s1).sliced
    have past : s1.Within sliceSide s2 := by
      unfold s2
      split
      · exact .refl _ _
      · exact .ite (.slicePast hi _) (.refl _ _)
    exact (ended.trans past).trans (State.Within.decided _).sliced

theorem slicePast_more (s : State) (i : Nat) {f : Frame} (more : f.servedSlices + 1 < slicesOf f.bind.ptray) :
    s.slicePast i f = s.setFrame i { f with servedSlices := f.servedSlices + 1 } := by
  unfold State.slicePast
  rw [if_pos more]

/-- A frame with one line more served. -/
def Frame.lineServed (f : Frame) : Frame := { f with servedSlices := 0, servedLines := f.servedLines + 1 }

/-- The line's slot returns, and what has passed goes on. -/
def State.linePassed (s : State) (i : Nat) (f : Machine.Frame) : State :=
  ((s.setFrame i f.lineServed).lineMoved i (s.lineLevel i)).progress i f f.lineServed

theorem slicePast_last (s : State) (i : Nat) {f : Frame} (last : slicesOf f.bind.ptray ≤ f.servedSlices + 1) :
    s.slicePast i f = (s.linePassed i f).finishIfDone i := by
  unfold State.slicePast
  rw [if_neg (Nat.not_lt.mpr last)]
  rfl

theorem linePassed_ports (s : State) {i : Nat} (hi : i < 512) (f : Frame) : (s.linePassed i f).ports = (s.setFrame i f.lineServed).ports :=
  ((State.Within.progress hi f f.lineServed).field .ports rfl).trans ((State.Within.lineMoved hi (s.lineLevel i)).field .ports rfl)

theorem finishIfDone_open {s : State} {i : Nat} {f : Frame} (found : s.workFrame i = some f) (isOpen : f.isOpen = true) :
    s.finishIfDone i = s := by
  unfold State.finishIfDone
  rw [found]
  dsimp only
  rw [isOpen]
  rfl

theorem slicePast_last_ports {s : State} {i : Nat} (hi : i < 512) {f : Frame} (found : s.workFrame i = some f)
    (last : slicesOf f.bind.ptray ≤ f.servedSlices + 1) (isOpen : f.isOpen = true) :
    (s.slicePast i f).ports = (s.setFrame i f.lineServed).ports := by
  have still : (s.linePassed i f).workFrame i = some f.lineServed :=
    (workFrame_of_ports (linePassed_ports s hi f) i).trans (workFrame_setFrame found rfl rfl)
  rw [slicePast_last s i last, finishIfDone_open still isOpen]
  exact linePassed_ports s hi f

theorem slicePast_framesAt {s : State} {i tick : Nat} (hi : i < 512) {P : Frame → Prop} (h : s.FramesAt i tick P) {f : Frame}
    (own : P { f with servedSlices := f.servedSlices + 1 } ∧ P f.lineServed)
    (done : ∀ g shed, P g → P { g with processed := true, shed := shed, lines := [] }) : (s.slicePast i f).FramesAt i tick P := by
  by_cases more : f.servedSlices + 1 < slicesOf f.bind.ptray
  · rw [slicePast_more s i more]
    exact h.setFrame fun _ => own.1
  · rw [slicePast_last s i (Nat.not_lt.mp more)]
    exact finishIfDone_framesAt hi ((h.setFrame (f := f.lineServed) fun _ => own.2).of_ports (linePassed_ports s hi f)) done

/-! ### O23 -/

/-- A corrected word, or none, stops nothing. -/
theorem onChip_quiet (s : State) (m : Nat) {ue : OnChip} (quiet : ue = .none ∨ ue = .corrected) :
    (s.onChip m ue).ports = s.ports ∧ (s.onChip m ue).mills = s.mills ∧ (s.onChip m ue).dark = s.dark ∧
    (s.onChip m ue).reg .errMemCe = (if ue = .corrected then satAdd (s.reg .errMemCe) 1 else s.reg .errMemCe) ∧
    (ue = .corrected → s.pci.correctedMask = false → Emission.aer aerCorrected ∈ (s.onChip m ue).out) := by
  rcases quiet with rfl | rfl
  · exact ⟨rfl, rfl, rfl, rfl, nofun⟩
  · have counted := State.reg_setReg_self s .errMemCe 0 0 (satAdd (s.reg .errMemCe) 1)
    unfold State.onChip State.onChipCe
    dsimp only
    rw [show (s.bump .errMemCe).pci = s.pci from rfl]
    cases masked : s.pci.correctedMask with
    | true => exact ⟨rfl, rfl, rfl, counted, fun _ => nofun⟩
    | false => exact ⟨rfl, rfl, rfl, counted, fun _ _ => List.mem_cons_self⟩

theorem sliceComplete_quiet (m : Fin 64) (k : Fin 8) (f : Frame) (ue : OnChip) (s : State) (lit : s.dark = false)
    (serves : (s.mill m).service = some k) (found : s.workFrame (8 * m + k) = some f) (tick : f.tick = (s.mill m).serviceTick)
    (quiet : ue = .none ∨ ue = .corrected) : Completes (.sliceComplete m ue) s fun t =>
      t.reg .errMemCe = (if ue = .corrected then satAdd (s.reg .errMemCe) 1 else s.reg .errMemCe) ∧
      (ue = .corrected → s.pci.correctedMask = false → .aer aerCorrected ∈ t.out) ∧
      (f.servedSlices + 1 < slicesOf f.bind.ptray →
        t.port (8 * m + k) = { s.port (8 * m + k) with frames := (s.port (8 * m + k)).frames.map fun g =>
          if g.tick = f.tick then { f with servedSlices := f.servedSlices + 1 } else g }) ∧
      (slicesOf f.bind.ptray ≤ f.servedSlices + 1 → f.isOpen = true →
        t.port (8 * m + k) = { s.port (8 * m + k) with frames := (s.port (8 * m + k)).frames.map fun g =>
          if g.tick = f.tick then { f with servedSlices := 0, servedLines := f.servedLines + 1 } else g }) := by
  have hi : 8 * m.val + k.val < 512 := by
    have := m.isLt
    have := k.isLt
    omega
  obtain ⟨ports, mills, dark, ce, told⟩ := onChip_quiet s m quiet
  refine completes_of_effect (exec_sliceComplete m ue s) ?_
  dsimp only
  rw [dark, lit, if_neg (by decide), settle_reg _ _ _ _ _ (by decide), settle_port]
  generalize s.onChip m ue = u at *
  have mill : u.mill m = s.mill m := by rw [State.mill, State.mill, mills]
  have same : u.workFrame (8 * m + k) = some f := (workFrame_of_ports ports _).trans found
  have past : u.Within sliceSide (u.sliceDone m) := sliceDone_within
  have port : ∀ g, ((u.serviceEnded m).setFrame (8 * m + k) g).port (8 * m + k) = { s.port (8 * m + k) with
      frames := (s.port (8 * m + k)).frames.map fun x => if x.tick = g.tick then g else x } := fun g => by
    rw [port_setFrame, port_of_ports (show (u.serviceEnded m).ports = s.ports from ports)]
  refine ⟨(past.reg _ _ (by decide)).trans ce, fun corrected unmasked => ?_, fun more => ?_, fun last isOpen => ?_⟩
  · obtain ⟨xs, grown⟩ := (settle_kept (u.sliceDone m)).out
    have kept : (u.sliceDone m).out = u.out := past.field .out rfl
    refine (congrArg (Emission.aer aerCorrected ∈ ·) (show (settle s (u.sliceDone m)).out = xs ++ u.out from grown.trans (by rw [← kept]))).mpr ?_
    exact List.mem_append_right _ (told corrected unmasked)
  · rw [sliceDone_eq (by rw [mill]; exact serves) same (by rw [mill]; exact tick), port_of_ports (decideMill_ports _ _),
      slicePast_more _ _ more]
    exact port _
  · rw [sliceDone_eq (by rw [mill]; exact serves) same (by rw [mill]; exact tick), port_of_ports (decideMill_ports _ _),
      port_of_ports (slicePast_last_ports (s := u.serviceEnded m) hi same last isOpen)]
    exact port _

/-- A word of the frame's data is lost. -/
def Frame.spoilt (f : Frame) : Frame := { f with poison := true, ueLines := f.ueLines ++ [f.servedLines] }

theorem onChip_path {s : State} {m : Nat} {k : Fin 8} {f : Frame} (found : s.workFrame (8 * m + k) = some f) :
    s.onChip m (.path k) = (s.onChipUe 1 m (s.portAddr (8 * m + k))).setFrame (8 * m + k) f.spoilt := by
  have still : (s.onChipUe 1 m (s.portAddr (8 * m + k))).workFrame (8 * m + k) = some f := found
  unfold State.onChip
  dsimp only
  rw [still]
  rfl

theorem onChipUe_count (s : State) (group mill pa : Nat) : (s.onChipUe group mill pa).reg .errMemUe = satAdd (s.reg .errMemUe) 1 :=
  State.reg_setReg_self ..

/-- The slice of a spoilt frame brings nothing of its word back. -/
theorem spoilt_slice {s : State} {m : Fin 64} {k : Fin 8} {f : Frame} (serves : (s.mill m).service = some k)
    (found : s.workFrame (8 * m + k) = some f) (tick : f.tick = (s.mill m).serviceTick) :
    ((s.setFrame (8 * m + k) f.spoilt).sliceDone m).FramesAt (8 * m + k) f.tick
      fun g => g.poison = true ∧ g.ueLines = f.ueLines ++ [f.servedLines] := by
  have hi : 8 * m.val + k.val < 512 := by
    have := m.isLt
    have := k.isLt
    omega
  have same : (s.setFrame (8 * m + k) f.spoilt).workFrame (8 * m + k) = some f.spoilt := workFrame_setFrame found rfl rfl
  have spoilt : (s.setFrame (8 * m + k) f.spoilt).FramesAt (8 * m + k) f.tick
      fun g => g.poison = true ∧ g.ueLines = f.ueLines ++ [f.servedLines] := .of_setFrame (f := f.spoilt) ⟨rfl, rfl⟩
  have mill : (s.setFrame (8 * m + k) f.spoilt).mill m = s.mill m := rfl
  generalize s.setFrame (8 * m + k) f.spoilt = u at same spoilt mill ⊢
  rw [sliceDone_eq (by rw [mill]; exact serves) same (by rw [mill]; exact tick)]
  have ended : (u.serviceEnded m).FramesAt (8 * m + k) f.tick fun g => g.poison = true ∧ g.ueLines = f.ueLines ++ [f.servedLines] :=
    spoilt.of_ports rfl
  exact (slicePast_framesAt hi ended ⟨⟨rfl, rfl⟩, ⟨rfl, rfl⟩⟩ fun g _ h => h).of_ports (decideMill_ports _ _)

theorem sliceComplete_path (m : Fin 64) (k : Fin 8) (f : Frame) (s : State) (lit : s.dark = false) (serves : (s.mill m).service = some k)
    (found : s.workFrame (8 * m + k) = some f) (tick : f.tick = (s.mill m).serviceTick) :
    Completes (.sliceComplete m (.path k)) s fun t => t.reg .errMemUe = satAdd (s.reg .errMemUe) 1 ∧
      ∀ g ∈ (t.port (8 * m + k)).frames, g.tick = f.tick → g.poison = true ∧ g.ueLines = f.ueLines ++ [f.servedLines] := by
  refine completes_of_effect (exec_sliceComplete m (.path k) s) ?_
  rw [onChip_path found]
  have counted := onChipUe_count s 1 m (s.portAddr (8 * m + k))
  have known : (s.onChipUe 1 m (s.portAddr (8 * m + k))).workFrame (8 * m + k) = some f := found
  have mill : (s.onChipUe 1 m (s.portAddr (8 * m + k))).mill m = s.mill m := rfl
  have dark : ((s.onChipUe 1 m (s.portAddr (8 * m + k))).setFrame (8 * m + k) f.spoilt).dark = s.dark := rfl
  generalize s.onChipUe 1 m (s.portAddr (8 * m + k)) = u at counted known mill dark ⊢
  have past : (u.setFrame (8 * m + k) f.spoilt).Within sliceSide ((u.setFrame (8 * m + k) f.spoilt).sliceDone m) := sliceDone_within
  dsimp only
  rw [dark, lit, if_neg (by decide), settle_reg _ _ _ _ _ (by decide), settle_port]
  exact ⟨(past.reg _ _ (by decide)).trans counted, spoilt_slice (by rw [mill]; exact serves) known (by rw [mill]; exact tick)⟩

theorem onChip_lineStore (s : State) (m : Nat) (w : Fin 256) : (s.onChip m (.lineStore w)).Within workSide (s.onChipUe 2 0xFF 0xFFFF) := by
  unfold State.onChip
  dsimp only
  split
  · exact (State.Within.setWall _ _ rfl).symm
  · exact .refl _ _

theorem sliceComplete_idleMill (m : Fin 64) (w : Fin 256) (e : Nat) (s : State) (lit : s.dark = false)
    (none : (s.mill m).service = none) :
    Completes (.sliceComplete m (.lineStore w)) s (fun t => t.reg .errMemUe = satAdd (s.reg .errMemUe) 1 ∧ t.ports = s.ports) ∧
    (s.Sound → Completes (.sliceComplete m (.cache e)) s fun t => t.reg .errMemUe = satAdd (s.reg .errMemUe) 1 ∧
      t.ports = s.ports ∧ (∀ x ∈ t.xcache, x ∈ s.xcache) ∧ (s.xcache.Nodup → ∀ x, s.xcache[e]? = some x → x ∉ t.xcache)) := by
  refine ⟨completes_of_effect (exec_sliceComplete m (.lineStore w) s) ?_,
    fun _ => completes_of_effect (exec_sliceComplete m (.cache e) s) ?_⟩
  · have same := onChip_lineStore s m w
    have dark : (s.onChip m (.lineStore w)).dark = s.dark := by
      have power : s.power = (s.onChip m (.lineStore w)).power := same.field .power rfl
      have fatal : s.fatal = (s.onChip m (.lineStore w)).fatal := same.field .fatal rfl
      unfold State.dark
      rw [← power, ← fatal]
    have ports : s.ports = (s.onChip m (.lineStore w)).ports := same.field .ports rfl
    have mill : (s.onChip m (.lineStore w)).mill m = s.mill m := by
      unfold State.onChip
      dsimp only
      split <;> rfl
    dsimp only
    rw [dark, lit, if_neg (by decide), sliceDone_idle (by rw [mill]; exact none), settle_reg _ _ _ _ _ (by decide), settle_ports]
    exact ⟨(same.reg _ _ (by decide)).symm.trans (onChipUe_count ..), ports.symm⟩
  · dsimp only
    rw [show (s.onChip m (.cache e)).dark = s.dark from rfl, lit, if_neg (by decide), sliceDone_idle (show ((s.onChip m (.cache e)).mill m).service = _ from none),
      settle_reg _ _ _ _ _ (by decide), settle_ports]
    have kept : ∀ x ∈ (settle s (s.onChip m (.cache e))).xcache, x ∈ s.xcache.eraseIdx e :=
      State.NoNewEntry.settle s (s.onChip m (.cache e))
    exact ⟨onChipUe_count s 3 0xFF 0xFFFF, rfl, fun x mem => List.mem_of_mem_eraseIdx (kept x mem), fun once x here mem =>
      not_mem_eraseIdx once here (kept x mem)⟩

theorem reg_of_regs {s t : State} (h : t.regs = s.regs) (n : RegName) (i j : Nat) : t.reg n i j = s.reg n i j := by
  unfold State.reg
  rw [h]

/-- ERR_FATAL as a fatal error leaves it. -/
def fatalValue (place index : Nat) : Word := BitVec.ofNat 32 (place + 1 + index * 2 ^ 16 + 2 ^ 31)

/-- The data plane stops, and the host is told. -/
def State.stopped (s : State) : State := { s with fatal := true }.emit (.aer 0)

theorem stopped_frame (s : State) : s.stopped.regs = s.regs ∧ s.stopped.out = .aer 0 :: s.out ∧ s.stopped.ports = s.ports ∧
    s.stopped.mills = s.mills ∧ s.stopped.fatal = true := ⟨rfl, rfl, rfl, rfl, rfl⟩

theorem onChip_fatal (s : State) (m : Nat) (place : Fin 5) (n : BitVec 15) : s.onChip m (.fatal place n) =
    ((s.bump .errMemUe).setReg .errFatal 0 0 (fatalValue place.val n.toNat)).stopped := by
  unfold State.onChip State.fatalError State.stopped fatalValue
  rfl

theorem sliceComplete_fatal (m : Fin 64) (place : Fin 5) (n : BitVec 15) (s : State) : Completes (.sliceComplete m (.fatal place n)) s fun t =>
    t.reg .errFatal = BitVec.ofNat 32 (place + 1 + n.toNat * 2 ^ 16 + 2 ^ 31) ∧ t.fatal = true ∧ t.dark = true ∧
    t.reg .errMemUe = satAdd (s.reg .errMemUe) 1 ∧ s.Sent t (.aer 0) ∧ t.ports = s.ports ∧ t.mills = s.mills := by
  refine completes_of_effect (exec_sliceComplete m (.fatal place n) s) ?_
  have value := State.reg_setReg_self (s.bump .errMemUe) .errFatal 0 0 (fatalValue place.val n.toNat)
  have count := (State.reg_setReg_of_ne (s.bump .errMemUe) .errFatal .errMemUe 0 0 0 0 (fatalValue place.val n.toNat) (by decide)).trans
    (State.reg_setReg_self s .errMemUe 0 0 _)
  have ports : ∀ v, ((s.bump .errMemUe).setReg .errFatal 0 0 v).ports = s.ports := fun _ => rfl
  have mills : ∀ v, ((s.bump .errMemUe).setReg .errFatal 0 0 v).mills = s.mills := fun _ => rfl
  have out : ∀ v, ((s.bump .errMemUe).setReg .errFatal 0 0 v).out = s.out := fun _ => rfl
  rw [onChip_fatal]
  replace ports := ports (fatalValue place.val n.toNat)
  replace mills := mills (fatalValue place.val n.toNat)
  replace out := out (fatalValue place.val n.toNat)
  generalize (s.bump .errMemUe).setReg .errFatal 0 0 (fatalValue place.val n.toNat) = v at *
  obtain ⟨regs, sent, kept, still, fatal⟩ := stopped_frame v
  generalize v.stopped = u at *
  dsimp only
  have dark : u.dark = true := by
    unfold State.dark
    rw [fatal]
    rfl
  rw [dark, if_pos rfl, settle_reg _ _ _ _ _ (by decide), settle_reg _ _ _ _ _ (by decide), settle_fatal, settle_ports, settle_mills]
  refine ⟨(reg_of_regs regs _ _ _).trans value, fatal, ?_, (reg_of_regs regs _ _ _).trans count,
    sent_of_out (sent.trans (by rw [out])), kept.trans ports, still.trans mills⟩
  unfold State.dark
  rw [settle_fatal, fatal]
  rfl

/-- Settles O23: a slice by what the on-chip code found with it. -/
theorem sliceIsServed : Obligations.SliceIsServed := by
  unfold Obligations.SliceIsServed
  exact ⟨sliceComplete_quiet, fun m k f s lit serves found tick _ => sliceComplete_path m k f s lit serves found tick, sliceComplete_idleMill,
    sliceComplete_fatal⟩

end Sys2Proof.Machine
end

section
/-!
SUPPORT. A chain codeword of the other lane's parity (R325, R326): its lane locks, and the port is not LINKED. From this O17.
-/
namespace Sys2Proof.Machine

theorem exec_chainCodewordReceived (x lane : Fin 2) {symbols : List (BitVec 10)} (len : symbols.length = 544) (dt : Nat) (s : State) :
    exec (.chainCodewordReceived x lane symbols dt) s = effect (fun s =>
      let s := s.elapse dt
      if !s.chainOn || s.dark then s else s.chainCodeword x.val lane.val symbols) s := if_pos len

/-- A codeword that gives its lane lock beside the other lane's, and shows by its SEQ that the lanes are not aligned. -/
structure State.LocksApart (s : State) (x lane : Nat) (w : Payload640) : Prop where
  waits : (Store.get {} (s.cport x).lanes lane).lock = false ∧ (Store.get {} (s.cport x).lanes lane).good = 2
  follows : (Store.get {} (s.cport x).lanes lane).lastSeq.map (· + 2) = some w.seq
  parity : w.seq.toNat % 2 ≠ lane
  port : (s.cport x).linked = false ∧ (s.cport x).nextSeq = none

theorem setLinked_false_of_down {s : State} {x : Nat} (down : (s.cport x).linked = false) : s.setLinked x false = s := by
  unfold State.setLinked
  exact if_pos down

theorem setChainLane_linked {s : State} {x : Nat} (down : (s.cport x).linked = false) (lane : Nat) (y : ChainLane) :
    s.setChainLane x lane y = s.setCport x { s.cport x with lanes := Store.put {} (s.cport x).lanes lane y } := by
  have set := cport_setCport_self s x { s.cport x with lanes := Store.put {} (s.cport x).lanes lane y }
  unfold State.setChainLane
  extract_lets u
  split
  · rfl
  · exact setLinked_false_of_down ((congrArg ChainPort.linked set).trans down)

/-- With SEQ of the other lane's parity the port does not come up. -/
theorem chainEnter_apart {s : State} {x lane : Nat} {w : ChainWord} (down : (s.cport x).linked = false) (none : (s.cport x).nextSeq = none)
    (parity : w.seq.toNat % 2 ≠ lane) : ((s.chainEnter x lane w).cport x).linked = false := by
  have apart : (s.cport x).apart lane w = true := by
    unfold ChainPort.apart
    rw [decide_eq_true parity, Bool.true_or]
  unfold State.chainEnter
  dsimp only
  rw [none, apart, setLinked_false_of_down down]
  split
  · rw [cport_setCport_self]
    exact down
  · dsimp only
    rw [if_pos rfl, cport_setCport_self]
    exact down

theorem chainCodeword_apart {s : State} {x lane : Nat} {symbols : List (BitVec 10)} {w : Payload640} {n st : Nat}
    (received : receiveCodeword (Store.get {} (s.cport x).lanes lane).scrambler.toNat symbols = (some (w, n), st))
    (h : s.LocksApart x lane w) : ((s.chainCodeword x lane symbols).cport x).linked = false := by
  obtain ⟨⟨free, two⟩, follows, parity, down, unordered⟩ := h
  unfold State.chainCodeword
  dsimp only
  rw [received]
  dsimp only
  rw [free, if_neg (by decide), if_pos follows, two, setChainLane_linked down, if_pos (by decide)]
  exact chainEnter_apart (by rw [cport_setCport_self]; exact down) (by rw [cport_setCport_self]; exact unordered) parity

/-! ### The word of 0s, behind a scrambler that makes its SEQ 1 -/

theorem gfMul_of_zero (b : Nat) : gfMul 0 b = 0 := by
  have still : ∀ (l : List Nat), l.foldl (fun (s : Nat × Nat) i => (if b.testBit i then s.1 ^^^ s.2 else s.1, gfX s.2)) (0, 0) = (0, 0) := by
    intro l
    induction l with
    | nil => rfl
    | cons i l ih =>
      rw [List.foldl_cons, show gfX 0 = 0 from rfl, Nat.zero_xor, ite_self]
      exact ih
  unfold gfMul
  rw [still]

theorem syndromes_of_zeros (k : Nat) : (syndromes (List.replicate k 0)).all (· = 0) = true := by
  have still : ∀ x : Nat, (List.replicate k 0).foldl (fun acc c => gfMul acc x ^^^ c) 0 = 0 := by
    intro x
    induction k with
    | zero => rfl
    | succ n ih =>
      rw [List.replicate_succ, List.foldl_cons, gfMul_of_zero]
      exact ih
  unfold syndromes
  simp [still]

theorem receiveCodeword_of_zeros (st k : Nat) : (receiveCodeword st (List.replicate k 0)).1 =
    some (readMessage (descramble st (messageBits (List.replicate k 0))).1, 0) := by
  have decoded : rsDecode (List.replicate k 0) = some (List.replicate k 0, 0) := if_pos (syndromes_of_zeros k)
  unfold receiveCodeword
  dsimp only
  rw [List.map_replicate, show (0 : BitVec 10).toNat = 0 from rfl, decoded]

theorem readMessage_seq (bits : List Bool) : (readMessage bits).seq = BitVec.ofNat 4 (ofBits ((bits.take 14).drop 10)) := by
  unfold readMessage
  rw [List.drop_take]

theorem messageBits_of_zeros : messageBits (List.replicate 544 0) = List.replicate 5140 false := by
  unfold messageBits
  rw [List.take_replicate, List.flatMap, List.map_replicate, show symbolBits 0 = List.replicate 10 false by decide,
    List.flatten_replicate_replicate]
  exact congrArg (List.replicate · false) (by decide)

theorem descramble_take (n st : Nat) (bits : List Bool) : (descramble st bits).1.take n = (descramble st (bits.take n)).1 := by
  induction bits generalizing n st with
  | nil => simp [descramble]
  | cons b bits ih =>
    cases n with
    | zero => simp [descramble]
    | succ n => simp [descramble, ih]

/-- The first bits behind the scrambler. -/
theorem zeros_descrambled : ((descramble (1024 * 2 ^ 18) (messageBits (List.replicate 544 0))).1).take 14 =
    List.replicate 10 false ++ [true] ++ List.replicate 3 false := by
  rw [messageBits_of_zeros, descramble_take, List.take_replicate]
  decide

/-- A chain port whose lane 1 holds lock, and whose lane 0 comes to a third codeword, of SEQ 1. -/
def crossed : State :=
  { State.reset with power := { State.reset.power with pstate := .run }, cports := [(0, { lanes := [(0, { lastSeq := some 15, good := 2, scrambler := 268435456 }), (1, { lock := true })] })] }.setReg
    .chnCfg 0 0 1

/-- Refutes O17: a chain codeword of odd SEQ that completes the lock of lane 0 shows lanes that are not aligned, and the port is not LINKED. -/
theorem not_codewordLock : ¬ Obligations.CodewordLock := by
  unfold Obligations.CodewordLock
  rintro ⟨-, chain⟩
  have len : (List.replicate 544 (0 : BitVec 10)).length = 544 := List.length_replicate
  obtain ⟨t, run, good, -⟩ := (chain 0 0 (List.replicate 544 0) 0 crossed).2 len (by decide)
  have seed : (Store.get {} (crossed.cport (0 : Fin 2)).lanes (0 : Fin 2).val).scrambler.toNat = 1024 * 2 ^ 18 := by decide
  have decoded := receiveCodeword_of_zeros (1024 * 2 ^ 18) 544
  generalize word : readMessage (descramble (1024 * 2 ^ 18) (messageBits (List.replicate 544 0))).1 = w at decoded
  have seq : w.seq = 1 := by
    rw [← word, readMessage_seq, zeros_descrambled]
    decide
  have third := (good w 0 (by rw [seed]; exact decoded) (by decide) (by decide) (by rw [seq]; decide)).2 (by decide) (by decide) (by rw [seq]; decide)
  have received : receiveCodeword (Store.get {} ((crossed.elapse 0).cport 0).lanes 0).scrambler.toNat (List.replicate 544 0) =
      (some (w, 0), (receiveCodeword (1024 * 2 ^ 18) (List.replicate 544 0)).2) := by
    rw [show (Store.get {} ((crossed.elapse 0).cport 0).lanes 0).scrambler.toNat = 1024 * 2 ^ 18 from seed]
    exact (Prod.mk.eta (p := receiveCodeword (1024 * 2 ^ 18) (List.replicate 544 0))).symm.trans
      (congrArg (·, (receiveCodeword (1024 * 2 ^ 18) (List.replicate 544 0)).2) decoded)
  have apart : crossed.LocksApart 0 0 w := ⟨by decide, by rw [seq]; decide, by rw [seq]; decide, by decide⟩
  replace apart : (crossed.elapse 0).LocksApart 0 0 w := ⟨apart.waits, apart.follows, apart.parity, apart.port⟩
  rw [exec_chainCodewordReceived 0 0 len] at run
  have next : t = settle crossed ((crossed.elapse 0).chainCodeword 0 0 (List.replicate 544 0)) := by
    have live : (!(crossed.elapse 0).chainOn || (crossed.elapse 0).dark) = false := by decide
    unfold effect at run
    dsimp only at run
    rw [live, if_neg (by decide)] at run
    exact (Host.Outcome.next.inj run).symm
  have linked := third.2
  rw [next, settle_cport] at linked
  exact absurd (linked.symm.trans (chainCodeword_apart received apart)) (by decide)

end Sys2Proof.Machine
end

section
/-!
SUPPORT. The control mailbox (R104): requests, responses and time-outs of a port. From this O24.
-/
namespace Sys2Proof.Machine

theorem exec_mbxReq (l : Fin 64) (k : Fin 8) (s : State) : exec (.mbxReq l k) s = effect (fun s =>
    let i := portIx l k
    if !s.mbxRuns i then s
    else match (s.port i).nextUnbound with
      | some r => (s.unqueue i r).sendRequest i r
      | none => s) s := rfl

theorem exec_mbxTimeout (l : Fin 64) (k : Fin 8) (s : State) : exec (.mbxTimeout l k) s = effect (fun s =>
    let i := portIx l k
    match (s.port i).waiting with
    | r :: _ => if s.mbxRuns i then s.mbxTimeout i r else s
    | [] => s) s := rfl

/-! ### Sending -/

/-- The body of a request's packet. -/
def MbxReq.packet (r : MbxReq) : List Byte :=
  leBytes 2 r.gen.toNat ++ [r.seq, BitVec.ofNat 8 (bit r.bound + 2 * bit r.reply)] ++ r.body

/-- A request as it has been sent once more. -/
def MbxReq.again (r : MbxReq) : MbxReq := { r with attempts := r.attempts + 1 }

/-- The port of a request that has been sent. -/
def Port.sent (p : Port) (r : MbxReq) : Port :=
  { p with reqGen := if r.bound && r.attempts + 1 = 1 then r.gen else p.reqGen
           waiting := if r.reply then p.waiting ++ [r.again] else p.waiting }

theorem sent_waiting (p : Port) (r : MbxReq) : (p.sent r).waiting = p.waiting ++ (if r.reply then [r.again] else []) := by
  unfold Port.sent
  dsimp only
  split
  · rfl
  · exact (List.append_nil _).symm

theorem sendRequest_eq (s : State) (i : Nat) (r : MbxReq) :
    s.sendRequest i r = (s.setPort i ((s.port i).sent r)).sendBack (i / 8) 0x35 (i % 8) r.packet := rfl

theorem sendBack_ports (s : State) (l dt vc : Nat) (p : List Byte) : (s.sendBack l dt vc p).ports = s.ports := by
  have same := sendBack_same s l dt vc p
  unfold State.SameButBack at same
  rw [same]

/-- A packet of a lane that runs goes out, or waits for the edge. -/
theorem sendBack_sent {s : State} {l : Nat} (on : s.flag .sxlCfg l 0 0 = true) (lit : s.dark = false) (dt vc : Nat) (p : List Byte) :
    s.SentBack (settle s (s.sendBack l dt vc p)) l (csiPacket dt vc p) := by
  unfold State.SentBack State.sendBack State.emitBack
  dsimp only
  rw [on, lit]
  cases held : s.backHeld with
  | true => exact settle_backWait ..
  | false => exact sent_of_out rfl

theorem sentBack_of_port {s t : State} {i l : Nat} {x : Port} {p : List Byte} (h : (s.setPort i x).SentBack t l p) : s.SentBack t l p := h

theorem settle_of_port (s u : State) (i : Nat) (x : Port) : settle (s.setPort i x) u = settle s u := rfl

theorem mbxRuns_portIx {s : State} {l : Fin 64} {k : Fin 8} (runs : s.mbxRuns (portIx l k) = true) :
    s.flag .sxlCfg l 0 0 = true ∧ s.dark = false := by
  unfold State.mbxRuns at runs
  rw [portIx_lane, Bool.and_eq_true, Bool.not_eq_true'] at runs
  exact runs

/-- What a request sent from a port, put as it is, does. -/
theorem sendRequest_sent {s : State} {l : Fin 64} {k : Fin 8} (runs : s.mbxRuns (portIx l k) = true) (x : Port) (r : MbxReq) :
    let t := settle s ((s.setPort (portIx l k) x).sendRequest (portIx l k) r)
    s.SentBack t l (csiPacket 0x35 k r.packet) ∧ t.port (portIx l k) = x.sent r := by
  obtain ⟨on, lit⟩ := mbxRuns_portIx runs
  dsimp only
  rw [sendRequest_eq, portIx_lane, portIx_port, settle_port, port_of_ports (sendBack_ports ..), port_setPort_self, port_setPort_self]
  refine ⟨?_, rfl⟩
  have sent := sendBack_sent (s := (s.setPort (portIx l k) x).setPort (portIx l k) (x.sent r)) (l := l) on lit 0x35 k r.packet
  rw [settle_of_port, settle_of_port] at sent
  exact sentBack_of_port (sentBack_of_port sent)

/-! ### What a response block may change -/

theorem respond_within (s : State) (i : Nat) (r : MbxReq) (res status : Nat) (p : List Byte) :
    s.Within hostSide (s.respond i r res status p) := by
  unfold State.respond
  extract_lets x a data fin
  exact .ite ((State.Within.setRing _ _ rfl).trans (.drainWrites _)) (.refl _ _)

theorem respond_ports (s : State) (i : Nat) (r : MbxReq) (res status : Nat) (p : List Byte) : (s.respond i r res status p).ports = s.ports :=
  (respond_within s i r res status p).field .ports rfl

/-- A port without a request that waited. -/
def Port.answered (p : Port) (r : MbxReq) : Port := { p with waiting := p.waiting.filter fun q => q.order ≠ r.order }

theorem mbxResponse_found {s : State} {i : Nat} {p : List Byte} {r : MbxReq}
    (found : ((s.port i).waiting.find? fun r => r.seq = byteAt p 2 && r.gen = BitVec.ofNat 16 (leAt p 0 2)) = some r) :
    (s.mbxResponse i p).port i = (s.port i).answered r := by
  unfold State.mbxResponse
  extract_lets gen seq st u q
  have same : q = s.port i := by
    unfold q u
    split <;> rfl
  rw [same, found]
  dsimp only
  rw [port_of_ports (respond_ports ..), port_setPort_self]
  rfl

theorem mbxResponse_stranger {s : State} {i : Nat} {p : List Byte}
    (none : ((s.port i).waiting.find? fun r => r.seq = byteAt p 2 && r.gen = BitVec.ofNat 16 (leAt p 0 2)) = none) :
    (s.mbxResponse i p).ports = s.ports := by
  unfold State.mbxResponse
  extract_lets gen seq st u q
  have ports : u.ports = s.ports := by
    unfold u
    split <;> rfl
  rw [show q = s.port i from port_of_ports ports i, none]
  exact ports

theorem mbxRsp_completes (l : Fin 64) (k : Fin 8) (p : List Byte) (crc : BitVec 16) (s : State) (takes : s.laneTakes l = true)
    (plain : s.replaying l = false) : Completes (.mbxRsp l k p crc) s fun t =>
      (4 ≤ p.length → p.length ≤ 64 → crc16 p = crc →
        (∀ r, ((s.port (portIx l k)).waiting.find? fun r => r.seq = byteAt p 2 && r.gen = BitVec.ofNat 16 (leAt p 0 2)) = some r →
          t.port (portIx l k) = { s.port (portIx l k) with
            waiting := (s.port (portIx l k)).waiting.filter fun q => q.order ≠ r.order }) ∧
        (((s.port (portIx l k)).waiting.all fun r => r.seq ≠ byteAt p 2 || r.gen ≠ BitVec.ofNat 16 (leAt p 0 2)) = true →
          t.ports = s.ports)) ∧
      (p.length < 4 ∨ 64 < p.length ∨ crc16 p ≠ crc → s.Sound → t = s) := by
  have taken : s.boxFromLane l (fun s => s.mbxPacket (portIx l k) p crc) = s.mbxPacket (portIx l k) p crc := by
    unfold State.boxFromLane
    rw [takes, plain]
    rfl
  refine completes_of_effect (exec_mbxRsp l k p crc s) ?_
  rw [taken]
  unfold State.mbxPacket
  refine ⟨fun least most intact => ?_, fun bad sound => ?_⟩
  · have form : ¬ (p.length < 4 || 64 < p.length || crc16 p ≠ crc) = true := by
      simp only [Bool.or_eq_true, decide_eq_true_eq]
      rintro ((short | long) | spoilt)
      · omega
      · omega
      · exact spoilt intact
    rw [if_neg form, settle_port, settle_ports]
    refine ⟨fun r found => mbxResponse_found found, fun all => mbxResponse_stranger (List.find?_eq_none.mpr fun r mem same => ?_)⟩
    have differs := List.all_eq_true.mp all r mem
    simp only [Bool.or_eq_true, Bool.and_eq_true, decide_eq_true_eq] at differs same
    exact differs.elim (· same.1) (· same.2)
  · have form : (p.length < 4 || 64 < p.length || crc16 p ≠ crc) = true := by
      simp only [Bool.or_eq_true, decide_eq_true_eq]
      exact or_assoc.mpr bad
    rw [if_pos form]
    exact sound.settle_eq (by rfl) (by rfl)

/-! ### Time-outs -/

theorem mbxTimeout_completes (l : Fin 64) (k : Fin 8) (r : MbxReq) (rs : List MbxReq) (s : State) (runs : s.mbxRuns (portIx l k) = true)
    (waits : (s.port (portIx l k)).waiting = r :: rs) (alone : ∀ q ∈ rs, q.order ≠ r.order) : Completes (.mbxTimeout l k) s fun t =>
      (r.attempts ≤ s.field .sxlMbxCfg l 0 16 2 → (t.port (portIx l k)).waiting =
          rs ++ (if r.reply then [{ r with attempts := r.attempts + 1 }] else []) ∧
        s.SentBack t l (csiPacket 0x35 k
          (leBytes 2 r.gen.toNat ++ [r.seq, BitVec.ofNat 8 (bit r.bound + 2 * bit r.reply)] ++ r.body))) ∧
      (s.field .sxlMbxCfg l 0 16 2 < r.attempts → (t.port (portIx l k)).waiting = rs ∧
        t.reg .sxlPmbxf l k = satAdd (s.reg .sxlPmbxf l k) 1) := by
  have left : ((s.port (portIx l k)).answered r).waiting = rs := by
    unfold Port.answered
    dsimp only
    rw [waits, List.filter_cons_of_neg (by simp), List.filter_eq_self.mpr fun q mem => decide_eq_true (alone q mem)]
  refine completes_of_effect (exec_mbxTimeout l k s) ?_
  dsimp only
  rw [waits]
  dsimp only
  rw [runs, if_pos rfl]
  have timed : s.mbxTimeout (portIx l k) r = if r.attempts ≤ s.field .sxlMbxCfg l 0 16 2 then
      (s.setPort (portIx l k) ((s.port (portIx l k)).answered r)).sendRequest (portIx l k) r
    else (((s.setPort (portIx l k) ((s.port (portIx l k)).answered r)).bump .sxlPmbxf l k).raise 0x0220
      [(2, s.portAddr (portIx l k)), (2, r.gen.toNat), (1, r.seq.toNat), (3, 0)]).respond (portIx l k) r 1 0xFF [] := by
    unfold State.mbxTimeout
    rw [portIx_lane, portIx_port]
    rfl
  rw [timed]
  refine ⟨fun again => ?_, fun failed => ?_⟩
  · rw [if_pos again]
    obtain ⟨sent, port⟩ := sendRequest_sent runs ((s.port (portIx l k)).answered r) r
    refine ⟨?_, sent⟩
    rw [port, ← left]
    exact sent_waiting _ r
  · rw [if_neg (Nat.not_le.mpr failed), settle_port, settle_reg_lane _ _ (by decide) rfl l (by have := k.isLt; show 0x20 * k.val < _; omega),
      port_of_ports (respond_ports ..)]
    refine ⟨(congrArg Port.waiting (port_setPort_self s _ _)).trans left, ?_⟩
    refine ((respond_within ..).reg _ _ (decide_eq_false ?_)).trans (State.reg_setReg_self ..)
    have := l.isLt
    have := k.isLt
    simp only [RegName.off, RegName.row]
    omega

/-- Settles O24: the requests of a port as they are sent, answered and timed. -/
theorem mailboxRequests : Obligations.MailboxRequests := by
  unfold Obligations.MailboxRequests
  refine ⟨fun l k r s runs next => ?_, mbxRsp_completes, mbxTimeout_completes, fun l k s sound => ⟨fun idle => ?_, fun idle => ?_⟩⟩
  · refine completes_of_effect (exec_mbxReq l k s) ?_
    dsimp only
    rw [runs, if_neg (by decide), next]
    obtain ⟨sent, port⟩ := sendRequest_sent runs
      { s.port (portIx l k) with queue := (s.port (portIx l k)).queue.filter fun q => q.order ≠ r.order } r
    exact ⟨sent, congrArg Port.queue port, (congrArg Port.waiting port).trans (sent_waiting _ r)⟩
  · refine completes_idle (exec_mbxReq l k s) ?_ sound
    dsimp only
    rcases idle with stopped | none
    · rw [stopped]
      rfl
    · rw [none]
      exact ite_self _
  · refine completes_idle (exec_mbxTimeout l k s) ?_ sound
    dsimp only
    rcases idle with stopped | none
    · cases (s.port (portIx l k)).waiting with
      | nil => rfl
      | cons r rs =>
        dsimp only
        rw [stopped]
        rfl
    · rw [none]

end Sys2Proof.Machine
end

section
/-!
SUPPORT. A descriptor held on a ring that has become an event queue (R280, R297): the queue's halt discards it. From this O25.
-/
namespace Sys2Proof.Machine

/-- STAGE_IND of one word for port 0, its data at address 0. -/
def stageOne : BitVec 512 := BitVec.ofNat 512 (0x03 + 2 ^ 128)

/-- Ring 0 holds `stageOne`, whose page is not translated yet, and is the event queue of domain 0, which may read host memory and not write
it; an event for that domain has been raised. -/
def State.holding : State :=
  { (((((State.reset.setReg .protRing 0 0 0x400).setReg .ringCfg 0 0 0x8D).setReg .protBaseLo 0 0 1).setReg .protLimLo 0 0
      0xFFFFF000).setReg .protPort 0 0 1).setReg .evtCfg 0 0 0x20 with
    rings := [(0, { state := .run, fetched := some stageOne })], atsOn := true
    raised := [{ type := 0x0604, time := 0, payload := payload [(2, 0xFFFF), (1, 0)] }] }

/-- What waits for its indirect data on ring 0 once a command has ended. -/
def heldAfter (o : Host.Outcome State Fault Refusal) : Option (BitVec 512) :=
  match o with
  | .next t => (t.ring 0).fetched
  | _ => some stageOne

theorem heldAfter_stageInd_holding : heldAfter (exec (.stageInd 0 stageOne [0] false) .holding) = none := by decide +kernel

theorem holds_holding : State.holding.Holds (0 : Fin 1024) 3 stageOne := by unfold State.Holds; decide +kernel

theorem permits_holding : State.holding.domTray ((State.holding.ringDomain (0 : Fin 1024)).getD 0) (dTray stageOne) = true ∧
    outOfRange stageOne (dField stageOne 16 4) = false ∧ [0].length = dField stageOne 16 4 := by decide +kernel

theorem eq_of_fst_eq {α β : Type} {p : α × β} {a : α} (h : p.1 = a) : p = (a, p.2) := by rw [← h]

theorem readPages_holding : (State.holding.readPages (0 : Fin 1024) ((pagePieces (dField stageOne 8 8) (4 * dField stageOne 16 4)
    (4 * dField stageOne 16 4)).drop (State.holding.ring (0 : Fin 1024)).unitsRead)).1 = .wait := by decide +kernel

/-- Refutes O25: the record of a raised event lies outside the windows of the queue that holds the descriptor, so that the queue halts and
the descriptor that waited for its data is gone. -/
theorem not_stageDescriptors : ¬ Obligations.StageDescriptors := by
  unfold Obligations.StageDescriptors
  rintro ⟨-, -, -, waits, -⟩
  obtain ⟨tray, inside, one⟩ := permits_holding
  obtain ⟨t, run, -, held, -⟩ := (waits 0 stageOne [0] .holding .holding (.inr ⟨holds_holding, rfl⟩) tray inside).2 _ one
    (eq_of_fst_eq readPages_holding)
  have lost := heldAfter_stageInd_holding
  rw [run] at lost
  exact nomatch held.symm.trans lost

end Sys2Proof.Machine
end

section
/-!
SUPPORT. A record in step mode whose response halts the export's ring (R242, R253, R270): the RELEASE that completes with it counts on the
ring of the record. From this O29.
-/
namespace Sys2Proof.Machine

/-- A response to the request of GEN 0 and SEQ 0, as a packet. -/
def responsePacket : List Byte := csiPacket 0x31 0 [0, 0, 0, 0]

/-- DATA of tick offset 0 for port 0: ten bytes at address 0. -/
def dataOne : BitVec 512 := BitVec.ofNat 512 (0x30 + 10 * 2 ^ 320)

/-- In step mode ring 0 holds `dataOne`, its data read, while a RELEASE of it waits for the export on ring 1; ring 1, of no domain, is the
ring of the request that the record's packet answers. -/
def State.colliding : State :=
  { ((((((State.reset.setReg .protRing 0 0 0x400).setReg .ringCfg 0 0 0x89).setReg .protBaseLo 0 0 3).setReg .protLimLo 0 0
      0xFFFFF000).setReg .protPort 0 0 1).setReg .tickCfg 0 0 4) with
    rings := [(0, { state := .run, fetched := some dataOne, unitsRead := 1, busy := true, n0 := some 0 }), (1, { state := .run })]
    rcl := { state := .exporting, exportRing := 1, releasing := [{ ring := 0, inc := 0, opTag := 0, evt := false }] }
    ports := [(0, { waiting := [{ gen := 0, seq := 0, bound := false, reply := true, body := [], rspAddr := 0, ring := 1, inc := 0
                                  opTag := 0, order := 0, wait := 0 }] })] }

/-- What ring 0 has counted and still writes, and its state, once a command has ended. -/
def ring0After (o : Host.Outcome State Fault Refusal) : Option (Word × Nat × RingState) :=
  match o with
  | .next t => some (t.cons 0, (t.ring 0).writes.length, (t.ring 0).state)
  | _ => none

theorem ring0After_data_colliding : ring0After (exec (.data 0 dataOne responsePacket false) .colliding) = some (2, 0, .run) := by decide +kernel

theorem holds_colliding : State.colliding.Holds (0 : Fin 1024) 0x30 dataOne := by unfold State.Holds; decide +kernel

theorem permits_colliding : State.colliding.kind (0 : Fin 1024) = 2 ∧
    State.colliding.domPort ((State.colliding.ringDomain (0 : Fin 1024)).getD 0) (dPort dataOne) = true ∧ State.colliding.stepMode = true ∧
    State.colliding.cons (0 : Fin 1024) = 0 ∧ (State.colliding.ring (0 : Fin 1024)).n0.getD (State.colliding.now + 1 +
      bit (State.colliding.edgeNow && !State.colliding.stepping)) + dTickOff dataOne ≤ State.colliding.now := by decide +kernel

theorem responsePacket_facts : responsePacket.length = dField dataOne 40 4 ∧ countFs (responsePacket.length + 1) responsePacket ≤ 1 := by
  decide +kernel

theorem readPages_colliding : (State.colliding.readPages (0 : Fin 1024) ((pagePieces (dField dataOne 32 8) (dField dataOne 40 4)
    (dField dataOne 40 4)).drop (State.colliding.ring (0 : Fin 1024)).unitsRead)).1 = .go [] := by decide +kernel

/-- Refutes O29: the record's packet ends the export, and the RELEASE that has waited and the DATA are both counted. -/
theorem not_replayDescriptors : ¬ Obligations.ReplayDescriptors := by
  unfold Obligations.ReplayDescriptors
  rintro ⟨data, -⟩
  obtain ⟨kind, port, steps, none, behind⟩ := permits_colliding
  obtain ⟨length, single⟩ := responsePacket_facts
  have read : State.colliding.ReadsData (0 : Fin 1024) (dField dataOne 32 8) (dField dataOne 40 4) _ :=
    ⟨[], _, eq_of_fst_eq readPages_colliding, rfl⟩
  obtain ⟨t, run, -, -, -, applied⟩ := (data 0 dataOne responsePacket .colliding .colliding _ (.inr ⟨holds_colliding, rfl⟩) kind port read).1
    length single
  obtain ⟨⟨-, counts⟩, -⟩ := applied behind steps
  have ends := ring0After_data_colliding
  rw [run] at ends
  obtain ⟨two, writes, alive⟩ : t.cons 0 = 2 ∧ (t.ring 0).writes.length = 0 ∧ (t.ring 0).state = .run := by
    simpa [ring0After] using ends
  have unstruck : ¬ t.Struck (0 : Fin 1024) := by
    rintro (halted | ⟨drains, -⟩)
    · exact nomatch alive.symm.trans halted
    · exact nomatch alive.symm.trans drains
  have one := counts unstruck (List.eq_nil_of_length_eq_zero writes)
  rw [none] at one
  exact absurd (two.symm.trans one) (by decide)

end Sys2Proof.Machine
end

section
/-!
SUPPORT. Completions of a ring (R257, R293, R294): what it writes leaves in order, or waits, or the ring is struck, and the delivery of
events leaves that as it is, on an event queue's ring too.
-/
namespace Sys2Proof.Machine

/-! ### What the delivery of events leaves of a ring -/

/-- Ring r has halted, or stands with its status as it did. -/
def State.Stands (r : Nat) (s t : State) : Prop :=
  (t.ring r).state = .halt ∨ (t.ring r = s.ring r ∧ t.reg .ringStatus r = s.reg .ringStatus r)

namespace State.Stands

variable {r : Nat} {s t u : State}

theorem refl (r : Nat) (s : State) : s.Stands r s := .inr ⟨rfl, rfl⟩

theorem trans (h : s.Stands r t) (g : t.Stands r u) : s.Stands r u := by
  rcases g with halted | ⟨ring, status⟩
  · exact .inl halted
  · rcases h with halted | ⟨ring', status'⟩
    · exact .inl (ring ▸ halted)
    · exact .inr ⟨ring.trans ring', status.trans status'⟩

theorem next (h : s.Stands r t) (rings : u.rings = t.rings) (status : u.reg .ringStatus r = t.reg .ringStatus r) : s.Stands r u :=
  h.trans (.inr ⟨ring_of_rings rings r, status⟩)

theorem ite {c : Prop} [Decidable c] (h : s.Stands r t) (g : s.Stands r u) : s.Stands r (if c then t else u) := by
  split
  · exact h
  · exact g

theorem foldl {α : Type} {f : State → α → State} (h : ∀ (s : State) (a : α), s.Stands r (f s a)) (l : List α) (s : State) :
    s.Stands r (l.foldl f s) := by
  induction l generalizing s with
  | nil => exact refl r s
  | cons a l ih => exact (h s a).trans (ih _)

theorem of_spares (h : s.Spares r t) : s.Stands r t := .inr ⟨h.ring, h.status⟩

theorem setReg {n : RegName} {i j : Nat} (v : Word) (other : RegName.ringStatus.off r ≠ n.off i j) :
    s.Stands r (s.setReg n i j v) := .inr ⟨rfl, State.get_setReg_of_ne _ _ _ _ _ _ _ other⟩

theorem signal (bound : r < 1024) (q sev : Nat) : s.Stands r (s.signal q sev) := by
  unfold State.signal
  extract_lets x n imm
  split
  · unfold State.sendMsix
    split
    · refine (Stands.refl r s).next rfl (State.get_setReg_of_ne _ _ _ _ _ _ _ ?_)
      have vector : s.field .evtMsi q 0 0 11 / 32 < 64 := by
        have small : s.field .evtMsi q 0 0 11 < 2 ^ 11 := Nat.mod_lt _ (by decide)
        omega
      simp [RegName.off, RegName.row]
      omega
    · exact (Stands.refl r s).next rfl rfl
  · exact (Stands.refl r s).next rfl rfl

theorem writeRecord (bound : r < 1024) (q : Nat) {i : Nat} (live : (s.ring i).state = .run) (b : BitVec 256) :
    s.Stands r (s.writeRecord q i b).2 := by
  have prepared := State.Spares.prepare (.refl r s) bound i (s.ringBase i + 32 * ((s.queue q).pd.toNat % 2 ^ s.log2s i)) 32 true
  unfold State.writeRecord
  extract_lets x n l addr
  split
  next e => rw [e] at prepared; exact of_spares prepared
  next v e =>
    have rings := prepare_rings s i addr 32 true
    rw [e] at prepared rings
    by_cases own : r = i
    · subst own
      refine .inl ?_
      have run : (v.ring r).state = .run := (congrArg Ring.state (ring_of_rings rings r)).trans live
      exact congrArg Ring.state (haltRing_ring_of_live bound (by rw [run]; decide))
    · exact of_spares (prepared.haltRing own 2)
  next ps v e =>
    rw [e] at prepared
    exact ((of_spares (prepared.issue bound i false ps addr _)).next rfl rfl).trans (signal bound q _)

theorem putRecord (bound : r < 1024) (q i : Nat) (b : BitVec 256) : s.Stands r (s.putRecord q i b) := by
  unfold State.putRecord
  split
  · exact (Stands.refl r s).next rfl rfl
  next live =>
    have run : (s.ring i).state = .run := by
      by_contra no
      exact live (by simp [no])
    have written := writeRecord (s := s) bound q run b
    dsimp only
    split
    · exact written
    · exact written.next rfl rfl

theorem lose (q : Nat) : s.Stands r (s.lose q) :=
  (setReg (s := s) (n := .evtLost) (i := q) (j := 0) _ (by simp [RegName.off, RegName.row]; omega)).next rfl rfl

theorem take (bound : r < 1024) {q : Nat} (le : q ≤ 16) (e : EventRec) : s.Stands r (s.take q e) := by
  unfold State.take
  split
  · exact refl r s
  next i found =>
    dsimp only
    split
    · exact refl r s
    have counted := setReg (r := r) (s := s) (n := .evtSeq) (i := q) (j := 0) (s.reg .evtSeq q + 1) (by simp [RegName.off, RegName.row]; omega)
    split
    · exact counted.trans (lose q)
    split
    · exact counted.trans (putRecord bound q i _)
    · have full := counted.next (u := (s.setReg .evtSeq q 0 (s.reg .evtSeq q + 1)).setQueue q
        { (s.setReg .evtSeq q 0 (s.reg .evtSeq q + 1)).queue q with overflow := true, lostNow := 0 }) rfl rfl
      exact (ite (full.trans (putRecord bound q i _)) full).trans (lose q)

theorem offer (bound : r < 1024) (e : EventRec) : s.Stands r (s.offer e) := by
  unfold State.offer
  split
  · exact (Stands.refl r s).next rfl rfl
  · exact List.foldlRecOn (motive := fun t : State => s.Stands r t) _ _ (refl r s) fun t g q hq => g.trans (take bound (State.Kept.domainsOf_le hq) e)

theorem deliver (bound : r < 1024) (n : Nat) : s.Stands r (State.deliver n s) := by
  induction n generalizing s with
  | zero => exact (Stands.refl r s).next rfl rfl
  | succ n ih =>
    unfold State.deliver
    split
    · exact refl r s
    · exact ((Stands.refl r s).next (u := { s with raised := [] }) rfl rfl).trans ((foldl (fun u e => offer bound e) _ _).trans ih)

/-- A command leaves a ring as its effect does, or halted. -/
theorem settle (bound : r < 1024) (s0 : State) : s.Stands r (Machine.settle s0 s) := by
  have reported : s.Stands r s.reportService := by
    unfold State.reportService
    dsimp only
    split
    · exact refl r s
    · exact (Stands.refl r s).next rfl rfl
  exact (reported.trans (deliver bound 64)).next rfl rfl

end State.Stands

/-! ### What a ring writes -/

/-- Of what ring r was to write the first part has left and the rest waits, C counting the completions that left; or it is struck. -/
def State.Written (r : Nat) (ws : List PendingWrite) (s t : State) : Prop :=
  t.Struck r ∨ ∃ gone, ws = gone ++ (t.ring r).writes ∧ t.cons r = s.cons r + BitVec.ofNat 32 (gone.filter (·.advance)).length ∧
    ∀ w ∈ gone, w.bytes ≠ [] → ∃ a n x, 0 < n ∧ .hostWrite r a (w.bytes.take n) x ∈ t.out

theorem State.HaltedBy.struck {r : Nat} {s t : State} (h : State.HaltedBy r s 2 t) : t.Struck r := by
  by_cases drains : (s.ring r).state = .drain
  · exact .inr ⟨(h.drains drains).1, h.status⟩
  · exact .inl (h.live drains).1

theorem State.Struck.of_stands {r : Nat} {s t : State} (h : s.Struck r) (g : s.Stands r t) : t.Struck r := by
  rcases g with halted | ⟨ring, status⟩
  · exact .inl halted
  · rcases h with halted | ⟨drains, cause⟩
    · exact .inl (ring ▸ halted)
    · exact .inr ⟨ring ▸ drains, (congrArg (fun v => bitsOf v 8 4) status).trans cause⟩

theorem State.Within.cons {s t : State} (h : s.Within lookSide t) (r : Nat) (bound : r < 1024) : t.cons r = s.cons r :=
  h.reg _ _ (beq_false_of_ne (by simp [RegName.off, RegName.row]; omega))

theorem flushWith_cons_of_go {halt : State → Nat → State} {s v : State} {r : Nat} {w : PendingWrite} {ps : List Nat} (ws : List PendingWrite)
    (go : s.prepare r w.addr (w.bytes.length + w.ahead) true = (.go ps, v)) :
    s.flushWith halt r (w :: ws) = (v.writeGone r w ps).flushWith halt r ws := by
  rw [State.flushWith, go]
  rfl

theorem writeGone_facts (v : State) {r : Nat} (bound : r < 1024) (w : PendingWrite) (ps : List Nat) :
    (v.writeGone r w ps).rings = v.rings ∧ (v.writeGone r w ps).cons r = v.cons r + (if w.advance then 1 else 0) ∧
      (v.writeGone r w ps).out = (v.issue r w.addr w.bytes w.relaxed (ps.take (pagesOf w.addr w.bytes.length).length)).out := by
  have issued := State.Within.issue (s := v) r w.addr w.bytes w.relaxed (ps.take (pagesOf w.addr w.bytes.length).length)
  have rings := issue_rings r w.relaxed (ps.take (pagesOf w.addr w.bytes.length).length) v w.addr w.bytes
  unfold State.writeGone
  extract_lets a b
  have counted : b.rings = v.rings ∧ b.cons r = v.cons r + (if w.advance then 1 else 0) ∧ b.out = a.out := by
    unfold b
    cases w.advance with
    | true => exact ⟨rings, (State.reg_setReg_self _ _ _ _ _).trans (congrArg (· + 1) (issued.cons r bound)), rfl⟩
    | false => exact ⟨rings, (issued.cons r bound).trans (BitVec.add_zero _).symm, rfl⟩
  split
  · exact counted
  · exact counted

theorem take_pages_ne_nil {s v : State} {r : Nat} {w : PendingWrite} {ps : List Nat} (some : w.bytes ≠ [])
    (go : s.prepare r w.addr (w.bytes.length + w.ahead) true = (.go ps, v)) : ps.take (pagesOf w.addr w.bytes.length).length ≠ [] := by
  have long : w.bytes.length ≠ 0 := fun e => some (List.eq_nil_of_length_eq_zero e)
  have pages : ps ≠ [] := ne_nil_of_prepare_go (by omega) go
  intro empty
  rcases List.take_eq_nil_iff.mp empty with none | none
  · simp [pagesOf, long] at none
  · exact pages none

/-- What waits for a ring leaves in order. -/
theorem flushWrites_written {r : Nat} (bound : r < 1024) (ws : List PendingWrite) {s : State} (alive : (s.ring r).halting = none) :
    s.Written r ws (s.flushWrites r ws) := by
  induction ws generalizing s with
  | nil =>
    refine .inr ⟨[], ?_, ?_, fun w no => absurd no List.not_mem_nil⟩
    · unfold State.flushWrites State.flushWith
      simp [alive, State.ring_setRing]
    · unfold State.flushWrites State.flushWith
      dsimp only
      rw [alive]
      exact (BitVec.add_zero _).symm
  | cons w ws ih =>
    have looked := State.Within.prepare (s := s) r w.addr (w.bytes.length + w.ahead) true
    have rings := prepare_rings s r w.addr (w.bytes.length + w.ahead) true
    rcases found : s.prepare r w.addr (w.bytes.length + w.ahead) true with ⟨ready, v⟩
    rw [found] at looked rings
    cases ready with
    | wait =>
      refine .inr ⟨[], ?_, ?_, fun w no => absurd no List.not_mem_nil⟩
      · unfold State.flushWrites State.flushWith
        simp [found, State.ring_setRing]
      · unfold State.flushWrites State.flushWith
        rw [found]
        exact (looked.cons r bound).trans (BitVec.add_zero _).symm
    | outside =>
      refine .inl ?_
      unfold State.flushWrites State.flushWith
      rw [found]
      exact (halt_halted v bound (by decide)).struck
    | go ps =>
      obtain ⟨same, counted, sent⟩ := writeGone_facts v bound w ps
      have ring : (v.writeGone r w ps).ring r = s.ring r := ring_of_rings (same.trans rings) r
      have written := ih (s := v.writeGone r w ps) (ring ▸ alive)
      have grows : ∃ l, ((v.writeGone r w ps).flushWrites r ws).out = l ++ (v.writeGone r w ps).out := State.Sends.flushWith (fun _ _ => .halt ..) r ws
      unfold State.flushWrites at written grows ⊢
      rw [flushWith_cons_of_go ws found]
      refine written.imp_right fun ⟨gone, parts, cons, left⟩ => ⟨w :: gone, by rw [List.cons_append, ← parts], ?_, fun x hx some => ?_⟩
      · rw [cons, counted, looked.cons r bound, List.filter_cons, BitVec.add_assoc]
        congr 1
        cases w.advance with
        | true => simp [BitVec.ofNat_add, BitVec.add_comm]
        | false => simp
      · rcases List.mem_cons.mp hx with rfl | later
        · obtain ⟨a, n, y, pos, mem⟩ := mem_issue_out (take_pages_ne_nil some found) v r x.addr x.bytes x.relaxed
          obtain ⟨l, hl⟩ := grows
          exact ⟨a, n, y, pos, by rw [hl, sent]; exact List.mem_append_right _ mem⟩
        · exact left x later some

theorem State.Written.settle {r : Nat} (bound : r < 1024) {ws : List PendingWrite} {s u : State} (s0 : State) (h : s.Written r ws u) :
    s.Written r ws (Machine.settle s0 u) := by
  have stands := State.Stands.settle (s := u) bound s0
  rcases h with struck | ⟨gone, parts, cons, left⟩
  · exact .inl (struck.of_stands stands)
  · rcases stands with halted | ⟨ring, -⟩
    · exact .inl (.inl halted)
    · have count : (Machine.settle s0 u).cons r = u.cons r :=
        settle_reg s0 u .ringCons r 0 (by simp [deliveryReg, RegName.off, RegName.row]; omega)
      refine .inr ⟨gone, ring ▸ parts, count.trans cons, fun w hw some => ?_⟩
      obtain ⟨a, n, x, pos, mem⟩ := left w hw some
      exact ⟨a, n, x, pos, mem_settle_out mem⟩

theorem State.Written.writesOut {r : Nat} {ws : List PendingWrite} {s t : State} (h : s.Written r ws t) {w : PendingWrite} (hw : w ∈ ws)
    (some : w.bytes ≠ []) : t.WritesOut r w.bytes := by
  rcases h with struck | ⟨gone, parts, -, left⟩
  · exact .inl struck
  · rw [parts] at hw
    rcases List.mem_append.mp hw with before | waits
    · exact .inr (.inr (left w before some))
    · exact .inr (.inl ⟨w, waits, rfl⟩)

theorem State.Written.answered {r : Nat} {first : List PendingWrite} {fin : PendingWrite} {s u t : State}
    (h : u.Written r (first ++ [fin]) t) (plain : ∀ w ∈ first, w.advance = false) (counts : fin.advance = true)
    {status detail result : Nat} (bytes : fin.bytes = completionBytes status detail result) (cons : u.cons r = s.cons r) :
    s.Answered t r status detail result := by
  refine ⟨bytes ▸ h.writesOut (List.mem_append_right _ (List.mem_singleton_self _)) (by rw [bytes]; exact List.cons_ne_nil _ _), ?_⟩
  rcases h with struck | ⟨gone, parts, count, -⟩
  · exact fun no => absurd struck no
  · intro _ none
    rw [none, List.append_nil] at parts
    have firsts : first.filter (·.advance) = [] := List.filter_eq_nil_iff.mpr fun w hw => by simp [plain w hw]
    rw [count, cons, ← parts, List.filter_append, firsts, List.filter_cons_of_pos counts]
    rfl

/-! ### A descriptor's completion -/

/-- A ring with a completion to write. -/
def Ring.completing (x : Ring) (ws : List PendingWrite) : Ring := { x with busy := false, writes := ws }

/-- What a completion has ring r write, behind what goes before it. -/
def State.completions (u : State) (r op tag : Nat) (evt : Bool) (status detail result : Nat) (first : List PendingWrite) : List PendingWrite :=
  first ++ [u.completionOf r (u.cons r) op tag evt status detail result]

theorem complete_of_idle {u : State} {r : Nat} (idle : (u.ring r).writes = []) (op tag : Nat) (evt : Bool) (status detail result : Nat)
    (first : List PendingWrite) : u.complete r op tag evt status detail result first =
      (u.setRing r ((u.ring r).completing (u.completions r op tag evt status detail result first))).drainWrites r := by
  unfold State.complete
  dsimp only
  rw [idle, List.nil_append]
  rfl

theorem complete_written {u : State} {r : Nat} (bound : r < 1024) (idle : (u.ring r).writes = []) (alive : (u.ring r).halting = none)
    (op tag : Nat) (evt : Bool) (status detail result : Nat) (first : List PendingWrite) :
    u.Written r (u.completions r op tag evt status detail result first) (u.complete r op tag evt status detail result first) := by
  rw [complete_of_idle idle]
  generalize u.completions r op tag evt status detail result first = ws
  have ring : (u.setRing r ((u.ring r).completing ws)).ring r = (u.ring r).completing ws := by rw [State.ring_setRing, if_pos rfl]
  unfold State.drainWrites
  dsimp only
  rw [ring]
  split
  · exact flushWrites_written (s := u.setRing r ((u.ring r).completing ws)) bound ws (by rw [ring]; exact alive)
  · exact .inr ⟨[], by rw [ring]; rfl, (BitVec.add_zero _).symm, fun _ no => absurd no List.not_mem_nil⟩

/-- A descriptor's completion, as the end of the command leaves it. -/
theorem finishDesc_written {u : State} {r : Nat} (bound : r < 1024) (idle : (u.ring r).writes = []) (alive : (u.ring r).halting = none) (s0 : State)
    (d : BitVec 512) (status detail result : Nat) (first : List PendingWrite) :
    u.Written r (u.completions r (dOp d) (dTag d) (dEvt d) status detail result first)
      (settle s0 (u.finishDesc r d status detail result first)) :=
  (complete_written bound idle alive _ _ _ status detail result first).settle bound s0

theorem finishDesc_answered {s u : State} {r : Nat} (bound : r < 1024) (idle : (u.ring r).writes = []) (alive : (u.ring r).halting = none)
    (cons : u.cons r = s.cons r) (s0 : State) (d : BitVec 512) (status detail result : Nat) :
    s.Answered (settle s0 (u.finishDesc r d status detail result)) r status detail result :=
  (finishDesc_written bound idle alive s0 d status detail result []).answered (fun _ no => absurd no List.not_mem_nil) rfl rfl cons

theorem State.Within.finishDesc {u : State} (r : Nat) (d : BitVec 512) (status detail result : Nat) (first : List PendingWrite) :
    u.Within hostSide (u.finishDesc r d status detail result first) := .complete ..

/-- Completions outside an export of the ring leave the recall store alone. -/
theorem finishDesc_rcl {u : State} {r : Nat} (idle : (u.ring r).writes = []) (alive : (u.ring r).halting = none) (d : BitVec 512)
    (status detail result : Nat) (first : List PendingWrite) (other : u.rcl.state ≠ .exporting ∨ u.rcl.exportRing ≠ r) :
    (u.finishDesc r d status detail result first).rcl = u.rcl := by
  unfold State.finishDesc
  rw [complete_of_idle idle]
  generalize u.completions r (dOp d) (dTag d) (dEvt d) status detail result first = ws
  have ring : (u.setRing r ((u.ring r).completing ws)).ring r = (u.ring r).completing ws := by rw [State.ring_setRing, if_pos rfl]
  rcases drainWrites_cases (s := u.setRing r ((u.ring r).completing ws)) (r := r) (by rw [ring]; exact alive) with gone | ⟨v, gone, halts⟩
  · exact gone.within.field .rcl rfl
  · have kept : (v.haltRing r 2).rcl = u.rcl := (haltRing_rcl v r 2).trans (gone.within.field .rcl rfl)
    have same : (v.haltRing r 2).exportLost r = v.haltRing r 2 := if_neg (by rcases other with no | no <;> simp [kept, no])
    rw [halts, State.halt, same, kept]

end Sys2Proof.Machine
end

section
/-!
SUPPORT. Descriptor commands (R252, R257, R279): reading and judging come to the descriptor's own meaning, in a state that differs in what
was looked up and sent alone.
-/
namespace Sys2Proof.Machine

theorem issueRead_rings (r : Nat) (ps : List Nat) (s : State) (addr len : Nat) : (s.issueRead r addr len ps).rings = s.rings := by
  have run : ∀ (f n : Nat) (s : State) (addr : Nat), (s.readRun r addr f n).rings = s.rings := fun f => by
    induction f with
    | zero => exact fun _ _ _ => rfl
    | succ f ih =>
      intro n s addr
      cases n with
      | zero => rfl
      | succ n => exact ih ..
  induction ps generalizing s addr len with
  | nil => rfl
  | cons p ps ih => exact (ih ..).trans (run ..)

/-- `u` differs from `s` in what has been looked up and sent alone. -/
structure State.Looked (s u : State) : Prop where
  within : s.Within lookSide u
  rings : u.rings = s.rings

namespace State.Looked

variable {s t u : State}

theorem refl (s : State) : s.Looked s := ⟨.refl _ _, rfl⟩

theorem trans (h : s.Looked t) (g : t.Looked u) : s.Looked u := ⟨h.within.trans g.within, g.rings.trans h.rings⟩

theorem prepare (s : State) (r addr len : Nat) (write : Bool) : s.Looked (s.prepare r addr len write).2 := ⟨.prepare .., prepare_rings ..⟩

theorem issueRead (s : State) (r addr len : Nat) (ps : List Nat) : s.Looked (s.issueRead r addr len ps) := ⟨.issueRead .., issueRead_rings ..⟩

variable (h : s.Looked u)

include h

theorem ring (r : Nat) : u.ring r = s.ring r := ring_of_rings h.rings r

theorem reg {n : RegName} {i j : Nat} (other : n.off i j ≠ RegName.xlatHit.off) : u.reg n i j = s.reg n i j :=
  h.within.reg _ _ (beq_false_of_ne other)

theorem cons {r : Nat} (bound : r < 1024) : u.cons r = s.cons r := h.within.cons r bound

theorem kind {r : Nat} (bound : r < 1024) : u.kind r = s.kind r := by
  have cfg : u.reg .ringCfg r = s.reg .ringCfg r := h.reg (by simp [RegName.off, RegName.row]; omega)
  simp only [State.kind, State.field, cfg]

theorem ringDomain {r : Nat} (bound : r < 1024) : u.ringDomain r = s.ringDomain r := by
  have prot : u.reg .protRing r = s.reg .protRing r := h.reg (by simp [RegName.off, RegName.row]; omega)
  simp only [State.ringDomain, prot]

end State.Looked

theorem ringDomain_lt (s : State) (r : Nat) : (s.ringDomain r).getD 0 < 16 := by
  unfold State.ringDomain
  dsimp only
  split
  · exact Nat.mod_lt _ (by decide)
  · decide

/-! ### Reading a descriptor -/

/-- What reading a descriptor and its data may change. -/
def readSide : Footprint where
  has
    | .rings => true
    | f => lookSide.has f
  regs := lookSide.regs

theorem State.Within.read {s u : State} (h : s.Within lookSide u) : s.Within readSide u :=
  h.mono (fun f => by cases f <;> decide) fun _ no => no

/-- A ring that turns to a descriptor has nothing to write before its completion and no halt to come. -/
structure State.Turns (r : Nat) (s u : State) : Prop where
  within : s.Within readSide u
  idle : (u.ring r).writes = []
  alive : (u.ring r).halting = none

namespace State.Within

variable {s u : State} (h : s.Within readSide u)

include h

theorem read_reg {n : RegName} {i j : Nat} (other : n.off i j ≠ RegName.xlatHit.off) : u.reg n i j = s.reg n i j :=
  h.reg _ _ (beq_false_of_ne other)

theorem read_cons {r : Nat} (bound : r < 1024) : u.cons r = s.cons r :=
  h.read_reg (by simp [RegName.off, RegName.row]; omega)

theorem read_domPort {d i : Nat} (bound : i < 512) : u.domPort d i = s.domPort d i := by
  have prot : u.reg .protPort d (i / 32) = s.reg .protPort d (i / 32) := h.read_reg (by simp [RegName.off, RegName.row]; omega)
  simp only [State.domPort, State.flag, prot]

theorem read_domFreeze {d : Nat} (few : d < 16) : u.domFreeze d = s.domFreeze d := by
  have prot : u.reg .protFlags d = s.reg .protFlags d := h.read_reg (by simp [RegName.off, RegName.row]; omega)
  simp only [State.domFreeze, State.flag, prot]

theorem read_domTray {d t : Nat} (bound : t < 832) : u.domTray d t = s.domTray d t := by
  unfold State.domTray
  split
  next port => exact h.read_domPort port
  next =>
    split
    next mill =>
      have all : ∀ k ∈ List.range 8, u.domPort d (8 * (t - 512) + k) = s.domPort d (8 * (t - 512) + k) := fun k hk =>
        h.read_domPort (by have := List.mem_range.mp hk; omega)
      exact Bool.eq_iff_iff.mpr (by
        simp only [List.all_eq_true]
        exact forall₂_congr fun k hk => by rw [all k hk])
    next =>
      have prot : u.reg .protWall d ((t - 576) / 32) = s.reg .protWall d ((t - 576) / 32) := h.read_reg (by simp [RegName.off, RegName.row]; omega)
      simp only [State.domWall, State.flag, prot]

end State.Within

theorem trayOfId_lt (id : Nat) : (trayOfId id).getD 0 < 832 := by
  unfold trayOfId
  split
  · split
    · simp; omega
    · decide
  · split
    · simp; omega
    · decide
  · split
    · simp; omega
    · decide
  · decide

theorem dPort_lt (d : BitVec 512) : dPort d < 512 := Nat.mod_lt _ (by decide)

theorem alive_of_reads {s : State} {r : Nat} {d : BitVec 512} (h : s.reads r d = true) : (s.ring r).halting = none := by
  simp only [State.reads, Bool.and_eq_true] at h
  exact Option.isNone_iff_eq_none.mp h.1.2

theorem reads_none {s : State} {r : Nat} {d : BitVec 512} (h : s.reads r d = true) (none : (s.ring r).fetched = none) :
    (s.ring r).state = .run ∧ (s.ring r).busy = false ∧ (s.kind r = 1 ∨ (s.ring r).writes = []) := by
  simp only [State.reads, none, Bool.and_eq_true, decide_eq_true_eq, Bool.or_eq_true, List.isEmpty_iff, Bool.not_eq_true'] at h
  obtain ⟨-, ⟨⟨⟨run, idle⟩, writes⟩, -⟩⟩ := h
  exact ⟨run, idle, writes⟩

theorem descriptorCommand_eq {s : State} {r op : Nat} {d : BitVec 512} (mine : s.otherOp r op d = false) (checks : State → List Check)
    (body : Nat → State → State) :
    descriptorCommand r op d checks body s = effect (fun s => s.descriptor r d (checks s) body) s := if_neg (by simp [mine])

namespace State.Fetches

variable {s u : State} {r op : Nat} {d : BitVec 512} (h : s.Fetches r op d u)

include h

theorem looked : s.Looked u := by
  obtain ⟨-, -, -, ps, v, go, rfl⟩ := h
  have prepared := State.Looked.prepare s r (s.entryAddr r (s.readCount r)) 64 false
  rw [go] at prepared
  exact prepared.trans (.issueRead ..)

/-- The entry is read, and judged. -/
theorem descriptor (bound : r < 1024) (checks : List Check) (body : Nat → State → State) : s.descriptor r d checks body =
    match s.offends r d checks with
    | some off => u.malformed r d off
    | none => body ((s.ringDomain r).getD 0) u := by
  have looked := h.looked
  obtain ⟨-, reads, fresh, ps, v, go, rfl⟩ := h
  unfold State.descriptor
  rw [reads, fresh, if_neg (by decide), if_neg (by decide)]
  dsimp only
  rw [go]
  dsimp only
  rw [looked.kind bound, looked.ringDomain bound]
  rfl

end State.Fetches

theorem State.Reads.op {s u : State} {r op : Nat} {d : BitVec 512} {checks : List Check} (h : s.Reads r op d checks u) :
    dOp d = op ∧ (opsOf (s.kind r)).contains op = true := by
  obtain ⟨⟨mine, -⟩, none⟩ := h
  have valid : (opsOf (s.kind r)).contains (dOp d) = true := by
    by_contra no
    rw [State.offends, firstBad, commonChecks, Bool.eq_false_iff.mpr no] at none
    exact nomatch none
  have same : dOp d = op := by
    by_contra no
    simp [State.otherOp, no] at mine
    simp [mine] at valid
  exact ⟨same, same ▸ valid⟩

theorem kind_of_opsOf {k op : Nat} (h : (opsOf k).contains op = true) :
    (op < 0x20 → k = 0) ∧ (op = 0x20 → k = 1) ∧ (0x20 < op → k = 2) := by
  match k, h with
  | 0, h => simp [opsOf] at h; omega
  | 1, h => simp [opsOf] at h; omega
  | 2, h => simp [opsOf] at h; omega
  | k + 3, h => simp [opsOf] at h

theorem State.Fetches.turns {s u : State} {r op : Nat} {d : BitVec 512} (h : s.Fetches r op d u) (kind : s.kind r ≠ 1) : s.Turns r u := by
  have looked := h.looked
  obtain ⟨-, reads, fresh, -⟩ := h
  obtain ⟨-, -, one | idle⟩ := reads_none reads fresh
  · exact absurd one kind
  · exact ⟨looked.within.read, by rw [looked.ring]; exact idle, by rw [looked.ring]; exact alive_of_reads reads⟩

theorem State.Takes.turns {s u : State} {r op : Nat} {d : BitVec 512} {checks : List Check} (h : s.Takes r op d checks u) (other : op ≠ 0x20) :
    s.Turns r u := by
  rcases h with reads | ⟨⟨-, reads, -, idle⟩, rfl⟩
  · have kind : s.kind r ≠ 1 := fun one => by
      have valid := reads.op.2
      rw [one] at valid
      simp [opsOf] at valid
      exact other valid
    exact reads.1.turns kind
  · exact ⟨.refl _ _, idle, alive_of_reads reads⟩

/-- A descriptor that is taken comes to its own meaning. -/
theorem completes_of_takes {c : Instr} {r : Fin 1024} {op : Nat} {d : BitVec 512} {checks : State → List Check} {body : Nat → State → State}
    {s u : State} {P : State → Prop} (run : exec c s = descriptorCommand r op d checks body s) (h : s.Takes r op d (checks s) u)
    (p : P (settle s (body ((s.ringDomain r).getD 0) u))) : Completes c s P := by
  have mine : s.otherOp r op d = false := h.elim (fun reads => reads.1.1) fun holds => holds.1.1
  refine completes_of_effect (run.trans (descriptorCommand_eq mine checks body)) ?_
  have comes : s.descriptor r d (checks s) body = body ((s.ringDomain r).getD 0) u := by
    rcases h with reads | ⟨⟨-, reads, held, -⟩, rfl⟩
    · rw [reads.1.descriptor r.isLt, reads.2]
    · unfold State.descriptor
      rw [reads, held]
      rfl
  rw [comes]
  exact p

theorem completes_of_reads {c : Instr} {r : Fin 1024} {op : Nat} {d : BitVec 512} {checks : State → List Check} {body : Nat → State → State}
    {s u : State} {P : State → Prop} (run : exec c s = descriptorCommand r op d checks body s) (h : s.Reads r op d (checks s) u)
    (p : P (settle s (body ((s.ringDomain r).getD 0) u))) : Completes c s P := completes_of_takes run (.inl h) p

/-- Indirect data that can all be read: the descriptor is held no more. -/
theorem State.ReadsData.indirect {u v : State} {r : Nat} {addr len : Nat} (h : u.ReadsData r addr len v) (d : BitVec 512) (body : State → State) :
    u.indirect r d addr len body = body v := by
  obtain ⟨ps, w, go, rfl⟩ := h
  unfold State.indirect
  rw [go]

theorem readPages_read (r : Nat) (l : List (Nat × Nat)) (s : State) :
    s.Within readSide (s.readPages r l).2 ∧ ∃ n, (s.readPages r l).2.ring r = { s.ring r with unitsRead := n } := by
  induction l generalizing s with
  | nil => exact ⟨.refl _ _, _, rfl⟩
  | cons p ps ih =>
    have prepared := State.Looked.prepare s r p.1 p.2 false
    unfold State.readPages
    rcases found : s.prepare r p.1 p.2 false with ⟨ready, v⟩
    rw [found] at prepared
    cases ready with
    | go a =>
      dsimp only
      have looked : s.Looked (v.issueRead r p.1 p.2 a) := prepared.trans (.issueRead ..)
      generalize v.issueRead r p.1 p.2 a = w at looked
      obtain ⟨within, n, ring⟩ := ih (w.setRing r { w.ring r with unitsRead := (w.ring r).unitsRead + 1 })
      refine ⟨(looked.within.read.trans (.setRing r _ rfl)).trans within, n, ring.trans ?_⟩
      rw [State.ring_setRing, if_pos rfl, looked.ring]
    | wait => exact ⟨prepared.within.read, (s.ring r).unitsRead, prepared.ring r⟩
    | outside => exact ⟨prepared.within.read, (s.ring r).unitsRead, prepared.ring r⟩

/-- Behind its data a ring holds its descriptor no more. -/
theorem State.ReadsData.facts {u v : State} {r addr len : Nat} (h : u.ReadsData r addr len v) :
    u.Within readSide v ∧ v.ring r = { u.ring r with fetched := none, unitsRead := 0 } := by
  obtain ⟨ps, w, go, rfl⟩ := h
  obtain ⟨within, n, ring⟩ := readPages_read r ((pagePieces addr len len).drop (u.ring r).unitsRead) u
  rw [go] at within ring
  refine ⟨within.trans (.setRing r _ rfl), ?_⟩
  rw [State.ring_setRing, if_pos rfl, ring]

theorem State.Turns.data {s u v : State} {r addr len : Nat} (h : s.Turns r u) (g : u.ReadsData r addr len v) : s.Turns r v := by
  obtain ⟨within, ring⟩ := g.facts
  exact ⟨h.within.trans within, by rw [ring]; exact h.idle, by rw [ring]; exact h.alive⟩

end Sys2Proof.Machine
end

section
/-!
SUPPORT. SENSOR and TRAY_READ (R204, R260, R264): the request queued, the bank read out. From these O27.
-/
namespace Sys2Proof.Machine

/-! ### SENSOR -/

/-- SENSOR behind its checks, its body read. -/
def State.sensorDone (s : State) (r : Nat) (d : BitVec 512) (body : List Byte) : State :=
  (s.queueRequest r d body).finishDesc r d 0 0 ((s.port (dPort d)).seq + 1).toNat

/-- SENSOR behind the common checks. -/
def sensorBody (r : Nat) (d : BitVec 512) (body : List Byte) (bad : Bool) (dom : Nat) (s : State) : State :=
  if !s.domPort dom (dPort d) then s.denied r dom d
  else if sensorInd d then
    s.indirect r d (dField d 24 8) (dField d 9 1) fun s => if bad then s.finishDesc r d 8 0 0 else s.sensorDone r d body
  else s.sensorDone r d (dBytes d 24 (dField d 9 1))

theorem exec_sensor (r : Fin 1024) (d : BitVec 512) (body : List Byte) (bad : Bool) (s : State) : exec (.sensor r d body bad) s =
    if sensorInd d && !bad && body.length ≠ dField d 9 1 then .refused .illFormed
    else descriptorCommand r.val 0x05 d (fun _ => sensorChecks d) (sensorBody r.val d body bad) s := rfl

theorem exec_sensor_of_length {d : BitVec 512} {body : List Byte} {bad : Bool} (fits : sensorInd d = true → bad = false → body.length = dField d 9 1)
    (r : Fin 1024) (s : State) : exec (.sensor r d body bad) s =
      descriptorCommand r.val 0x05 d (fun _ => sensorChecks d) (sensorBody r.val d body bad) s := by
  rw [exec_sensor, if_neg]
  simp only [Bool.and_eq_true, Bool.not_eq_true', decide_eq_true_eq, not_and, not_not, and_imp]
  exact fits

/-- The request of a SENSOR is the last of its port's queue. -/
theorem queueRequest_facts (s : State) (r : Nat) (d : BitVec 512) (body : List Byte) :
    ((s.queueRequest r d body).port (dPort d)).seq = (s.port (dPort d)).seq + 1 ∧
      (∃ q, ((s.queueRequest r d body).port (dPort d)).queue = (s.port (dPort d)).queue ++ [q] ∧ q.seq = (s.port (dPort d)).seq + 1 ∧
        q.gen = BitVec.ofNat 16 (dField d 6 2) ∧ q.bound = sensorBound d ∧ q.reply = sensorReply d ∧ q.body = body) ∧
      ∀ i, i ≠ dPort d → (s.queueRequest r d body).port i = s.port i := by
  have ports : ∀ (x : Port) (i : Nat), (s.setPort (dPort d) x).port i = if i = dPort d then x else s.port i := fun x i =>
    State.port_setPort s (dPort d) i x
  unfold State.queueRequest
  dsimp only
  refine ⟨by rw [ports, if_pos rfl], ⟨_, by rw [ports, if_pos rfl], rfl, rfl, rfl, rfl, rfl⟩, fun i other => ?_⟩
  rw [ports, if_neg other]

theorem sensorDone_completes {s v : State} {r : Fin 1024} (h : s.Turns r v) (d : BitVec 512) (body : List Byte) :
    s.Answered (settle s (v.sensorDone r d body)) r 0 0 ((s.port (dPort d)).seq + 1).toNat ∧
      ((settle s (v.sensorDone r d body)).port (dPort d)).seq = (s.port (dPort d)).seq + 1 ∧
      (∃ q, ((settle s (v.sensorDone r d body)).port (dPort d)).queue = (s.port (dPort d)).queue ++ [q] ∧
        q.seq = (s.port (dPort d)).seq + 1 ∧ q.gen = BitVec.ofNat 16 (dField d 6 2) ∧ q.bound = sensorBound d ∧
        q.reply = sensorReply d ∧ q.body = body) ∧
      ∀ i, i ≠ dPort d → (settle s (v.sensorDone r d body)).port i = s.port i := by
  obtain ⟨within, idle, alive⟩ := h
  have same : ∀ i, v.port i = s.port i := port_of_ports (within.field .ports rfl)
  have queued := queueRequest_facts v r d body
  have final : ∀ i, (settle s (v.sensorDone r d body)).port i = (v.queueRequest r d body).port i := fun i =>
    (settle_port s _ i).trans (port_of_ports ((State.Within.finishDesc (u := v.queueRequest r d body) r d 0 0 _ []).field .ports rfl) i)
  simp only [final, ← same]
  exact ⟨finishDesc_answered r.isLt (u := v.queueRequest r d body) idle alive (within.read_cons r.isLt) s d 0 0 _, queued⟩

theorem sensorBody_done {s u : State} {r : Fin 1024} {d : BitVec 512} (h : s.Turns r u) (permitted : s.domPort ((s.ringDomain r).getD 0) (dPort d) = true)
    (body : List Byte) (bad : Bool) : sensorBody r d body bad ((s.ringDomain r).getD 0) u =
      if sensorInd d then u.indirect r d (dField d 24 8) (dField d 9 1) fun s => if bad then s.finishDesc r d 8 0 0 else s.sensorDone r d body
      else u.sensorDone r d (dBytes d 24 (dField d 9 1)) := by
  unfold sensorBody
  rw [h.within.read_domPort (dPort_lt d), permitted, Bool.not_true, if_neg (by decide)]

/-! ### TRAY_READ -/

/-- What TRAY_READ writes. -/
def trayData (d : BitVec 512) (x : Tray) : PendingWrite :=
  { addr := dField d 16 8, relaxed := true, advance := false, event := none
    bytes := (bankRead (dTray d) (dWord d) (dField d 24 4) (if dField d 8 1 = 0 then x.staged else x.active)).flatMap
      fun w => leBytes 4 w.toNat }

/-- TRAY_READ behind the common checks. -/
def trayReadBody (r : Nat) (d : BitVec 512) (dom : Nat) (s : State) : State :=
  if !s.domTray dom (dTray d) then s.denied r dom d
  else if outOfRange d (dField d 24 4) then s.finishDesc r d 5 (trayKind (dTray d)).size 0
  else s.finishDesc r d 0 0 (s.tray (dTray d)).gen.toNat [trayData d (s.tray (dTray d))]

theorem exec_trayRead (r : Fin 1024) (d : BitVec 512) (s : State) : exec (.trayRead r d) s =
    descriptorCommand r.val 0x06 d (fun _ => trayReadChecks d) (trayReadBody r.val d) s := rfl

theorem tray_of_trays {s t : State} (h : t.trays = s.trays) (n : Nat) : t.tray n = s.tray n := by
  unfold State.tray
  rw [h]

theorem dTray_lt (d : BitVec 512) : dTray d < 832 := trayOfId_lt _

theorem check_of_reads {s u : State} {r op : Nat} {d : BitVec 512} {checks : List Check} (h : s.Reads r op d checks u) {c : Check} (mem : c ∈ checks) :
    c.2 = false := by
  have none := h.2
  simp only [State.offends, firstBad, Option.map_eq_none_iff, List.find?_eq_none] at none
  exact Bool.eq_false_iff.mpr (none c (List.mem_append_right _ mem))

theorem trayData_bytes {d : BitVec 512} (some : 1 ≤ dField d 24 4) (x : Tray) : (trayData d x).bytes ≠ [] := by
  obtain ⟨n, count⟩ := Nat.exists_eq_succ_of_ne_zero (Nat.one_le_iff_ne_zero.mp some)
  simp [trayData, bankRead, count, List.range_succ_eq_map, leBytes]

theorem trayRead_completes {r : Fin 1024} {d : BitVec 512} {s u : State} (h : s.Reads r 6 d (trayReadChecks d) u)
    (permitted : s.domTray ((s.ringDomain r).getD 0) (dTray d) = true) : Completes (.trayRead r d) s fun t => t.trays = s.trays ∧
      (outOfRange d (dField d 24 4) = true → s.Answered t r 5 (trayKind (dTray d)).size 0) ∧
      (outOfRange d (dField d 24 4) = false → t.WritesOut r (trayData d (s.tray (dTray d))).bytes ∧
        s.Answered t r 0 0 (s.tray (dTray d)).gen.toNat) := by
  refine completes_of_reads (exec_trayRead r d s) h ?_
  have some : 1 ≤ dField d 24 4 := by
    have fits := check_of_reads h (c := (24, !(1 ≤ dField d 24 4 && dField d 24 4 ≤ 16384))) (by simp [trayReadChecks])
    simp only [Bool.not_eq_false', Bool.and_eq_true, decide_eq_true_eq] at fits
    exact fits.1
  obtain ⟨within, idle, alive⟩ := State.Takes.turns (.inl h) (by decide)
  have tray : u.tray (dTray d) = s.tray (dTray d) := tray_of_trays (within.field .trays rfl) _
  have cons := within.read_cons r.isLt
  have kept : ∀ st de re first, (settle s (u.finishDesc r d st de re first)).trays = s.trays := fun st de re first =>
    (settle_trays _ _).trans (((State.Within.finishDesc r d st de re first).field .trays rfl).trans (within.field .trays rfl))
  unfold trayReadBody
  rw [within.read_domTray (dTray_lt d), permitted, Bool.not_true, if_neg (by decide), tray]
  cases beyond : outOfRange d (dField d 24 4) with
  | true =>
    rw [if_pos rfl]
    exact ⟨kept .., fun _ => finishDesc_answered r.isLt idle alive cons s d 5 _ 0, fun no => absurd no (by decide)⟩
  | false =>
    rw [if_neg (by decide)]
    have written := finishDesc_written r.isLt idle alive s d 0 0 (s.tray (dTray d)).gen.toNat [trayData d (s.tray (dTray d))]
    refine ⟨kept .., fun no => absurd no (by decide), fun _ => ⟨?_, ?_⟩⟩
    · exact written.writesOut (List.mem_append_left _ (List.mem_singleton_self _)) (trayData_bytes some _)
    · exact written.answered (fun w hw => by rw [List.mem_singleton.mp hw]; rfl) rfl rfl cons

/-- Settles O27: what a SENSOR has read of its data, and what TRAY_READ writes, goes with the descriptor's one completion. -/
theorem sensorAndTrayRead : Obligations.SensorAndTrayRead := by
  unfold Obligations.SensorAndTrayRead
  refine ⟨fun r d body s permitted taken => ?_, fun r d body s u v permitted indirect takes reads => ?_, fun r d s u reads permitted => ?_⟩
  · rcases taken with ⟨inline, u, reads⟩ | ⟨indirect, length, u, v, takes, data⟩
    · refine completes_of_reads (exec_sensor_of_length (fun no => absurd (inline.symm.trans no) (by decide)) r s) reads ?_
      have turns := State.Takes.turns (.inl reads) (by decide)
      rw [sensorBody_done turns permitted, inline, if_neg (by decide), if_neg (by decide)]
      exact sensorDone_completes turns d _
    · refine completes_of_takes (exec_sensor_of_length (fun _ _ => length) r s) takes ?_
      have turns := takes.turns (by decide)
      rw [sensorBody_done turns permitted, indirect, if_pos rfl, if_pos rfl, data.indirect]
      exact sensorDone_completes (turns.data data) d _
  · refine completes_of_takes (exec_sensor_of_length (fun _ no => absurd no (by decide)) r s) takes ?_
    have turns := takes.turns (by decide)
    rw [sensorBody_done turns permitted, indirect, if_pos rfl, reads.indirect]
    obtain ⟨within, idle, alive⟩ := turns.data reads
    exact ⟨finishDesc_answered r.isLt idle alive (within.read_cons r.isLt) s d 8 0 0, (settle_ports _ _).trans
      (((State.Within.finishDesc r d 8 0 0 []).field .ports rfl).trans (within.field .ports rfl))⟩
  · exact trayRead_completes reads permitted

end Sys2Proof.Machine
end

section
/-!
SUPPORT. Descriptors that are refused, and COMMIT (R179, R180, R250, R257, R263). From these O26.
-/
namespace Sys2Proof.Machine

/-! ### The commands behind the common checks -/

def nopBody (r : Nat) (d : BitVec 512) (_dom : Nat) (s : State) : State := s.finishDesc r d 0 0 0

def stageBody (r : Nat) (d : BitVec 512) (dom : Nat) (s : State) : State :=
  if !s.domTray dom (dTray d) then s.denied r dom d
  else if outOfRange d (dField d 8 1) then s.finishDesc r d 5 (trayKind (dTray d)).size 0
  else s.stageCmd r dom d (stageData d) false

def stageIndBody (r : Nat) (d : BitVec 512) (words : List Word) (bad : Bool) (dom : Nat) (s : State) : State :=
  if !s.domTray dom (dTray d) then s.denied r dom d
  else if outOfRange d (dField d 16 4) then s.finishDesc r d 5 (trayKind (dTray d)).size 0
  else s.indirect r d (dField d 8 8) (4 * dField d 16 4) fun s => s.stageCmd r dom d words bad

/-- The trays that a COMMIT names. -/
def commitTrays (d : BitVec 512) : List Nat := (commitIds d).map fun id => (trayOfId id).getD 0

/-- A COMMIT that is refused with LOCKED. -/
def State.commitLocked (s : State) (r : Nat) (d : BitVec 512) (id cause : Nat) : State :=
  (s.raise 0x0403 [(2, id), (1, cause), (1, 0), (2, r), (2, 0)]).finishDesc r d 3 id 0

/-- What waits for admission of a COMMIT. -/
def commitRec (r dom : Nat) (d : BitVec 512) (inc : Nat) : CommitRec :=
  { ring := r, dom := Fin.ofNat 16 dom, trays := commitTrays d, opTag := BitVec.ofNat 16 (dTag d), evt := dEvt d, inc := inc }

/-- A COMMIT that waits for admission. -/
def State.commitWaits (s : State) (r dom : Nat) (d : BitVec 512) : State :=
  let s := s.setTrays .pending false (commitTrays d)
  let c := commitRec r dom d (s.ring r).inc
  let s := s.setRing r { s.ring r with busy := true }
  { s with tick := { s.tick with judging := s.tick.judging ++ [c] } }

def commitBody (r : Nat) (d : BitVec 512) (dom : Nat) (s : State) : State :=
  if (commitTrays d).any fun t => !s.domTray dom t then s.denied r dom d
  else match s.commitFault [] (commitIds d) with
    | some (id, cause) => s.commitLocked r d id cause
    | none => s.commitWaits r dom d

/-- A FREEZE that the domain may make. -/
def State.freezeCmd (s : State) (r dom : Nat) (d : BitVec 512) : State :=
  let (ok, s) := s.trigger 2 0 (.domain (Fin.ofNat 16 dom)) none
  if ok then s.finishDesc r d 0 0 (s.rcl.tf.toNat % 2 ^ 32) else s.finishDesc r d 6 s.recallDetail 0

def freezeBody (r : Nat) (d : BitVec 512) (dom : Nat) (s : State) : State :=
  if !s.domFreeze dom then s.denied r dom d else s.freezeCmd r dom d

/-- An EXPORT that the domain may make. -/
def State.exportCmd (s : State) (r : Nat) (d : BitVec 512) : State :=
  if s.rcl.state ≠ .frozen then s.finishDesc r d 6 s.recallDetail 0
  else
    let n := s.rcl.entries.length
    let s := (s.exportBegin (dField d 4 2)).finishDesc r d 0 0 n
    if n = 0 then s.exportNext else s

def exportBody (r : Nat) (d : BitVec 512) (dom : Nat) (s : State) : State :=
  if !s.domFreeze dom then s.denied r dom d else s.exportCmd r d

def releaseBody (r : Nat) (d : BitVec 512) (dom : Nat) (s : State) : State :=
  if !s.domFreeze dom then s.denied r dom d
  else if s.rcl.state = .off || (s.rcl.state = .recording && !s.rcl.pend) then s.finishDesc r d 6 s.recallDetail 0
  else s.releaseCmd r d

/-- The buffer that an OBUF posts. -/
def State.postedBuf (s : State) (r : Nat) (d : BitVec 512) : OutBuf :=
  { count := (s.readCount r).toNat, addr := dField d 8 8, len := dField d 16 4, opTag := BitVec.ofNat 16 (dTag d), evt := dEvt d }

def obufBody (r : Nat) (d : BitVec 512) (_dom : Nat) (s : State) : State :=
  s.setRing r { s.ring r with bufs := (s.ring r).bufs ++ [s.postedBuf r d] }

def dataBody (r : Nat) (d : BitVec 512) (bytes : List Byte) (bad : Bool) (dom : Nat) (s : State) : State :=
  if !s.domPort dom (dPort d) then (s.noteFirst r).denied r dom d
  else s.indirect r d (dField d 32 8) (dField d 40 4) fun s =>
    if bad then (s.noteFirst r).finishDesc r d 8 0 0 else (s.noteFirst r).takeData r d bytes

def eotBody (r : Nat) (d : BitVec 512) (_dom : Nat) (s : State) : State :=
  ((s.noteFirst r).setRing r { (s.noteFirst r).ring r with
    lastOff := dTickOff d, eots := ((s.noteFirst r).ring r).eots ++ [dTickOff d] }).finishDesc r d 0 0 0

section
variable (r : Fin 1024) (d : BitVec 512) (s : State)

theorem exec_nop : exec (.nop r d) s = descriptorCommand r.val 0x01 d (fun _ => unused d 4 56) (nopBody r.val d) s := rfl

theorem exec_stage : exec (.stage r d) s = descriptorCommand r.val 0x02 d (fun _ => stageChecks d) (stageBody r.val d) s := rfl

theorem exec_stageInd (words : List Word) (bad : Bool) : exec (.stageInd r d words bad) s =
    if words.length ≠ dField d 16 4 && !bad then .refused .illFormed
    else descriptorCommand r.val 0x03 d (fun _ => stageIndChecks d) (stageIndBody r.val d words bad) s := rfl

theorem exec_obuf : exec (.obuf r d) s = descriptorCommand r.val 0x20 d (fun _ => obufChecks d) (obufBody r.val d) s := rfl

theorem exec_data (bytes : List Byte) (bad : Bool) : exec (.data r d bytes bad) s =
    if bytes.length ≠ dField d 40 4 && !bad then .refused .illFormed
    else descriptorCommand r.val 0x30 d (fun s => dataChecks d (s.replayMill r.val) (s.ring r.val).lastOff) (dataBody r.val d bytes bad) s := rfl

theorem exec_eot : exec (.eot r d) s =
    descriptorCommand r.val 0x31 d (fun s => eotChecks d (s.ring r.val).lastOff) (eotBody r.val d) s := rfl

theorem exec_commit : exec (.commit r d) s = descriptorCommand r.val 0x04 d (fun _ => commitChecks d) (commitBody r.val d) s := rfl

theorem exec_freeze : exec (.freeze r d) s = descriptorCommand r.val 0x07 d (fun _ => unused d 4 56) (freezeBody r.val d) s := rfl

theorem exec_exportStart : exec (.exportStart r d) s = descriptorCommand r.val 0x08 d
    (fun s => (4, !s.exportRingOk r.val (dField d 4 2)) :: unused d 6 56) (exportBody r.val d) s := rfl

theorem exec_release : exec (.release r d) s = descriptorCommand r.val 0x09 d (fun _ => unused d 4 56) (releaseBody r.val d) s := rfl

end

theorem exec_stageInd_of_length {d : BitVec 512} {words : List Word} (length : words.length = dField d 16 4) (r : Fin 1024) (s : State) :
    exec (.stageInd r d words false) s =
      descriptorCommand r.val 0x03 d (fun _ => stageIndChecks d) (stageIndBody r.val d words false) s := by
  rw [exec_stageInd, if_neg (by simp [length])]

/-! ### DENIED and MALFORMED -/

theorem denied_completes {s u : State} {r : Fin 1024} (h : s.Turns r u) (still : s.rcl.state ≠ .exporting) (dom : Nat) (d : BitVec 512) :
    s.Answered (settle s (u.denied r dom d)) r 2 0 0 ∧ (settle s (u.denied r dom d)).trays = s.trays ∧
      (settle s (u.denied r dom d)).ports = s.ports ∧ (settle s (u.denied r dom d)).rcl = s.rcl ∧
      (settle s (u.denied r dom d)).markSeq = s.markSeq + 1 := by
  obtain ⟨within, idle, alive⟩ := h
  unfold State.denied
  generalize hv : u.mark _ _ _ _ _ _ = v
  have ring : v.ring r = u.ring r := by rw [← hv]; rfl
  have rcl : v.rcl = s.rcl := by rw [← hv]; exact within.field .rcl rfl
  have cons : v.cons r = s.cons r := by rw [← hv]; exact within.read_cons r.isLt
  have seq : v.markSeq = s.markSeq + 1 := by rw [← hv]; exact congrArg (· + 1) (within.field .markSeq rfl)
  have trays : v.trays = s.trays := by rw [← hv]; exact within.field .trays rfl
  have ports : v.ports = s.ports := by rw [← hv]; exact within.field .ports rfl
  have finished := State.Within.finishDesc (u := v) r d 2 0 0 []
  refine ⟨finishDesc_answered r.isLt (ring ▸ idle) (ring ▸ alive) cons s d 2 0 0, (settle_trays _ _).trans ((finished.field .trays rfl).trans trays),
    (settle_ports _ _).trans ((finished.field .ports rfl).trans ports), ?_, (settle_markSeq _ _).trans ((finished.field .markSeq rfl).trans seq)⟩
  exact (settle_rcl _ _).trans ((finishDesc_rcl (ring ▸ idle) (ring ▸ alive) d 2 0 0 [] (.inl (rcl ▸ still))).trans rcl)

/-- A field out of its range on a command ring. -/
theorem completes_of_malformed {c : Instr} {r : Fin 1024} {op : Nat} {d : BitVec 512} {checks : State → List Check} {body : Nat → State → State}
    {s u : State} {off : Nat} (run : exec c s = descriptorCommand r op d checks body s) (h : s.Fetches r op d u) (kind : s.kind r = 0)
    (bad : s.offends r d (checks s) = some off) (still : s.rcl.state ≠ .exporting) :
    Completes c s fun t => s.Answered t r 1 off 0 ∧ t.trays = s.trays ∧ t.ports = s.ports ∧ t.rcl = s.rcl ∧ t.tick = s.tick := by
  refine completes_of_effect (run.trans (descriptorCommand_eq h.1 checks body)) ?_
  obtain ⟨within, idle, alive⟩ := h.turns (by rw [kind]; decide)
  have kindU : u.kind r = 0 := (h.looked.kind r.isLt).trans kind
  have plain : u.malformed r d off = u.finishDesc r d 1 off 0 := by
    have first : u.noteFirst r = u := if_pos (by simp [kindU])
    unfold State.malformed
    simp only [first, kindU]
    exact if_neg (by decide)
  rw [h.descriptor r.isLt, bad]
  dsimp only
  rw [plain]
  have finished := State.Within.finishDesc (u := u) r d 1 off 0 []
  have rcl : u.rcl = s.rcl := within.field .rcl rfl
  exact ⟨finishDesc_answered r.isLt idle alive (within.read_cons r.isLt) s d 1 off 0,
    (settle_trays _ _).trans ((finished.field .trays rfl).trans (within.field .trays rfl)),
    (settle_ports _ _).trans ((finished.field .ports rfl).trans (within.field .ports rfl)),
    (settle_rcl _ _).trans ((finishDesc_rcl idle alive d 1 off 0 [] (.inl (rcl ▸ still))).trans rcl),
    (settle_tick _ _).trans ((finished.field .tick rfl).trans (within.field .tick rfl))⟩

/-- What a domain may not touch, by the descriptor. -/
def State.forbidden (s : State) (r : Fin 1024) (d : BitVec 512) (c : Instr) (checks : List Check) : Prop :=
  ∃ (body : Nat → State → State) (list : State → List Check), exec c s = descriptorCommand r (dOp d) d list body s ∧ list s = checks ∧
    ∀ u, s.Within readSide u → body ((s.ringDomain r).getD 0) u = u.denied r ((s.ringDomain r).getD 0) d

theorem completes_of_forbidden {c : Instr} {r : Fin 1024} {d : BitVec 512} {checks : List Check} {s u : State} (h : s.forbidden r d c checks)
    (reads : s.Reads r (dOp d) d checks u) (other : dOp d ≠ 0x20) (still : s.rcl.state ≠ .exporting) :
    Completes c s fun t => s.Answered t r 2 0 0 ∧ t.trays = s.trays ∧ t.ports = s.ports ∧ t.rcl = s.rcl ∧
      t.markSeq = s.markSeq + 1 := by
  obtain ⟨body, list, run, rfl, denies⟩ := h
  have turns := State.Takes.turns (.inl reads) other
  refine completes_of_reads run reads ?_
  rw [denies u turns.within]
  exact denied_completes turns still _ d

section
variable {s : State} {r : Fin 1024} {d : BitVec 512}

theorem forbidden_tray {ws : List Word} (no : s.domTray ((s.ringDomain r).getD 0) (dTray d) = false) (length : ws.length = dField d 16 4)
    {c : Instr} {checks : List Check} (mem : (c, dOp d, checks) ∈ [(Instr.stage r d, 2, stageChecks d),
      (.stageInd r d ws false, 3, stageIndChecks d), (.trayRead r d, 6, trayReadChecks d)]) : s.forbidden r d c checks ∧ dOp d ≠ 0x20 := by
  have no' : ∀ u, s.Within readSide u → u.domTray ((s.ringDomain r).getD 0) (dTray d) = false := fun u h => (h.read_domTray (dTray_lt d)).trans no
  simp only [List.mem_cons, Prod.mk.injEq, List.not_mem_nil, or_false] at mem
  rcases mem with ⟨rfl, op, rfl⟩ | ⟨rfl, op, rfl⟩ | ⟨rfl, op, rfl⟩
  · exact ⟨⟨_, _, op ▸ exec_stage r d s, rfl, fun u h => if_pos (by rw [no' u h]; rfl)⟩, by rw [op]; decide⟩
  · exact ⟨⟨_, _, op ▸ exec_stageInd_of_length length r s, rfl, fun u h => if_pos (by rw [no' u h]; rfl)⟩, by rw [op]; decide⟩
  · exact ⟨⟨_, _, op ▸ exec_trayRead r d s, rfl, fun u h => if_pos (by rw [no' u h]; rfl)⟩, by rw [op]; decide⟩

theorem forbidden_port {body : List Byte} (no : s.domPort ((s.ringDomain r).getD 0) (dPort d) = false) (length : body.length = dField d 9 1)
    (op : dOp d = 5) : s.forbidden r d (.sensor r d body false) (sensorChecks d) :=
  ⟨_, _, op ▸ exec_sensor_of_length (fun _ _ => length) r s, rfl, fun u h => if_pos (by rw [h.read_domPort (dPort_lt d), no]; rfl)⟩

theorem forbidden_freeze (no : s.domFreeze ((s.ringDomain r).getD 0) = false) {c : Instr} {checks : List Check}
    (mem : (c, dOp d, checks) ∈ [(Instr.freeze r d, 7, unused d 4 56),
      (.exportStart r d, 8, (4, !s.exportRingOk r (dField d 4 2)) :: unused d 6 56), (.release r d, 9, unused d 4 56)]) :
    s.forbidden r d c checks ∧ dOp d ≠ 0x20 := by
  have no' : ∀ u, s.Within readSide u → u.domFreeze ((s.ringDomain r).getD 0) = false := fun u h =>
    (h.read_domFreeze (ringDomain_lt s r)).trans no
  simp only [List.mem_cons, Prod.mk.injEq, List.not_mem_nil, or_false] at mem
  rcases mem with ⟨rfl, op, rfl⟩ | ⟨rfl, op, rfl⟩ | ⟨rfl, op, rfl⟩
  · exact ⟨⟨_, _, op ▸ exec_freeze r d s, rfl, fun u h => if_pos (by rw [no' u h]; rfl)⟩, by rw [op]; decide⟩
  · exact ⟨⟨_, _, op ▸ exec_exportStart r d s, rfl, fun u h => if_pos (by rw [no' u h]; rfl)⟩, by rw [op]; decide⟩
  · exact ⟨⟨_, _, op ▸ exec_release r d s, rfl, fun u h => if_pos (by rw [no' u h]; rfl)⟩, by rw [op]; decide⟩

theorem forbidden_commit (no : ∃ id ∈ commitIds d, s.domTray ((s.ringDomain r).getD 0) ((trayOfId id).getD 0) = false) (op : dOp d = 4) :
    s.forbidden r d (.commit r d) (commitChecks d) := by
  obtain ⟨id, mem, no⟩ := no
  refine ⟨_, _, op ▸ exec_commit r d s, rfl, fun u h => if_pos ?_⟩
  refine List.any_eq_true.mpr ⟨_, List.mem_map_of_mem mem, ?_⟩
  rw [h.read_domTray (trayOfId_lt id), no]
  rfl

/-- Another opcode of the ring makes it another command. -/
theorem descriptorCommand_of_otherOp {op : Nat} (other : s.otherOp r op d = true) (checks : State → List Check) (body : Nat → State → State) :
    descriptorCommand r op d checks body s = .refused .illFormed := if_pos other

theorem refused_of_otherOp {c : Instr} {op : Nat} {checks : State → List Check} {body : Nat → State → State}
    (run : exec c s = descriptorCommand r op d checks body s) (other : s.otherOp r op d = true) : exec c s = .refused .illFormed :=
  run.trans (descriptorCommand_of_otherOp other checks body)

end

/-! ### COMMIT -/

theorem commitFault_of_trays {s u : State} (h : u.trays = s.trays) (seen ids : List Nat) : u.commitFault seen ids = s.commitFault seen ids := by
  induction ids generalizing seen with
  | nil => rfl
  | cons id ids ih =>
    unfold State.commitFault
    rw [ih, tray_of_trays h]

theorem setTrays_tray (st : TrayState) (group : Bool) (ts : List Nat) (s : State) (n : Nat) :
    (s.setTrays st group ts).tray n = if n ∈ ts then { s.tray n with state := st, group := group } else s.tray n := by
  unfold State.setTrays
  induction ts generalizing s with
  | nil => rfl
  | cons t ts ih =>
    rw [List.foldl_cons, ih, State.tray_setTray]
    by_cases same : n = t
    · subst same
      simp
    · simp [same]

theorem setTrays_within (st : TrayState) (group : Bool) (ts : List Nat) (s : State) :
    s.setTrays st group ts = { s with trays := (s.setTrays st group ts).trays } := by
  unfold State.setTrays
  induction ts generalizing s with
  | nil => rfl
  | cons t ts ih =>
    rw [List.foldl_cons]
    exact (ih _).trans rfl

theorem commitWaits_facts (u : State) (r dom : Nat) (d : BitVec 512) :
    (∃ c, (u.commitWaits r dom d).tick = { u.tick with judging := u.tick.judging ++ [c] } ∧ c.ring = r ∧ c.trays = commitTrays d ∧
      c.opTag = BitVec.ofNat 16 (dTag d)) ∧
    (∀ n, (u.commitWaits r dom d).tray n =
      if n ∈ commitTrays d then { u.tray n with state := .pending, group := false } else u.tray n) ∧
    ((u.commitWaits r dom d).ring r).busy = true ∧ (u.commitWaits r dom d).cons r = u.cons r ∧ (u.commitWaits r dom d).kind r = u.kind r := by
  have rest := setTrays_within .pending false (commitTrays d) u
  have tray := setTrays_tray .pending false (commitTrays d) u
  unfold State.commitWaits
  generalize u.setTrays .pending false (commitTrays d) = v at rest tray
  have tick : v.tick = u.tick := by rw [rest]
  have regs : v.regs = u.regs := by rw [rest]
  dsimp only
  refine ⟨⟨commitRec r dom d (v.ring r).inc, congrArg (fun x : TickUnit => { x with judging := x.judging ++ [commitRec r dom d (v.ring r).inc] }) tick,
    rfl, rfl, rfl⟩, tray, ?_, reg_of_regs regs .ringCons r 0, ?_⟩
  · exact congrArg Ring.busy ((State.ring_setRing v r r _).trans (if_pos rfl))
  · have cfg : v.reg .ringCfg r = u.reg .ringCfg r := reg_of_regs regs .ringCfg r 0
    have same : v.kind r = u.kind r := by simp only [State.kind, State.field, cfg]
    exact same

theorem commit_completes {r : Fin 1024} {d : BitVec 512} {s u : State} (h : s.Reads r 4 d (commitChecks d) u)
    (permitted : ∀ id ∈ commitIds d, s.domTray ((s.ringDomain r).getD 0) ((trayOfId id).getD 0) = true) : Completes (.commit r d) s fun t =>
      (s.commitFault [] (commitIds d) = none →
        (∃ c, t.tick = { s.tick with judging := s.tick.judging ++ [c] } ∧ c.ring = r ∧ c.trays = commitTrays d ∧
          c.opTag = BitVec.ofNat 16 (dTag d)) ∧
        (∀ id ∈ commitIds d, (t.tray ((trayOfId id).getD 0)).state = .pending) ∧
        (∀ n, t.tray n = { s.tray n with state := (t.tray n).state, group := (t.tray n).group }) ∧
        (∀ n, n ∉ commitTrays d → t.tray n = s.tray n) ∧ (t.ring r).busy = true ∧ t.cons r = s.cons r) ∧
      (∀ id cause, s.commitFault [] (commitIds d) = some (id, cause) → s.Answered t r 3 id 0 ∧ t.trays = s.trays ∧ t.tick = s.tick) := by
  refine completes_of_reads (exec_commit r d s) h ?_
  have kind := (kind_of_opsOf h.op.2).1 (by decide)
  have looked := h.1.looked
  obtain ⟨within, idle, alive⟩ := State.Takes.turns (.inl h) (by decide)
  have trays : u.trays = s.trays := within.field .trays rfl
  have tick : u.tick = s.tick := within.field .tick rfl
  have allowed : ((commitTrays d).any fun t => !u.domTray ((s.ringDomain r).getD 0) t) = false := by
    refine List.any_eq_false.mpr fun t ht => ?_
    obtain ⟨id, mem, rfl⟩ := List.mem_map.mp ht
    rw [within.read_domTray (trayOfId_lt id), permitted id mem]
    decide
  unfold commitBody
  rw [allowed, if_neg (by decide), commitFault_of_trays trays]
  cases fault : s.commitFault [] (commitIds d) with
  | none =>
    obtain ⟨⟨c, judging, rest⟩, tray, busy, cons, same⟩ := commitWaits_facts u r ((s.ringDomain r).getD 0) d
    dsimp only
    generalize u.commitWaits r ((s.ringDomain r).getD 0) d = v at judging tray busy cons same
    have final : ∀ n, (settle s v).tray n = if n ∈ commitTrays d then { s.tray n with state := .pending, group := false } else s.tray n := fun n => by
      rw [tray_of_trays (settle_trays s v), tray, tray_of_trays trays]
    refine ⟨fun _ => ⟨⟨c, (settle_tick s v).trans (judging.trans (by rw [tick])), rest⟩, fun id mem => ?_, fun n => ?_, fun n other => ?_, ?_, ?_⟩,
      fun _ _ no => absurd no (by simp)⟩
    · rw [final, if_pos (show (trayOfId id).getD 0 ∈ commitTrays d from List.mem_map_of_mem mem)]
    · rw [final]
      split <;> rfl
    · rw [final, if_neg other]
    · rw [settle_ring s v r (by rw [same, looked.kind r.isLt, kind]; decide)]
      exact busy
    · exact (settle_reg s v .ringCons r 0 (by have := r.isLt; simp [deliveryReg, RegName.off, RegName.row]; omega)).trans
        (cons.trans (within.read_cons r.isLt))
  | some p =>
    obtain ⟨id, cause⟩ := p
    refine ⟨fun no => absurd no (by simp), fun id' cause' same => ?_⟩
    obtain ⟨rfl, rfl⟩ := Prod.mk.inj (Option.some.inj same)
    have finished := State.Within.finishDesc (u := u.raise 0x0403 [(2, id), (1, cause), (1, 0), (2, r), (2, 0)]) r d 3 id 0 []
    exact ⟨finishDesc_answered (u := u.raise 0x0403 [(2, id), (1, cause), (1, 0), (2, r), (2, 0)]) r.isLt idle alive
        (within.read_cons r.isLt) s d 3 id 0,
      (settle_trays _ _).trans ((finished.field .trays rfl).trans trays), (settle_tick _ _).trans ((finished.field .tick rfl).trans tick)⟩

/-- Settles O26: what a descriptor may not do is found before its own meaning, and a COMMIT that waits has changed the state of its trays
alone. -/
theorem commitDescriptors : Obligations.CommitDescriptors := by
  unfold Obligations.CommitDescriptors
  refine ⟨fun r d ws body c checks s u reads still which => ?_, fun r d ws body c checks off s u fetches kind bad still words bytes mem => ?_,
    fun r d ws body bad c op s mem other => ?_, fun r d s u reads permitted => commit_completes reads permitted⟩
  · rcases which with ⟨no, length, mem⟩ | ⟨no, length, same⟩ | ⟨no, mem⟩ | ⟨no, same⟩
    · obtain ⟨denied, command⟩ := forbidden_tray no length mem
      exact completes_of_forbidden denied reads command still
    · obtain ⟨rfl, op, rfl⟩ : c = _ ∧ _ ∧ _ := by simpa only [Prod.mk.injEq] using same
      exact completes_of_forbidden (forbidden_port no length op) reads (by rw [op]; decide) still
    · obtain ⟨denied, command⟩ := forbidden_freeze no mem
      exact completes_of_forbidden denied reads command still
    · obtain ⟨rfl, op, rfl⟩ : c = _ ∧ _ ∧ _ := by simpa only [Prod.mk.injEq] using same
      exact completes_of_forbidden (forbidden_commit no op) reads (by rw [op]; decide) still
  · simp only [List.mem_cons, Prod.mk.injEq, List.not_mem_nil, or_false] at mem
    rcases mem with ⟨rfl, op, rfl⟩ | ⟨rfl, op, rfl⟩ | ⟨rfl, op, rfl⟩ | ⟨rfl, op, rfl⟩ | ⟨rfl, op, rfl⟩ | ⟨rfl, op, rfl⟩ | ⟨rfl, op, rfl⟩ |
      ⟨rfl, op, rfl⟩ | ⟨rfl, op, rfl⟩
    · exact completes_of_malformed (op ▸ exec_nop r d s) fetches kind bad still
    · exact completes_of_malformed (op ▸ exec_stage r d s) fetches kind bad still
    · exact completes_of_malformed (op ▸ exec_stageInd_of_length words r s) fetches kind bad still
    · exact completes_of_malformed (op ▸ exec_commit r d s) fetches kind bad still
    · exact completes_of_malformed (op ▸ exec_sensor_of_length (fun _ _ => bytes) r s) fetches kind bad still
    · exact completes_of_malformed (op ▸ exec_trayRead r d s) fetches kind bad still
    · exact completes_of_malformed (op ▸ exec_freeze r d s) fetches kind bad still
    · exact completes_of_malformed (op ▸ exec_exportStart r d s) fetches kind bad still
    · exact completes_of_malformed (op ▸ exec_release r d s) fetches kind bad still
  · simp only [List.mem_cons, Prod.mk.injEq, List.not_mem_nil, or_false] at mem
    rcases mem with ⟨rfl, rfl⟩ | ⟨rfl, rfl⟩ | ⟨rfl, rfl⟩ | ⟨rfl, rfl⟩ | ⟨rfl, rfl⟩ | ⟨rfl, rfl⟩ | ⟨rfl, rfl⟩ | ⟨rfl, rfl⟩ | ⟨rfl, rfl⟩ |
      ⟨rfl, rfl⟩ | ⟨rfl, rfl⟩ | ⟨rfl, rfl⟩
    · exact refused_of_otherOp (exec_nop r d s) other
    · exact refused_of_otherOp (exec_stage r d s) other
    · exact (exec_stageInd r d s ws bad).trans (ite_eq_left_iff.mpr fun _ => descriptorCommand_of_otherOp other _ _)
    · exact refused_of_otherOp (exec_commit r d s) other
    · exact (exec_sensor r d body bad s).trans (ite_eq_left_iff.mpr fun _ => descriptorCommand_of_otherOp other _ _)
    · exact refused_of_otherOp (exec_trayRead r d s) other
    · exact refused_of_otherOp (exec_freeze r d s) other
    · exact refused_of_otherOp (exec_exportStart r d s) other
    · exact refused_of_otherOp (exec_release r d s) other
    · exact refused_of_otherOp (exec_obuf r d s) other
    · exact (exec_data r d s body bad).trans (ite_eq_left_iff.mpr fun _ => descriptorCommand_of_otherOp other _ _)
    · exact refused_of_otherOp (exec_eot r d s) other

end Sys2Proof.Machine
end

section
/-!
SUPPORT. The recall store's descriptors and OBUF (R240 to R242, R260, R266). From these O28.
-/
namespace Sys2Proof.Machine

/-- A completion of ring r in state `v`, which differs from `s` in nothing that the completion goes by. -/
structure State.Finishes (r : Nat) (s v : State) : Prop where
  idle : (v.ring r).writes = []
  alive : (v.ring r).halting = none
  cons : v.cons r = s.cons r

theorem State.Turns.finishes {s u : State} {r : Nat} (h : s.Turns r u) (bound : r < 1024) : s.Finishes r u :=
  ⟨h.idle, h.alive, h.within.read_cons bound⟩

/-- Rings and C stay. -/
theorem State.Finishes.next {s u v : State} {r : Nat} (h : s.Finishes r u) (rings : v.rings = u.rings) (cons : v.cons r = u.cons r) :
    s.Finishes r v :=
  ⟨ring_of_rings rings r ▸ h.idle, ring_of_rings rings r ▸ h.alive, cons.trans h.cons⟩

/-- A completion answers its descriptor and, outside an export on its ring, leaves the recall store, the marks and the registers below
the rings'. -/
theorem State.Finishes.completes {s v : State} {r : Fin 1024} (h : s.Finishes r v) (other : v.rcl.state ≠ .exporting ∨ v.rcl.exportRing ≠ r)
    (d : BitVec 512) (status detail result : Nat) :
    s.Answered (settle s (v.finishDesc r d status detail result)) r status detail result ∧
      (settle s (v.finishDesc r d status detail result)).rcl = v.rcl ∧
      (settle s (v.finishDesc r d status detail result)).markSeq = v.markSeq ∧
      (settle s (v.finishDesc r d status detail result)).reg .wallRclIgn = v.reg .wallRclIgn := by
  have finished := State.Within.finishDesc (u := v) r d status detail result []
  refine ⟨finishDesc_answered r.isLt h.idle h.alive h.cons s d status detail result,
    (settle_rcl _ _).trans (finishDesc_rcl h.idle h.alive d status detail result [] other),
    (settle_markSeq _ _).trans (finished.field .markSeq rfl),
    (settle_reg _ _ _ _ _ (by decide)).trans (finished.reg _ _ (by decide))⟩

theorem freeze_completes {s u : State} {r : Fin 1024} (h : s.Turns r u) (dom : Nat) (d : BitVec 512) :
    (s.rcl.state = .recording → s.rcl.pend = false → (settle s (u.freezeCmd r dom d)).rcl.pend = true ∧
      (settle s (u.freezeCmd r dom d)).rcl.kind = 2 ∧
      (settle s (u.freezeCmd r dom d)).rcl.tf = BitVec.ofNat 64 (s.now + 1 + s.field .wallRclCfg 0 0 16 12) ∧
      (settle s (u.freezeCmd r dom d)).markSeq = s.markSeq + 1 ∧
      s.Answered (settle s (u.freezeCmd r dom d)) r 0 0 ((settle s (u.freezeCmd r dom d)).rcl.tf.toNat % 2 ^ 32)) ∧
    (s.rcl.state = .frozen ∨ s.rcl.state = .off ∨ (s.rcl.state = .recording ∧ s.rcl.pend = true) →
      (settle s (u.freezeCmd r dom d)).rcl = s.rcl ∧ (settle s (u.freezeCmd r dom d)).reg .wallRclIgn = satAdd (s.reg .wallRclIgn) 1 ∧
      s.Answered (settle s (u.freezeCmd r dom d)) r 6 s.recallDetail 0) := by
  have within := h.within
  have rcl : u.rcl = s.rcl := within.field .rcl rfl
  have ign : u.reg .wallRclIgn = s.reg .wallRclIgn := within.read_reg (by decide)
  have tick : u.triggerTick = s.now + 1 + s.field .wallRclCfg 0 0 16 12 := by
    have num : u.tick = s.tick := within.field .tick rfl
    have cfg : u.reg .wallRclCfg = s.reg .wallRclCfg := within.read_reg (by decide)
    simp only [State.triggerTick, State.now, State.field, num, cfg]
  refine ⟨fun records still => ?_, fun state => ?_⟩
  · obtain ⟨t, taken, same⟩ := trigger_of_recording (s := u) (rcl ▸ records) (rcl ▸ still) 2 0 (.domain (Fin.ofNat 16 dom))
    unfold State.SameButOut at same
    have ends : u.freezeCmd r dom d = t.finishDesc r d 0 0 (t.rcl.tf.toNat % 2 ^ 32) := by
      unfold State.freezeCmd
      rw [taken]
      rfl
    have tf : t.rcl.tf = BitVec.ofNat 64 (s.now + 1 + s.field .wallRclCfg 0 0 16 12) := by rw [same, ← tick]; rfl
    have live : t.rcl.state ≠ .exporting := by
      rw [same]
      show u.rcl.state ≠ _
      rw [rcl, records]
      decide
    have finishes : s.Finishes r t := (h.finishes r.isLt).next (by rw [same]; rfl) (by rw [same]; rfl)
    have pend : t.rcl.pend = true ∧ t.rcl.kind = 2 ∧ t.markSeq = u.markSeq + 1 := by
      rw [same]
      exact ⟨rfl, rfl, rfl⟩
    obtain ⟨answered, kept, seq, -⟩ := finishes.completes (.inl live) d 0 0 (t.rcl.tf.toNat % 2 ^ 32)
    rw [ends, kept]
    exact ⟨pend.1, pend.2.1, tf, seq.trans (pend.2.2.trans (congrArg (· + 1) (within.field .markSeq rfl))), answered⟩
  · have ignored : u.rcl.state ≠ .recording ∨ u.rcl.pend = true := by
      rw [rcl]
      rcases state with e | e | ⟨-, e⟩
      · exact .inl (by rw [e]; decide)
      · exact .inl (by rw [e]; decide)
      · exact .inr e
    have live : u.rcl.state ≠ .exporting := by
      rw [rcl]
      rcases state with e | e | ⟨e, -⟩ <;> rw [e] <;> decide
    have detail : (u.triggerIgnored 2 0).recallDetail = s.recallDetail := by
      unfold State.recallDetail
      rw [show (u.triggerIgnored 2 0).rcl = s.rcl from rcl]
    have ends : u.freezeCmd r dom d = (u.triggerIgnored 2 0).finishDesc r d 6 s.recallDetail 0 := by
      unfold State.freezeCmd
      rw [trigger_of_ignored ignored, ← detail]
      rfl
    have finishes : s.Finishes r (u.triggerIgnored 2 0) := (h.finishes r.isLt).next rfl
      (State.reg_setReg_of_ne _ _ _ _ _ _ _ _ (by have := r.isLt; simp [RegName.off, RegName.row]; omega))
    obtain ⟨answered, kept, -, counted⟩ := finishes.completes (.inl live) d 6 s.recallDetail 0
    rw [ends]
    refine ⟨kept.trans rcl, counted.trans ?_, answered⟩
    rw [← ign]
    exact State.reg_setReg_self _ _ _ _ _

theorem recallDetail_of_rcl {s u : State} (h : u.rcl = s.rcl) : u.recallDetail = s.recallDetail := by
  unfold State.recallDetail
  rw [h]

theorem kind_of_exportRingOk {s : State} {r e : Nat} (h : s.exportRingOk r e = true) : s.kind e = 1 := by
  simp only [State.exportRingOk, Bool.and_eq_true, decide_eq_true_eq] at h
  obtain ⟨⟨⟨⟨-, kind⟩, -⟩, -⟩, -⟩ := h
  exact kind

theorem export_completes {s u : State} {r : Fin 1024} (h : s.Turns r u) {d : BitVec 512} (apart : dField d 4 2 ≠ r) :
    (s.rcl.state = .frozen → s.rcl.entries ≠ [] → (settle s (u.exportCmd r d)).rcl.state = .exporting ∧
      (settle s (u.exportCmd r d)).rcl.exportRing = dField d 4 2 ∧ (settle s (u.exportCmd r d)).rcl.exported = 0 ∧
      (settle s (u.exportCmd r d)).rcl.entries = s.rcl.entries.map (fun e => { e with sent := false }) ∧
      s.Answered (settle s (u.exportCmd r d)) r 0 0 s.rcl.entries.length) ∧
    (s.rcl.state = .recording ∨ s.rcl.state = .off →
      (settle s (u.exportCmd r d)).rcl = s.rcl ∧ s.Answered (settle s (u.exportCmd r d)) r 6 s.recallDetail 0) := by
  have rcl : u.rcl = s.rcl := h.within.field .rcl rfl
  refine ⟨fun frozen some => ?_, fun state => ?_⟩
  · have count : s.rcl.entries.length ≠ 0 := fun e => some (List.eq_nil_of_length_eq_zero e)
    have ends : u.exportCmd r d = (u.exportBegin (dField d 4 2)).finishDesc r d 0 0 s.rcl.entries.length := by
      unfold State.exportCmd
      rw [rcl, if_neg (by rw [frozen]; decide)]
      exact if_neg count
    have finishes : s.Finishes r (u.exportBegin (dField d 4 2)) := (h.finishes r.isLt).next rfl rfl
    obtain ⟨answered, kept, -⟩ := finishes.completes (.inr apart) d 0 0 s.rcl.entries.length
    rw [ends, kept]
    exact ⟨rfl, rfl, rfl, by rw [← rcl]; rfl, answered⟩
  · have live : u.rcl.state ≠ .frozen ∧ u.rcl.state ≠ .exporting := by
      rw [rcl]
      rcases state with e | e <;> rw [e] <;> decide
    have ends : u.exportCmd r d = u.finishDesc r d 6 s.recallDetail 0 := by
      unfold State.exportCmd
      rw [if_pos live.1, recallDetail_of_rcl rcl]
    obtain ⟨answered, kept, -⟩ := (h.finishes r.isLt).completes (.inl live.2) d 6 s.recallDetail 0
    rw [ends]
    exact ⟨kept.trans rcl, answered⟩

/-! ### RELEASE -/

/-- RELEASE behind its checks. -/
def State.releaseDesc (s : State) (r : Nat) (d : BitVec 512) : State :=
  if s.rcl.state = .off || (s.rcl.state = .recording && !s.rcl.pend) then s.finishDesc r d 6 s.recallDetail 0
  else s.releaseCmd r d

theorem release_completes {s u : State} {r : Fin 1024} (h : s.Turns r u) (d : BitVec 512) :
    (s.rcl.state = .recording → s.rcl.pend = true → (settle s (u.releaseDesc r d)).rcl = { s.rcl with pend := false, lost := false } ∧
      s.Answered (settle s (u.releaseDesc r d)) r 0 0 0) ∧
    (s.rcl.state = .frozen → (settle s (u.releaseDesc r d)).rcl.entries = [] ∧ (settle s (u.releaseDesc r d)).rcl.restart = true ∧
      s.Answered (settle s (u.releaseDesc r d)) r 0 0 0) ∧
    (s.rcl.state = .off ∨ (s.rcl.state = .recording ∧ s.rcl.pend = false) →
      (settle s (u.releaseDesc r d)).rcl = s.rcl ∧ s.Answered (settle s (u.releaseDesc r d)) r 6 s.recallDetail 0) := by
  have rcl : u.rcl = s.rcl := h.within.field .rcl rfl
  refine ⟨fun records pend => ?_, fun frozen => ?_, fun state => ?_⟩
  · have ends : u.releaseDesc r d = { u with rcl := { u.rcl with pend := false, lost := false } }.finishDesc r d 0 0 0 := by
      unfold State.releaseDesc State.releaseCmd
      rw [rcl, records, pend]
      rfl
    have finishes : s.Finishes r { u with rcl := { u.rcl with pend := false, lost := false } } := (h.finishes r.isLt).next rfl rfl
    obtain ⟨answered, kept, -⟩ := finishes.completes (.inl (by show u.rcl.state ≠ _; rw [rcl, records]; decide)) d 0 0 0
    rw [ends, kept]
    exact ⟨by rw [← rcl], answered⟩
  · have ends : u.releaseDesc r d = u.release.finishDesc r d 0 0 0 := by
      unfold State.releaseDesc State.releaseCmd
      rw [rcl, frozen]
      rfl
    have finishes : s.Finishes r u.release := (h.finishes r.isLt).next rfl rfl
    obtain ⟨answered, kept, -⟩ := finishes.completes (.inl (by show u.rcl.state ≠ _; rw [rcl, frozen]; decide)) d 0 0 0
    rw [ends, kept]
    exact ⟨rfl, rfl, answered⟩
  · have live : u.rcl.state ≠ .exporting := by
      rw [rcl]
      rcases state with e | ⟨e, -⟩ <;> rw [e] <;> decide
    have ends : u.releaseDesc r d = u.finishDesc r d 6 s.recallDetail 0 := by
      unfold State.releaseDesc
      rw [rcl, recallDetail_of_rcl rcl]
      rcases state with off | ⟨records, pend⟩
      · rw [off]
        rfl
      · rw [records, pend]
        rfl
    obtain ⟨answered, kept, -⟩ := (h.finishes r.isLt).completes (.inl live) d 6 s.recallDetail 0
    rw [ends]
    exact ⟨kept.trans rcl, answered⟩

/-- What waits of a RELEASE. -/
def State.releaseWaiting (s : State) (r : Nat) (d : BitVec 512) : Waiting :=
  { ring := r, inc := (s.ring r).inc, opTag := dTag d, evt := dEvt d }

/-- A RELEASE that waits for the entry in progress. -/
def State.releaseWaits (s : State) (r : Nat) (d : BitVec 512) : State :=
  let s := s.setRing r { s.ring r with busy := true }
  { s with rcl := { s.rcl with releasing := s.rcl.releasing ++ [s.releaseWaiting r d] } }

/-- In an export with an entry in progress RELEASE waits. -/
theorem releaseDesc_of_exporting {u : State} {r : Nat} (exports : u.rcl.state = .exporting)
    (entry : ((u.ring u.rcl.exportRing).records.any (·.oclass = 3)) = true) (d : BitVec 512) : u.releaseDesc r d = u.releaseWaits r d := by
  have goes : u.releaseDesc r d = (u.releaseWaits r d).exportNext := by
    unfold State.releaseDesc State.releaseCmd
    rw [exports]
    rfl
  have same : ((u.releaseWaits r d).ring (u.releaseWaits r d).rcl.exportRing).records = (u.ring u.rcl.exportRing).records := by
    show ((u.setRing r { u.ring r with busy := true }).ring u.rcl.exportRing).records = _
    rw [State.ring_setRing]
    split
    next own => rw [own]
    next => rfl
  rw [goes]
  unfold State.exportNext
  exact if_pos (by rw [same, entry]; simp)

theorem releaseWaits_completes {s u : State} {r : Fin 1024} (looked : s.Looked u) (kind : s.kind r = 0) (d : BitVec 512) :
    (∃ c, (settle s (u.releaseWaits r d)).rcl = { s.rcl with releasing := s.rcl.releasing ++ [c] } ∧ c.ring = r ∧ c.opTag = dTag d) ∧
      ((settle s (u.releaseWaits r d)).ring r).busy = true ∧ (settle s (u.releaseWaits r d)).cons r = s.cons r := by
  have rcl : u.rcl = s.rcl := looked.within.field .rcl rfl
  have same : (u.releaseWaits r d).kind r ≠ 3 := by
    show u.kind r ≠ 3
    rw [looked.kind r.isLt, kind]
    decide
  refine ⟨⟨(u.setRing r { u.ring r with busy := true }).releaseWaiting r d, (settle_rcl _ _).trans ?_, rfl, rfl⟩, ?_, ?_⟩
  · rw [← rcl]
    rfl
  · rw [settle_ring _ _ r same]
    exact congrArg Ring.busy ((State.ring_setRing ..).trans (if_pos rfl))
  · exact (settle_reg _ _ .ringCons r 0 (by have := r.isLt; simp [deliveryReg, RegName.off, RegName.row]; omega)).trans
      (looked.cons r.isLt)

/-! ### OBUF -/

theorem obuf_completes (r : Fin 1024) (d : BitVec 512) (s u : State) (h : s.Reads r 0x20 d (obufChecks d) u) :
    Completes (.obuf r d) s fun t =>
      (∃ b, t.ring r = { s.ring r with bufs := (s.ring r).bufs ++ [b] } ∧ b.addr = dField d 8 8 ∧ b.len = dField d 16 4 ∧
        b.written = 0 ∧ b.bad = none) ∧ t.cons r = s.cons r := by
  refine completes_of_reads (exec_obuf r d s) h ?_
  have looked := h.1.looked
  have kind := (kind_of_opsOf h.op.2).2.1 rfl
  have same : (obufBody r d ((s.ringDomain r).getD 0) u).kind r ≠ 3 := by
    show u.kind r ≠ 3
    rw [looked.kind r.isLt, kind]
    decide
  refine ⟨⟨u.postedBuf r d, ?_, rfl, rfl, rfl, rfl⟩, ?_⟩
  · rw [settle_ring _ _ r same, ← looked.ring r]
    exact (State.ring_setRing ..).trans (if_pos rfl)
  · exact (settle_reg _ _ .ringCons r 0 (by have := r.isLt; simp [deliveryReg, RegName.off, RegName.row]; omega)).trans
      (looked.cons r.isLt)

/-- Settles O28: a completion leaves the recall store to the descriptor, an export's ring being no command ring. -/
theorem recallAndBuffers : Obligations.RecallAndBuffers := by
  unfold Obligations.RecallAndBuffers
  refine ⟨fun r d s u permitted => ⟨fun h => ?_, fun h => ?_, fun h => ?_⟩, obuf_completes⟩
  · have turns := State.Takes.turns (.inl h) (by decide)
    refine completes_of_reads (exec_freeze r d s) h ?_
    unfold freezeBody
    rw [turns.within.read_domFreeze (ringDomain_lt s r), permitted, Bool.not_true, if_neg (by decide)]
    exact freeze_completes turns _ d
  · have turns := State.Takes.turns (.inl h) (by decide)
    have ok : s.exportRingOk r (dField d 4 2) = true := by
      simpa using check_of_reads h (List.mem_cons_self ..)
    have apart : dField d 4 2 ≠ r := fun same => by
      have one := kind_of_exportRingOk ok
      rw [same, (kind_of_opsOf h.op.2).1 (by decide)] at one
      exact absurd one (by decide)
    refine completes_of_reads (exec_exportStart r d s) h ?_
    unfold exportBody
    rw [turns.within.read_domFreeze (ringDomain_lt s r), permitted, Bool.not_true, if_neg (by decide)]
    exact export_completes turns apart
  · have turns := State.Takes.turns (.inl h) (by decide)
    have looked := h.1.looked
    have rcl : u.rcl = s.rcl := looked.within.field .rcl rfl
    refine completes_of_reads (exec_release r d s) h ?_
    have ends : releaseBody r d ((s.ringDomain r).getD 0) u = u.releaseDesc r d := by
      unfold releaseBody
      rw [turns.within.read_domFreeze (ringDomain_lt s r), permitted, Bool.not_true, if_neg (by decide)]
      rfl
    rw [ends]
    obtain ⟨cancels, discards, stays⟩ := release_completes turns d
    refine ⟨cancels, discards, fun exports entry => ?_, stays⟩
    rw [releaseDesc_of_exporting (rcl ▸ exports) (by rw [rcl, looked.ring]; exact entry)]
    exact releaseWaits_completes looked ((kind_of_opsOf h.op.2).1 (by decide)) d

end Sys2Proof.Machine
end

section
/-!
SUPPORT. Remote frames that are late, the end of the freeze tick, and the lines of streaming walls (R223, R227, R241). From these O40.
-/
namespace Sys2Proof.Machine

theorem exec_remoteLate (w : Fin 256) (e : Fin 64) (s : State) : exec (.remoteLate w e) s = effect (fun s =>
    let x := s.wall w.val
    match x.due with
    | some d =>
      if d.late.contains e.val then
        s.setWall w.val { x with due := some { d with late := d.late.filter (· ≠ e.val)
                                                      fills := d.fills ++ [(e.val, .remoteLate)] } }
      else s
    | none => s) s := rfl

theorem exec_freezeTickEnd (s : State) : exec .freezeTickEnd s = effect (fun s =>
    if s.rcl.state = .recording && s.rcl.pend && s.rcl.tf.toNat < s.now then
      let n := s.rcl.entries.length
      let tf := s.rcl.tf.toNat
      let s := { s with rcl := { s.rcl with state := .frozen, pend := false, lost := false } }
      (s.action s.rcl.origin 12 n (tf % 2 ^ 32)).raise 0x0511 [(4, n), (4, tf)]
    else s) s := rfl

theorem exec_streamLineSend (w : Fin 256) (s : State) : exec (.streamLineSend w) s = effect (fun s =>
    if s.dark || s.tick.halted || s.tick.shedWalls.contains w.val then s
    else match (s.wall w.val).stream with
      | some d => s.streamNext w.val (s.wall w.val).streamLine d
      | none =>
        match s.nextTrigger w.val with
        | some (t, k) => s.streamNext w.val 0 (s.newStream w.val t k)
        | none => s) s := rfl

theorem remoteLate_completes (w : Fin 256) (e : Fin 64) (s : State) (sound : s.Sound) : Completes (.remoteLate w e) s fun t =>
      (∀ d, (s.wall w).due = some d → d.late.contains e.val = true →
        t = s.setWall w { s.wall w with due := some { d with
          late := d.late.filter (· ≠ e.val), fills := d.fills ++ [(e.val, FillCause.remoteLate)] } }) ∧
      (((s.wall w).due.all fun d => !d.late.contains e.val) = true → t = s) := by
  refine completes_of_effect (exec_remoteLate w e s) ?_
  dsimp only
  cases due : (s.wall w).due with
  | none => exact ⟨(fun _ no => nomatch no), fun _ => sound.settle_eq rfl rfl⟩
  | some d =>
    dsimp only
    cases late : d.late.contains e.val with
    | true =>
      rw [if_pos rfl]
      refine ⟨fun d' same _ => ?_, fun no => absurd (no.symm.trans (congrArg (!·) late)) (by decide)⟩
      cases same
      exact State.Sound.settle_eq (by exact sound) (by rfl) (by rfl)
    | false =>
      rw [if_neg (by decide)]
      refine ⟨fun d' same no => ?_, fun _ => sound.settle_eq rfl rfl⟩
      cases same
      exact absurd (no.symm.trans late) (by decide)

theorem freezeTickEnd_completes (s : State) (records : s.rcl.state = .recording) (pend : s.rcl.pend = true) (behind : s.rcl.tf.toNat < s.now) :
    Completes .freezeTickEnd s fun t => t.rcl = { s.rcl with state := .frozen, pend := false, lost := false } ∧
      t.markSeq = s.markSeq + 1 ∧ State.Frame { s with rcl := t.rcl, marks := t.marks, markSeq := t.markSeq } t := by
  refine completes_of_effect (exec_freezeTickEnd s) ?_
  rw [if_pos (by simp [records, pend, behind])]
  refine ⟨settle_rcl .., settle_markSeq .., ?_⟩
  rw [settle_rcl, settle_markSeq]
  exact (settle_frame s _).of_raised rfl

theorem freezeTickEnd_idle (s : State) (sound : s.Sound) (other : s.rcl.state ≠ .recording ∨ s.rcl.pend = false ∨ s.now ≤ s.rcl.tf.toNat) :
    Completes .freezeTickEnd s fun t => t = s := by
  refine completes_idle (exec_freezeTickEnd s) (if_neg ?_) sound
  simp only [Bool.and_eq_true, decide_eq_true_eq, not_and, Nat.not_lt, and_imp]
  rcases other with no | no | no
  · exact fun e => absurd e no
  · exact fun _ e => absurd (no.symm.trans e) (by decide)
  · exact fun _ _ => no

/-! ### Streaming walls -/

theorem wall_of_walls {s t : State} (h : t.walls = s.walls) (w : Nat) : t.wall w = s.wall w := by
  unfold State.wall
  rw [h]

/-- A streaming frame offered to its stream is the newest begun. -/
theorem offerLive_streamed (s : State) (w : Nat) (d : WallDue) : ((s.offerLive w d).wall w).streamed = d.tick := by
  have begun : ((s.setWall w { s.wall w with streamed := d.tick }).wall w).streamed = d.tick := by rw [State.wall_setWall, if_pos rfl]
  unfold State.offerLive
  dsimp only
  split
  · exact begun
  next n found =>
    have offered := State.Within.offerStream (s := s.setWall w { s.wall w with streamed := d.tick }) n w d.tick
    split
    next q v made =>
      rw [made] at offered
      have same : v.wall w = _ := wall_of_walls (offered.field .walls rfl) w
      show ((v.setWall w { v.wall w with streamSeq := q }).wall w).streamed = _
      rw [State.wall_setWall, if_pos rfl]
      exact (congrArg Wall.streamed same).trans begun
    next v made =>
      rw [made] at offered
      exact (congrArg Wall.streamed (wall_of_walls (offered.field .walls rfl) w)).trans begun

theorem streamHeader_walls (s : State) (w n : Nat) (d : WallDue) (final : Bool) (st : BitVec 32 × Bool) :
    (s.streamHeader w n d final st).walls = s.walls := by
  unfold State.streamHeader
  split
  next time v made =>
    have drawn : v.walls = s.walls := by
      split at made
      · cases made
        rfl
      · cases made
        rfl
    exact drawn

theorem streamNext_of_waits {s : State} {w y : Nat} {d : WallDue} (waits : ((s.linesAt d y).any fun l => l.2 = .waits) = true) :
    s.streamNext w y d = s := if_pos waits

/-- A line that has left. -/
theorem streamNext_wall {s : State} {w y : Nat} {d : WallDue} (stands : ((s.linesAt d y).any fun l => l.2 = .waits) = false) :
    (y + 1 ≠ wallH d.bank → ((s.streamNext w y d).wall w).streamLine = y + 1 ∧
      (((s.streamNext w y d).wall w).stream.map (·.tick)) = some d.tick) ∧
    (y + 1 = wallH d.bank → ((s.streamNext w y d).wall w).stream = none ∧ ((s.streamNext w y d).wall w).streamLine = 0) ∧
    (y = 0 → ((s.streamNext w y d).wall w).streamed = d.tick) := by
  unfold State.streamNext
  extract_lets ls new d1 d2 final s1 s2 x
  rw [if_neg (by rw [stands]; decide)]
  have sent : s2.walls = s1.walls := by
    unfold s2
    split
    · rfl
    next n found =>
      extract_lets st u v
      have headed : u.walls = s1.walls := by
        unfold u
        split
        · exact streamHeader_walls ..
        · rfl
      split
      · exact (streamHeader_walls v w n d2 true st).trans headed
      · exact headed
  have offered : y = 0 → (s2.wall w).streamed = d.tick := fun first => by
    rw [wall_of_walls sent]
    unfold s1
    rw [if_pos first]
    exact offerLive_streamed s w d2
  split
  next last =>
    refine ⟨fun no => absurd last no, fun _ => ?_, fun first => ?_⟩
    · rw [State.wall_setWall, if_pos rfl]
      exact ⟨rfl, rfl⟩
    · rw [State.wall_setWall, if_pos rfl]
      exact offered first
  next more =>
    refine ⟨fun _ => ?_, fun no => absurd no more, fun first => ?_⟩
    · rw [State.wall_setWall, if_pos rfl]
      exact ⟨rfl, rfl⟩
    · rw [State.wall_setWall, if_pos rfl]
      exact offered first

/-- The next line of a frame that has begun. -/
theorem streamLineSend_run {w : Fin 256} {s : State} {d : WallDue} (light : s.dark = false) (runs : s.tick.halted = false)
    (kept : s.tick.shedWalls.contains w.val = false) (stream : (s.wall w).stream = some d) :
    exec (.streamLineSend w) s = .next (settle s (s.streamNext w (s.wall w).streamLine d)) := by
  rw [exec_streamLineSend, effect, light, runs, kept, stream]
  rfl

theorem linesAt_of_stones {s : State} {d : WallDue} {e : Nat × Stone} {es : List (Nat × Stone)} (stones : localStones d.bank = e :: es) (y : Nat) :
    (s.linesAt d y).any (fun l => l.2 = .waits) = true ↔
      e.2.py ≤ y ∧ y < e.2.py + e.2.oh ∧ ∃ x ∈ e :: es, s.lineNow d.bank d d.addr (y - e.2.py) x = .waits := by
  unfold State.linesAt
  rw [stones]
  dsimp only
  split
  next inside =>
    simp only [Bool.and_eq_true, decide_eq_true_eq] at inside
    simp only [List.any_map, List.any_eq_true, Function.comp_apply, decide_eq_true_eq, inside.1, inside.2, true_and]
  next outside =>
    simp only [Bool.and_eq_true, decide_eq_true_eq, not_and] at outside
    simp only [List.any_nil, Bool.false_eq_true, false_iff, not_and]
    exact fun a b => absurd b (outside a)

theorem streamLineSend_completes (w : Fin 256) (d : WallDue) (e : Nat × Stone) (es : List (Nat × Stone)) (s : State) (sound : s.Sound)
    (light : s.dark = false) (runs : s.tick.halted = false) (kept : s.tick.shedWalls.contains w.val = false)
    (stream : (s.wall w).stream = some d) (stones : localStones d.bank = e :: es) : Completes (.streamLineSend w) s fun t =>
      (e.2.py ≤ (s.wall w).streamLine → (s.wall w).streamLine < e.2.py + e.2.oh →
        (∃ x ∈ e :: es, s.lineNow d.bank d d.addr ((s.wall w).streamLine - e.2.py) x = .waits) → t = s) ∧
      (((s.wall w).streamLine < e.2.py ∨ e.2.py + e.2.oh ≤ (s.wall w).streamLine ∨
          ∀ x ∈ e :: es, s.lineNow d.bank d d.addr ((s.wall w).streamLine - e.2.py) x ≠ .waits) →
        ((s.wall w).streamLine + 1 ≠ wallH d.bank → (t.wall w).streamLine = (s.wall w).streamLine + 1 ∧
          ((t.wall w).stream.map (·.tick)) = some d.tick) ∧
        ((s.wall w).streamLine + 1 = wallH d.bank → (t.wall w).stream = none ∧ (t.wall w).streamLine = 0)) := by
  refine ⟨_, streamLineSend_run light runs kept stream, fun above below waits => ?_, fun stands => ?_⟩
  · rw [streamNext_of_waits ((linesAt_of_stones stones _).mpr ⟨above, below, waits⟩), sound.settle_eq rfl rfl]
  · have ready : ((s.linesAt d (s.wall w).streamLine).any fun l => l.2 = .waits) = false := by
      refine Bool.eq_false_iff.mpr fun waits => ?_
      obtain ⟨above, below, x, mem, waits⟩ := (linesAt_of_stones stones _).mp waits
      rcases stands with no | no | no
      · omega
      · omega
      · exact no x mem waits
    rw [wall_of_walls (settle_walls ..)]
    obtain ⟨more, last, -⟩ := streamNext_wall (w := w.val) ready
    exact ⟨more, last⟩

theorem streamLineSend_begins (w : Fin 256) (k j : Nat) (s : State) (sound : s.Sound) (light : s.dark = false) (runs : s.tick.halted = false)
    (kept : s.tick.shedWalls.contains w.val = false) (none : (s.wall w).stream = none) (next : s.nextTrigger w = some (k, j)) :
    Completes (.streamLineSend w) s fun t =>
      (((s.linesAt (s.newStream w k j) 0).any fun l => l.2 = .waits) = true → t = s) ∧
      (((s.linesAt (s.newStream w k j) 0).any fun l => l.2 = .waits) = false → (t.wall w).streamed = j ∧
        (1 ≠ wallH (s.wallAt w j).1 → (t.wall w).streamLine = 1 ∧ ((t.wall w).stream.map (·.tick)) = some j)) := by
  have run : exec (.streamLineSend w) s = .next (settle s (s.streamNext w 0 (s.newStream w k j))) := by
    rw [exec_streamLineSend, effect, light, runs, kept, none, next]
    rfl
  refine ⟨_, run, fun waits => ?_, fun stands => ?_⟩
  · rw [streamNext_of_waits waits, sound.settle_eq rfl rfl]
  · rw [wall_of_walls (settle_walls ..)]
    obtain ⟨more, -, first⟩ := streamNext_wall (w := w.val) stands
    exact ⟨first rfl, more⟩

theorem streamLineSend_idle (w : Fin 256) (s : State) (sound : s.Sound) (idle : s.dark = true ∨ s.tick.halted = true ∨
    s.tick.shedWalls.contains w.val = true ∨ ((s.wall w).stream = none ∧ s.nextTrigger w = none)) :
    Completes (.streamLineSend w) s fun t => t = s := by
  refine completes_idle (exec_streamLineSend w s) ?_ sound
  rcases idle with no | no | no | ⟨none, known⟩
  · rw [no]; rfl
  · rw [no, Bool.or_true]; rfl
  · rw [no, Bool.or_true]; rfl
  · rw [none, known]
    exact ite_self s

/-- Settles O40: a line that waits leaves nothing, and one that leaves counts, whatever its frame's stream makes of it. -/
theorem wallsStreamAndFreeze : Obligations.WallsStreamAndFreeze := by
  unfold Obligations.WallsStreamAndFreeze
  exact ⟨⟨remoteLate_completes, freezeTickEnd_completes, freezeTickEnd_idle⟩, streamLineSend_completes, streamLineSend_begins, streamLineSend_idle⟩

end Sys2Proof.Machine
end

section
/-!
SUPPORT. Admission (R71, R73, R81, R187): what a run notes, what a decided commit leaves of its trays, and that shedding shows itself. From
these O14.
-/
namespace Sys2Proof.Machine

theorem exec_admissionRun (s : State) : exec .admissionRun s = effect (fun s =>
    if s.power.pstate = .keep || s.power.pstate = .reset then s
    else match s.tick.gateRuns.find? s.gatesBad, s.tick.judging with
      | some x, _ => s.rejectGates x
      | none, cs =>
        if s.tick.capacity || !s.tick.gateRuns.isEmpty then s.judgeCapacity
        else match cs with
          | [] => s
          | c :: cs => { s with tick := { s.tick with judging := cs } }.judgeCommit c) s := rfl

/-! ### What a run notes -/

/-- What a run notes: registers, and values drawn. -/
def noteSide : Footprint where
  has
    | .free => true
    | _ => false
  regs _ := true

/-- The same behind the result. -/
def loadSide : Footprint where
  has := noteSide.has
  regs off := off != RegName.tickAdmStatus.off

theorem loadSide_off {n : RegName} {i j : Nat} (h : RegName.tickAdmStatus.off < n.row.base) : loadSide.regs (n.off i j) = true := by
  have := base_le_off n i j
  exact bne_iff_ne.mpr (by omega)

namespace State.Within

variable {s t : State}

theorem noted (h : s.Within loadSide t) : s.Within noteSide t := h.mono (fun _ no => no) fun _ => nofun

theorem orDraw (x : Option Nat) (width : Nat) : s.Within loadSide (s.orDraw x width).2 := by
  unfold State.orDraw
  split
  · exact refl _ _
  · exact draw rfl

theorem noteLoad {n : RegName} (h : RegName.tickAdmStatus.off < n.row.base) (i kind unit : Nat) (cs : List Budget) :
    s.Within loadSide (s.noteLoad n i kind unit cs) := (orDraw _ _).trans ((orDraw _ _).trans (setReg (loadSide_off h) _))

theorem noteLoads (cs : List Budget) : s.Within loadSide (s.noteLoads cs) := by
  unfold State.noteLoads
  refine ite (refl _ _) ((foldl _ (fun _ _ _ => noteLoad (by decide) _ _ _ _) _).trans (foldl _ (fun _ _ _ => ?_) _))
  exact ite (noteLoad (by decide) _ _ _ _) (setReg (loadSide_off (by decide)) _)

theorem noteRun (result : Nat) (fail : Option Budget) (cs : List Budget) : s.Within noteSide (s.noteRun result fail cs).2 := by
  unfold State.noteRun
  dsimp only
  have drawn : ∀ u : State, s.Within noteSide u → s.Within noteSide (u.orDraw (match fail with
      | some f => f.load 16
      | none => highestLoad 16 cs) 16).2 := fun u h => h.trans (noted (orDraw _ _))
  have first : s.Within noteSide (match fail with
      | some f => s.orDraw f.course 8
      | none => (0, s)).2 := by
    cases fail with
    | none => exact refl _ _
    | some f => exact noted (orDraw _ _)
  exact ((drawn _ first).trans (setReg rfl _)).trans ((setReg rfl _).trans (noted (noteLoads cs)))

end State.Within

theorem bitsOf_result (result a b c d : Nat) (small : result < 16) :
    bitsOf (BitVec.ofNat 32 (result + a * 16 + b * 256 + c * 2 ^ 16 + d * 2 ^ 24)) 0 4 = result := by
  rw [bitsOf, BitVec.toNat_ofNat]
  omega

/-- RESULT is what the run found. -/
theorem noteRun_result (s : State) {result : Nat} (small : result < 16) (fail : Option Budget) (cs : List Budget) :
    (s.noteRun result fail cs).2.field .tickAdmStatus 0 0 0 4 = result := by
  unfold State.noteRun
  extract_lets kind unit
  split
  next course u _ =>
  split
  next load v _ =>
  extract_lets count w
  have kept : ((w.setReg .tickAdmLoad 0 0 (BitVec.ofNat 32 load)).noteLoads cs).reg .tickAdmStatus = w.reg .tickAdmStatus :=
    ((State.Within.setReg (s := w) (P := loadSide) (n := .tickAdmLoad) (loadSide_off (by decide)) _).trans (.noteLoads cs)).reg _ _ (by decide)
  rw [State.field, kept]
  exact (congrArg (bitsOf · 0 4) (State.reg_setReg_self _ _ _ _ _)).trans (bitsOf_result _ _ _ _ _ small)

/-! ### A commit -/

/-- What completing a commit leaves: trays, the tick and the registers below the rings'. -/
theorem State.Within.commitEnds (s : State) (c : CommitRec) (type : Nat) (fs : List (Nat × Nat)) (status detail result : Nat) :
    s.Within hostSide ((s.commitEvent c type fs).commitDone c status detail result) := by
  have told : s.Within hostSide (s.commitEvent c type fs) := ite (refl _ _) (raise _ _ rfl)
  exact told.trans (ite (complete ..) (refl _ _))

/-- A commit has been decided: of the trays its own alone differ, and that in their state. -/
structure State.Decided (s : State) (c : CommitRec) (st : TrayState) (result : Nat) (t : State) : Prop where
  judging : t.tick.judging = s.tick.judging
  trays : ∀ x, t.tray x = if x ∈ c.trays then { s.tray x with state := st, group := (t.tray x).group } else s.tray x
  result : t.field .tickAdmStatus 0 0 0 4 = result

theorem settle_tray (s0 u : State) (x : Nat) : (settle s0 u).tray x = u.tray x := tray_of_trays (settle_trays s0 u) x

theorem settle_field_low (s0 u : State) {n : RegName} {i j : Nat} (low : n.off i j < 0x300010) (lo w : Nat) :
    (settle s0 u).field n i j lo w = u.field n i j lo w :=
  congrArg (bitsOf · lo w) (settle_reg s0 u n i j (deliveryReg_of_lt low))

theorem State.Decided.settle {s u : State} {c : CommitRec} {st : TrayState} {result : Nat} (h : s.Decided c st result u) (s0 : State) :
    s.Decided c st result (settle s0 u) := by
  refine ⟨(congrArg TickUnit.judging (settle_tick ..)).trans h.judging, fun x => ?_, ?_⟩
  · rw [settle_tray]
    exact h.trays x
  · rw [settle_field_low _ _ (by decide)]
    exact h.result

/-- What the run has noted, the trays set, and the commit completed. -/
theorem decided_of_noted {s v w : State} {c : CommitRec} {result : Nat} (noted : s.Within noteSide v) (found : v.field .tickAdmStatus 0 0 0 4 = result)
    (st : TrayState) (group : Bool) (trays : w.trays = (v.setTrays st group c.trays).trays) (judging : w.tick.judging = v.tick.judging)
    (regs : w.regs = v.regs) {t : State} (ends : w.Within hostSide t) : s.Decided c st result t := by
  have same : v.trays = s.trays := noted.field .trays rfl
  refine ⟨?_, fun x => ?_, ?_⟩
  · rw [show t.tick = w.tick from ends.field .tick rfl, judging, show v.tick = s.tick from noted.field .tick rfl]
  · have tray : t.tray x = if x ∈ c.trays then { s.tray x with state := st, group := group } else s.tray x := by
      rw [tray_of_trays ((ends.field .trays rfl).trans trays), setTrays_tray, tray_of_trays same]
    rw [tray]
    split <;> rfl
  · rw [← found]
    have kept : t.reg .tickAdmStatus = w.reg .tickAdmStatus := ends.reg _ _ (by decide)
    rw [State.field, kept, State.field, reg_of_regs regs]

/-- The trays of an accepted commit are ARMED, and it waits for its edge. -/
def State.armCommit (s cfg : State) (c : CommitRec) (edges : Nat) : State :=
  let s := s.setTrays .armed (decide (1 < c.trays.length)) c.trays
  { s with tick := { s.tick with armed := s.tick.armed ++ [{ c with edges := edges, ends := true }]
                                 nextRegions := some (s.place cfg) } }

theorem acceptCommit_eq (s cfg : State) (c : CommitRec) (edges : Nat) : s.acceptCommit cfg c edges =
    (((s.noteRun 1 none cfg.judged).2.armCommit cfg c edges).commitEvent c 0x0101 [(2, c.ring), (1, cfg.cycleLength - 1), (5, 0)]).commitDone c 0 0
      (((s.noteRun 1 none cfg.judged).2.nextEdge + edges - 1) % 2 ^ 32) := rfl

theorem armCommit_facts (v cfg : State) (c : CommitRec) (edges : Nat) :
    (v.armCommit cfg c edges).trays = (v.setTrays .armed (decide (1 < c.trays.length)) c.trays).trays ∧
      (v.armCommit cfg c edges).tick.judging = v.tick.judging ∧
      (v.armCommit cfg c edges).tick.armed = v.tick.armed ++ [{ c with edges := edges, ends := true }] ∧
      (v.armCommit cfg c edges).regs = v.regs := by
  have rest := setTrays_within .armed (decide (1 < c.trays.length)) c.trays v
  unfold State.armCommit
  generalize v.setTrays .armed (decide (1 < c.trays.length)) c.trays = w at rest
  have tick : w.tick = v.tick := by rw [rest]
  have regs : w.regs = v.regs := by rw [rest]
  have armed : w.tick.armed = v.tick.armed := congrArg TickUnit.armed tick
  have judging : w.tick.judging = v.tick.judging := congrArg TickUnit.judging tick
  exact ⟨rfl, judging, congrArg (· ++ [{ c with edges := edges, ends := true }]) armed, regs⟩

theorem acceptCommit_decided (s cfg : State) (c : CommitRec) (edges : Nat) :
    s.Decided c .armed 1 (s.acceptCommit cfg c edges) ∧
      (s.acceptCommit cfg c edges).tick.armed = s.tick.armed ++ [{ c with edges := edges, ends := true }] := by
  have noted := State.Within.noteRun (s := s) 1 none cfg.judged
  have found := noteRun_result s (by decide : 1 < 16) none cfg.judged
  rw [acceptCommit_eq]
  generalize (s.noteRun 1 none cfg.judged).2 = v at noted found
  obtain ⟨trays, judging, armed, regs⟩ := armCommit_facts v cfg c edges
  have ends := State.Within.commitEnds (v.armCommit cfg c edges) c 0x0101 [(2, c.ring), (1, cfg.cycleLength - 1), (5, 0)] 0 0
    ((v.nextEdge + edges - 1) % 2 ^ 32)
  refine ⟨decided_of_noted noted found .armed (decide (1 < c.trays.length)) trays judging regs ends, ?_⟩
  have tick : v.tick = s.tick := noted.field .tick rfl
  rw [← tick]
  exact (congrArg TickUnit.armed (ends.field .tick rfl)).trans armed

theorem rejectCommit_decided (s : State) (c : CommitRec) (f : Budget) (cs : List Budget) :
    s.Decided c .openTray 2 (s.rejectCommit c f cs) ∧ (s.rejectCommit c f cs).tick.armed = s.tick.armed := by
  have noted := State.Within.noteRun (s := s) 2 (some f) cs
  have found := noteRun_result s (by decide : 2 < 16) (some f) cs
  unfold State.rejectCommit
  generalize s.noteRun 2 (some f) cs = made at noted found
  obtain ⟨⟨course, load⟩, v⟩ := made
  dsimp only at noted found ⊢
  have rest := setTrays_within .openTray false c.trays v
  have tick : (v.setTrays .openTray false c.trays).tick = v.tick := by rw [rest]
  have regs : (v.setTrays .openTray false c.trays).regs = v.regs := by rw [rest]
  have ends := State.Within.commitEnds (v.setTrays .openTray false c.trays) c 0x0102
    [(1, f.kind), (1, f.unit), (1, course), (1, 0), (2, load), (2, c.ring)] 4 (f.kind + 256 * f.unit) (load + course * 2 ^ 16)
  refine ⟨decided_of_noted noted found .openTray false rfl (congrArg TickUnit.judging tick) regs ends, ?_⟩
  exact congrArg TickUnit.armed ((ends.field .tick rfl).trans (tick.trans (noted.field .tick rfl)))

/-- A commit is accepted for its common edge, or refused for what stands against it. -/
theorem judgeCommit_cases (u : State) (c : CommitRec) :
    (∃ e, u.lacksReplay (u.commitConfig c) = false ∧ (u.commitConfig c).failure = none ∧ u.commonEdge (c.trays.filter (· < 512)) = some e ∧
      u.judgeCommit c = u.acceptCommit (u.commitConfig c) c e) ∨
    ((u.lacksReplay (u.commitConfig c) = true ∨ (u.commitConfig c).failure ≠ none ∨ u.commonEdge (c.trays.filter (· < 512)) = none) ∧
      ∃ f cs, u.judgeCommit c = u.rejectCommit c f cs) := by
  unfold State.judgeCommit
  dsimp only
  cases lacks : u.lacksReplay (u.commitConfig c) with
  | true => exact .inr ⟨.inl rfl, kind9, [], if_pos rfl⟩
  | false =>
    rw [if_neg (by decide)]
    cases failure : (u.commitConfig c).failure with
    | some f => exact .inr ⟨.inr (.inl (by simp)), f, (u.commitConfig c).judged, rfl⟩
    | none =>
      cases edge : u.commonEdge (c.trays.filter (· < 512)) with
      | none => exact .inr ⟨.inr (.inr rfl), kind9, [], rfl⟩
      | some e => exact .inl ⟨e, rfl, rfl, rfl, rfl⟩

/-- What a decision says of the trays. -/
theorem State.Decided.tray {s t : State} {c : CommitRec} {st : TrayState} {result : Nat} (h : s.Decided c st result t) :
    (∀ x, (t.tray x).active = (s.tray x).active) ∧ (∀ x, x ∉ c.trays → t.tray x = s.tray x) ∧
      ∀ x ∈ c.trays, (t.tray x).state = st ∧ (t.tray x).staged = (s.tray x).staged := by
  refine ⟨fun x => ?_, fun x other => ?_, fun x own => ?_⟩
  · rw [h.trays x]
    split <;> rfl
  · rw [h.trays x, if_neg other]
  · rw [h.trays x, if_pos own]
    exact ⟨rfl, rfl⟩

theorem admissionRun_commit (c : CommitRec) (cs : List CommitRec) (s : State) (keep : s.power.pstate ≠ .keep) (reset : s.power.pstate ≠ .reset)
    (gates : s.tick.gateRuns = []) (capacity : s.tick.capacity = false) (judging : s.tick.judging = c :: cs) :
    let u : State := { s with tick := { s.tick with judging := cs } }
    let cfg := u.commitConfig c
    Completes .admissionRun s fun t =>
      t.tick.judging = cs ∧ (∀ x, (t.tray x).active = (s.tray x).active) ∧ (∀ x, x ∉ c.trays → t.tray x = s.tray x) ∧
      (∀ e, u.lacksReplay cfg = false → cfg.failure = none → u.commonEdge (c.trays.filter (· < 512)) = some e →
        (∀ x ∈ c.trays, (t.tray x).state = .armed ∧ (t.tray x).staged = (s.tray x).staged) ∧
        t.tick.armed = s.tick.armed ++ [{ c with edges := e, ends := true }] ∧ t.field .tickAdmStatus 0 0 0 4 = 1) ∧
      (u.lacksReplay cfg = true ∨ cfg.failure ≠ none ∨ u.commonEdge (c.trays.filter (· < 512)) = none →
        (∀ x ∈ c.trays, (t.tray x).state = .openTray ∧ (t.tray x).staged = (s.tray x).staged) ∧
        t.tick.armed = s.tick.armed ∧ t.field .tickAdmStatus 0 0 0 4 = 2) := by
  intro u cfg
  refine completes_of_effect (exec_admissionRun s) ?_
  rw [if_neg (by simp [keep, reset]), gates, judging, capacity]
  dsimp only [List.find?_nil]
  rw [if_neg (by decide)]
  rcases judgeCommit_cases u c with ⟨e, lacks, fits, edge, ends⟩ | ⟨refused, f, bs, ends⟩
  · obtain ⟨decided, armed⟩ := acceptCommit_decided u cfg c e
    rw [show State.judgeCommit _ c = _ from ends]
    obtain ⟨active, rest, own⟩ := (decided.settle s).tray
    refine ⟨(decided.settle s).judging, active, rest, fun e' _ _ same => ?_, fun no => ?_⟩
    · cases edge.symm.trans same
      exact ⟨own, (congrArg TickUnit.armed (settle_tick ..)).trans armed, (decided.settle s).result⟩
    · rcases no with no | no | no
      · exact absurd (lacks.symm.trans no) (by decide)
      · exact absurd fits no
      · exact nomatch edge.symm.trans no
  · obtain ⟨decided, armed⟩ := rejectCommit_decided u c f bs
    rw [show State.judgeCommit _ c = _ from ends]
    obtain ⟨active, rest, own⟩ := (decided.settle s).tray
    refine ⟨(decided.settle s).judging, active, rest, fun e lacks fits edge => ?_, fun _ =>
      ⟨own, (congrArg TickUnit.armed (settle_tick ..)).trans armed, (decided.settle s).result⟩⟩
    rcases refused with no | no | no
    · exact absurd (lacks.symm.trans no) (by decide)
    · exact absurd fits no
    · exact nomatch edge.symm.trans no

/-! ### A change of capacity -/

/-- Shedding leaves trays, commits and the placement; where it changes anything at all, the tick is shed. -/
structure State.Sheds (s t : State) : Prop where
  trays : t.trays = s.trays
  judging : t.tick.judging = s.tick.judging
  capacity : t.tick.capacity = s.tick.capacity
  placeNow : t.tick.placeNow = s.tick.placeNow
  shows : t = s ∨ t.tick.shed = true

namespace State.Sheds

variable {s t u : State}

theorem refl (s : State) : s.Sheds s := ⟨rfl, rfl, rfl, rfl, .inl rfl⟩

theorem trans (h : s.Sheds t) (g : t.Sheds u) : s.Sheds u where
  trays := g.trays.trans h.trays
  judging := g.judging.trans h.judging
  capacity := g.capacity.trans h.capacity
  placeNow := g.placeNow.trans h.placeNow
  shows := by
    rcases g.shows with rfl | shed
    · exact h.shows
    · exact .inr shed

theorem ite {c : Prop} [Decidable c] (h : s.Sheds t) (g : s.Sheds u) : s.Sheds (if c then t else u) := by
  split
  · exact h
  · exact g

theorem shrunk (s : State) : s.Sheds s.shedRecall := ite (refl s) ⟨rfl, rfl, rfl, rfl, .inr rfl⟩

theorem tnr (is : List Nat) (s : State) : s.Sheds (s.shedTnr is) := by
  induction is generalizing s with
  | nil => exact refl s
  | cons i is ih =>
    have stepped : s.Sheds (State.shedStep { s with tick := { s.tick with shedPorts := s.tick.shedPorts ++ [i] } } 2 (s.portAddr i) (s.portAddr i)) :=
      ⟨rfl, rfl, rfl, rfl, .inr rfl⟩
    exact ite (refl s) (stepped.trans (ih _))

theorem walls (ws : List Nat) (s : State) : s.Sheds (s.shedWalls ws) := by
  induction ws generalizing s with
  | nil => exact refl s
  | cons w ws ih =>
    have stepped : s.Sheds (State.shedStep { s with tick := { s.tick with shedWalls := s.tick.shedWalls ++ [w] } } 3 w w) :=
      ⟨rfl, rfl, rfl, rfl, .inr rfl⟩
    exact ite (refl s) (stepped.trans (ih _))

theorem all (s : State) : s.Sheds s.shedAll := ite (refl s) (((shrunk s).trans (tnr _ _)).trans (walls _ _))

end State.Sheds

/-- An accepted change of capacity places the regions anew from the next edge on. -/
theorem acceptCapacity_facts (s : State) {res : Nat} (small : res < 16) :
    (s.acceptCapacity res []).trays = s.trays ∧ (s.acceptCapacity res []).tick =
      { s.tick with nextRegions := some (s.place s.standing), placeNow := true, placeClock := s.clock } ∧
      (s.acceptCapacity res []).field .tickAdmStatus 0 0 0 4 = res := by
  have noted := State.Within.noteRun (s := s) res none s.standing.judged
  have found := noteRun_result s small none s.standing.judged
  have ends : s.acceptCapacity res [] = { (s.noteRun res none s.standing.judged).2 with
    tick := { (s.noteRun res none s.standing.judged).2.tick with
      nextRegions := some ((s.noteRun res none s.standing.judged).2.place s.standing), placeNow := true
      placeClock := (s.noteRun res none s.standing.judged).2.clock } } := rfl
  rw [ends]
  generalize (s.noteRun res none s.standing.judged).2 = v at noted found
  have tick : v.tick = s.tick := noted.field .tick rfl
  have clock : v.clock = s.clock := noted.field .clock rfl
  refine ⟨noted.field .trays rfl, ?_, found⟩
  have place : v.place s.standing = s.place s.standing := by
    unfold State.place
    rw [tick]
  show { v.tick with nextRegions := some (v.place s.standing), placeNow := true, placeClock := v.clock } = _
  rw [place, tick, clock]

/-- A run on a change of capacity alone, no commit being ARMED. -/
theorem judgeCapacity_of_alone {s u : State} (gates : s.tick.gateRuns = []) (armed : s.tick.armed = [])
    (taken : u = { s with tick := { s.tick with capacity := false } }) : s.judgeCapacity = match u.shedAll.standing.failure with
      | none => u.shedAll.acceptCapacity (if u.shedAll.tick.shed then 3 else 1) []
      | some f => (u.shedAll.noteRun 2 (some f) u.shedAll.standing.judged).2 := by
  have same : ({ s with tick := { s.tick with capacity := false, gateRuns := [], armed := [] } } : State) = u := by
    rw [taken, ← gates, ← armed]
  unfold State.judgeCapacity
  simp only [gates, armed, List.any_nil, Bool.false_and, Bool.false_eq_true, if_false, List.map_nil, same, List.foldl_nil] <;> rfl

theorem admissionRun_capacity (s : State) (keep : s.power.pstate ≠ .keep) (reset : s.power.pstate ≠ .reset) (gates : s.tick.gateRuns = [])
    (capacity : s.tick.capacity = true) (armed : s.tick.armed = []) :
    let u : State := { s with tick := { s.tick with capacity := false } }
    Completes .admissionRun s fun t =>
      t.tick.capacity = false ∧ t.trays = s.trays ∧ t.tick.judging = s.tick.judging ∧
      (u.standing.failure = none → t.tick.placeNow = true ∧ t.tick.nextRegions = some (u.place u.standing) ∧
        t.field .tickAdmStatus 0 0 0 4 = if s.tick.shed then 3 else 1) ∧
      (u.standing.failure ≠ none →
        (t.tick.shed = true ∧ t.tick.placeNow = true ∧ t.field .tickAdmStatus 0 0 0 4 = 3) ∨
        (t.tick.placeNow = s.tick.placeNow ∧ t.field .tickAdmStatus 0 0 0 4 = 2)) := by
  intro u
  refine completes_of_effect (exec_admissionRun s) ?_
  rw [if_neg (by simp [keep, reset]), gates, capacity]
  dsimp only [List.find?_nil]
  rw [if_pos (by decide), judgeCapacity_of_alone (u := u) gates armed rfl]
  have sheds := State.Sheds.all u
  have fits : u.standing.failure = none → u.shedAll = u := fun none => if_pos (by rw [none]; rfl)
  have shows : u.standing.failure ≠ none → u.shedAll.standing.failure = none → u.shedAll.tick.shed = true := fun bad none => by
    rcases sheds.shows with same | shed
    · rw [same] at none
      exact absurd none bad
    · exact shed
  cases found : u.shedAll.standing.failure with
  | none =>
    dsimp only
    have small : (if u.shedAll.tick.shed then 3 else 1) < 16 := by split <;> decide
    obtain ⟨trays, tick, result⟩ := acceptCapacity_facts u.shedAll small
    refine ⟨?_, ?_, ?_, fun none => ⟨?_, ?_, ?_⟩, fun bad => .inl ⟨?_, ?_, ?_⟩⟩
    · rw [settle_tick, tick]
      exact sheds.capacity
    · rw [settle_trays, trays]
      exact sheds.trays
    · rw [settle_tick, tick]
      exact sheds.judging
    · rw [settle_tick, tick]
    · rw [settle_tick, tick, fits none]
    · rw [settle_field_low _ _ (by decide), result, fits none]
    · rw [settle_tick, tick]
      exact shows bad found
    · rw [settle_tick, tick]
    · rw [settle_field_low _ _ (by decide), result, shows bad found, if_pos rfl]
  | some f =>
    dsimp only
    have noted := State.Within.noteRun (s := u.shedAll) 2 (some f) u.shedAll.standing.judged
    have tick : (u.shedAll.noteRun 2 (some f) u.shedAll.standing.judged).2.tick = u.shedAll.tick := noted.field .tick rfl
    refine ⟨?_, ?_, ?_, fun none => ?_, fun bad => .inr ⟨?_, ?_⟩⟩
    · rw [settle_tick, tick]
      exact sheds.capacity
    · rw [settle_trays]
      exact (noted.field .trays rfl).trans sheds.trays
    · rw [settle_tick, tick]
      exact sheds.judging
    · rw [fits none, none] at found
      exact nomatch found
    · rw [settle_tick, tick]
      exact sheds.placeNow
    · rw [settle_field_low _ _ (by decide)]
      exact noteRun_result _ (by decide) _ _

theorem admissionRun_idle (s : State) (sound : s.Sound) (gates : s.tick.gateRuns = []) (capacity : s.tick.capacity = false)
    (judging : s.tick.judging = []) : Completes .admissionRun s fun t => t = s := by
  refine completes_idle (exec_admissionRun s) ?_ sound
  rw [gates, capacity, judging]
  exact ite_self s

/-- Settles O14: a decision goes to the trays of its commit alone, and shedding that lets the rest be accepted shows itself. -/
theorem admissionJudges : Obligations.AdmissionJudges := by
  unfold Obligations.AdmissionJudges
  exact ⟨admissionRun_commit, admissionRun_capacity, admissionRun_idle⟩

end Sys2Proof.Machine
end

section
/-!
SUPPORT. How boot ends, LOCK and the fuse command (R422 to R435). From these O59.
-/
namespace Sys2Proof.Machine

/-! ### Images -/

theorem exec_bootStart (b : BootInput) (s : State) : exec (.bootStart b) s =
    if !((imageWhole b.slotA) && (imageWhole b.slotB)) then .refused .illFormed
    else if !s.bootDue then effect (fun s => s) s
    else
      let t := { s with power := { s.power with perst := false, pstate := .boot } }.bootRun b
      .next (settle { t with pending := s.pending } t) := rfl

/-- t_b has come. -/
def State.booting (s : State) : State := { s with power := { s.power with perst := false, pstate := .boot } }

theorem bootStart_of_due {b : BootInput} {s : State} {P : State → Prop} (whole : (imageWhole b.slotA && imageWhole b.slotB) = true)
    (due : s.bootDue = true) (p : ∀ s0, P (settle s0 (s.booting.bootRun b))) : Completes (.bootStart b) s P :=
  ⟨_, (exec_bootStart b s).trans (by rw [whole, due]; rfl), p _⟩

theorem judgeSlot_of_fuses {s u : State} (h : u.fuses = s.fuses) (x : ImageSlot) : u.judgeSlot x = s.judgeSlot x := by
  unfold State.judgeSlot
  rw [h]

theorem bootFail_boot (s0 s : State) (cause : Nat) :
    (settle s0 (s.bootFail cause)).boot = { s.boot with win := 2, cause := BitVec.ofNat 3 cause } := settle_boot ..

theorem bootStart_fails (b : BootInput) (s : State) (whole : (imageWhole b.slotA && imageWhole b.slotB) = true) (due : s.bootDue = true) :
    Completes (.bootStart b) s fun t =>
      (b.flashOk = false → t.boot.win = 2 ∧ t.boot.cause = 2) ∧
      (b.flashOk = true → s.fuses.programmed = 0 → t.boot.win = 2 ∧ t.boot.cause = 1) ∧
      (b.flashOk = true → s.fuses.programmed ≠ 0 → s.judgeSlot b.slotA ≠ 1 → s.judgeSlot b.slotB ≠ 1 →
        t.boot.win = 2 ∧ t.boot.cause = 3 ∧ t.boot.resA = BitVec.ofNat 4 (s.judgeSlot b.slotA) ∧
        t.boot.resB = BitVec.ofNat 4 (s.judgeSlot b.slotB)) := by
  refine bootStart_of_due whole due fun s0 => ⟨fun dead => ?_, fun flash blank => ?_, fun flash some badA badB => ?_⟩
  · have ends : s.booting.bootRun b = s.booting.bootFail 2 := if_pos (by rw [dead]; rfl)
    rw [ends, bootFail_boot]
    exact ⟨rfl, rfl⟩
  · have ends : s.booting.bootRun b = s.booting.bootFail 1 := by
      unfold State.bootRun
      rw [flash]
      exact if_pos blank
    rw [ends, bootFail_boot]
    exact ⟨rfl, rfl⟩
  · have ends : s.booting.bootRun b = State.bootFail { s.booting with boot := { s.boot with
        resA := BitVec.ofNat 4 (s.judgeSlot b.slotA), resB := BitVec.ofNat 4 (s.judgeSlot b.slotB) } } 3 := by
      unfold State.bootRun
      rw [flash]
      dsimp only
      rw [if_neg (by decide), if_neg (show ¬ s.booting.fuses.programmed = 0 from some), if_neg (show ¬ s.booting.judgeSlot b.slotA = 1 from badA)]
      exact if_neg badB
    rw [ends, bootFail_boot]
    exact ⟨rfl, rfl, rfl, rfl⟩

/-! ### Training at boot -/

/-- What training a channel at boot may change. -/
def bootSide : Footprint where
  has
    | .chans => true
    | f => reducedSide.has f
  regs := reducedSide.regs

theorem retireChan_boot (s : State) (n cause : Nat) (o : Origin) : s.Within bootSide (s.retireChan n cause o) := by
  unfold State.retireChan
  extract_lets y u v w z x
  have retired : s.Within bootSide u := .setChan n _ rfl
  have marked : u.Within bootSide v := .action _ _ _ _ rfl rfl
  have told : v.Within bootSide w := .raise _ _ rfl
  have judged : w.Within bootSide x := .update [.tick] rfl (by rfl)
  exact (((retired.trans marked).trans told).trans judged).trans ((enterReduced_within x).mono (fun f => by cases f <;> decide) fun _ no => no)

/-- A channel that has been trained at boot serves, and one that has not is retired. -/
theorem bootChannel_facts (s : State) (ok : Bool) (n : Nat) : s.Within bootSide (s.bootChannel ok n) ∧
    ((s.bootChannel ok n).chan n).state = (if ok then .service else .retired) ∧
      ∀ k, k ≠ n → (s.bootChannel ok n).chan k = s.chan k := by
  unfold State.bootChannel
  cases ok with
  | true =>
    have trained : s.Within bootSide (s.train n) := .trans (.setChan n _ rfl) (.update [.free] rfl (by rfl))
    refine ⟨trained.trans (.setChan n _ rfl), ?_, fun k other => ?_⟩
    · rw [if_pos rfl, chan_setChan_self]
      rfl
    · rw [if_pos rfl, chan_setChan_of_ne _ other]
      exact chan_setChan_of_ne s other _
  | false =>
    obtain ⟨u, e, chans, -⟩ := retireChan_within s n 1 .auto
    have same : (s.retireChan n 1 .auto).chans = _ := (congrArg State.chans e).trans (((enterReduced_within u).field .chans rfl).trans chans)
    rw [if_neg (by decide)]
    refine ⟨retireChan_boot .., ?_, fun k other => ?_⟩
    · rw [chan_congr same, chan_setChan_self]
      rfl
    · rw [chan_congr same, chan_setChan_of_ne _ other]

theorem bootChannels_facts (ok : Nat → Bool) (l : List Nat) (s : State) :
    s.Within bootSide (l.foldl (fun s n => s.bootChannel (ok n) n) s) ∧
      ∀ k, ((l.foldl (fun s n => s.bootChannel (ok n) n) s).chan k).state =
        if k ∈ l then if ok k then .service else .retired else (s.chan k).state := by
  induction l generalizing s with
  | nil => exact ⟨.refl _ _, fun _ => rfl⟩
  | cons n l ih =>
    obtain ⟨within, own, others⟩ := bootChannel_facts s (ok n) n
    obtain ⟨rest, states⟩ := ih (s.bootChannel (ok n) n)
    refine ⟨within.trans rest, fun k => ?_⟩
    rw [List.foldl_cons, states]
    by_cases later : k ∈ l
    · rw [if_pos later, if_pos (List.mem_cons_of_mem _ later)]
    · rw [if_neg later]
      by_cases same : k = n
      · subst same
        rw [own, if_pos (List.mem_cons_self ..)]
      · rw [others k same, if_neg (by simp [same, later])]

theorem bootTraining_facts (s : State) (trained : BitVec 16) :
    (∀ n : Fin 16, ((s.bootTraining trained).chan n).state = if trained.toNat.testBit n then .service else .retired) ∧
      (s.bootTraining trained).active = (List.range 16).filter (fun n => trained.toNat.testBit n) ∧ (s.bootTraining trained).dram = [] ∧
      (s.bootTraining trained).fuses = s.fuses ∧ (s.bootTraining trained).boot = s.boot ∧ (s.bootTraining trained).power = s.power := by
  obtain ⟨within, states⟩ := bootChannels_facts (fun n => trained.toNat.testBit n) (List.range 16)
    { s with active := List.range 16, dram := [], upsets := [] }
  unfold State.bootTraining
  dsimp only
  generalize (List.range 16).foldl _ _ = u at within states ⊢
  refine ⟨fun n => ?_, ?_, within.field .dram rfl, within.field .fuses rfl, within.field .boot rfl, within.field .power rfl⟩
  · exact (states n).trans (if_pos (List.mem_range.mpr n.isLt))
  · unfold State.activeNow
    rw [show u.active = List.range 16 from within.field .active rfl]
    refine List.filter_congr fun n hn => ?_
    rw [states n, if_pos hn]
    cases trained.toNat.testBit n <;> decide

/-! ### A boot from slot A -/

/-- What the image of a slot says of itself. -/
def State.imageTold (s : State) (x : ImageSlot) (isB : Bool) : State :=
  { s with boot := { s.boot with slot := isB, image := BitVec.ofNat 8 (leAt x.header 24 2), version := BitVec.ofNat 32 (leAt x.header 16 4)
                                 floor := BitVec.ofNat 32 (leAt x.header 20 4) } }

theorem imageFuses_of_plain {s : State} {h : List Byte} (plain : leAt h 7 1 % 4 = 0) (ok : Bool) : s.imageFuses h ok = s := by
  have zero : (leAt h 7 1).testBit 0 = false := by
    rw [Nat.testBit_zero]
    exact decide_eq_false (by omega)
  have one : (leAt h 7 1).testBit 1 = false := by
    rw [Nat.testBit_succ, Nat.testBit_zero]
    exact decide_eq_false (by omega)
  unfold State.imageFuses
  simp only [zero, one, Bool.false_eq_true, if_false]

theorem setupOk_nil {s u : State} (regs : u.regs = s.regs) (clash : s.slotClash = false) (crossed : s.windowCrossed = false) : u.setupOk [] = true := by
  have reg : ∀ (n : RegName) (i j : Nat), u.reg n i j = s.reg n i j := reg_of_regs regs
  have clash' : u.slotClash = false := by
    unfold State.slotClash State.slotRings State.flag State.field at clash ⊢
    simp only [reg, regs]
    exact clash
  have crossed' : u.windowCrossed = false := by
    unfold State.windowCrossed State.field at crossed ⊢
    simp only [reg]
    exact crossed
  show (true && !u.slotClash && !u.windowCrossed) = true
  rw [clash', crossed']
  rfl

/-- A slot whose image changes no fuse and sets nothing up. -/
theorem bootSlot_of_plain {s : State} {b : BootInput} {x : ImageSlot} (isB : Bool) (plain : leAt x.header 7 1 % 4 = 0) (none : imagePairs x = [])
    (clash : s.slotClash = false) (crossed : s.windowCrossed = false) (soon : b.ms.toNat < 1000) : s.bootSlot b x isB =
      { (s.imageTold x isB).bootTraining b.trained with
        boot := { ((s.imageTold x isB).bootTraining b.trained).boot with ready := true, ms := b.ms } } := by
  have valid : (s.imageTold x isB).setupOk [] = true := setupOk_nil rfl clash crossed
  have late : ¬ 1000 ≤ b.ms.toNat := by omega
  have told : ∀ v : State, v = s.imageTold x isB → (if !v.setupOk [] then v.bootFail 4
      else if 1000 ≤ b.ms.toNat then (v.bootTraining b.trained).bootFail 5
        else { v.bootTraining b.trained with boot := { (v.bootTraining b.trained).boot with ready := true, ms := b.ms } }) =
      { (s.imageTold x isB).bootTraining b.trained with
        boot := { ((s.imageTold x isB).bootTraining b.trained).boot with ready := true, ms := b.ms } } := fun v same => by
    rw [same, valid, if_neg (by decide), if_neg late]
  unfold State.bootSlot
  dsimp only
  rw [none]
  exact told _ (imageFuses_of_plain plain _)

/-- The image of slot A has been judged good. -/
def State.judgedA (s : State) : State := { s.booting with boot := { s.boot with resA := 1 } }

theorem bootRun_of_goodA {s : State} {b : BootInput} (flash : b.flashOk = true) (some : s.fuses.programmed ≠ 0)
    (good : s.judgeSlot b.slotA = 1) : s.booting.bootRun b = s.judgedA.bootSlot b b.slotA false := by
  unfold State.bootRun
  rw [flash]
  dsimp only
  rw [if_neg (by decide), if_neg (show ¬ s.booting.fuses.programmed = 0 from some), show s.booting.judgeSlot b.slotA = 1 from good]
  rfl

theorem bootStart_boots (b : BootInput) (s : State) (whole : (imageWhole b.slotA && imageWhole b.slotB) = true) (due : s.bootDue = true)
    (flash : b.flashOk = true) (some : s.fuses.programmed ≠ 0) (good : s.judgeSlot b.slotA = 1) (plain : leAt b.slotA.header 7 1 % 4 = 0)
    (none : imagePairs b.slotA = []) (clash : s.slotClash = false) (crossed : s.windowCrossed = false) (soon : b.ms.toNat < 1000) :
    Completes (.bootStart b) s fun t =>
      t.boot.ready = true ∧ t.boot.slot = false ∧ t.boot.resA = 1 ∧ t.boot.ms = b.ms ∧ t.power.pstate = .boot ∧
      (∀ n : Fin 16, (t.chan n).state = if b.trained.toNat.testBit n then .service else .retired) ∧
      t.active = (List.range 16).filter (fun n => b.trained.toNat.testBit n) ∧ t.dram = [] ∧ t.fuses = s.fuses := by
  refine bootStart_of_due whole due fun s0 => ?_
  rw [bootRun_of_goodA flash some good, bootSlot_of_plain (s := s.judgedA) false plain none clash crossed soon]
  obtain ⟨states, active, dram, fuses, boot, power⟩ := bootTraining_facts
    (s.judgedA.imageTold b.slotA false) b.trained
  generalize State.bootTraining _ b.trained = u at states active dram fuses boot power
  refine ⟨?_, ?_, ?_, ?_, ?_, fun n => ?_, ?_, ?_, ?_⟩
  · rw [settle_boot]
  · rw [settle_boot, boot]
    rfl
  · rw [settle_boot, boot]
    rfl
  · rw [settle_boot]
  · rw [settle_power]
    exact congrArg Power.pstate power
  · rw [chan_congr (settle_chans ..)]
    exact states n
  · rw [settle_active]
    exact active
  · rw [settle_dram]
    exact dram
  · rw [settle_fuses]
    exact fuses

/-! ### The end of the boot window -/

theorem exec_bootTimeout (s : State) : exec .bootTimeout s =
    effect (fun s => if s.power.pstate = .boot && s.boot.win = 0 then s.bootFail 5 else s) s := rfl

theorem exec_lock (s : State) : exec .lock s = effect (fun s =>
    if s.writeReaches .boot && s.boot.win = 0 && s.boot.ready then s.writeReg .boot RegName.protLock.off 1 else s) s := rfl

theorem bootTimeout_completes (s : State) (boots : s.power.pstate = .boot) (opens : s.boot.win = 0) : Completes .bootTimeout s fun t =>
    t.boot.win = 2 ∧ t.boot.cause = 5 ∧ t.markSeq = s.markSeq + 1 ∧
    State.Frame { s with boot := t.boot, marks := t.marks, markSeq := t.markSeq } t := by
  refine completes_of_effect (exec_bootTimeout s) ?_
  rw [if_pos (by simp [boots, opens])]
  refine ⟨?_, ?_, settle_markSeq .., ?_⟩
  · rw [bootFail_boot]
  · rw [bootFail_boot]
    rfl
  · rw [settle_markSeq, settle_boot]
    exact (settle_frame s (s.bootFail 5)).of_raised rfl

theorem verdict_lock {s : State} (opens : s.boot.win = 0) : s.verdict .boot RegName.protLock.off 1 = .accepted := by
  have found : locate RegName.protLock.off = some ⟨.protLock, 0, 0⟩ := by decide
  unfold State.verdict
  rw [found]
  simp [opens, RegName.row, RegRow.writable, State.writeGranted, State.refusesA, State.refusesB]

theorem lock_completes (s : State) (boots : s.power.pstate = .boot) (opens : s.boot.win = 0) (ready : s.boot.ready = true) :
    Completes .lock s fun t =>
      t.boot = { s.boot with win := 1 } ∧ t.power = { s.power with pstate := .run } ∧ t.markSeq = s.markSeq + 2 := by
  refine completes_of_effect (exec_lock s) ?_
  have reaches : s.writeReaches .boot = true := decide_eq_true boots
  rw [reaches, if_pos (by simp [opens, ready])]
  have found : locate RegName.protLock.off = some ⟨.protLock, 0, 0⟩ := by decide
  have marked : RegAt.marked ⟨.protLock, 0, 0⟩ = true := by simp [RegAt.marked, RegName.row]
  have taken : s.writeReg .boot RegName.protLock.off 1 = (s.writeMarked .boot ⟨.protLock, 0, 0⟩ 1).closeWindow := by
    unfold State.writeReg
    rw [verdict_lock opens, found]
    dsimp only
    rw [accept_of_acting s .boot 1 {} (by decide) (by decide), marked]
    rfl
  rw [taken]
  exact ⟨settle_boot .., settle_power .., (settle_markSeq ..).trans (by
    show s.markSeq + 1 + 1 = s.markSeq + 2
    rw [BitVec.add_assoc]
    rfl)⟩

theorem boot_idle (s : State) (sound : s.Sound) :
    (s.power.pstate ≠ .boot ∨ s.boot.win ≠ 0 → Completes .bootTimeout s fun t => t = s) ∧
    (s.boot.win ≠ 0 ∨ s.boot.ready = false → Completes .lock s fun t => t = s) ∧
    (s.bootDue = false → ∀ b, (imageWhole b.slotA && imageWhole b.slotB) = true → Completes (.bootStart b) s fun t => t = s) := by
  refine ⟨fun past => ?_, fun closed => ?_, fun no b whole => ?_⟩
  · refine completes_idle (exec_bootTimeout s) (if_neg ?_) sound
    simp only [Bool.and_eq_true, decide_eq_true_eq, not_and]
    rcases past with no | no
    · exact fun e => absurd e no
    · exact fun _ => no
  · refine completes_idle (exec_lock s) (if_neg ?_) sound
    simp only [Bool.and_eq_true, decide_eq_true_eq, not_and]
    rcases closed with no | no
    · exact fun e => absurd e.2 no
    · exact fun _ e => absurd (no.symm.trans e) (by decide)
  · have run : exec (.bootStart b) s = effect (fun s => s) s := (exec_bootStart b s).trans (by rw [whole, no]; rfl)
    exact completes_idle run rfl sound

/-! ### The fuse command -/

theorem exec_fuseProgram (o : Origin) (v : Word) (ok : Bool) (s : State) : exec (.fuseProgram o v ok) s =
    effect (fun s => s.writeFrom o .glbFuseCtl 0 0 (v ||| 1) { verified := some ok }) s := rfl

theorem writeFrom_of_accepts_hint {s : State} {o : Origin} {n : RegName} {i j : Nat} {v : Word} (h : s.Accepts o ⟨n, i, j⟩ v) (hint : WriteHint) :
    s.writeFrom o n i j v hint = s.accept o ⟨n, i, j⟩ v hint := by
  obtain ⟨reaches, located, accepted⟩ := h
  simp only [State.writeFrom, reaches, if_true, State.writeReg, accepted, located]

/-- GLB_FUSE_CTL as written and marked. -/
def State.fuseStored (s : State) (o : Origin) (v : Word) : State :=
  (s.writeMarked o ⟨.glbFuseCtl, 0, 0⟩ v).setReg .glbFuseCtl 0 0 (RegName.glbFuseCtl.row.merge (s.reg .glbFuseCtl) v)

theorem accept_glbFuseCtl (s : State) (o : Origin) (v : Word) (h : WriteHint) (go : bitOf v 0 = true) :
    s.accept o ⟨.glbFuseCtl, 0, 0⟩ v h = (s.fuseStored o v).fuseProgram v h := by
  have marked : RegAt.marked ⟨.glbFuseCtl, 0, 0⟩ = true := by decide
  rw [accept_of_acting _ _ _ _ (by decide) (by decide), marked]
  exact if_pos go

theorem fuseData_congr {s u : State} (h : ∀ i, i < 12 → u.reg .glbFuseData i = s.reg .glbFuseData i) : u.fuseData = s.fuseData := by
  unfold State.fuseData
  rw [List.map_congr_left fun i hi => by rw [h i (List.mem_range.mp hi)]]

theorem fuseStored_data (s : State) (o : Origin) (v : Word) : (s.fuseStored o v).fuseData = s.fuseData := by
  refine fuseData_congr fun i hi => (State.reg_setReg_of_ne _ _ _ _ _ _ _ _ ?_).trans rfl
  simp only [RegName.off, RegName.row]
  omega

theorem setField_fuses (s : State) (n : RegName) (i j lo w x : Nat) : (s.setField n i j lo w x).fuses = s.fuses := rfl

theorem fuseProgram_of_programmed (s : State) (v : Word) (h : WriteHint) (done : s.fuses.programmed.toNat.testBit (bitsOf v 4 2) = true) :
    s.fuseProgram v h = s.setField .glbFuseCtl 0 0 8 2 3 := if_pos done

/-- Slot `j` holds the key hash `d`. -/
def Fuses.slotFused (x : Fuses) (j : Nat) (d : BitVec 384) : Fuses :=
  { x with keys := Store.put 0 x.keys j (BitVec.ofNat 384 d.toNat), programmed := x.programmed ||| BitVec.ofNat 4 (2 ^ j) }

theorem slotFused_key (x : Fuses) (j : Nat) (d : BitVec 384) (k : Nat) :
    Store.get 0 (x.slotFused j d).keys k = if k = j then d else Store.get 0 x.keys k := by
  unfold Fuses.slotFused
  rw [Store.get_put, BitVec.ofNat_toNat, BitVec.setWidth_eq]

theorem fuseProgram_of_verified (s : State) (v : Word) (empty : s.fuses.programmed.toNat.testBit (bitsOf v 4 2) = false) {d : BitVec 384}
    (data : s.fuseData = d) : s.fuseProgram v { verified := some true } =
      State.setField { s with free := s.free + 1, fuses := s.fuses.slotFused (bitsOf v 4 2) d } .glbFuseCtl 0 0 8 2 1 := by
  have drawn : s.draw.2.fuseData = d := (fuseData_congr fun _ _ => rfl).trans data
  unfold State.fuseProgram
  dsimp only
  rw [empty, drawn]
  rfl

theorem snd_of_drawn (d : BitVec 64 × State) (g : State → Nat × State) (k : Nat) :
    (match d with | (v, s) => match g s with | (w, s) => (v.toNat + w * k, s) : Nat × State).2 = (g d.2).2 := rfl

theorem drawWords_succ (n : Nat) (s : State) : (s.drawWords (n + 1)).2 = (s.draw.2.drawWords n).2 :=
  (congrArg Prod.snd (State.drawWords.eq_2 s n)).trans (snd_of_drawn s.draw (fun s => s.drawWords n) (2 ^ 64))

theorem drawWords_free (n : Nat) (s : State) : (s.drawWords n).2 = { s with free := (s.drawWords n).2.free } := by
  induction n generalizing s with
  | zero => rfl
  | succ n ih =>
    rw [drawWords_succ]
    exact ih s.draw.2

theorem fuseProgram_of_unverified (s : State) (v : Word) (empty : s.fuses.programmed.toNat.testBit (bitsOf v 4 2) = false) :
    ∃ f keys on, s.fuseProgram v { verified := some false } =
      State.setField { s with free := f, fuses := { s.fuses with keys := keys, programmed := on } } .glbFuseCtl 0 0 8 2 2 := by
  have drawn := drawWords_free 6 s.draw.2
  unfold State.fuseProgram
  dsimp only
  rw [empty, if_neg (by decide)]
  simp only [Option.getD_some, Bool.false_eq_true, if_false]
  rw [drawn]
  exact ⟨_, _, _, rfl⟩

theorem testBit_or_ofNat (p : BitVec 4) {j : Nat} (small : j < 4) : (p ||| BitVec.ofNat 4 (2 ^ j)).toNat.testBit j = true := by
  have one : (BitVec.ofNat 4 (2 ^ j)).toNat = 2 ^ j := by
    rw [BitVec.toNat_ofNat]
    exact Nat.mod_eq_of_lt (Nat.pow_lt_pow_right (by decide) small)
  rw [BitVec.toNat_or, Nat.testBit_or, one, Nat.testBit_two_pow_self, Bool.or_true]

/-- What PROG leaves in the fuses and in RESULT, by whether the slot was programmed and by how it verifies. -/
structure State.Fused (s : State) (j : Nat) (d : BitVec 384) (ok : Bool) (x : Fuses) (result : Nat) : Prop where
  programmed : s.fuses.programmed.toNat.testBit j = true → x = s.fuses ∧ result = 3
  verified : s.fuses.programmed.toNat.testBit j = false → ok = true → Store.get 0 x.keys j = d ∧ x.programmed.toNat.testBit j = true ∧
    (∀ k, k ≠ j → Store.get 0 x.keys k = Store.get 0 s.fuses.keys k) ∧ result = 1
  failed : s.fuses.programmed.toNat.testBit j = false → ok = false → result = 2
  revoked : x.revoked = s.fuses.revoked
  svn : x.svn = s.fuses.svn

theorem fuseProgram_fused (s : State) (v : Word) (ok : Bool) {d : BitVec 384} (data : s.fuseData = d) :
    s.Fused (bitsOf v 4 2) d ok (s.fuseProgram v { verified := some ok }).fuses
      ((s.fuseProgram v { verified := some ok }).field .glbFuseCtl 0 0 8 2) := by
  have small : bitsOf v 4 2 < 4 := Nat.mod_lt _ (by decide)
  cases done : s.fuses.programmed.toNat.testBit (bitsOf v 4 2) with
  | true =>
    rw [fuseProgram_of_programmed _ _ _ done, setField_fuses, field_setField _ _ (by decide) (by decide)]
    exact ⟨fun _ => ⟨rfl, rfl⟩, fun no => (Bool.noConfusion (done.symm.trans no)), fun no => (Bool.noConfusion (done.symm.trans no)), rfl, rfl⟩
  | false =>
    have empty : s.fuses.programmed.toNat.testBit (bitsOf v 4 2) ≠ true := fun no => Bool.noConfusion (done.symm.trans no)
    cases ok with
    | true =>
      rw [fuseProgram_of_verified _ _ done data, setField_fuses, field_setField _ _ (by decide) (by decide)]
      exact ⟨fun no => absurd no empty, fun _ _ => ⟨(slotFused_key ..).trans (if_pos rfl), testBit_or_ofNat _ small,
        fun k other => (slotFused_key ..).trans (if_neg other), rfl⟩, fun _ no => Bool.noConfusion no, rfl, rfl⟩
    | false =>
      obtain ⟨f, keys, on, ends⟩ := fuseProgram_of_unverified s v done
      rw [ends, setField_fuses, field_setField _ _ (by decide) (by decide)]
      exact ⟨fun no => absurd no empty, fun _ no => Bool.noConfusion no, fun _ _ => rfl, rfl, rfl⟩

theorem fuseProgram_completes (o : Origin) (v : Word) (ok : Bool) (s : State) (accepts : s.Accepts o ⟨.glbFuseCtl, 0, 0⟩ (v ||| 1)) :
    Completes (.fuseProgram o v ok) s fun t => s.Fused (bitsOf v 4 2) s.fuseData ok t.fuses (t.field .glbFuseCtl 0 0 8 2) := by
  refine completes_of_effect (exec_fuseProgram o v ok s) ?_
  have slot : bitsOf (v ||| 1) 4 2 = bitsOf v 4 2 := bitsOf_congr fun i hi => by
    have two : i = 0 ∨ i = 1 := by omega
    rcases two with rfl | rfl <;> simp [bitOf_eq_getLsbD]
  rw [writeFrom_of_accepts_hint accepts, accept_glbFuseCtl _ _ _ _ (bitOf_or_one v), settle_fuses, settle_field_low _ _ (by decide), ← slot]
  obtain ⟨done, verified, failed, revoked, svn⟩ := fuseProgram_fused (s.fuseStored o (v ||| 1)) (v ||| 1) ok (fuseStored_data s o (v ||| 1))
  exact ⟨done, verified, failed, revoked, svn⟩

/-- Settles O59: boot fails for each of its causes, or slot A's image trains the channels and is ready; the window ends by its time or by LOCK,
once; the fuse command programs an empty slot alone. -/
theorem bootRuns : Obligations.BootRuns := by
  unfold Obligations.BootRuns
  refine ⟨fun b s => ⟨fun part => ?_, fun whole due => bootStart_fails b s whole due⟩, bootStart_boots,
    ⟨bootTimeout_completes, fun s => lock_completes s, boot_idle⟩, fun o v ok s accepts => ?_⟩
  · rw [exec_bootStart, part]
    rfl
  · obtain ⟨t, next, ⟨done, verified, failed, revoked, svn⟩⟩ := fuseProgram_completes o v ok s accepts
    exact ⟨t, next, done, verified, failed, revoked, svn⟩

end Sys2Proof.Machine
end

section
/-!
SUPPORT. A frame that is late at a tick edge, on a port number past the last: its status word lies on RING_CFG of a ring, whose kind it
changes before the tick takes its number (R54, R79). From this O13.
-/
namespace Sys2Proof.Machine

/-- A frame of tick 0 without lines, open behind its release tick; its status already tells of a short line. -/
def lateFrame : Frame := { tick := 0, number := 0, bind := { ptray := [(PW.h, 0)] }, status := 8 }

/-- Ticks follow replay rings (STEP), of which there is none: ring 8, with N0 = 0, is of kind 0. Port 22528, which no premise of O13 excludes,
has `lateFrame`; its SXL_PSTAT lies where RING_CFG of ring 8 does. Tick 5 is in force. -/
def State.misnumbered : State :=
  { State.reset.setReg .tickCfg 0 0 4 with
    power := { State.reset.power with pstate := .run }
    tick := { num := 5, started := true }
    ports := [(22528, { frames := [lateFrame] })]
    rings := [(8, { state := .run, n0 := some 0 })] }

/-- The number of the tick in force once a command has ended. -/
def numAfter (o : Host.Outcome State Fault Refusal) : BitVec 64 :=
  match o with
  | .next t => t.tick.num
  | _ => 0

theorem pstat_off_eq_ringCfg_off : RegName.off .sxlPstat (22528 / 8) (22528 % 8) = RegName.off .ringCfg 8 := by decide

theorem mayStart_misnumbered : State.misnumbered.power.pstate ≠ .keep ∧ State.misnumbered.power.pstate ≠ .reset ∧
    State.misnumbered.tickMayStart = true ∧ State.misnumbered.tick.placeNow = false := by decide +kernel

/-- By the tick base the tick that begins is tick 1. -/
theorem numberNow_misnumbered : (State.misnumbered.elapse State.misnumbered.clocksToEdge).numberNow = 1 := by decide +kernel

/-- The status that the late frame closes with makes ring 8 a replay ring, so that the tick follows tick 5. -/
theorem numAfter_tickEdge_misnumbered : numAfter (exec .tickEdge .misnumbered) = 6 := by decide +kernel

/-- Refutes O13: the tick's number is not what the tick base gives it as the edge comes, where the close of a frame that is late at the edge
writes the status word of a port beyond port 511 over a ring's RING_CFG. -/
theorem not_tickEdgeBeginsTick : ¬ Obligations.TickEdgeBeginsTick := by
  unfold Obligations.TickEdgeBeginsTick
  rintro ⟨begins, -, -⟩
  obtain ⟨keep, reset, may, place⟩ := mayStart_misnumbered
  obtain ⟨t, run, facts⟩ := begins .misnumbered keep reset may place
  obtain ⟨-, -, num, -⟩ := facts
  have found := numAfter_tickEdge_misnumbered
  rw [run] at found
  rw [numberNow_misnumbered] at num
  exact absurd (num.symm.trans found) (by decide)

end Sys2Proof.Machine
end
